-- ==== Sys2Proof/Word.lean ====
section
/-! DEFINITION. The word types of the Celros W10 model and the shape of its tables: plain data only. -/

namespace Sys2Proof

/-- One byte. -/
abbrev Byte := BitVec 8

/-- A register as the register tables give it; the widest register of the manual has 128 bits
(TL_EVENT_COUNT, GV_SHADOW, CP_VIOL_LAST), and narrower ones keep the bits above their width 0. -/
abbrev RegVal := BitVec 128

/-- A 512-lane vector register of a feller, lane `i` in bits `[16i+15:16i]` (R185). -/
abbrev VecReg := BitVec 8192

/-- A mask register of a feller, one bit per lane (R185). -/
abbrev MaskReg := BitVec 512

/-- A stage descriptor of 32 bytes (R163). -/
abbrev Descriptor := BitVec 256

/-- A table from keys to records: a key that is not listed holds the table's default, which the
reader of the table names. -/
abbrev Tbl (κ α : Type) := List (κ × α)

end Sys2Proof
end

