-- ==== Sys2Proof/Machine/Bits.lean ====
section
/-! DEFINITION. Bit fields, byte strings and check sums: the plainest arithmetic the meanings share. -/

namespace Sys2Proof.Machine

/-- Bits `[lo + len - 1 : lo]` of a number. -/
def bits (v lo len : Nat) : Nat := (v / 2 ^ lo) % 2 ^ len

/-- Bit `i` of a number. -/
def bit (v i : Nat) : Bool := bits v i 1 == 1

/-- The number with bits `[lo + len - 1 : lo]` replaced by the low `len` bits of `x`. -/
def putBits (v lo len x : Nat) : Nat :=
  v - bits v lo len * 2 ^ lo + (x % 2 ^ len) * 2 ^ lo

/-- Two's-complement value of an `n`-bit number. -/
def signed (n v : Nat) : Int :=
  if v % 2 ^ n < 2 ^ (n - 1) then Int.ofNat (v % 2 ^ n) else Int.ofNat (v % 2 ^ n) - 2 ^ n

/-- The `n`-bit two's-complement pattern of an integer. -/
def unsigned (n : Nat) (v : Int) : Nat := (v % (2 ^ n : Nat)).toNat

/-- 0 or 1. -/
def b2n (b : Bool) : Nat := if b then 1 else 0

/-- An element before the first of a list that it may stand before. -/
def insertBy {α : Type} (le : α → α → Bool) (x : α) : List α → List α
  | [] => [x]
  | y :: r => if le x y then x :: y :: r else y :: insertBy le x r

/-- A list in order; elements that are equal in it keep their order. -/
def sortBy {α : Type} (l : List α) (le : α → α → Bool) : List α := l.foldr (insertBy le) []

/-- The `n` little-endian bytes of a number (R7). -/
def bytesLE : Nat → Nat → List Byte
  | 0, _ => []
  | n + 1, v => BitVec.ofNat 8 v :: bytesLE n (v / 256)

/-- The number that little-endian bytes spell. -/
def fromLE : List Byte → Nat
  | [] => 0
  | b :: r => b.toNat + 256 * fromLE r

/-- The `n` big-endian bytes of a number (R7, on-wire headers). -/
def bytesBE (n v : Nat) : List Byte := (bytesLE n v).reverse

/-- The number that big-endian bytes spell. -/
def fromBE (bs : List Byte) : Nat := fromLE bs.reverse

/-- A byte string cut or filled with zeros to `n` bytes. -/
def padTo (n : Nat) (bs : List Byte) : List Byte := bs.take n ++ List.replicate (n - bs.length) 0

/-- One bit of CRC-32C in its reflected form (polynomial 0x1EDC_6F41). -/
def crcBit (c : Nat) : Nat := if c % 2 = 1 then (c / 2) ^^^ 0x82F63B78 else c / 2

/-- One byte of CRC-32C. -/
def crcByte (c : Nat) (b : Byte) : Nat :=
  crcBit (crcBit (crcBit (crcBit (crcBit (crcBit (crcBit (crcBit (c ^^^ b.toNat))))))))

/-- CRC-32C of a byte string (R34, R61, R79, R245): reflected, initial and final value all ones. -/
def crc32c (bs : List Byte) : BitVec 32 := BitVec.ofNat 32 (bs.foldl crcByte 0xFFFFFFFF ^^^ 0xFFFFFFFF)

/-- Add 1 to a counter of `n` bits that saturates. -/
def satInc (n v : Nat) : Nat := if v + 1 < 2 ^ n then v + 1 else 2 ^ n - 1

/-- Quotient of naturals rounded up. -/
def ceilDiv (a b : Nat) : Nat := (a + b - 1) / b

/-- Every number below `n`, in order. -/
def upTo (n : Nat) : List Nat := List.range n

/-- A list cut into pieces of `n` (the last one may be shorter); `fuel` bounds the pieces. -/
def chunks {α : Type} (n : Nat) : Nat → List α → List (List α)
  | 0, _ => []
  | _, [] => []
  | fuel + 1, xs => xs.take n :: chunks n fuel (xs.drop n)

end Sys2Proof.Machine
end

