-- ==== Sys2Proof/Syntax.lean ====
section
/-! DEFINITION. The commands of the block, one constructor per row of the table of operations and events
(opcode_table.json), and the plain data their operands carry. An operand that names a part of the carrier is
bounded by its type; what the analog parts, the cryptographic checks and the outside world supply comes as data.
(DESIGN CHOICE: log 161.) -/

namespace Sys2Proof

/-! ## Names of parts -/

/-- A grove of a stand (R12, R23). -/
structure GroveId where
  stand : Fin 42
  grove : Fin 16
deriving DecidableEq, Repr

/-- A weight tile of a grove (R57). -/
structure TileId where
  stand : Fin 42
  grove : Fin 16
  tile  : Fin 2048
deriving DecidableEq, Repr

/-- A feller of a grove (R162). -/
structure FellerId where
  stand : Fin 42
  grove : Fin 16
  core  : Fin 6
deriving DecidableEq, Repr

/-- A link port: a stand's ports 0 to 7 (R27, R30), or a landing's landing-link ports 0 to 2. -/
inductive PortId where
  | stand (s : Fin 42) (p : Fin 8)
  | landing (l : Fin 8) (p : Fin 3)
deriving DecidableEq, Repr

/-! ## Links and the haul road -/

/-- A flit: 12-byte header, 240 bytes of payload, CRC-32C (R32). -/
structure Flit where
  header  : BitVec 96
  payload : BitVec 1920
  crc     : BitVec 32
deriving DecidableEq, Repr

/-- A haul-road word: the fields of its 8-byte header, whether its CRC-16 holds, and 56 bytes of content (R45). -/
structure HrWord where
  kind    : Nat
  source  : Nat
  tag     : BitVec 8
  frame   : Nat
  slot    : Nat
  crcOk   : Bool
  content : BitVec 448
deriving DecidableEq, Repr

/-- A participant of a haul-road barrier (R240). -/
inductive Participant where
  | grove (g : GroveId)
  | stand (s : Fin 42)
  | landing (l : Fin 8)
deriving DecidableEq, Repr

/-! ## Register accesses -/

/-- Who writes a register: host software, Forester firmware, or stump code during boot (R8). -/
inductive Agent where
  | host | firmware | stump
deriving DecidableEq, Repr

/-- Where a register write goes: the Forester address space (R56, R281), BAR0 of a function (R324), or the Command register of
a function's configuration space, whose bit 2 is Bus Master Enable (R319, R335). -/
inductive RegTarget where
  | forester (addr : BitVec 32)
  | pciCommand (fn : Fin 256)
  | bar0 (fn : Fin 256) (offset : BitVec 14)
deriving DecidableEq, Repr

/-- A register write; `hwSets` are the W1C bits that hardware sets in the same arbitration window (R9). -/
structure RegWrite where
  target : RegTarget
  nbytes : Nat
  data   : RegVal
  by_    : Agent
  hwSets : BitVec 32
deriving DecidableEq, Repr

/-! ## Weight tiles -/

/-- A deviation of one converter reading from the exact sum: `attempt` 0 is the first read of the row group and
plane, 1 the re-read, 2 the second re-read (R74). `column` is a logical column of R58, with 560 + k for repair
column k; for a reverse read it is a row. -/
structure ReadError where
  vector  : Nat
  group   : Nat
  plane   : Nat
  column  : Nat
  attempt : Nat
  err     : Int
deriving DecidableEq, Repr

/-- What the analog side of a tile adds to an MVM: failed latch reads at the tier switch (R80), the gain trim that the
calibration of the activation finds (R81), and reading errors. -/
structure MvmEnv where
  latchFails : Nat
  trim       : Option (BitVec 16)
  errors     : List ReadError
deriving DecidableEq, Repr

/-- What a cruise read slice finds (R99): residuals in 1/16 unit. -/
structure SliceFinding where
  maxResidual  : Nat
  cellsOver    : Nat
  maxExcursion : Nat
  stuck        : List (Fin 560)
  identityFail : Bool
deriving DecidableEq, Repr

/-- Why an early cruise starts (R104). -/
inductive EarlyCause where
  | calDrift | suspectSet | monitorDeviation | standReturn
deriving DecidableEq, Repr

/-! ## Layer steps -/

/-- A layer step of a sequence (R178). -/
structure StepKey where
  tag   : Nat
  seq   : Nat
  layer : Nat
  step  : Nat
deriving DecidableEq, Repr

/-- The kinds of scale event (R144). -/
inductive ScaleKind where
  | input | finishing | output
deriving DecidableEq, Repr

/-- A step report (R178). `e` is the grove's largest exponent (R148), none when every value is 0. -/
structure StepReport where
  key          : StepKey
  grove        : GroveId
  e            : Option Int
  repaired     : Bool
  numericFault : Bool
  ctr          : Fin 64
  expected     : Nat
deriving DecidableEq, Repr

/-- Lane types of the vector unit (R188). -/
inductive LaneType where
  | bf16 | fp16 | e4m3 | e5m2 | i8 | i16 | u8 | u16
deriving DecidableEq, Repr

/-- Who waits on a counter (R165): a feller, or the head of a stage queue. -/
inductive Waiter where
  | feller (f : FellerId)
  | queue (g : GroveId) (stage : Fin 10)
deriving DecidableEq, Repr

/-! ## Sequences -/

/-- A Sequence Table entry (R253); the byte layout is `Machine.entryBytes`. -/
structure SeqEntry where
  state         : Nat
  overcommit    : Bool
  deckKv        : Bool
  adapt         : Bool
  partner       : Bool
  pageWait      : Bool
  hostKey       : Bool
  resumePrefill : Bool
  cls           : Nat
  imageTag      : Nat
  tenant        : Nat
  variant       : Nat
  gen           : BitVec 16
  step          : Nat
  key           : BitVec 64
  length        : Nat
  maxLen        : Nat
  promptLen     : Nat
  pagesReserved : Nat
  pageList      : Nat
  pagesMapped   : Nat
  tokensLeft    : Nat
  temperature   : BitVec 16
  topP          : BitVec 16
  topK          : Nat
  stopToken     : BitVec 32
  lastToken     : BitVec 32
  firstDue      : Nat
  nextDue       : Nat
  itlTarget     : Nat
  misses        : Nat
  specMode      : Nat
  candidates    : Nat
  acceptance    : Nat
  saplingTag    : Nat
  saplingSeq    : Nat
  openTally     : Nat
  commitTally   : Nat
  update        : Nat
  filled        : Nat
deriving DecidableEq, Repr

/-- What the output head supplies at a commit: the logits (bfloat16) of each position of the target and of the sapling
(for a tree, of each node). -/
structure HeadOutput where
  target : List (List (BitVec 16))
  draft  : List (List (BitVec 16))
deriving DecidableEq, Repr

/-- A gradient of a master weight (R279): model layer, index in image order, and the value as bfloat16. -/
structure MasterGrad where
  layer : Nat
  elem  : Nat
  grad  : BitVec 16
deriving DecidableEq, Repr

/-- A felling: the landing that accepted it and its felling counter (R310). -/
structure FellId where
  origin : Fin 8
  n      : Nat
deriving DecidableEq, Repr

/-- A tally journal record (R245); the CRC is a function of the other bytes. -/
structure JournalRec where
  tally   : Nat
  kind    : Nat
  source  : Nat
  tag     : Nat
  tenant  : Nat
  seq     : Nat
  count   : Nat
  detail  : BitVec 64
deriving DecidableEq, Repr

/-! ## Images and records -/

/-- A tier image (R88) with its place (R204, section 0x02) and its model layer (R61): 1,024 rows of 512 four-bit codes, the exponent offsets, the
codebook and the mode byte. A row that is not listed is 0. -/
structure TierImage where
  stand    : Nat
  grove    : Nat
  tile     : Nat
  logical  : Nat
  layer    : Nat
  rows     : List (Nat × BitVec 2048)
  expo     : BitVec 2048
  codebook : BitVec 80
  mode     : BitVec 8
deriving DecidableEq, Repr

/-- A tier image of an expert variant and the layer whose pool it takes (R272). -/
structure VariantTier where
  layer : Nat
  image : TierImage
deriving DecidableEq, Repr

/-- An entry of the layer table (R204, section 0x0D). `kvBlocks` is KV heads × dim blocks; `kvFormat` a code of R164. -/
structure LayerRec where
  floor        : Int
  baseExp      : Int
  lead         : Nat
  participants : Nat
  kvFormat     : Nat
  kvHeads      : Nat
  dimBlocks    : Nat
  replication  : Nat
  poolTiers    : List (Nat × Nat × Nat × Nat)
  deckPages    : List (Nat × Nat × Nat)
deriving DecidableEq, Repr

/-- An entry of the step-time table (R219). -/
structure StepTime where
  kind       : Nat
  stepping   : Nat
  candidates : Nat
  lockstep   : Bool
  tBase      : Nat
  tCtx       : Nat
  hot        : Nat
  plan       : Nat
  tMax       : Nat
deriving DecidableEq, Repr

/-- A relocation or patch record (R217). -/
structure RelocRec where
  section_ : Nat
  kind     : Nat
  unit     : Nat
  offset   : Nat
  bit      : Nat
  width    : Nat
  operand  : Nat
deriving DecidableEq, Repr

/-- A fault that a plan covers (R223): a link down, named by a stand port of it, or a stand lost. -/
inductive PlanFault where
  | link (stand port : Nat)
  | stand (stand : Nat)
deriving DecidableEq, Repr

/-- A detour or replacement plan of a placement (R223): its number, the faults it covers (two for a pair plan), the stand
outside the set that a replacement moves to, the (stand, port) pairs it transmits on, its relay table images as (physical
stand, entry, value), its patch records, and its power-token plan. -/
structure PlanRec where
  placement : Nat
  number    : Nat
  faults    : List PlanFault
  reserve   : Option Nat
  ports     : List (Nat × Nat)
  relay     : List (Nat × Nat × BitVec 64)
  patches   : List RelocRec
  tokens    : List (List Nat)
deriving DecidableEq, Repr

/-- A calibration record (R220). -/
structure CalRec where
  stand   : Nat
  grove   : Nat
  logical : Nat
  tile    : Nat
  meanTol : Nat
  rangeTol : Nat
  histTol : Nat
  columns : List (Nat × Nat × Nat)
  hist    : List Nat
deriving DecidableEq, Repr

/-- A tree template (R292): the parent and the sibling rank of each node, node 0 first. -/
structure TreeTemplate where
  parents : List Nat
  ranks   : List Nat
deriving DecidableEq, Repr

/-- A model image (R203, R204): the header as its 64 bytes, the verdicts of its two signatures and its digest D (R444),
the first unknown section with the required bit set, the sections' contents with groves numbered logical stand × 16 + grove
(log 30), the sizes of its HBM regions, the (stand, port) pairs that the primary route plan transmits on, and the model dimension
(PRESUMED: log 139). -/
structure ImageFile where
  header      : BitVec 512
  rsaOk       : Bool
  slhOk       : Bool
  digest      : BitVec 384
  length      : Nat
  badSection  : Option Nat
  placements  : List (Nat × List Nat)
  tiers       : List TierImage
  dispatch    : List (Nat × Nat × BitVec 64)
  staging     : List (Nat × Nat × Nat)
  istore      : List (Nat × Nat × Byte)
  deck        : List (Nat × Nat × BitVec 512)
  counters    : List (Nat × Nat × Nat)
  relay       : List (Nat × Nat × Nat × BitVec 64)
  plans       : List PlanRec
  tokens      : List (List Nat)
  stepTimes   : List StepTime
  calibration : List CalRec
  layerTable  : List LayerRec
  relocs      : List RelocRec
  ports       : List (Nat × Nat)
  maxPartials : Nat
  windowsOk   : Bool
  copiesSame  : Bool
  templates   : List TreeTemplate
  regions     : List Nat
  routePorts  : List (Nat × Nat)
  prefillGroup : Nat
  modelDim    : Nat
deriving DecidableEq, Repr

/-- The rights of one function in the protection record (R323, R451). -/
structure FuncRights where
  fn         : Nat
  tenant     : Option Nat
  groups     : BitVec 10
  allTenants : Bool
deriving DecidableEq, Repr

/-- The rights of one tenant in the protection record (R350, R451). -/
structure TenantRights where
  tenant   : Nat
  images   : BitVec 256
  kvWindow : Nat
deriving DecidableEq, Repr

/-- The protection record (R451). -/
structure ProtectionRecord where
  closure       : List (Nat × Nat × Nat)
  funcs         : List FuncRights
  totalVfs      : List Nat
  tenants       : List TenantRights
  listBase      : Nat
  listUnits     : Nat
  mirrorPages   : Nat
  mirrorEntries : Nat
  configuredMax : Nat
  testPermitted : Bool
deriving DecidableEq, Repr

/-- The configuration record (R452); `writes` are the Forester addresses, access sizes and values of the RW registers that Forester
firmware writes from it at boot. -/
structure ConfigRecord where
  offHistoryWait : Nat
  ptpPort        : Nat
  ptpBackup      : Option Nat
  ptpDomain      : Nat
  vlan           : Nat
  ipv4           : List (BitVec 32)
  ipv6           : List (BitVec 128)
  gateway        : BitVec 128
  tokenLimit     : Nat
  poolPages      : List Nat
  bootKey        : BitVec 32
  bootOrder      : List Nat
  reserves       : List Nat
  writes         : List (BitVec 32 × Nat × RegVal)
deriving DecidableEq, Repr

/-- The body of a signed record (R441, R442). -/
inductive RecordBody where
  | firmware (build : BitVec 16) (daush : BitVec 16)
  | configuration (c : ConfigRecord)
  | protection (p : ProtectionRecord)
  | manifest (revoked : BitVec 4) (permitsInUse : Bool)
deriving DecidableEq, Repr

/-- A signed record (R442) with the verdicts of its two signatures (R444) and its digest. -/
structure SignedRecord where
  kind      : Nat
  steppings : BitVec 8
  version   : Nat
  rsaOk     : Bool
  slhOk     : Bool
  digest    : BitVec 384
  body      : RecordBody
deriving DecidableEq, Repr

/-- Bytes that a host buffer gives, or the failure of the transfer (R347). -/
structure HostData where
  ok    : Bool
  bytes : List Byte
deriving DecidableEq, Repr

/-- A record that a host buffer gives, or the failure of the transfer (R347, R359). -/
structure HostRecord where
  ok  : Bool
  rec_ : SignedRecord
deriving DecidableEq, Repr

/-! ## Network -/

/-- A PTT frame after its UDP and GCM layers (R367, R370): `tagOk` is the verdict of the authentication tag under the
key of the slot that the frame names. -/
structure PttFrame where
  srcAddr  : BitVec 128
  srcPort  : BitVec 16
  dstPort  : BitVec 16
  dscp     : BitVec 6
  udpLen   : Nat
  version  : BitVec 8
  type     : BitVec 8
  flags    : BitVec 8
  prov     : BitVec 8
  tenant   : BitVec 16
  session  : BitVec 16
  handle   : BitVec 32
  step     : BitVec 32
  tally    : BitVec 64
  length   : BitVec 32
  counter  : BitVec 32
  tagOk    : Bool
  payload  : List Byte
deriving DecidableEq, Repr

/-- A received Ethernet frame that no row of its own takes (R363, R365). -/
structure RawFrame where
  etherType : BitVec 16
  fragment  : Bool
  udpDst    : Option (BitVec 16)
  dscp      : BitVec 6
deriving DecidableEq, Repr

/-- A RoCEv2 connection REQ (R383, R384). -/
structure CmReq where
  peer      : BitVec 128
  peerQp    : BitVec 24
  stagingId : BitVec 32
  key       : BitVec 32
  mtu       : Nat
  reliable  : Bool
deriving DecidableEq, Repr

/-- A PTP Sync (R386): its sequence id, whether a Follow_Up comes, its origin time and its receipt time. -/
structure PtpSync where
  seqId   : BitVec 16
  twoStep : Bool
  origin  : BitVec 64
  receipt : BitVec 64
deriving DecidableEq, Repr

/-! ## Twin -/

/-- A heartbeat (R392, R393). -/
structure Heartbeat where
  send     : BitVec 64
  receipt  : BitVec 64
  echoSend : BitVec 64
  echoRecv : BitVec 64
  state    : Nat
  pair     : Nat
deriving DecidableEq, Repr

/-- OPEN mirror record (R394), with the home port that takeover uses (R399 step 4, R380). -/
structure MirrorOpen where
  handle  : BitVec 32
  port    : Fin 8
  entry   : SeqEntry
  tag     : Nat
  addr    : BitVec 128
  udp     : BitVec 16
  source  : Nat
  reqTag  : BitVec 32
deriving DecidableEq, Repr

/-- PROMPT mirror record (R394): positions with their tokens, embedding ranges (position, format code, byte offset, bytes), or targets. -/
structure MirrorPrompt where
  handle  : BitVec 32
  tokens  : List (Nat × BitVec 32)
  embeds  : List (Nat × Nat × Nat × List Byte)
  targets : List (Nat × BitVec 32)
deriving DecidableEq, Repr

/-- One K or V row of a committed position as stored (R258, R394). -/
structure KvRow where
  layer : Nat
  isV   : Bool
  pos   : Nat
  bytes : List Byte
deriving DecidableEq, Repr

/-- STEP mirror record (R394). -/
structure MirrorStep where
  handle  : BitVec 32
  step    : Nat
  entry   : SeqEntry
  tokens  : List (BitVec 32)
  rows    : List KvRow
  norms   : List (Nat × BitVec 32)
  journal : List JournalRec
deriving DecidableEq, Repr

/-- STATE mirror record (R394): the new state and its cause. -/
structure MirrorState where
  handle : BitVec 32
  state  : Nat
  cause  : Nat
deriving DecidableEq, Repr

/-- GEN mirror record (R394, R398). -/
structure MirrorGen where
  handle     : BitVec 32
  variant    : Nat
  gen        : BitVec 8
  switchStep : Nat
deriving DecidableEq, Repr

/-- FELL mirror record (R394). -/
structure MirrorFell where
  handle : BitVec 32
  reason : Nat
  tally  : Nat
deriving DecidableEq, Repr

/-- The content of a pair-control exchange (R391, R396, R406), with the step period P in 128 ns that lockstep partners compare, 0 outside
lockstep (R241; log 95). -/
structure PairControl where
  serial      : BitVec 64
  stepping    : BitVec 8
  cfgVersion  : Nat
  images      : List (Nat × BitVec 384)
  heldPages   : Nat
  heldEntries : Nat
  mirrorPages : Nat
  mirrorEntries : Nat
  period      : Nat
deriving DecidableEq, Repr

/-! ## Power, thermal, boot -/

/-- Why a stand goes dark (R51, R413, R422, R425, R435, R358). -/
inductive DarkCause where
  | bothTrees | firebreak | segment | header | heat | service
deriving DecidableEq, Repr

/-- Causes of a breaker trip (PW_BREAKER.cause, R422). -/
inductive TripCause where
  | overcurrent | railShort | isolation | firmware
deriving DecidableEq, Repr

/-- Causes of a hard shutdown (TH_MOD_STATUS.last_cause, R437). -/
inductive HardCause where
  | sensor | inlet
deriving DecidableEq, Repr

/-- What a start meets outside the records in flash (R449, R450): the feed voltage in 10 mV, the self-tests and PUF
reconstructions of FA and FB, lanes that fail the lane test, and the measured tree delays; on a part that has never started, also the
records that manufacture put into flash slot 0 and the last-shutdown tally of final test (R117; log 80). -/
structure BootEnv where
  tenMv    : Nat
  romOk    : Bool × Bool
  pufOk    : Bool × Bool
  badLanes : List (PortId × Fin 512)
  delays   : List (Fin 42 × BitVec 16 × BitVec 16)
  factory  : List SignedRecord
  tested   : Nat
deriving DecidableEq, Repr

/-- The transport of an MCTP message (R457, R477). -/
inductive MctpVia where
  | smbus
  | vdm (port : Fin 4)
deriving DecidableEq, Repr


/-- The commands the block takes: one constructor per row of the table of operations and events. -/
inductive Instr where
  /-- REGISTER_WRITE (R8) -/
  | registerWrite (w : RegWrite)
  /-- DECK_WRITE_FLIT (R193) -/
  | deckWriteFlit (p : PortId) (x : Flit)
  /-- PARTIAL_SUM_FLIT (R175) -/
  | partialSumFlit (p : PortId) (x : Flit)
  /-- RELAY_FLIT (R42) -/
  | relayFlit (p : PortId) (x : Flit)
  /-- HBM_READ_REQUEST (R30) -/
  | hbmReadRequest (l : Fin 8) (p : Fin 3) (x : Flit) (addr : Nat) (line : BitVec 18) (lines : Nat)
  /-- HBM_READ_DATA (R195) -/
  | hbmReadData (p : PortId) (x : Flit) (line : BitVec 18) (bytes : List Byte)
  /-- HBM_WRITE (R195) -/
  | hbmWrite (l : Fin 8) (p : Fin 3) (x : Flit) (addr : Nat) (bytes : List Byte)
  /-- HBM_READ_ERROR (R465) -/
  | hbmReadError (page : Fin 25165824)
  /-- FLIT_TRANSMIT (R35) -/
  | flitTransmit (p : PortId) (ch : Fin 3)
  /-- CREDIT_RETURN (R35) -/
  | creditReturn (p : PortId) (ch : Fin 3)
  /-- NAK (R34) -/
  | nak (p : PortId) (x : Flit) (ch : Fin 3) (failed : BitVec 8)
  /-- DIAGNOSIS_REQUEST (R34) -/
  | diagnosisRequest (p : PortId) (x : Flit)
  /-- LANE_DIAGNOSIS_DONE (R34) -/
  | laneDiagnosisDone (p : PortId) (faulty : List (Fin 512))
  /-- LANE_SPARE_START (R38) -/
  | laneSpareStart (p : PortId) (lane : Fin 512)
  /-- SPARING_FLIT (R38) -/
  | sparingFlit (p : PortId) (lane : Fin 512) (spare : Fin 32)
  /-- SPARE_COMPARE_DONE (R39) -/
  | spareCompareDone (p : PortId) (mismatch : List (Fin 512))
  /-- SPARE_CONFIRM (R38) -/
  | spareConfirm (p : PortId) (lane : Fin 512) (spare : Fin 32)
  /-- SK_SPARE_FORCE (R38) -/
  | skSpareForce (s : Fin 42) (p : Fin 8) (v : BitVec 32)
  /-- SK_FAULT_INJ_WRITE (R474) -/
  | skFaultInjWrite (s : Fin 42) (p : Fin 8) (v : BitVec 32)
  /-- HR_WORD_SUBMIT (R44) -/
  | hrWordSubmit (w : HrWord)
  /-- HR_SLOT_EMIT (R45) -/
  | hrSlotEmit
  /-- HR_WORD_RECEIVE (R50) -/
  | hrWordReceive (s : Fin 42) (primary : Option HrWord) (secondary : Option HrWord)
  /-- TALLY_BEACON (R46) -/
  | tallyBeacon (s : Fin 42) (tree : Fin 2) (rootTally : BitVec 64)
  /-- TREE_SWITCH (R50) -/
  | treeSwitch (s : Fin 42)
  /-- BOTH_TREES_LOST (R51) -/
  | bothTreesLost (s : Fin 42)
  /-- HR_DELAY_REFRESH (R46) -/
  | hrDelayRefresh (s : Fin 42) (primary : BitVec 16) (secondary : BitVec 16)
  /-- BARRIER_ARRIVAL (R47) -/
  | barrierArrival (b : Nat) (who : Participant) (xnat : Int)
  /-- BARRIER_RELEASE (R47) -/
  | barrierRelease (b : Nat) (who : Participant)
  /-- BARRIER_TIMEOUT (R47) -/
  | barrierTimeout (s : Fin 42) (b : Nat)
  /-- STEP_BEACON (R232) -/
  | stepBeacon (s : Fin 42) (content : BitVec 448)
  /-- STEP_TALLY (R233) -/
  | stepTally (s : Fin 42)
  /-- DUE_TALLY (R233) -/
  | dueTally (g : GroveId) (act : Nat) (done : Bool)
  /-- FORWARD_MVM (R171) -/
  | forwardMvm (g : GroveId) (env : MvmEnv) (mirror : MvmEnv)
  /-- REVERSE_READ (R82) -/
  | reverseRead (g : GroveId) (env : MvmEnv) (mirror : MvmEnv)
  /-- CALIBRATION_SLOT (R81) -/
  | calibrationSlot (t : TileId) (trim : BitVec 16)
  /-- TL_ROTATE_COPY (R88) -/
  | tlRotateCopy (t : TileId) (v : BitVec 64)
  /-- TL_ROTATE_LOAD (R88) -/
  | tlRotateLoad (t : TileId) (v : BitVec 64)
  /-- TL_ROTATE_UPDATE (R88) -/
  | tlRotateUpdate (t : TileId) (v : BitVec 64)
  /-- WRITE_SLICE (R86) -/
  | writeSlice (t : TileId) (needed : Nat)
  /-- COPY_READ_SLICE (R89) -/
  | copyReadSlice (t : TileId) (identityHolds : Bool)
  /-- VERIFY_SLICE (R90) -/
  | verifySlice (t : TileId) (pass : Bool)
  /-- SWAP_LAND (R91) -/
  | swapLand (t : TileId)
  /-- FORCED_SWAP (R91) -/
  | forcedSwap (t : TileId) (env : MvmEnv)
  /-- TL_CRUISE (R99) -/
  | tlCruise (t : TileId) (v : BitVec 32)
  /-- CRUISE_SLICE (R99) -/
  | cruiseSlice (t : TileId) (found : SliceFinding)
  /-- FORCED_SLICE (R105) -/
  | forcedSlice (t : TileId) (found : SliceFinding)
  /-- DRIFT_CLOCK_TICK (R102) -/
  | driftClockTick (s : Fin 42)
  /-- EARLY_CRUISE (R104) -/
  | earlyCruise (t : TileId) (phys : Fin 17) (cause : EarlyCause)
  /-- MON_START (R106) -/
  | monStart (g : GroveId) (v : BitVec 32)
  /-- MON_WINDOW_END (R106) -/
  | monWindowEnd (g : GroveId)
  /-- ROTATION_DISPATCH (R110) -/
  | rotationDispatch (g : GroveId)
  /-- REMAP_SWITCH (R113) -/
  | remapSwitch (g : GroveId) (entry : Fin 32768)
  /-- STAND_HANDOVER (R114) -/
  | standHandover (s : Fin 42) (fit : Bool)
  /-- DRIFT_SNAPSHOT (R116) -/
  | driftSnapshot
  /-- SCALER_QUANTIZE (R130) -/
  | scalerQuantize (g : GroveId)
  /-- SCALE_EVENT_ANNOUNCE (R159) -/
  | scaleEventAnnounce (g : GroveId) (ev : StepKey) (kind : ScaleKind) (xnat : Int)
  /-- SCALE_EVENT_RELEASE (R154) -/
  | scaleEventRelease (g : GroveId) (ev : StepKey) (xmax : Int)
  /-- ACC_CLEAR (R174) -/
  | accClear (g : GroveId)
  /-- ACC_SEND (R136) -/
  | accSend (g : GroveId)
  /-- ACC_RECEIVE (R174) -/
  | accReceive (g : GroveId)
  /-- ACC_STORE (R174) -/
  | accStore (g : GroveId)
  /-- FINISH (R176) -/
  | finish (g : GroveId)
  /-- STEP_REPORT (R178) -/
  | stepReport (lead : GroveId) (rep : StepReport)
  /-- COMMIT (R178) -/
  | commit (g : GroveId) (key : StepKey) (ctr : Fin 64)
  /-- COMMIT_TIMEOUT (R178) -/
  | commitTimeout (lead : GroveId) (key : StepKey)
  /-- SCORE_ITEM (R180) -/
  | scoreItem (g : GroveId) (engine : Fin 32)
  /-- SOFTMAX (R182) -/
  | softmax (g : GroveId)
  /-- KV_APPEND (R183) -/
  | kvAppend (g : GroveId)
  /-- KV_PATH_MOVE (R294) -/
  | kvPathMove (g : GroveId)
  /-- YARDER_HBM_TO_DECK (R195) -/
  | yarderHbmToDeck (g : GroveId)
  /-- YARDER_DECK_TO_HBM (R195) -/
  | yarderDeckToHbm (g : GroveId)
  /-- YARDER_DECK_TO_DECK (R195) -/
  | yarderDeckToDeck (g : GroveId)
  /-- KV_GATHER (R196) -/
  | kvGather (g : GroveId)
  /-- INDEX_GATHER (R195) -/
  | indexGather (g : GroveId)
  /-- DECK_FILL (R192) -/
  | deckFill (g : GroveId)
  /-- DECK_COPY (R192) -/
  | deckCopy (g : GroveId)
  /-- TASK_TAKE (R184) -/
  | taskTake (f : FellerId)
  /-- TASK_STEAL (R199) -/
  | taskSteal (f : FellerId)
  /-- SCORE_ITEM_STEAL (R198) -/
  | scoreItemSteal (g : GroveId) (engine : Fin 32)
  /-- ADD (R187) -/
  | fellerAdd (f : FellerId) (sd : Fin 32) (sa : Fin 32) (sb : Fin 32)
  /-- SUB (R187) -/
  | fellerSub (f : FellerId) (sd : Fin 32) (sa : Fin 32) (sb : Fin 32)
  /-- AND (R187) -/
  | fellerAnd (f : FellerId) (sd : Fin 32) (sa : Fin 32) (sb : Fin 32)
  /-- OR (R187) -/
  | fellerOr (f : FellerId) (sd : Fin 32) (sa : Fin 32) (sb : Fin 32)
  /-- XOR (R187) -/
  | fellerXor (f : FellerId) (sd : Fin 32) (sa : Fin 32) (sb : Fin 32)
  /-- SHL (R187) -/
  | fellerShl (f : FellerId) (sd : Fin 32) (sa : Fin 32) (sb : Fin 32)
  /-- SHR (R187) -/
  | fellerShr (f : FellerId) (sd : Fin 32) (sa : Fin 32) (sb : Fin 32)
  /-- SRA (R187) -/
  | fellerSra (f : FellerId) (sd : Fin 32) (sa : Fin 32) (sb : Fin 32)
  /-- MUL (R187) -/
  | fellerMul (f : FellerId) (sd : Fin 32) (sa : Fin 32) (sb : Fin 32)
  /-- MULH (R187) -/
  | fellerMulh (f : FellerId) (sd : Fin 32) (sa : Fin 32) (sb : Fin 32)
  /-- MIN (R187) -/
  | fellerMin (f : FellerId) (sd : Fin 32) (sa : Fin 32) (sb : Fin 32)
  /-- MAX (R187) -/
  | fellerMax (f : FellerId) (sd : Fin 32) (sa : Fin 32) (sb : Fin 32)
  /-- MINU (R187) -/
  | fellerMinu (f : FellerId) (sd : Fin 32) (sa : Fin 32) (sb : Fin 32)
  /-- MAXU (R187) -/
  | fellerMaxu (f : FellerId) (sd : Fin 32) (sa : Fin 32) (sb : Fin 32)
  /-- SLT (R187) -/
  | fellerSlt (f : FellerId) (sd : Fin 32) (sa : Fin 32) (sb : Fin 32)
  /-- SLTU (R187) -/
  | fellerSltu (f : FellerId) (sd : Fin 32) (sa : Fin 32) (sb : Fin 32)
  /-- ADDI (R187) -/
  | fellerAddi (f : FellerId) (sd : Fin 32) (sa : Fin 32) (imm : BitVec 16)
  /-- ANDI (R187) -/
  | fellerAndi (f : FellerId) (sd : Fin 32) (sa : Fin 32) (imm : BitVec 16)
  /-- ORI (R187) -/
  | fellerOri (f : FellerId) (sd : Fin 32) (sa : Fin 32) (imm : BitVec 16)
  /-- XORI (R187) -/
  | fellerXori (f : FellerId) (sd : Fin 32) (sa : Fin 32) (imm : BitVec 16)
  /-- LUI (R187) -/
  | fellerLui (f : FellerId) (sd : Fin 32) (imm : BitVec 16)
  /-- SLTI (R187) -/
  | fellerSlti (f : FellerId) (sd : Fin 32) (sa : Fin 32) (imm : BitVec 16)
  /-- LD_B (R187) -/
  | fellerLdB (f : FellerId) (sd : Fin 32) (sa : Fin 32) (imm : BitVec 16)
  /-- LD_H (R187) -/
  | fellerLdH (f : FellerId) (sd : Fin 32) (sa : Fin 32) (imm : BitVec 16)
  /-- LD_W (R187) -/
  | fellerLdW (f : FellerId) (sd : Fin 32) (sa : Fin 32) (imm : BitVec 16)
  /-- LD_D (R187) -/
  | fellerLdD (f : FellerId) (sd : Fin 32) (sa : Fin 32) (imm : BitVec 16)
  /-- ST_B (R187) -/
  | fellerStB (f : FellerId) (sd : Fin 32) (sa : Fin 32) (imm : BitVec 16)
  /-- ST_H (R187) -/
  | fellerStH (f : FellerId) (sd : Fin 32) (sa : Fin 32) (imm : BitVec 16)
  /-- ST_W (R187) -/
  | fellerStW (f : FellerId) (sd : Fin 32) (sa : Fin 32) (imm : BitVec 16)
  /-- ST_D (R187) -/
  | fellerStD (f : FellerId) (sd : Fin 32) (sa : Fin 32) (imm : BitVec 16)
  /-- BEQ (R187) -/
  | fellerBeq (f : FellerId) (sa : Fin 32) (sb : Fin 32) (off : BitVec 16)
  /-- BNE (R187) -/
  | fellerBne (f : FellerId) (sa : Fin 32) (sb : Fin 32) (off : BitVec 16)
  /-- BLT (R187) -/
  | fellerBlt (f : FellerId) (sa : Fin 32) (sb : Fin 32) (off : BitVec 16)
  /-- BLTU (R187) -/
  | fellerBltu (f : FellerId) (sa : Fin 32) (sb : Fin 32) (off : BitVec 16)
  /-- JAL (R187) -/
  | fellerJal (f : FellerId) (off : BitVec 26)
  /-- JR (R187) -/
  | fellerJr (f : FellerId) (sa : Fin 32)
  /-- VEC_ADD (R188) -/
  | vecAdd (f : FellerId) (vd : Fin 16) (va : Fin 16) (vb : Fin 16) (mask : Fin 4) (ty : LaneType)
  /-- VEC_SUB (R188) -/
  | vecSub (f : FellerId) (vd : Fin 16) (va : Fin 16) (vb : Fin 16) (mask : Fin 4) (ty : LaneType)
  /-- VEC_MUL (R188) -/
  | vecMul (f : FellerId) (vd : Fin 16) (va : Fin 16) (vb : Fin 16) (mask : Fin 4) (ty : LaneType)
  /-- VEC_FMA (R188) -/
  | vecFma (f : FellerId) (vd : Fin 16) (va : Fin 16) (vb : Fin 16) (mask : Fin 4) (ty : LaneType)
  /-- VEC_MIN (R188) -/
  | vecMin (f : FellerId) (vd : Fin 16) (va : Fin 16) (vb : Fin 16) (mask : Fin 4) (ty : LaneType)
  /-- VEC_MAX (R188) -/
  | vecMax (f : FellerId) (vd : Fin 16) (va : Fin 16) (vb : Fin 16) (mask : Fin 4) (ty : LaneType)
  /-- VEC_ABS (R188) -/
  | vecAbs (f : FellerId) (vd : Fin 16) (va : Fin 16) (mask : Fin 4) (ty : LaneType)
  /-- VEC_NEG (R188) -/
  | vecNeg (f : FellerId) (vd : Fin 16) (va : Fin 16) (mask : Fin 4) (ty : LaneType)
  /-- VEC_CMP_EQ (R188) -/
  | vecCmpEq (f : FellerId) (md : Fin 4) (va : Fin 16) (vb : Fin 16) (mask : Fin 4) (ty : LaneType)
  /-- VEC_CMP_LT (R188) -/
  | vecCmpLt (f : FellerId) (md : Fin 4) (va : Fin 16) (vb : Fin 16) (mask : Fin 4) (ty : LaneType)
  /-- VEC_CMP_LE (R188) -/
  | vecCmpLe (f : FellerId) (md : Fin 4) (va : Fin 16) (vb : Fin 16) (mask : Fin 4) (ty : LaneType)
  /-- VEC_SELECT (R188) -/
  | vecSelect (f : FellerId) (vd : Fin 16) (va : Fin 16) (vb : Fin 16) (mask : Fin 4) (ty : LaneType)
  /-- VEC_AND (R188) -/
  | vecAnd (f : FellerId) (vd : Fin 16) (va : Fin 16) (vb : Fin 16) (mask : Fin 4) (ty : LaneType)
  /-- VEC_OR (R188) -/
  | vecOr (f : FellerId) (vd : Fin 16) (va : Fin 16) (vb : Fin 16) (mask : Fin 4) (ty : LaneType)
  /-- VEC_XOR (R188) -/
  | vecXor (f : FellerId) (vd : Fin 16) (va : Fin 16) (vb : Fin 16) (mask : Fin 4) (ty : LaneType)
  /-- VEC_SHL (R188) -/
  | vecShl (f : FellerId) (vd : Fin 16) (va : Fin 16) (vb : Fin 16) (mask : Fin 4) (ty : LaneType)
  /-- VEC_SHR (R188) -/
  | vecShr (f : FellerId) (vd : Fin 16) (va : Fin 16) (vb : Fin 16) (mask : Fin 4) (ty : LaneType)
  /-- VEC_SRA (R188) -/
  | vecSra (f : FellerId) (vd : Fin 16) (va : Fin 16) (vb : Fin 16) (mask : Fin 4) (ty : LaneType)
  /-- VEC_SUM (R189) -/
  | vecSum (f : FellerId) (sd : Fin 32) (va : Fin 16) (mask : Fin 4) (ty : LaneType)
  /-- VEC_REDUCE_MAX (R189) -/
  | vecReduceMax (f : FellerId) (sd : Fin 32) (va : Fin 16) (mask : Fin 4) (ty : LaneType)
  /-- VEC_REDUCE_MIN (R189) -/
  | vecReduceMin (f : FellerId) (sd : Fin 32) (va : Fin 16) (mask : Fin 4) (ty : LaneType)
  /-- VBCAST (R187) -/
  | vbcast (f : FellerId) (sd : Fin 32) (va : Fin 16) (mask : Fin 4) (ty : LaneType)
  /-- VLD (R188) -/
  | vld (f : FellerId) (vd : Fin 16) (sa : Fin 32) (sb : Fin 32) (ty : LaneType)
  /-- VST (R188) -/
  | vst (f : FellerId) (vd : Fin 16) (sa : Fin 32) (sb : Fin 32) (ty : LaneType)
  /-- VEC_CONVERT (R187) -/
  | vecConvert (f : FellerId) (vd : Fin 16) (va : Fin 16) (mask : Fin 4) (ty : LaneType) (dst : LaneType)
  /-- VEC_UNPACK_MX (R187) -/
  | vecUnpackMx (f : FellerId) (vd : Fin 16) (va : Fin 16) (mask : Fin 4) (fmt : Fin 6)
  /-- VEC_PACK_MX (R187) -/
  | vecPackMx (f : FellerId) (vd : Fin 16) (va : Fin 16) (mask : Fin 4) (ty : LaneType) (fmt : Fin 6)
  /-- ISSUE (R187) -/
  | issue (f : FellerId) (sa : Fin 32) (sb : Fin 32)
  /-- ISSUE_STALL_RELEASE (R166) -/
  | issueStallRelease (f : FellerId)
  /-- CTR_WAIT (R187) -/
  | ctrWait (f : FellerId) (sa : Fin 32) (ctr : Fin 64)
  /-- CTR_WAIT_RELEASE (R165) -/
  | ctrWaitRelease (w : Waiter)
  /-- CTR_ADD (R187) -/
  | ctrAdd (f : FellerId) (ctr : Fin 64) (imm : BitVec 10)
  /-- CTR_READ (R187) -/
  | ctrRead (f : FellerId) (sa : Fin 32) (ctr : Fin 64)
  /-- FENCE (R187) -/
  | fence (f : FellerId)
  /-- TASK_PUSH (R187) -/
  | taskPush (f : FellerId) (sa : Fin 32)
  /-- TASK_END (R184) -/
  | taskEnd (f : FellerId)
  /-- HALT (R187) -/
  | fellerHalt (f : FellerId)
  /-- TRAP (R187) -/
  | fellerTrap (f : FellerId)
  /-- CSR_READ (R187) -/
  | csrRead (f : FellerId) (sd : Fin 32) (csr : Fin 32)
  /-- CSR_WRITE (R187) -/
  | csrWrite (f : FellerId) (sa : Fin 32) (csr : Fin 32)
  /-- NOP (R187) -/
  | fellerNop (f : FellerId)
  /-- ILLEGAL_INSTRUCTION (R190) -/
  | illegalInstruction (f : FellerId) (word : BitVec 32)
  /-- ACTIVITY_START_AFTER_THIN (R210) -/
  | activityStartAfterThin (s : Fin 42)
  /-- BAND_EVALUATION (R210) -/
  | bandEvaluation (b : Fin 7)
  /-- MODULE_EVALUATION (R415) -/
  | moduleEvaluation
  /-- STAND_DARK (R224) -/
  | standDark (s : Fin 42) (cause : DarkCause)
  /-- REPLACEMENT_RELEASE (R224) -/
  | replacementRelease (tag : Fin 256)
  /-- PLAN_RETURN (R224) -/
  | planReturn (s : Fin 42)
  /-- PTP_SYNC (R243) -/
  | ptpSync (l : Fin 8) (m : PtpSync)
  /-- PTP_FOLLOW_UP (R386) -/
  | ptpFollowUp (l : Fin 8) (seqId : BitVec 16) (origin : BitVec 64)
  /-- PTP_DELAY_RESP (R386) -/
  | ptpDelayResp (l : Fin 8) (seqId : BitVec 16) (receive : BitVec 64)
  /-- PTP_ANNOUNCE (R386) -/
  | ptpAnnounce (l : Fin 8) (domain : BitVec 8)
  /-- PTP_BACKUP_SWITCH (R386) -/
  | ptpBackupSwitch
  /-- PTP_LOSS (R244) -/
  | ptpLoss
  /-- LAYER0_ENTRY (R262) -/
  | layer0Entry (n : Fin 32768) (g : GroveId) (ctr : Fin 64)
  /-- MAP_AHEAD (R262) -/
  | mapAhead (n : Fin 32768)
  /-- PAGE_WAIT_RESUME (R262) -/
  | pageWaitResume (n : Fin 32768)
  /-- PAGE_WAIT_TIMEOUT (R299) -/
  | pageWaitTimeout (n : Fin 32768)
  /-- PAGE_MOVE (R265) -/
  | pageMove (n : Fin 32768) (page : Nat) (toDeck : Bool)
  /-- PAGE_FREE (R265) -/
  | pageFree (n : Fin 32768) (page : Nat)
  /-- TOKEN_COMMIT (R257) -/
  | tokenCommit (n : Fin 32768) (out : HeadOutput)
  /-- PREFILL_CHUNK_COMMIT (R257) -/
  | prefillChunkCommit (n : Fin 32768)
  /-- VARIANT_LOAD (R274) -/
  | variantLoad (tag : Fin 256) (variant : Fin 65536)
  /-- GEN_HANDOVER (R275) -/
  | genHandover (tag : Fin 256) (variant : Fin 65536)
  /-- MASTER_WEIGHT_UPDATE (R279) -/
  | masterWeightUpdate (tag : Fin 256) (variant : Fin 65536) (grads : List MasterGrad)
  /-- RESUME (R307) -/
  | resumeSequence (n : Fin 32768)
  /-- SUSPEND_LIMIT (R308) -/
  | suspendLimit (n : Fin 32768)
  /-- SUSPENSION_LAND (R256) -/
  | suspensionLand (n : Fin 32768)
  /-- FELLING_WORD_RECEIVE (R313) -/
  | fellingWordReceive (s : Fin 42) (content : BitVec 448)
  /-- FELLING_ACK_SEND (R313) -/
  | fellingAckSend (s : Fin 42) (id : FellId)
  /-- FELLING_ACK_FLIT (R313) -/
  | fellingAckFlit (at_ : PortId) (x : Flit) (id : FellId) (fromStand : Fin 42)
  /-- FELL_TIMEOUT (R315) -/
  | fellTimeout (id : FellId)
  /-- REUSE_GUARD_EXPIRY (R314) -/
  | reuseGuardExpiry (n : Fin 32768)
  /-- MB_POST (R326) -/
  | mbPost (f : Fin 256) (v : BitVec 32)
  /-- MB_ABORT (R329) -/
  | mbAbort (f : Fin 256)
  /-- MAILBOX_TAKE (R331) -/
  | mailboxTake (f : Fin 256)
  /-- RESPONSE_READY (R328) -/
  | responseReady (f : Fin 256)
  /-- MSIX_HOLDOFF_END (R335) -/
  | msixHoldoffEnd (f : Fin 256) (vec : Fin 16)
  /-- MSIX_UNMASK (R335) -/
  | msixUnmask (f : Fin 256) (vec : Fin 16)
  /-- FLR (R340) -/
  | functionReset (f : Fin 256)
  /-- PCIE_RESET (R340) -/
  | pcieReset (port : Fin 4)
  /-- VF_ENABLE (R322) -/
  | vfEnable (port : Fin 4) (numVfs : Fin 64)
  /-- D3HOT_ENTRY (R340) -/
  | d3hotEntry (f : Fin 256)
  /-- BAR2_REQUEST_WRITE (R324) -/
  | bar2RequestWrite (f : Fin 256) (offset : Fin 8192) (bytes : List Byte)
  /-- DEV_GET_INFO (R349) -/
  | devGetInfo (f : Fin 256)
  /-- DEV_SET_OFF_HISTORY (R349) -/
  | devSetOffHistory (f : Fin 256)
  /-- DEV_SET_DET_MODE (R230) -/
  | devSetDetMode (f : Fin 256)
  /-- DEV_SET_STATE (R349) -/
  | devSetState (f : Fin 256)
  /-- DRAIN_DEADLINE (R349) -/
  | drainDeadline
  /-- DEV_GET_OPERATION (R348) -/
  | devGetOperation (f : Fin 256)
  /-- DEV_ABORT_OPERATION (R349) -/
  | devAbortOperation (f : Fin 256)
  /-- OPERATION_RECORD_EXPIRY (R348) -/
  | operationRecordExpiry (op : Nat)
  /-- TEN_GET_INFO (R350) -/
  | tenGetInfo (f : Fin 256)
  /-- TEN_SET_QUOTA (R350) -/
  | tenSetQuota (f : Fin 256)
  /-- TEN_SET_KEY (R350) -/
  | tenSetKey (f : Fin 256)
  /-- TEN_SET_ADAPT (R350) -/
  | tenSetAdapt (f : Fin 256)
  /-- TEN_SHED (R311) -/
  | tenShed (f : Fin 256)
  /-- IMG_STAGE_OPEN (R351) -/
  | imgStageOpen (f : Fin 256)
  /-- IMG_STAGE_WRITE (R351) -/
  | imgStageWrite (f : Fin 256) (host : HostData)
  /-- IMG_LOAD (R205) -/
  | imgLoad (f : Fin 256) (img : ImageFile)
  /-- IMAGE_CLEARED (R459) -/
  | imageCleared (tag : Fin 256)
  /-- IMG_UNLOAD (R351) -/
  | imgUnload (f : Fin 256)
  /-- IMG_GET (R351) -/
  | imgGet (f : Fin 256)
  /-- IMG_SET_GOLDEN (R351) -/
  | imgSetGolden (f : Fin 256)
  /-- VAR_STAGE (R351) -/
  | varStage (f : Fin 256) (tiers : List VariantTier)
  /-- VAR_EVICT (R351) -/
  | varEvict (f : Fin 256)
  /-- SEQ_OPEN (R303) -/
  | seqOpen (f : Fin 256)
  /-- SEQ_FELL (R309) -/
  | seqFell (f : Fin 256)
  /-- SEQ_SUSPEND (R353) -/
  | seqSuspend (f : Fin 256)
  /-- SEQ_RESUME (R353) -/
  | seqResume (f : Fin 256)
  /-- SEQ_CLOSE (R353) -/
  | seqClose (f : Fin 256)
  /-- SEQ_GET (R353) -/
  | seqGet (f : Fin 256)
  /-- SEQ_LIST (R353) -/
  | seqList (f : Fin 256)
  /-- POL_SET_CLASS (R355) -/
  | polSetClass (f : Fin 256)
  /-- POL_GET_CLASS (R355) -/
  | polGetClass (f : Fin 256)
  /-- POL_SET_LANDING (R355) -/
  | polSetLanding (f : Fin 256)
  /-- POL_SET_GROVE (R355) -/
  | polSetGrove (f : Fin 256)
  /-- TEL_READ_REG (R356) -/
  | telReadReg (f : Fin 256)
  /-- TEL_GET_HEALTH (R356) -/
  | telGetHealth (f : Fin 256)
  /-- TEL_READ_VIOL_LOG (R356) -/
  | telReadViolLog (f : Fin 256)
  /-- TEL_COPY_JOURNAL (R356) -/
  | telCopyJournal (f : Fin 256)
  /-- TWIN_PAIR (R391) -/
  | twinPair (f : Fin 256)
  /-- TWIN_PAIR_TIMEOUT (R391) -/
  | twinPairTimeout
  /-- TWIN_UNPAIR (R357) -/
  | twinUnpair (f : Fin 256)
  /-- TWIN_GET (R357) -/
  | twinGet (f : Fin 256)
  /-- TWIN_REPLACE (R405) -/
  | twinReplace (f : Fin 256)
  /-- PWR_GET (R358) -/
  | pwrGet (f : Fin 256)
  /-- PWR_SET_LIMIT (R358) -/
  | pwrSetLimit (f : Fin 256)
  /-- THM_READ (R358) -/
  | thmRead (f : Fin 256)
  /-- PWR_STAND_SERVICE (R358) -/
  | pwrStandService (f : Fin 256)
  /-- FW_STAGE (R359) -/
  | fwStage (f : Fin 256) (host : HostRecord)
  /-- FW_SWAP (R461) -/
  | fwSwap (f : Fin 256)
  /-- FW_GET_VERSIONS (R359) -/
  | fwGetVersions (f : Fin 256)
  /-- ATT_GET_REPORT (R456) -/
  | attGetReport (f : Fin 256) (busOk : Bool)
  /-- ATT_GET_IDENTITY (R359) -/
  | attGetIdentity (f : Fin 256) (busOk : Bool)
  /-- TST_LINK_INJECT (R474) -/
  | tstLinkInject (f : Fin 256)
  /-- TST_TWIN_INJECT (R474) -/
  | tstTwinInject (f : Fin 256)
  /-- TST_INJECT_CLEAR (R360) -/
  | tstInjectClear (f : Fin 256)
  /-- TST_SPARE_FORCE (R360) -/
  | tstSpareForce (f : Fin 256)
  /-- TST_CRUISE (R360) -/
  | tstCruise (f : Fin 256) (found : List SliceFinding)
  /-- OPEN (R374) -/
  | pttOpen (l : Fin 8) (x : PttFrame)
  /-- PROMPT (R375) -/
  | pttPrompt (l : Fin 8) (x : PttFrame)
  /-- EMBED (R375) -/
  | pttEmbed (l : Fin 8) (x : PttFrame)
  /-- TARGET (R375) -/
  | pttTarget (l : Fin 8) (x : PttFrame)
  /-- FELL (R312) -/
  | pttFell (l : Fin 8) (x : PttFrame)
  /-- SHED (R311) -/
  | pttShed (l : Fin 8) (x : PttFrame)
  /-- RESEND (R376) -/
  | pttResend (l : Fin 8) (x : PttFrame)
  /-- PROMPT_WAIT_EXPIRY (R375) -/
  | promptWaitExpiry (n : Fin 32768)
  /-- TAKEOVER_REPEAT (R381) -/
  | takeoverRepeat (n : Fin 32768)
  /-- ARP (R363) -/
  | arpRequest (l : Fin 8) (target : BitVec 32) (sender : BitVec 48)
  /-- NEIGHBOR_SOLICITATION (R363) -/
  | neighborSolicitation (l : Fin 8) (target : BitVec 128) (sender : BitVec 48)
  /-- ICMP_ECHO (R363) -/
  | icmpEcho (l : Fin 8) (dst : BitVec 128) (v6 : Bool) (sender : BitVec 48) (data : List Byte)
  /-- UNCLASSIFIED_FRAME (R363) -/
  | unclassifiedFrame (l : Fin 8) (fr : RawFrame)
  /-- EP_LINK_DOWN (R380) -/
  | epLinkDown (l : Fin 8)
  /-- EP_LINK_UP (R380) -/
  | epLinkUp (l : Fin 8)
  /-- CM_REQ (R384) -/
  | cmReq (l : Fin 8) (req : CmReq)
  /-- CM_DREQ (R383) -/
  | cmDreq (l : Fin 8) (qp : Nat)
  /-- RDMA_WRITE (R384) -/
  | rdmaWrite (l : Fin 8) (qp : Nat) (psn : BitVec 24) (addr : Nat) (key : BitVec 32) (bytes : List Byte)
  /-- GOLDEN_FETCH_READ (R384) -/
  | goldenFetchRead (l : Fin 8) (qp : Nat) (offset : Nat) (len : Nat)
  /-- RDMA_READ_RESPONSE (R383) -/
  | rdmaReadResponse (l : Fin 8) (qp : Nat) (psn : BitVec 24) (bytes : List Byte)
  /-- CNP (R383) -/
  | cnpArrive (l : Fin 8) (qp : Nat)
  /-- CNP_RATE_RECOVERY (R383) -/
  | cnpRateRecovery (l : Fin 8) (qp : Nat)
  /-- RDMA_ACK_TIMEOUT (R383) -/
  | rdmaAckTimeout (l : Fin 8) (qp : Nat)
  /-- HEARTBEAT_SEND (R393) -/
  | heartbeatSend
  /-- HEARTBEAT (R392) -/
  | heartbeatArrive (port : Fin 2) (hb : Heartbeat)
  /-- PARTNER_LOST (R399) -/
  | partnerLost
  /-- HB_PORT_LOST (R393) -/
  | hbPortLost (port : Fin 2)
  /-- MIRROR_OPEN (R394) -/
  | mirrorOpen (m : MirrorOpen)
  /-- MIRROR_PROMPT (R394) -/
  | mirrorPrompt (m : MirrorPrompt)
  /-- MIRROR_STEP (R394) -/
  | mirrorStep (m : MirrorStep)
  /-- MIRROR_STATE (R394) -/
  | mirrorState (m : MirrorState)
  /-- MIRROR_GEN (R398) -/
  | mirrorGen (m : MirrorGen)
  /-- MIRROR_FELL (R394) -/
  | mirrorFell (m : MirrorFell)
  /-- MIRROR_ACK (R394) -/
  | mirrorAck (handle : BitVec 32) (step : Nat)
  /-- TWIN_BARRIER_ARRIVAL (R404) -/
  | twinBarrierArrival (fromPartner : Bool)
  /-- TWIN_BARRIER_RELEASE (R404) -/
  | twinBarrierRelease (releaseTally : BitVec 64)
  /-- TWIN_BARRIER_FAIL (R404) -/
  | twinBarrierFail
  /-- PAIR_CONTROL (R391) -/
  | pairControl (m : PairControl)
  /-- MOVE (R402) -/
  | moveSequence (handle : BitVec 32)
  /-- BULK_COPY (R405) -/
  | bulkCopy (off : Nat) (bytes : List Byte) (last : Bool) (img : Option ImageFile)
  /-- TWIN_PORT_DOWN (R390) -/
  | twinPortDown (port : Fin 2)
  /-- TW_FAULT_INJ_WRITE (R474) -/
  | twFaultInjWrite (port : Fin 2) (v : BitVec 32)
  /-- FEED_LOST (R410) -/
  | feedLost (feed : Fin 2) (mv : Nat)
  /-- FEED_RESTORED (R410) -/
  | feedRestored (feed : Fin 2) (mv : Nat)
  /-- RIDE_THROUGH_END (R412) -/
  | rideThroughEnd
  /-- CONVERTER_LOST (R411) -/
  | converterLost (n : Fin 18)
  /-- SEGMENT_OPEN (R413) -/
  | segmentOpen (b : Fin 7)
  /-- VLOG_ADJUST (R416) -/
  | vlogAdjust (s : Fin 42) (monitorUp : Int)
  /-- ELEC_THIN (R417) -/
  | elecThin (s : Fin 42) (vlogTenthsA : Nat) (inputPermille : Nat)
  /-- WAKE_EVALUATION (R419) -/
  | wakeEvaluation (s : Fin 42)
  /-- WAKE_DEFER_RETRY (R419) -/
  | wakeDeferRetry (s : Fin 42)
  /-- GROVE_WAKE_STAGE (R418) -/
  | groveWakeStage (g : GroveId) (railOk : Bool)
  /-- PHASE_LOST (R420) -/
  | phaseLost (s : Fin 42) (p : Fin 18) (reported : Bool)
  /-- PHASE_SHORT (R421) -/
  | phaseShort (s : Fin 42) (p : Fin 18) (amps : Nat)
  /-- ISOLATION_CHECK (R421) -/
  | isolationCheck (s : Fin 42) (p : Fin 18) (amps : Nat)
  /-- BREAKER_TRIP (R422) -/
  | breakerTrip (s : Fin 42) (cause : TripCause)
  /-- BREAKER_RETEST (R422) -/
  | breakerRetest (s : Fin 42) (percent : Nat)
  /-- PW_BREAKER_CLOSE (R422) -/
  | pwBreakerClose (s : Fin 42) (v : BitVec 32)
  /-- HEADER_STUCK_CLOSED (R424) -/
  | headerStuckClosed (g : GroveId)
  /-- POWER_UP (R426) -/
  | powerUp (feed : Fin 2) (env : BootEnv)
  /-- SENSOR_SAMPLE (R433) -/
  | sensorSample (id : Fin 390) (reading : Option Int)
  /-- COOLANT_SAMPLE (R430) -/
  | coolantSample (inletA : Option Int) (inletB : Option Int) (outlet : Int) (flow : Nat)
  /-- HEAT_FACTOR_STEP (R434) -/
  | heatFactorStep (s : Fin 42)
  /-- HEAT_SWITCH_OFF (R435) -/
  | heatSwitchOff (s : Fin 42)
  /-- HARD_SHUTDOWN (R437) -/
  | hardShutdown (cause : HardCause)
  /-- HEAT_RETURN (R438) -/
  | heatReturn (s : Fin 42)
  /-- SURVEY_START (R117) -/
  | surveyStart
  /-- BOOT_IMAGE_COMPLETE (R458) -/
  | bootImageComplete (k : Nat) (img : ImageFile)
  /-- FORESTER_HANDOVER (R461) -/
  | foresterHandover
  /-- STANDBY_READY (R461) -/
  | standbyReady
  /-- SWAP_REBOOT_DONE (R461) -/
  | swapRebootDone (ok : Bool)
  /-- FORESTER_FAILOVER (R468) -/
  | foresterFailover
  /-- LANDING_LOST (R467) -/
  | landingLost (l : Fin 8)
  /-- SMBUS_BT_READ (R490) -/
  | smbusBtRead (landing : BitVec 8) (offset : BitVec 16)
  /-- GET_VERSION (R457) -/
  | spdmGetVersion (via : MctpVia)
  /-- GET_CAPABILITIES (R457) -/
  | spdmGetCapabilities (via : MctpVia) (flags : BitVec 32)
  /-- NEGOTIATE_ALGORITHMS (R457) -/
  | spdmNegotiateAlgorithms (via : MctpVia) (asym : BitVec 32) (hash : BitVec 32)
  /-- GET_DIGESTS (R457) -/
  | spdmGetDigests (via : MctpVia)
  /-- GET_CERTIFICATE (R457) -/
  | spdmGetCertificate (via : MctpVia) (slot : BitVec 4) (offset : Nat) (len : Nat)
  /-- CHALLENGE (R457) -/
  | spdmChallenge (via : MctpVia) (slot : BitVec 4) (nonce : BitVec 256)
  /-- GET_MEASUREMENTS (R457) -/
  | spdmGetMeasurements (via : MctpVia) (index : BitVec 8) (nonce : BitVec 256) (sign : Bool)
  /-- GETTID (R477) -/
  | pldmGetTid (via : MctpVia)
  /-- GETPLDMVERSION (R477) -/
  | pldmGetPldmVersion (via : MctpVia) (type : BitVec 8)
  /-- GETPLDMTYPES (R477) -/
  | pldmGetPldmTypes (via : MctpVia)
  /-- GETPLDMCOMMANDS (R477) -/
  | pldmGetPldmCommands (via : MctpVia) (type : BitVec 8)
  /-- SETEVENTRECEIVER (R477) -/
  | pldmSetEventReceiver (via : MctpVia) (address : BitVec 8) (enable : BitVec 8)
  /-- GETPDRREPOSITORYINFO (R477) -/
  | pldmGetPdrRepositoryInfo (via : MctpVia)
  /-- GETPDR (R478) -/
  | pldmGetPdr (via : MctpVia) (record : BitVec 32)
  /-- GETSENSORREADING (R478) -/
  | pldmGetSensorReading (via : MctpVia) (sensor : BitVec 16)
  /-- GETSTATESENSORREADINGS (R478) -/
  | pldmGetStateSensorReadings (via : MctpVia) (sensor : BitVec 16)
  /-- SETSTATEEFFECTERSTATES (R478) -/
  | pldmSetStateEffecterStates (via : MctpVia) (effecter : BitVec 16) (state : BitVec 8)
  /-- GETSTATEEFFECTERSTATES (R478) -/
  | pldmGetStateEffecterStates (via : MctpVia) (effecter : BitVec 16)
  /-- SHUTDOWN_REQ (R491) -/
  | shutdownReq
  /-- SHUTDOWN_REQ_RELEASE (R491) -/
  | shutdownReqRelease (env : BootEnv)
  /-- FORCE_OFF (R492) -/
  | forceOff
  /-- FORCE_OFF_RELEASE (R492) -/
  | forceOffRelease (env : BootEnv)
  /-- BLADE_UNSEATED (R484) -/
  | bladeUnseated
  /-- FEEDS_REMOVED_RESTART (R437) -/
  | feedsRemovedRestart (env : BootEnv)
  /-- PPS (R488) -/
  | ppsEdge
  /-- DATA_CREDIT_STARVED (R216) -/
  | dataCreditStarved (p : PortId) (tag : Fin 256)
  /-- TALLY_BEACON_MISSED (R50) -/
  | tallyBeaconMissed (s : Fin 42)
  /-- CARRIER_REFERENCE_BACKUP (R54) -/
  | carrierReferenceBackup
  /-- HOST_TRANSFER_COMPLETE (R347) -/
  | hostTransferComplete (f : Fin 256) (ok : Bool)
  /-- JOURNAL_LOW_CLEAR (R245) -/
  | journalLowClear
  /-- CM_RTU (R383) -/
  | cmRtu (l : Fin 8) (qp : Nat)
  /-- OSFP_MODULE_PRESENT (R485) -/
  | osfpModulePresent (l : Fin 8) (powerTenthsW : Nat)
  /-- TWIN_PORT_TRAINED (R388) -/
  | twinPortTrained (port : Fin 2)
  /-- D0_ENTRY (R340) -/
  | d0Entry (f : Fin 256)
deriving DecidableEq, Repr

end Sys2Proof
end

