-- ==== Sys2Proof/Decode.lean ====
section
/-! DEFINITION. The commands that words spell, and the 32-bit words of the feller instructions (R186, R187). No row of the table of
operations and events gives bits: every command reaches the module through a port, a frame, a record or a pin, so no word of
that table spells one. A feller's own instruction words are decoded and encoded here. -/

namespace Sys2Proof

/-- The command that the low `nbits` bits of a word spell by the table's bits: none, since the table gives no row bits. -/
def decodeTableWord (_nbits _w : Nat) : Option Instr := none

/-! ## Fields of an instruction word (R186) -/

/-- The lane type of a type field; 8 to 15 are reserved (R188). -/
def LaneType.ofCode : Nat → Option LaneType
  | 0 => some .bf16 | 1 => some .fp16 | 2 => some .e4m3 | 3 => some .e5m2 | 4 => some .i8 | 5 => some .i16 | 6 => some .u8
  | 7 => some .u16 | _ => none

/-- The type field of a lane type. -/
def LaneType.code : LaneType → Nat
  | .bf16 => 0 | .fp16 => 1 | .e4m3 => 2 | .e5m2 => 3 | .i8 => 4 | .i16 => 5 | .u8 => 6 | .u16 => 7

/-- Is a lane type an integer type? -/
def LaneType.isInt : LaneType → Bool
  | .i8 | .i16 | .u8 | .u16 => true
  | _ => false

/-- A register number of `n` codes at a place of a word. -/
def regAt (n : Nat) [NeZero n] (w lo len : Nat) : Fin n := Fin.ofNat n (Machine.bits w lo len)

/-- Format A: op, sd, sa, sb, fn. -/
def wordA (op sd sa sb fn : Nat) : BitVec 32 := BitVec.ofNat 32 (op * 2 ^ 26 + sd * 2 ^ 21 + sa * 2 ^ 16 + sb * 2 ^ 11 + fn)

/-- Formats I and B: op, two registers, a 16-bit immediate or offset. -/
def wordI (op r1 r2 imm : Nat) : BitVec 32 := BitVec.ofNat 32 (op * 2 ^ 26 + r1 * 2 ^ 21 + r2 * 2 ^ 16 + imm)

/-- Format J: op, a 26-bit offset. -/
def wordJ (op off : Nat) : BitVec 32 := BitVec.ofNat 32 (op * 2 ^ 26 + off)

/-- Format V: op, vd, va, vb, mask, type, fn. -/
def wordV (op vd va vb mask ty fn : Nat) : BitVec 32 :=
  BitVec.ofNat 32 (op * 2 ^ 26 + vd * 2 ^ 22 + va * 2 ^ 18 + vb * 2 ^ 14 + mask * 2 ^ 12 + ty * 2 ^ 8 + fn)

/-- Format VR: op, sd, va, mask, type, fn. -/
def wordVR (op sd va mask ty fn : Nat) : BitVec 32 :=
  BitVec.ofNat 32 (op * 2 ^ 26 + sd * 2 ^ 21 + va * 2 ^ 17 + mask * 2 ^ 15 + ty * 2 ^ 11 + fn)

/-- Format VM: op, vd, sa, sb, type. -/
def wordVM (op vd sa sb ty : Nat) : BitVec 32 :=
  BitVec.ofNat 32 (op * 2 ^ 26 + vd * 2 ^ 22 + sa * 2 ^ 17 + sb * 2 ^ 12 + ty * 2 ^ 8)

/-- Format S: op, sa, sb, ctr, imm. -/
def wordS (op sa sb ctr imm : Nat) : BitVec 32 :=
  BitVec.ofNat 32 (op * 2 ^ 26 + sa * 2 ^ 21 + sb * 2 ^ 16 + ctr * 2 ^ 10 + imm)

/-! ## Decoding (R187): every code that is not listed is an illegal instruction, and answers none -/

/-- op 0x01, by fn. -/
def decodeAlu (f : FellerId) (sd sa sb : Fin 32) : Nat → Option Instr
  | 0 => some (.fellerAdd f sd sa sb)
  | 1 => some (.fellerSub f sd sa sb)
  | 2 => some (.fellerAnd f sd sa sb)
  | 3 => some (.fellerOr f sd sa sb)
  | 4 => some (.fellerXor f sd sa sb)
  | 5 => some (.fellerShl f sd sa sb)
  | 6 => some (.fellerShr f sd sa sb)
  | 7 => some (.fellerSra f sd sa sb)
  | 8 => some (.fellerMul f sd sa sb)
  | 9 => some (.fellerMulh f sd sa sb)
  | 10 => some (.fellerMin f sd sa sb)
  | 11 => some (.fellerMax f sd sa sb)
  | 12 => some (.fellerMinu f sd sa sb)
  | 13 => some (.fellerMaxu f sd sa sb)
  | 14 => some (.fellerSlt f sd sa sb)
  | 15 => some (.fellerSltu f sd sa sb)
  | _ => none

/-- op 0x18, by fn. -/
def decodeVec (f : FellerId) (vd va vb : Fin 16) (mask : Fin 4) (ty : LaneType) : Nat → Option Instr
  | 0 => some (.vecAdd f vd va vb mask ty)
  | 1 => some (.vecSub f vd va vb mask ty)
  | 2 => some (.vecMul f vd va vb mask ty)
  | 3 => some (.vecFma f vd va vb mask ty)
  | 4 => some (.vecMin f vd va vb mask ty)
  | 5 => some (.vecMax f vd va vb mask ty)
  | 6 => some (.vecAbs f vd va mask ty)
  | 7 => some (.vecNeg f vd va mask ty)
  | 8 => some (.vecCmpEq f (Fin.ofNat 4 vd.val) va vb mask ty)
  | 9 => some (.vecCmpLt f (Fin.ofNat 4 vd.val) va vb mask ty)
  | 10 => some (.vecCmpLe f (Fin.ofNat 4 vd.val) va vb mask ty)
  | 11 => some (.vecSelect f vd va vb mask ty)
  | _ => none

/-- op 0x19, by fn, on integer types. -/
def decodeVecInt (f : FellerId) (vd va vb : Fin 16) (mask : Fin 4) (ty : LaneType) (fn : Nat) : Option Instr :=
  if !ty.isInt then none else
  match fn with
  | 0 => some (.vecAnd f vd va vb mask ty)
  | 1 => some (.vecOr f vd va vb mask ty)
  | 2 => some (.vecXor f vd va vb mask ty)
  | 3 => some (.vecShl f vd va vb mask ty)
  | 4 => some (.vecShr f vd va vb mask ty)
  | 5 => some (.vecSra f vd va vb mask ty)
  | _ => none

/-- op 0x1A, by fn. -/
def decodeReduce (f : FellerId) (sd : Fin 32) (va : Fin 16) (mask : Fin 4) (ty : LaneType) : Nat → Option Instr
  | 0 => some (.vecSum f sd va mask ty)
  | 1 => some (.vecReduceMax f sd va mask ty)
  | 2 => some (.vecReduceMin f sd va mask ty)
  | _ => none

/-- op 0x1E, by fn: conversions, unpacking and packing of MX vectors; unpacking does not read the type. -/
def decodeConvert (f : FellerId) (vd va : Fin 16) (mask : Fin 4) (ty fn : Nat) : Option Instr :=
  if fn < 8 then
    match LaneType.ofCode ty, LaneType.ofCode fn with
    | some t, some u => some (.vecConvert f vd va mask t u)
    | _, _ => none
  else if 16 ≤ fn ∧ fn < 22 then some (.vecUnpackMx f vd va mask (Fin.ofNat 6 (fn - 16)))
  else if 32 ≤ fn ∧ fn < 38 then (LaneType.ofCode ty).map (fun t => .vecPackMx f vd va mask t (Fin.ofNat 6 (fn - 32)))
  else none

/-- op 0x3F, by fn. -/
def decodeMisc (f : FellerId) (sd sa sb : Fin 32) : Nat → Option Instr
  | 0 => some (.fellerHalt f)
  | 1 => some (.fellerTrap f)
  | 2 => some (.csrRead f sd sb)
  | 3 => some (.csrWrite f sa sb)
  | 4 => some (.fellerNop f)
  | _ => none

/-- The command that an instruction word stands for on a feller. -/
def decodeFeller (f : FellerId) (word : BitVec 32) : Option Instr :=
  let w := word.toNat
  let r1 := regAt 32 w 21 5
  let r2 := regAt 32 w 16 5
  let r3 := regAt 32 w 11 5
  let imm := BitVec.ofNat 16 w
  let vd := regAt 16 w 22 4
  let va := regAt 16 w 18 4
  let vb := regAt 16 w 14 4
  let m := regAt 4 w 12 2
  let ra := regAt 16 w 17 4
  let rm := regAt 4 w 15 2
  let ctr := regAt 64 w 10 6
  match Machine.bits w 26 6 with
  | 0x01 => decodeAlu f r1 r2 r3 (Machine.bits w 0 11)
  | 0x02 => some (.fellerAddi f r1 r2 imm)
  | 0x03 => some (.fellerAndi f r1 r2 imm)
  | 0x04 => some (.fellerOri f r1 r2 imm)
  | 0x05 => some (.fellerXori f r1 r2 imm)
  | 0x06 => some (.fellerLui f r1 imm)
  | 0x07 => some (.fellerSlti f r1 r2 imm)
  | 0x08 => some (.fellerLdB f r1 r2 imm)
  | 0x09 => some (.fellerLdH f r1 r2 imm)
  | 0x0A => some (.fellerLdW f r1 r2 imm)
  | 0x0B => some (.fellerLdD f r1 r2 imm)
  | 0x0C => some (.fellerStB f r1 r2 imm)
  | 0x0D => some (.fellerStH f r1 r2 imm)
  | 0x0E => some (.fellerStW f r1 r2 imm)
  | 0x0F => some (.fellerStD f r1 r2 imm)
  | 0x10 => some (.fellerBeq f r1 r2 imm)
  | 0x11 => some (.fellerBne f r1 r2 imm)
  | 0x12 => some (.fellerBlt f r1 r2 imm)
  | 0x13 => some (.fellerBltu f r1 r2 imm)
  | 0x14 => some (.fellerJal f (BitVec.ofNat 26 w))
  | 0x15 => some (.fellerJr f r1)
  | 0x18 => (LaneType.ofCode (Machine.bits w 8 4)).bind (fun t => decodeVec f vd va vb m t (Machine.bits w 0 8))
  | 0x19 => (LaneType.ofCode (Machine.bits w 8 4)).bind (fun t => decodeVecInt f vd va vb m t (Machine.bits w 0 8))
  | 0x1A => (LaneType.ofCode (Machine.bits w 11 4)).bind (fun t => decodeReduce f r1 ra rm t (Machine.bits w 0 11))
  | 0x1B => (LaneType.ofCode (Machine.bits w 11 4)).map (fun t => .vbcast f r1 ra rm t)
  | 0x1C => (LaneType.ofCode (Machine.bits w 8 4)).map (fun t => .vld f vd (regAt 32 w 17 5) (regAt 32 w 12 5) t)
  | 0x1D => (LaneType.ofCode (Machine.bits w 8 4)).map (fun t => .vst f vd (regAt 32 w 17 5) (regAt 32 w 12 5) t)
  | 0x1E => decodeConvert f vd va m (Machine.bits w 8 4) (Machine.bits w 0 8)
  | 0x20 => some (.issue f r1 r2)
  | 0x21 => some (.ctrWait f r1 ctr)
  | 0x22 => some (.ctrAdd f ctr (BitVec.ofNat 10 w))
  | 0x23 => some (.ctrRead f r1 ctr)
  | 0x24 => some (.fence f)
  | 0x25 => some (.taskPush f r1)
  | 0x26 => some (.taskEnd f)
  | 0x3F => decodeMisc f r1 r2 r3 (Machine.bits w 0 11)
  | _ => none

/-! ## Encoding -/

/-- The word of a feller instruction; fields that a format has and the instruction does not use are 0. None for a command that is
no feller instruction. -/
def encodeFeller : Instr → Option (BitVec 32)
  | .fellerAdd _ sd sa sb => some (wordA 0x01 sd.val sa.val sb.val 0)
  | .fellerSub _ sd sa sb => some (wordA 0x01 sd.val sa.val sb.val 1)
  | .fellerAnd _ sd sa sb => some (wordA 0x01 sd.val sa.val sb.val 2)
  | .fellerOr _ sd sa sb => some (wordA 0x01 sd.val sa.val sb.val 3)
  | .fellerXor _ sd sa sb => some (wordA 0x01 sd.val sa.val sb.val 4)
  | .fellerShl _ sd sa sb => some (wordA 0x01 sd.val sa.val sb.val 5)
  | .fellerShr _ sd sa sb => some (wordA 0x01 sd.val sa.val sb.val 6)
  | .fellerSra _ sd sa sb => some (wordA 0x01 sd.val sa.val sb.val 7)
  | .fellerMul _ sd sa sb => some (wordA 0x01 sd.val sa.val sb.val 8)
  | .fellerMulh _ sd sa sb => some (wordA 0x01 sd.val sa.val sb.val 9)
  | .fellerMin _ sd sa sb => some (wordA 0x01 sd.val sa.val sb.val 10)
  | .fellerMax _ sd sa sb => some (wordA 0x01 sd.val sa.val sb.val 11)
  | .fellerMinu _ sd sa sb => some (wordA 0x01 sd.val sa.val sb.val 12)
  | .fellerMaxu _ sd sa sb => some (wordA 0x01 sd.val sa.val sb.val 13)
  | .fellerSlt _ sd sa sb => some (wordA 0x01 sd.val sa.val sb.val 14)
  | .fellerSltu _ sd sa sb => some (wordA 0x01 sd.val sa.val sb.val 15)
  | .fellerAddi _ sd sa imm => some (wordI 0x02 sd.val sa.val imm.toNat)
  | .fellerAndi _ sd sa imm => some (wordI 0x03 sd.val sa.val imm.toNat)
  | .fellerOri _ sd sa imm => some (wordI 0x04 sd.val sa.val imm.toNat)
  | .fellerXori _ sd sa imm => some (wordI 0x05 sd.val sa.val imm.toNat)
  | .fellerLui _ sd imm => some (wordI 0x06 sd.val 0 imm.toNat)
  | .fellerSlti _ sd sa imm => some (wordI 0x07 sd.val sa.val imm.toNat)
  | .fellerLdB _ sd sa imm => some (wordI 0x08 sd.val sa.val imm.toNat)
  | .fellerLdH _ sd sa imm => some (wordI 0x09 sd.val sa.val imm.toNat)
  | .fellerLdW _ sd sa imm => some (wordI 0x0A sd.val sa.val imm.toNat)
  | .fellerLdD _ sd sa imm => some (wordI 0x0B sd.val sa.val imm.toNat)
  | .fellerStB _ sd sa imm => some (wordI 0x0C sd.val sa.val imm.toNat)
  | .fellerStH _ sd sa imm => some (wordI 0x0D sd.val sa.val imm.toNat)
  | .fellerStW _ sd sa imm => some (wordI 0x0E sd.val sa.val imm.toNat)
  | .fellerStD _ sd sa imm => some (wordI 0x0F sd.val sa.val imm.toNat)
  | .fellerBeq _ sa sb off => some (wordI 0x10 sa.val sb.val off.toNat)
  | .fellerBne _ sa sb off => some (wordI 0x11 sa.val sb.val off.toNat)
  | .fellerBlt _ sa sb off => some (wordI 0x12 sa.val sb.val off.toNat)
  | .fellerBltu _ sa sb off => some (wordI 0x13 sa.val sb.val off.toNat)
  | .fellerJal _ off => some (wordJ 0x14 off.toNat)
  | .fellerJr _ sa => some (wordI 0x15 sa.val 0 0)
  | .vecAdd _ vd va vb mask ty => some (wordV 0x18 vd.val va.val vb.val mask.val ty.code 0)
  | .vecSub _ vd va vb mask ty => some (wordV 0x18 vd.val va.val vb.val mask.val ty.code 1)
  | .vecMul _ vd va vb mask ty => some (wordV 0x18 vd.val va.val vb.val mask.val ty.code 2)
  | .vecFma _ vd va vb mask ty => some (wordV 0x18 vd.val va.val vb.val mask.val ty.code 3)
  | .vecMin _ vd va vb mask ty => some (wordV 0x18 vd.val va.val vb.val mask.val ty.code 4)
  | .vecMax _ vd va vb mask ty => some (wordV 0x18 vd.val va.val vb.val mask.val ty.code 5)
  | .vecAbs _ vd va mask ty => some (wordV 0x18 vd.val va.val 0 mask.val ty.code 6)
  | .vecNeg _ vd va mask ty => some (wordV 0x18 vd.val va.val 0 mask.val ty.code 7)
  | .vecCmpEq _ md va vb mask ty => some (wordV 0x18 md.val va.val vb.val mask.val ty.code 8)
  | .vecCmpLt _ md va vb mask ty => some (wordV 0x18 md.val va.val vb.val mask.val ty.code 9)
  | .vecCmpLe _ md va vb mask ty => some (wordV 0x18 md.val va.val vb.val mask.val ty.code 10)
  | .vecSelect _ vd va vb mask ty => some (wordV 0x18 vd.val va.val vb.val mask.val ty.code 11)
  | .vecAnd _ vd va vb mask ty => some (wordV 0x19 vd.val va.val vb.val mask.val ty.code 0)
  | .vecOr _ vd va vb mask ty => some (wordV 0x19 vd.val va.val vb.val mask.val ty.code 1)
  | .vecXor _ vd va vb mask ty => some (wordV 0x19 vd.val va.val vb.val mask.val ty.code 2)
  | .vecShl _ vd va vb mask ty => some (wordV 0x19 vd.val va.val vb.val mask.val ty.code 3)
  | .vecShr _ vd va vb mask ty => some (wordV 0x19 vd.val va.val vb.val mask.val ty.code 4)
  | .vecSra _ vd va vb mask ty => some (wordV 0x19 vd.val va.val vb.val mask.val ty.code 5)
  | .vecSum _ sd va mask ty => some (wordVR 0x1A sd.val va.val mask.val ty.code 0)
  | .vecReduceMax _ sd va mask ty => some (wordVR 0x1A sd.val va.val mask.val ty.code 1)
  | .vecReduceMin _ sd va mask ty => some (wordVR 0x1A sd.val va.val mask.val ty.code 2)
  | .vbcast _ sd va mask ty => some (wordVR 0x1B sd.val va.val mask.val ty.code 0)
  | .vld _ vd sa sb ty => some (wordVM 0x1C vd.val sa.val sb.val ty.code)
  | .vst _ vd sa sb ty => some (wordVM 0x1D vd.val sa.val sb.val ty.code)
  | .vecConvert _ vd va mask ty dst => some (wordV 0x1E vd.val va.val 0 mask.val ty.code dst.code)
  | .vecUnpackMx _ vd va mask fmt => some (wordV 0x1E vd.val va.val 0 mask.val 0 (16 + fmt.val))
  | .vecPackMx _ vd va mask ty fmt => some (wordV 0x1E vd.val va.val 0 mask.val ty.code (32 + fmt.val))
  | .issue _ sa sb => some (wordS 0x20 sa.val sb.val 0 0)
  | .ctrWait _ sa ctr => some (wordS 0x21 sa.val 0 ctr.val 0)
  | .ctrAdd _ ctr imm => some (wordS 0x22 0 0 ctr.val imm.toNat)
  | .ctrRead _ sa ctr => some (wordS 0x23 sa.val 0 ctr.val 0)
  | .fence _ => some (wordS 0x24 0 0 0 0)
  | .taskPush _ sa => some (wordS 0x25 sa.val 0 0 0)
  | .taskEnd _ => some (wordS 0x26 0 0 0 0)
  | .fellerHalt _ => some (wordA 0x3F 0 0 0 0)
  | .fellerTrap _ => some (wordA 0x3F 0 0 0 1)
  | .csrRead _ sd csr => some (wordA 0x3F sd.val 0 csr.val 2)
  | .csrWrite _ sa csr => some (wordA 0x3F 0 sa.val csr.val 3)
  | .fellerNop _ => some (wordA 0x3F 0 0 0 4)
  | _ => none

/-- The feller on which a feller instruction runs. -/
def fellerOf : Instr → Option FellerId
  | .fellerAdd f _ _ _ => some f
  | .fellerSub f _ _ _ => some f
  | .fellerAnd f _ _ _ => some f
  | .fellerOr f _ _ _ => some f
  | .fellerXor f _ _ _ => some f
  | .fellerShl f _ _ _ => some f
  | .fellerShr f _ _ _ => some f
  | .fellerSra f _ _ _ => some f
  | .fellerMul f _ _ _ => some f
  | .fellerMulh f _ _ _ => some f
  | .fellerMin f _ _ _ => some f
  | .fellerMax f _ _ _ => some f
  | .fellerMinu f _ _ _ => some f
  | .fellerMaxu f _ _ _ => some f
  | .fellerSlt f _ _ _ => some f
  | .fellerSltu f _ _ _ => some f
  | .fellerAddi f _ _ _ => some f
  | .fellerAndi f _ _ _ => some f
  | .fellerOri f _ _ _ => some f
  | .fellerXori f _ _ _ => some f
  | .fellerLui f _ _ => some f
  | .fellerSlti f _ _ _ => some f
  | .fellerLdB f _ _ _ => some f
  | .fellerLdH f _ _ _ => some f
  | .fellerLdW f _ _ _ => some f
  | .fellerLdD f _ _ _ => some f
  | .fellerStB f _ _ _ => some f
  | .fellerStH f _ _ _ => some f
  | .fellerStW f _ _ _ => some f
  | .fellerStD f _ _ _ => some f
  | .fellerBeq f _ _ _ => some f
  | .fellerBne f _ _ _ => some f
  | .fellerBlt f _ _ _ => some f
  | .fellerBltu f _ _ _ => some f
  | .fellerJal f _ => some f
  | .fellerJr f _ => some f
  | .vecAdd f _ _ _ _ _ => some f
  | .vecSub f _ _ _ _ _ => some f
  | .vecMul f _ _ _ _ _ => some f
  | .vecFma f _ _ _ _ _ => some f
  | .vecMin f _ _ _ _ _ => some f
  | .vecMax f _ _ _ _ _ => some f
  | .vecAbs f _ _ _ _ => some f
  | .vecNeg f _ _ _ _ => some f
  | .vecCmpEq f _ _ _ _ _ => some f
  | .vecCmpLt f _ _ _ _ _ => some f
  | .vecCmpLe f _ _ _ _ _ => some f
  | .vecSelect f _ _ _ _ _ => some f
  | .vecAnd f _ _ _ _ _ => some f
  | .vecOr f _ _ _ _ _ => some f
  | .vecXor f _ _ _ _ _ => some f
  | .vecShl f _ _ _ _ _ => some f
  | .vecShr f _ _ _ _ _ => some f
  | .vecSra f _ _ _ _ _ => some f
  | .vecSum f _ _ _ _ => some f
  | .vecReduceMax f _ _ _ _ => some f
  | .vecReduceMin f _ _ _ _ => some f
  | .vbcast f _ _ _ _ => some f
  | .vld f _ _ _ _ => some f
  | .vst f _ _ _ _ => some f
  | .vecConvert f _ _ _ _ _ => some f
  | .vecUnpackMx f _ _ _ _ => some f
  | .vecPackMx f _ _ _ _ _ => some f
  | .issue f _ _ => some f
  | .ctrWait f _ _ => some f
  | .ctrAdd f _ _ => some f
  | .ctrRead f _ _ => some f
  | .fence f => some f
  | .taskPush f _ => some f
  | .taskEnd f => some f
  | .fellerHalt f => some f
  | .fellerTrap f => some f
  | .csrRead f _ _ => some f
  | .csrWrite f _ _ => some f
  | .fellerNop f => some f
  | _ => none

end Sys2Proof
end

