-- ==== Sys2Proof/Config.lean ====
section
/-! DEFINITION. What the manual leaves open and the machine still needs: constants without a body. Nothing can
evaluate them, so every statement about a state holds whatever they are. -/

namespace Sys2Proof.Config

/-- A free value of `w` bits: the value that an instruction leaves undefined or the manual does not state.
The argument is a counter of the state that advances at each use (log 10). -/
opaque freeBits : Nat → (w : Nat) → BitVec w

/-- Whether the branch offset of a feller counts from the branch itself (true) or from the instruction after it
(R186 does not say; log 11). -/
opaque branchFromSelf : Bool

/-- The sign of an E4M3 NaN that the vector unit produces (R128 writes `S.1111.111`; log 12). -/
opaque e4m3NanSign : Bool

/-- Which of the six E5M2 NaN codes the vector unit produces (R128 names none; log 12). -/
opaque e5m2Nan : Fin 6

/-- The payload of a link-control or lane-sparing flit (types 0x8 and 0x9), whose layout the manual does not give:
the arguments are the message's kind and its two operands (log 20). -/
opaque linkPayload : Nat → Nat → Nat → BitVec 1920

/-- The payload bits that a corrupting injection flips: R474 says one to eight, and not which (log 21). -/
opaque flipMask : BitVec 1920

/-- The landing whose journal segment a stand writes to: "the landing that its route plan names" (R245; log 25). -/
opaque journalLanding : Nat → Fin 8

/-- The Sequence Table base that relocation kind 6 writes for an image's handles; the manual gives no value (R217; log 31). -/
opaque sequenceTableBase : Nat

/-- The part's serial number (CP_MODULE_ID); the base MAC address of its ports (R362); both are per part (log 3). -/
opaque serial : BitVec 64
opaque baseMac : BitVec 48

/-! Cryptography, which the manual takes from other standards (R21, R442 to R457; log 91): SHA-384, the signatures of the identity keys,
the digests of the mask ROM and of the loader part of a firmware record, the identity public keys with their certificates, and the SPDM
certificate chain of slot 0. -/

opaque sha384 : List Byte → BitVec 384
opaque rsaSign : List Byte → List Byte
opaque slhSign : List Byte → List Byte
opaque romDigest : BitVec 384
opaque loaderDigest : BitVec 384 → BitVec 384
opaque rsaIdentity : List Byte
opaque slhIdentity : List Byte
opaque rsaCertificate : List Byte
opaque slhCertificate : List Byte
opaque certificateChain : List Byte

end Sys2Proof.Config
end

