-- ==== Sys2Proof/Machine/Numeric.lean ====
section
/-! DEFINITION. Exact values, the element formats of R124 and R164, the two roundings of R143 and R145, and the
counter hash of R146. Every computation is exact on integers and rounds once, where the manual says so. -/

namespace Sys2Proof.Machine

/-- An exact value `num / den × 2^exp`; `den` is positive. -/
structure Ex where
  num : Int
  den : Nat
  exp : Int
deriving DecidableEq, Repr

/-- The integer `n`. -/
def Ex.ofInt (n : Int) : Ex := ⟨n, 1, 0⟩

/-- `n × 2^e`. -/
def Ex.dy (n e : Int) : Ex := ⟨n, 1, e⟩

/-- Exact product. -/
def Ex.mul (a b : Ex) : Ex := ⟨a.num * b.num, a.den * b.den, a.exp + b.exp⟩

/-- Exact sum, on the lower of the two exponents. -/
def Ex.add (a b : Ex) : Ex :=
  let e := min a.exp b.exp
  ⟨a.num * 2 ^ (a.exp - e).toNat * b.den + b.num * 2 ^ (b.exp - e).toNat * a.den, a.den * b.den, e⟩

/-- Negation. -/
def Ex.neg (a : Ex) : Ex := ⟨-a.num, a.den, a.exp⟩

/-- Exact quotient by a positive natural number. -/
def Ex.divNat (a : Ex) (n : Nat) : Ex := ⟨a.num, a.den * n, a.exp⟩

/-- Magnitude. -/
def Ex.abs (a : Ex) : Ex := ⟨a.num.natAbs, a.den, a.exp⟩

/-- Exact order: is `a` less than `b`? -/
def Ex.lt (a b : Ex) : Bool :=
  let d := a.add b.neg
  decide (d.num < 0)

/-- The sum of a list of exact values. -/
def Ex.sum (xs : List Ex) : Ex := xs.foldl Ex.add (Ex.ofInt 0)

/-- The value as a fraction on the grid of spacing `2^g`: numerator and positive denominator. -/
def Ex.onGrid (a : Ex) (g : Int) : Int × Nat :=
  if g ≤ a.exp then (a.num * 2 ^ (a.exp - g).toNat, a.den) else (a.num, a.den * 2 ^ (g - a.exp).toNat)

/-- floor(log2 |v|) of a value that is not 0. -/
def Ex.log2 (a : Ex) : Int :=
  let n := a.num.natAbs
  let est : Int := Int.ofNat (Nat.log2 n) - Int.ofNat (Nat.log2 a.den)
  let ok := if 0 ≤ est then decide (a.den * 2 ^ est.toNat ≤ n) else decide (a.den ≤ n * 2 ^ (-est).toNat)
  (if ok then est else est - 1) + a.exp

/-- The two rounding modes of R143: to nearest even, and stochastic with the 24-bit hash output `r` (R145). -/
inductive Rounding where
  | nearestEven
  | stochastic (r : Nat)
deriving DecidableEq, Repr

/-- A fraction rounded to an integer. -/
def roundFrac (num : Int) (den : Nat) : Rounding → Int
  | .nearestEven =>
    let q := num / (den : Int)
    let r := num % (den : Int)
    if 2 * r < den then q else if (den : Int) < 2 * r then q + 1 else if q % 2 = 0 then q else q + 1
  | .stochastic h =>
    let q := num / (den : Int)
    let r := num % (den : Int)
    if r = 0 then q else if (den : Int) * h < r * 2 ^ 24 then q + 1 else q

/-- The value rounded to a multiple of `2^g`, as the multiplier. -/
def Ex.roundGrid (a : Ex) (g : Int) (m : Rounding) : Int :=
  roundFrac (a.onGrid g).1 (a.onGrid g).2 m

/-- floor of the value divided by `2^g`. -/
def Ex.floorGrid (a : Ex) (g : Int) : Int := (a.onGrid g).1 / ((a.onGrid g).2 : Int)

/-! ## Element formats -/

/-- Which codes of the highest exponent a format gives up to special values (R124). -/
inductive Special where
  | infNan | nanOnly | none
deriving DecidableEq, Repr

/-- A floating-point element format (R124). -/
structure FFmt where
  ebits   : Nat
  mbits   : Nat
  bias    : Int
  special : Special
deriving DecidableEq, Repr

def FFmt.e4m3 : FFmt := ⟨4, 3, 7, .nanOnly⟩
def FFmt.e5m2 : FFmt := ⟨5, 2, 15, .infNan⟩
def FFmt.e3m2 : FFmt := ⟨3, 2, 3, .none⟩
def FFmt.e2m3 : FFmt := ⟨2, 3, 1, .none⟩
def FFmt.e2m1 : FFmt := ⟨2, 1, 1, .none⟩
def FFmt.bf16 : FFmt := ⟨8, 7, 127, .infNan⟩
def FFmt.fp16 : FFmt := ⟨5, 10, 15, .infNan⟩

/-- Width of an element in bits. -/
def FFmt.width (f : FFmt) : Nat := 1 + f.ebits + f.mbits

/-- The magnitude code of the largest finite value. -/
def FFmt.maxCode (f : FFmt) : Nat :=
  match f.special with
  | .infNan => (2 ^ f.ebits - 1) * 2 ^ f.mbits - 1
  | .nanOnly => 2 ^ (f.ebits + f.mbits) - 2
  | .none => 2 ^ (f.ebits + f.mbits) - 1

/-- What a code stands for: a sign with a magnitude `man × 2^exp`, an infinity or a NaN. -/
inductive FVal where
  | fin (neg : Bool) (man : Nat) (exp : Int)
  | inf (neg : Bool)
  | nan
deriving DecidableEq, Repr

/-- Decode an element (R124). -/
def FFmt.decode (f : FFmt) (code : Nat) : FVal :=
  let s := bit code (f.ebits + f.mbits)
  let e := bits code f.mbits f.ebits
  let m := bits code 0 f.mbits
  if f.special = .infNan ∧ e = 2 ^ f.ebits - 1 then (if m = 0 then .inf s else .nan)
  else if f.special = .nanOnly ∧ e = 2 ^ f.ebits - 1 ∧ m = 2 ^ f.mbits - 1 then .nan
  else if e = 0 then .fin s m (1 - f.bias - f.mbits)
  else .fin s (m + 2 ^ f.mbits) (Int.ofNat e - f.bias - f.mbits)

/-- The exact value of a finite decoded element; 0 for the others. -/
def FVal.ex : FVal → Ex
  | .fin s m e => Ex.dy (if s then -(m : Int) else m) e
  | _ => Ex.ofInt 0

/-- Is the value finite? -/
def FVal.finite : FVal → Bool
  | .fin _ _ _ => true
  | _ => false

/-- The sign of a decoded value. -/
def FVal.sign : FVal → Bool
  | .fin s _ _ => s
  | .inf s => s
  | .nan => false

/-- The magnitude code to which an exact value rounds, without a bound. -/
def FFmt.roundMag (f : FFmt) (v : Ex) (m : Rounding) : Nat :=
  if v.num = 0 then 0 else
  let e := max v.log2 (1 - f.bias)
  let q := (v.roundGrid (e - f.mbits) m).natAbs
  ((e + f.bias - 1).toNat) * 2 ^ f.mbits + q

/-- The code with the given sign and magnitude code. -/
def FFmt.pack (f : FFmt) (neg : Bool) (mag : Nat) : Nat := mag + b2n neg * 2 ^ (f.ebits + f.mbits)

/-- Encode with saturation: a result beyond the largest finite value becomes it (R127 step 4, R145). -/
def FFmt.encodeSat (f : FFmt) (v : Ex) (m : Rounding) : Nat :=
  f.pack (decide (v.num < 0)) (min (f.roundMag v m) f.maxCode)

/-- The code of the NaN that the vector unit produces in a format (R128). -/
def FFmt.nanCode (f : FFmt) : Nat :=
  if f = .bf16 then 0x7FC0
  else if f = .fp16 then 0x7E00
  else if f = .e4m3 then (if Config.e4m3NanSign then 0xFF else 0x7F)
  else 0x7D + Config.e5m2Nan.val % 3 + 0x80 * (Config.e5m2Nan.val / 3)

/-- The code of an infinity: E4M3 has none and takes the largest normal (R128). -/
def FFmt.infCode (f : FFmt) (neg : Bool) : Nat :=
  f.pack neg (if f.special = .infNan then (2 ^ f.ebits - 1) * 2 ^ f.mbits else f.maxCode)

/-- Encode an exact value as the vector unit does: nearest even, overflow to infinity or, for E4M3, to the largest
normal (R128). `neg` is the sign of an exact zero. -/
def FFmt.encode (f : FFmt) (neg : Bool) (v : Ex) : Nat :=
  let s := if v.num = 0 then neg else decide (v.num < 0)
  let mag := f.roundMag v .nearestEven
  if f.maxCode < mag then f.infCode s else f.pack s mag

/-- Encode a decoded value in a format (vector conversions). -/
def FFmt.ofVal (f : FFmt) : FVal → Nat
  | .nan => f.nanCode
  | .inf s => f.infCode s
  | .fin s m e => f.encode s (Ex.dy (if s then -(m : Int) else m) e)

/-- A bfloat16 that holds an exact value rounded to nearest even; overflow gives infinity. -/
def toBf16 (v : Ex) : Nat := FFmt.bf16.encode false v

/-- The exact value of a finite bfloat16. -/
def bf16Ex (code : Nat) : Ex := (FFmt.bf16.decode code).ex

/-! ## The format codes of R164 and MX blocks -/

/-- The element format of a code of R164; MXINT8 (5) has none. -/
def fmtOf (code : Nat) : Option FFmt :=
  match code with
  | 0 => some .e4m3 | 1 => some .e5m2 | 2 => some .e3m2 | 3 => some .e2m3 | 4 => some .e2m1
  | 6 => some .e4m3 | 7 => some .e5m2 | 8 => some .bf16 | 9 => some .fp16
  | _ => none

/-- Is the code of R164 one of the MX formats? -/
def isMx (code : Nat) : Bool := decide (code ≤ 5)

/-- Bits of one element of a format code. -/
def elemBits (code : Nat) : Nat :=
  match code with
  | 0 | 1 | 5 | 6 | 7 => 8
  | 2 | 3 => 6
  | 4 => 4
  | _ => 16

/-- Element bytes of one 32-element MX block (R126). -/
def blockBytes (code : Nat) : Nat := 4 * elemBits code

/-- emax of an MX element format (R124). -/
def emaxOf (code : Nat) : Int :=
  match code with
  | 0 => 8 | 1 => 15 | 2 => 4 | 3 => 2 | 4 => 2 | _ => 0

/-- Exact value of an MX element before its scale; none for a NaN or infinity. -/
def mxElem (code e : Nat) : Option Ex :=
  if code = 5 then some (Ex.dy (signed 8 e) (-6))
  else match fmtOf code with
    | none => none
    | some f => if (f.decode e).finite then some (f.decode e).ex else none

/-- Encode an MX element: rounding and saturation (R127 steps 3 and 4); MXINT8 never gives −128. -/
def mxEncode (code : Nat) (v : Ex) (m : Rounding) : Nat :=
  if code = 5 then unsigned 8 (max (-127) (min 127 (v.roundGrid (-6) m)))
  else match fmtOf code with
    | none => 0
    | some f => f.encodeSat v m

/-- An MX block: the scale byte and its element codes. -/
structure MxBlock where
  scale     : Nat
  elems     : List Nat
  underflow : Bool
deriving DecidableEq, Repr

/-- The largest magnitude of a list of exact values. -/
def amax (vs : List Ex) : Ex := vs.foldl (fun a v => if a.lt v.abs then v.abs else a) (Ex.ofInt 0)

/-- Is a magnitude code zero? The sign bit of an element format does not count. -/
def mxIsZero (code e : Nat) : Bool :=
  if code = 5 then e == 0 else e % 2 ^ (elemBits code - 1) == 0

/-- Conversion of 32 exact values into an MX block (R127); `rnd i` is the rounding of element `i`. -/
def mxPack (code : Nat) (vs : List Ex) (rnd : Nat → Rounding) : MxBlock :=
  let a := amax vs
  if a.num = 0 then ⟨0, vs.map (fun _ => 0), false⟩
  else
    let x := max (-127) (min 127 (a.log2 - emaxOf code))
    let es := vs.zipIdx.map (fun p => mxEncode code (p.1.mul (Ex.dy 1 (-x))) (rnd p.2))
    if es.all (mxIsZero code) then ⟨0, vs.map (fun _ => 0), true⟩
    else ⟨(x + 127).toNat, es, false⟩

/-- Exact values of an MX block; none when the scale or an element is a NaN or infinity. -/
def mxUnpack (code scale : Nat) (es : List Nat) : Option (List Ex) :=
  if scale = 255 then none
  else es.mapM (fun e => (mxElem code e).map (fun v => v.mul (Ex.dy 1 (Int.ofNat scale - 127))))

/-- The number whose `w`-bit digits, least significant first, are the list. -/
def packDigits (w : Nat) : List Nat → Nat
  | [] => 0
  | d :: r => d % 2 ^ w + 2 ^ w * packDigits w r

/-- The `n` `w`-bit digits of a number, least significant first. -/
def unpackDigits (w : Nat) : Nat → Nat → List Nat
  | 0, _ => []
  | n + 1, v => v % 2 ^ w :: unpackDigits w n (v / 2 ^ w)

/-- Packed element bytes of a block (R126): each format's elements fill consecutive bits, little-endian. -/
def packElems (code : Nat) (es : List Nat) : List Byte :=
  bytesLE (es.length * elemBits code / 8) (packDigits (elemBits code) es)

/-- The element codes that packed bytes hold. -/
def unpackElems (code n : Nat) (bs : List Byte) : List Nat := unpackDigits (elemBits code) n (fromLE bs)

/-- `n` rounded up to a multiple of 64. -/
def up64 (n : Nat) : Nat := (n + 63) / 64 * 64

/-- Bytes of an MX vector of `n` blocks in its layout (R126). -/
def mxVecBytes (code n : Nat) : Nat := up64 n + up64 (n * blockBytes code)

/-- An MX vector in its layout: scales, zeros to a multiple of 64, elements, zeros to a multiple of 64 (R126). -/
def mxLayout (code : Nat) (blocks : List MxBlock) : List Byte :=
  let n := blocks.length
  padTo (up64 n) (blocks.map (fun b => BitVec.ofNat 8 b.scale)) ++
  padTo (up64 (n * blockBytes code)) (blocks.flatMap (fun b => packElems code b.elems))

/-- The blocks of an MX vector of `n` blocks: scale and element codes. -/
def mxParse (code n : Nat) (bs : List Byte) : List (Nat × List Nat) :=
  (upTo n).map (fun i =>
    (((bs.getD i 0).toNat),
     unpackElems code 32 ((bs.drop (up64 n + i * blockBytes code)).take (blockBytes code))))

/-- Exact values of the elements of a stored vector of `count` elements in a format code (R126, R164); none where an
element is not finite. -/
def decodeVector (code count : Nat) (bs : List Byte) : Option (List Ex) :=
  if isMx code then
    ((mxParse code (ceilDiv count 32) bs).mapM (fun p => mxUnpack code p.1 p.2)).map (fun l => l.flatten.take count)
  else
    match fmtOf code with
    | none => none
    | some f =>
      let w := elemBits code / 8
      (upTo count).mapM (fun i =>
        let v := f.decode (fromLE ((bs.drop (i * w)).take w))
        if v.finite then some v.ex else none)

/-- Bytes that a stored vector of `count` elements takes, before filling to whole lines. -/
def vectorBytes (code count : Nat) : Nat :=
  if isMx code then mxVecBytes code (ceilDiv count 32) else count * (elemBits code / 8)

/-- Exact values stored in a format code; `rnd i` is the rounding of element `i` (R127, R138). Standalone values
saturate only under stochastic rounding (R145); to nearest even they overflow as R128 says. -/
def encodeVector (code : Nat) (vs : List Ex) (rnd : Nat → Rounding) : List Byte :=
  if isMx code then
    mxLayout code ((chunks 32 (vs.length + 1) vs).zipIdx.map (fun p =>
      mxPack code (p.1 ++ List.replicate (32 - p.1.length) (Ex.ofInt 0)) (fun i => rnd (32 * p.2 + i))))
  else
    match fmtOf code with
    | none => []
    | some f => vs.zipIdx.flatMap (fun p => bytesLE (elemBits code / 8)
        (match rnd p.2 with
         | .nearestEven => f.encode false p.1
         | .stochastic r => f.encodeSat p.1 (.stochastic r)))

/-! ## Counter hash (R146) -/

/-- `ch_mix` of R146, on 64-bit words. -/
def chMix (z : BitVec 64) : BitVec 64 :=
  let z := (z ^^^ (z >>> 31)) * 0x8F3A51C6D97B24E5#64
  let z := (z ^^^ (z >>> 29)) * 0xB46D0E2973A1C58B#64
  z ^^^ (z >>> 32)

/-- The counter hash: 24 bits (R146). -/
def counterHash (seed : BitVec 64) (model : BitVec 32) (seq : BitVec 64) (pos : BitVec 32) (layer : BitVec 16)
    (elem : BitVec 32) (use : BitVec 8) : Nat :=
  let h := chMix (seed ^^^ 0x6C1FE84BA3905D27#64)
  let h := chMix (h ^^^ BitVec.ofNat 64 (model.toNat * 2 ^ 32 + use.toNat * 2 ^ 16 + layer.toNat))
  let h := chMix (h ^^^ seq)
  let h := chMix (h ^^^ BitVec.ofNat 64 (pos.toNat * 2 ^ 32 + elem.toNat))
  h.toNat / 2 ^ 40

/-! ## The elementary functions of R177 and the power of R180

Each is computed in integers with far more bits than the rounding needs, then rounded once (log 13). -/

/-- Fraction bits of the fixed-point values below. -/
def fxBits : Nat := 420

/-- 1 in fixed point. -/
def fxOne : Int := 2 ^ fxBits

/-- Fixed-point value of an exact value, rounded down. -/
def fxOf (v : Ex) : Int := v.floorGrid (-(fxBits : Int))

/-- ln 2 in fixed point: 2 × Σ 1 / ((2i+1) × 3^(2i+1)). -/
def fxLn2 : Int :=
  (upTo 140).foldl (fun a i => a + 2 * fxOne / (((2 * i + 1) * 3 ^ (2 * i + 1) : Nat) : Int)) 0

/-- e^r in fixed point for |r| ≤ 1. -/
def fxExpSmall (r : Int) : Int :=
  ((upTo 100).foldl (fun (p : Int × Int) i => (p.1 + p.2, p.2 * r / fxOne / ((i + 1 : Nat) : Int))) (0, fxOne)).1

/-- e^v as an exact dyadic value close to it: a fixed-point mantissa times a power of two. -/
def exExp (v : Ex) : Ex :=
  let x := fxOf v
  let k := x / fxLn2
  ⟨fxExpSmall (x - k * fxLn2), 1, k - fxBits⟩

/-- The integer square root, by `fuel` steps of Newton's method from above. -/
def isqrtAux : Nat → Nat → Nat → Nat
  | 0, _, x => x
  | fuel + 1, n, x => let y := (x + n / x) / 2; if y < x then isqrtAux fuel n y else x

/-- The integer square root. -/
def isqrt (n : Nat) : Nat := if n = 0 then 0 else isqrtAux (2 * Nat.log2 n + 8) n (2 ^ (Nat.log2 n / 2 + 1))

/-- The logistic σ(x) = 1 / (1 + e^−x), as the correctly rounded bfloat16 (R177). -/
def sigmaBf (v : Ex) : Nat :=
  if (Ex.dy 200 0).lt v then toBf16 (Ex.ofInt 1) else if v.lt (Ex.dy (-200) 0) then 0 else
  let e := exExp v.neg
  let s := e.add (Ex.ofInt 1)
  let p := s.onGrid (-(fxBits : Int))
  toBf16 (Ex.dy (2 ^ 1024 * (p.2 : Int) / p.1) (Int.ofNat fxBits - 1024))

/-- π in fixed point, by Machin's formula. -/
def fxPi : Int :=
  let at1 (k : Nat) : Int := (upTo 320).foldl (fun a i =>
    let t := fxOne / (((2 * i + 1) * k ^ (2 * i + 1) : Nat) : Int)
    if i % 2 = 0 then a + t else a - t) 0
  16 * at1 5 - 4 * at1 239

/-- The normal distribution Φ(x), as the correctly rounded bfloat16 (R177):
1/2 + φ(x) × Σ x^(2n+1) / (1·3·…·(2n+1)). -/
def phiBf (v : Ex) : Nat :=
  if (Ex.dy 16 0).lt v then toBf16 (Ex.ofInt 1) else if v.lt (Ex.dy (-16) 0) then 0 else
  let x := fxOf v
  let x2 := x * x / fxOne
  let ser := ((upTo 700).foldl (fun (p : Int × Int) i => (p.1 + p.2, p.2 * x2 / fxOne / ((2 * i + 3 : Nat) : Int)))
    (0, x)).1
  let dens := exExp ((v.mul v).mul (Ex.dy (-1) (-1)))
  let root : Int := Int.ofNat (isqrt (2 * fxPi * fxOne).toNat)
  let phi := (dens.onGrid (-(fxBits : Int))).1 / ((dens.onGrid (-(fxBits : Int))).2 : Int) * fxOne / root
  toBf16 (Ex.dy (fxOne / 2 + phi * ser / fxOne) (-(fxBits : Int)))

/-- 1 / √x for x > 0, as the correctly rounded bfloat16 (R177). -/
def rsqrtBf (v : Ex) : Nat :=
  let e := v.log2
  let h := e / 2
  let m := v.mul (Ex.dy 1 (-(2 * h)))
  let p := m.onGrid (-2000)
  let r := isqrt (2 ^ 600 * 2 ^ 2000 * p.2 / p.1.toNat)
  toBf16 (Ex.dy r (-300 - h))

/-- Is `(2n − 1)^1024 ≤ 2^(k + 1024)`, that is 2n − 1 ≤ 2 × 2^(k/1024)? -/
def powAtLeast (n k : Nat) : Bool := decide ((2 * n - 1) ^ 1024 ≤ 2 ^ (k + 1024))

/-- The largest `n` below `2^i` above `base` for which `powAtLeast`, by bisection. -/
def powSearch : Nat → Nat → Nat → Nat
  | 0, base, _ => base
  | i + 1, base, k => if powAtLeast (base + 2 ^ i) k then powSearch i (base + 2 ^ i) k else powSearch i base k

/-- The integer nearest to 2^(k / 1024), ties to even (R180). -/
def pow2Near (k : Int) : Nat :=
  if k ≤ -1024 then 0 else if k < 0 then 1 else powSearch (k.toNat / 1024 + 2) 0 k.toNat

end Sys2Proof.Machine
end

