-- ==== Sys2Proof/Machine/DescOps.lean ====
section
/-! DEFINITION. Stage descriptors: their fields, and the checks that need nothing but the descriptor (R163, R164, R170 to R195). -/

namespace Sys2Proof.Machine

/-! ## Descriptors (R163) -/

/-- Bits `[hi:lo]` of a descriptor. -/
def fieldOf (d : Descriptor) (lo hi : Nat) : Nat := bits d.toNat lo (hi - lo + 1)

def descStage (d : Descriptor) : Nat := fieldOf d 0 3
def descOp (d : Descriptor) : Nat := fieldOf d 4 7
def descSeqValid (d : Descriptor) : Bool := bit d.toNat 8
def descWaitEn (d : Descriptor) : Bool := bit d.toNat 9
def descDoneEn (d : Descriptor) : Bool := bit d.toNat 10
def descWaitCtr (d : Descriptor) : Nat := fieldOf d 16 21
def descDoneCtr (d : Descriptor) : Nat := fieldOf d 22 27
def descWaitValue (d : Descriptor) : Nat := fieldOf d 32 47
def descSeq (d : Descriptor) : Nat := fieldOf d 48 62
def descLayer (d : Descriptor) : Nat := fieldOf d 64 79
def descStep (d : Descriptor) : Nat := fieldOf d 80 111
def descTag (d : Descriptor) : Nat := fieldOf d 112 119

/-- The sequence of a descriptor that belongs to one. -/
def descOwner (d : Descriptor) : Option Nat := if descSeqValid d then some (descSeq d) else none

/-- The layer step of a descriptor. -/
def descKey (d : Descriptor) : StepKey := ⟨descTag d, descSeq d, descLayer d, descStep d⟩

/-- The stages, in the order of their codes. -/
def stScaler : Nat := 0
def stDispatch : Nat := 1
def stAccum : Nat := 2
def stFinisher : Nat := 3
def stScore : Nat := 4
def stSoftmax : Nat := 5
def stSkidder : Nat := 6
def stYarder : Nat := 7
def stDeck : Nat := 8
def stTask : Nat := 9

/-- Queue depths (R166, R206). -/
def queueDepth (stage : Nat) : Nat :=
  match stage with
  | 0 => 16 | 1 => 64 | 2 => 32 | 3 => 16 | 4 => 256 | 5 => 16 | 6 => 32 | 7 => 64 | 8 => 16 | 9 => 32 | _ => 0

/-! ## Deck lines -/

/-- Lines of a deck. -/
def deckLines : Nat := 262144

/-- Do `count` lines from `line` lie in the deck? -/
def linesIn (line count : Nat) : Bool := decide (line + count ≤ deckLines)

/-! ## What a descriptor alone shows to be wrong (R163) -/

/-- Operations of a stage. -/
def opCount (stage : Nat) : Nat :=
  match stage with
  | 0 => 1 | 1 => 2 | 2 => 4 | 3 => 1 | 4 => 1 | 5 => 1 | 6 => 2 | 7 => 5 | 8 => 2 | 9 => 1 | _ => 0

/-- Reserved fields of the payload of a stage's operation, as (lowest, highest) bit. -/
def payloadReserved (stage op : Nat) : List (Nat × Nat) :=
  match stage, op with
  | 0, _ => [(186, 255)]
  | 1, _ => [(206, 255)]
  | 2, _ => [(210, 255)]
  | 3, _ => []
  | 4, _ => [(251, 255)]
  | 5, _ => [(220, 255)]
  | 6, _ => [(208, 255)]
  | 7, 2 => [(208, 255)]
  | 7, 3 => [(146, 161), (198, 255)]
  | 7, 4 => [(146, 161), (242, 255)]
  | 7, _ => [(204, 255)]
  | 8, _ => [(182, 255)]
  | _, _ => [(163, 255)]

/-- Is every reserved field of a descriptor 0? -/
def reservedZero (d : Descriptor) : Bool :=
  ([(11, 15), (28, 31), (63, 63), (120, 127)] ++ payloadReserved (descStage d) (descOp d)).all (fun r => fieldOf d r.1 r.2 == 0)

/-- Lines of bytes. -/
def linesOf (bytes : Nat) : Nat := ceilDiv bytes 64

/-- Queries, heads and dim blocks of a score item. -/
def scoreQueries (d : Descriptor) : Nat := fieldOf d 211 216 + 1
def scoreHeads (d : Descriptor) : Nat := fieldOf d 204 207 + 1
def scoreDim (d : Descriptor) : Nat := fieldOf d 208 210 + 1

/-- Lines of one query's vector of `heads` heads with `dim` blocks each (R182; log 51). -/
def queryLines (fmt heads dim : Nat) : Nat := linesOf (vectorBytes fmt (32 * heads * dim))

/-- Lines of one chunk record (R181). -/
def recordLines (queries heads dim : Nat) : Nat := queries * heads * (1 + 8 * dim)

/-- Queries, heads and dim blocks of a softmax descriptor. -/
def softQueries (d : Descriptor) : Nat := fieldOf d 206 211 + 1
def softHeads (d : Descriptor) : Nat := fieldOf d 202 205 + 1
def softDim (d : Descriptor) : Nat := fieldOf d 199 201 + 1

/-- Columns that a finisher descriptor writes: half of them with a gated function (R177). -/
def finishOut (d : Descriptor) : Nat :=
  let n := fieldOf d 142 153 + 1
  if fieldOf d 176 181 = 4 ∨ fieldOf d 176 181 = 5 then n / 2 else n

/-- Deck line ranges that a descriptor alone determines, as (first line, lines). -/
def descRanges (d : Descriptor) : List (Nat × Nat) :=
  let f := fieldOf d
  match descStage d, descOp d with
  | 0, _ =>
    let wide := bit d.toNat 177
    let n := f 164 171
    [(f 128 145, linesOf (vectorBytes (f 172 175) (n * (if wide then 32 else 64)))),
     (f 146 163, n * (if bit d.toNat 176 && !wide then 2 else 1))]
  | 2, 3 => [(f 156 173, ceilDiv (f 142 155 + 1) 4)]
  | 3, _ => [(f 154 171, linesOf (vectorBytes (f 172 175) (finishOut d)))]
  | 4, _ =>
    [(f 128 145, scoreQueries d * queryLines (f 243 246) (scoreHeads d) (scoreDim d)),
     (f 146 163, recordLines (scoreQueries d) (scoreHeads d) (scoreDim d))]
  | 5, _ =>
    let q := softQueries d
    let h := softHeads d
    let n := softDim d
    [(f 128 145, (f 146 157 + 1) * recordLines q h n), (f 158 175, q * queryLines (f 176 179) h n)]
      ++ (if bit d.toNat 198 then [(f 180 197, q * h)] else [])
  | 6, 1 => [(f 184 201, linesOf (f 202 207 + 1))]
  | 7, 0 => [(f 128 145, f 146 161 + 1)]
  | 7, 1 => [(f 128 145, f 146 161 + 1)]
  | 7, 2 => [(f 128 145, f 146 161 + 1), (f 172 189, f 146 161 + 1)]
  | 7, 4 => [(f 128 145, (f 188 199 + 1) * (f 180 187 + 1)), (f 162 179, linesOf (4 * (f 188 199 + 1)))]
  | 8, 0 => [(f 128 145, f 146 163 + 1), (f 164 181, 1)]
  | 8, _ => [(f 128 145, f 146 163 + 1), (f 164 181, f 146 163 + 1)]
  | _, _ => []

/-- Are the codes of a descriptor's payload ones that the stage has: format codes of R164, read, mask and function codes, the
floor 0x80 (R130), first_pos (R179) and the copy ranges of R192? -/
def descCodes (d : Descriptor) : Bool :=
  let f := fieldOf d
  match descStage d, descOp d with
  | 0, _ => decide (f 172 175 ≤ 9) && decide (f 178 185 ≠ 0x80)
  | 1, _ => decide (f 200 201 ≠ 3) && decide (f 177 184 ≠ 0x80)
  | 3, _ => decide (f 172 175 ≤ 9) && decide (f 176 181 ≤ 9) && decide (f 216 223 ≠ 0x80)
  | 4, _ => decide (f 217 218 ≠ 3) && decide (f 243 246 ≤ 5) && decide (f 247 250 ≤ 5) && decide (f 164 183 % 256 = 0)
  | 5, _ => decide (f 176 179 ≤ 9)
  | 6, _ => decide (f 173 176 ≤ 5)
  | 8, 1 =>
    let n := f 146 163 + 1
    decide (f 128 145 + n ≤ f 164 181 ∨ f 164 181 + n ≤ f 128 145)
  | _, _ => true

/-- Is a descriptor free of the errors of R163 that it shows by itself? -/
def descOk (d : Descriptor) : Bool :=
  decide (descOp d < opCount (descStage d)) && reservedZero d && descCodes d
  && (descRanges d).all (fun r => linesIn r.1 r.2)

end Sys2Proof.Machine
end

