-- ==== Sys2Proof/Machine/Registers.lean ====
section
/-! DEFINITION. The register catalogue: every register of the manual's register tables, with its
fields, their access codes (R8) and their reset values, in the tables' own order. (DESIGN CHOICE: log 159.) -/

namespace Sys2Proof.Machine

/-- Access codes of register fields (R8). -/
inductive Access where
  | ro | rw | wo | w1c | w1s | rol | rsv
deriving DecidableEq, Repr

/-- Every register of the manual's register tables. -/
inductive Reg where
  | skPortId  -- SK_PORT_ID, 32 bits (02_carrier_fabric.md)
  | skStatus  -- SK_STATUS, 32 bits (02_carrier_fabric.md)
  | skEvent  -- SK_EVENT, 32 bits (02_carrier_fabric.md)
  | skEventCount  -- SK_EVENT_COUNT, 64 bits (02_carrier_fabric.md)
  | skErrors  -- SK_ERRORS, 32 bits (02_carrier_fabric.md)
  | skCredit  -- SK_CREDIT, 32 bits (02_carrier_fabric.md)
  | skSpareCtrl  -- SK_SPARE_CTRL, 32 bits (02_carrier_fabric.md)
  | skSpareForce  -- SK_SPARE_FORCE, 32 bits (02_carrier_fabric.md)
  | skFaultInj  -- SK_FAULT_INJ, 32 bits (02_carrier_fabric.md)
  | skSpareMapTx  -- SK_SPARE_MAP_TX, 32 bits (02_carrier_fabric.md)
  | skSpareMapRx  -- SK_SPARE_MAP_RX, 32 bits (02_carrier_fabric.md)
  | skClosure  -- SK_CLOSURE, 32 bits (02_carrier_fabric.md)
  | skRelay  -- SK_RELAY, 64 bits (02_carrier_fabric.md)
  | hrStatus  -- HR_STATUS, 32 bits (02_carrier_fabric.md)
  | hrEvent  -- HR_EVENT, 32 bits (02_carrier_fabric.md)
  | hrEventCount  -- HR_EVENT_COUNT, 64 bits (02_carrier_fabric.md)
  | hrDelay  -- HR_DELAY, 32 bits (02_carrier_fabric.md)
  | hrTally  -- HR_TALLY, 64 bits (02_carrier_fabric.md)
  | hrBarrierTimeout  -- HR_BARRIER_TIMEOUT, 32 bits (02_carrier_fabric.md)
  | tlSelect  -- TL_SELECT, 32 bits (03_weight_tiles.md)
  | tlTileStatus  -- TL_TILE_STATUS, 32 bits (03_weight_tiles.md)
  | tlCellLayerMap  -- TL_CELL_LAYER_MAP, 32 bits (03_weight_tiles.md)
  | tlCellLayerState  -- TL_CELL_LAYER_STATE, 64 bits (03_weight_tiles.md)
  | tlGen  -- TL_GEN, 32 bits (03_weight_tiles.md)
  | tlRotate  -- TL_ROTATE, 64 bits (03_weight_tiles.md)
  | tlRepairList  -- TL_REPAIR_LIST, 64 bits (03_weight_tiles.md)
  | tlEvent  -- TL_EVENT, 32 bits (03_weight_tiles.md)
  | tlEventCount  -- TL_EVENT_COUNT, 128 bits (03_weight_tiles.md)
  | tlErrorInfo  -- TL_ERROR_INFO, 64 bits (03_weight_tiles.md)
  | tlStats  -- TL_STATS, 64 bits (03_weight_tiles.md)
  | tlCal  -- TL_CAL, 32 bits (03_weight_tiles.md)
  | tlCtrl  -- TL_CTRL, 32 bits (03_weight_tiles.md)
  | tlUpkeepCtrl  -- TL_UPKEEP_CTRL, 32 bits (04_array_upkeep.md)
  | tlCruise  -- TL_CRUISE, 32 bits (04_array_upkeep.md)
  | tlCruiseResult  -- TL_CRUISE_RESULT, 64 bits (04_array_upkeep.md)
  | tlMonCtrl  -- TL_MON_CTRL, 32 bits (04_array_upkeep.md)
  | tlMonDest  -- TL_MON_DEST, 64 bits (04_array_upkeep.md)
  | tlUpkeepEvent  -- TL_UPKEEP_EVENT, 32 bits (04_array_upkeep.md)
  | tlUpkeepEventCount  -- TL_UPKEEP_EVENT_COUNT, 64 bits (04_array_upkeep.md)
  | gvId  -- GV_ID, 32 bits (06_groves.md)
  | gvStatus  -- GV_STATUS, 32 bits (06_groves.md)
  | gvCtrl  -- GV_CTRL, 32 bits (06_groves.md)
  | gvStreamCtrl  -- GV_STREAM_CTRL, 32 bits (06_groves.md)
  | gvQueueLevel  -- GV_QUEUE_LEVEL, 64 bits (06_groves.md)
  | gvQueueLevel2  -- GV_QUEUE_LEVEL2, 32 bits (06_groves.md)
  | gvEvent  -- GV_EVENT, 32 bits (06_groves.md)
  | gvEventCount  -- GV_EVENT_COUNT, 128 bits (06_groves.md)
  | gvNumCount  -- GV_NUM_COUNT, 32 bits (06_groves.md)
  | gvStealCount  -- GV_STEAL_COUNT, 64 bits (06_groves.md)
  | gvXlateStats  -- GV_XLATE_STATS, 64 bits (06_groves.md)
  | gvCoreStatus  -- GV_CORE_STATUS, 64 bits (06_groves.md)
  | gvDispatchIndex  -- GV_DISPATCH_INDEX, 32 bits (06_groves.md)
  | gvDispatchData  -- GV_DISPATCH_DATA, 64 bits (06_groves.md)
  | gvStagingBase  -- GV_STAGING_BASE, 64 bits (06_groves.md)
  | gvShadow  -- GV_SHADOW, 128 bits (06_groves.md)
  | gvCounter  -- GV_COUNTER, 32 bits (06_groves.md)
  | hrStepOrigin  -- HR_STEP_ORIGIN, 64 bits (08_determinism.md)
  | hrStepCtrl  -- HR_STEP_CTRL, 32 bits (08_determinism.md)
  | hrStepNow  -- HR_STEP_NOW, 64 bits (08_determinism.md)
  | hrSlipEvent  -- HR_SLIP_EVENT, 32 bits (08_determinism.md)
  | hrSlipEventCount  -- HR_SLIP_EVENT_COUNT, 64 bits (08_determinism.md)
  | hrSlipTotal  -- HR_SLIP_TOTAL, 32 bits (08_determinism.md)
  | hrSlipLast  -- HR_SLIP_LAST, 64 bits (08_determinism.md)
  | sqSelect  -- SQ_SELECT, 32 bits (09_sequences_and_kv.md)
  | sqEntry  -- SQ_ENTRY, 64 bits (09_sequences_and_kv.md)
  | sqCounts  -- SQ_COUNTS, 128 bits (09_sequences_and_kv.md)
  | sqPool  -- SQ_POOL, 64 bits (09_sequences_and_kv.md)
  | sqCtrl  -- SQ_CTRL, 32 bits (09_sequences_and_kv.md)
  | sqEvent  -- SQ_EVENT, 32 bits (09_sequences_and_kv.md)
  | sqEventCount  -- SQ_EVENT_COUNT, 64 bits (09_sequences_and_kv.md)
  | sqListArea  -- SQ_LIST_AREA, 64 bits (09_sequences_and_kv.md)
  | sqAdmitCount  -- SQ_ADMIT_COUNT, 64 bits (10_speculation_admission.md)
  | sqFellCtrl  -- SQ_FELL_CTRL, 32 bits (10_speculation_admission.md)
  | sqFellStatus  -- SQ_FELL_STATUS, 32 bits (10_speculation_admission.md)
  | sqFellEvent  -- SQ_FELL_EVENT, 32 bits (10_speculation_admission.md)
  | sqFellEventCount  -- SQ_FELL_EVENT_COUNT, 64 bits (10_speculation_admission.md)
  | cpId  -- CP_ID, 32 bits (11_control_ports.md)
  | cpVersion  -- CP_VERSION, 32 bits (11_control_ports.md)
  | cpModuleId  -- CP_MODULE_ID, 64 bits (11_control_ports.md)
  | cpStatus  -- CP_STATUS, 32 bits (11_control_ports.md)
  | cpTally  -- CP_TALLY, 64 bits (11_control_ports.md)
  | cpEventStatus  -- CP_EVENT_STATUS, 32 bits (11_control_ports.md)
  | cpEventCount  -- CP_EVENT_COUNT, 64 bits (11_control_ports.md)
  | cpFuncRights  -- CP_FUNC_RIGHTS, 64 bits (11_control_ports.md)
  | mbPost  -- MB_POST, 32 bits (11_control_ports.md)
  | mbStatus  -- MB_STATUS, 64 bits (11_control_ports.md)
  | mbCtrl  -- MB_CTRL, 32 bits (11_control_ports.md)
  | mbEventPage  -- MB_EVENT_PAGE, 64 bits (11_control_ports.md)
  | mbEventHead  -- MB_EVENT_HEAD, 64 bits (11_control_ports.md)
  | cpIntMap  -- CP_INT_MAP, 64 bits (11_control_ports.md)
  | cpIntCtrl  -- CP_INT_CTRL, 32 bits (11_control_ports.md)
  | cpViolLast  -- CP_VIOL_LAST, 128 bits (11_control_ports.md)
  | ldPortStatus  -- LD_PORT_STATUS, 32 bits (13_network_ports.md)
  | ldPortCtrl  -- LD_PORT_CTRL, 32 bits (13_network_ports.md)
  | ldClass  -- LD_CLASS, 32 bits (13_network_ports.md)
  | ldPttCtrl  -- LD_PTT_CTRL, 32 bits (13_network_ports.md)
  | ldRdmaRate  -- LD_RDMA_RATE, 32 bits (13_network_ports.md)
  | ldBufLevel  -- LD_BUF_LEVEL, 64 bits (13_network_ports.md)
  | ldEvent  -- LD_EVENT, 32 bits (13_network_ports.md)
  | ldEventCount  -- LD_EVENT_COUNT, 128 bits (13_network_ports.md)
  | ldPttStats  -- LD_PTT_STATS, 64 bits (13_network_ports.md)
  | ldFecStats  -- LD_FEC_STATS, 64 bits (13_network_ports.md)
  | ldPtpStatus  -- LD_PTP_STATUS, 64 bits (13_network_ports.md)
  | twPortStatus  -- TW_PORT_STATUS, 32 bits (14_twin_pairing.md)
  | twPairStatus  -- TW_PAIR_STATUS, 32 bits (14_twin_pairing.md)
  | twPartnerId  -- TW_PARTNER_ID, 64 bits (14_twin_pairing.md)
  | twCtrl  -- TW_CTRL, 32 bits (14_twin_pairing.md)
  | twOffset  -- TW_OFFSET, 64 bits (14_twin_pairing.md)
  | twEvent  -- TW_EVENT, 32 bits (14_twin_pairing.md)
  | twEventCount  -- TW_EVENT_COUNT, 128 bits (14_twin_pairing.md)
  | twMirrorStats  -- TW_MIRROR_STATS, 64 bits (14_twin_pairing.md)
  | twErrors  -- TW_ERRORS, 32 bits (14_twin_pairing.md)
  | twFaultInj  -- TW_FAULT_INJ, 32 bits (14_twin_pairing.md)
  | twMirrorPool  -- TW_MIRROR_POOL, 64 bits (14_twin_pairing.md)
  | pwStandStatus  -- PW_STAND_STATUS, 32 bits (15_power_delivery.md)
  | pwStandLimit  -- PW_STAND_LIMIT, 32 bits (15_power_delivery.md)
  | pwMeter  -- PW_METER, 32 bits (15_power_delivery.md)
  | pwVlogCtrl  -- PW_VLOG_CTRL, 32 bits (15_power_delivery.md)
  | pwPhaseStatus  -- PW_PHASE_STATUS, 64 bits (15_power_delivery.md)
  | pwCurrent  -- PW_CURRENT, 32 bits (15_power_delivery.md)
  | pwGroveHdr  -- PW_GROVE_HDR, 32 bits (15_power_delivery.md)
  | pwGroveFault  -- PW_GROVE_FAULT, 32 bits (15_power_delivery.md)
  | pwBreaker  -- PW_BREAKER, 32 bits (15_power_delivery.md)
  | pwEvent  -- PW_EVENT, 32 bits (15_power_delivery.md)
  | pwEventCount  -- PW_EVENT_COUNT, 128 bits (15_power_delivery.md)
  | pwFeed  -- PW_FEED, 64 bits (15_power_delivery.md)
  | pwConverters  -- PW_CONVERTERS, 32 bits (15_power_delivery.md)
  | pwModuleLimit  -- PW_MODULE_LIMIT, 64 bits (15_power_delivery.md)
  | pwModuleMeter  -- PW_MODULE_METER, 32 bits (15_power_delivery.md)
  | pwBand  -- PW_BAND, 64 bits (15_power_delivery.md)
  | pwWakeCtrl  -- PW_WAKE_CTRL, 32 bits (15_power_delivery.md)
  | pwModEvent  -- PW_MOD_EVENT, 32 bits (15_power_delivery.md)
  | pwModEventCount  -- PW_MOD_EVENT_COUNT, 64 bits (15_power_delivery.md)
  | thStandStatus  -- TH_STAND_STATUS, 32 bits (16_cooling.md)
  | thSensor  -- TH_SENSOR, 32 bits (16_cooling.md)
  | thPeak  -- TH_PEAK, 32 bits (16_cooling.md)
  | thEvent  -- TH_EVENT, 32 bits (16_cooling.md)
  | thEventCount  -- TH_EVENT_COUNT, 64 bits (16_cooling.md)
  | thCoolant  -- TH_COOLANT, 64 bits (16_cooling.md)
  | thModStatus  -- TH_MOD_STATUS, 32 bits (16_cooling.md)
  | thModEvent  -- TH_MOD_EVENT, 32 bits (16_cooling.md)
  | thModEventCount  -- TH_MOD_EVENT_COUNT, 64 bits (16_cooling.md)
  | btStatus  -- BT_STATUS, 32 bits (17_boot_and_trust.md)
  | btVersion  -- BT_VERSION, 32 bits (17_boot_and_trust.md)
  | btStaged  -- BT_STAGED, 32 bits (17_boot_and_trust.md)
  | btCounter  -- BT_COUNTER, 32 bits (17_boot_and_trust.md)
  | btIdentity  -- BT_IDENTITY, 64 bits (17_boot_and_trust.md)
  | btEvent  -- BT_EVENT, 32 bits (17_boot_and_trust.md)
  | btEventCount  -- BT_EVENT_COUNT, 64 bits (17_boot_and_trust.md)
  | btProtBank  -- BT_PROT_BANK, 32 bits (17_boot_and_trust.md)
  | btBootTally  -- BT_BOOT_TALLY, 64 bits (17_boot_and_trust.md)
deriving DecidableEq, Repr

/-- A register of one block: `unit` numbers the block (stand port, grove, tile, landing or function), `idx`
the entry of a register array, and `bank` the protection bank of a register with RO/L fields (R451). -/
structure RegKey where
  reg  : Reg
  unit : Nat
  idx  : Nat
  bank : Nat
deriving DecidableEq, Repr

/-- A field of a register: bits `[lo + len - 1 : lo]`. -/
structure Fld where
  reg : Reg
  lo  : Nat
  len : Nat
deriving DecidableEq, Repr

/-- A row of a register table: the bits, the access code and the reset value. -/
structure FieldRow where
  lo    : Nat
  len   : Nat
  acc   : Access
  reset : Nat
deriving DecidableEq, Repr


/-- The rows of a register's table, most significant field first. A reset value that a table gives "per port", "per record" and
so on is 0 here and comes from `RegKey.reset`. -/
def Reg.rows : Reg → List FieldRow
  | .skPortId => [⟨30, 2, .ro, 0⟩, ⟨25, 5, .rsv, 0⟩, ⟨22, 3, .ro, 0⟩, ⟨16, 6, .ro, 0⟩, ⟨9, 7, .rsv, 0⟩, ⟨6, 3, .ro, 0⟩, ⟨0, 6, .ro, 0⟩]
  | .skStatus => [⟨14, 18, .rsv, 0⟩, ⟨9, 5, .ro, 0⟩, ⟨4, 5, .ro, 0⟩, ⟨3, 1, .ro, 0⟩, ⟨2, 1, .ro, 0⟩, ⟨1, 1, .ro, 0⟩, ⟨0, 1, .ro, 0⟩]
  | .skEvent => [⟨8, 24, .rsv, 0⟩, ⟨7, 1, .w1c, 0⟩, ⟨6, 1, .w1c, 0⟩, ⟨5, 1, .w1c, 0⟩, ⟨4, 1, .w1c, 0⟩, ⟨3, 1, .w1c, 0⟩, ⟨2, 1, .w1c, 0⟩, ⟨1, 1, .w1c, 0⟩, ⟨0, 1, .w1c, 0⟩]
  | .skEventCount => [⟨0, 8, .ro, 0⟩, ⟨8, 8, .ro, 0⟩, ⟨16, 8, .ro, 0⟩, ⟨24, 8, .ro, 0⟩, ⟨32, 8, .ro, 0⟩, ⟨40, 8, .ro, 0⟩, ⟨48, 8, .ro, 0⟩, ⟨56, 8, .ro, 0⟩]
  | .skErrors => [⟨16, 16, .ro, 0⟩, ⟨0, 16, .ro, 0⟩]
  | .skCredit => [⟨20, 12, .rsv, 0⟩, ⟨16, 4, .ro, 8⟩, ⟨12, 4, .ro, 8⟩, ⟨9, 3, .rsv, 0⟩, ⟨0, 9, .ro, 368⟩]
  | .skSpareCtrl => [⟨20, 12, .rsv, 0⟩, ⟨16, 4, .rw, 6⟩, ⟨8, 8, .rw, 16⟩, ⟨1, 7, .rsv, 0⟩, ⟨0, 1, .rw, 1⟩]
  | .skSpareForce => [⟨31, 1, .wo, 0⟩, ⟨10, 21, .rsv, 0⟩, ⟨9, 1, .wo, 0⟩, ⟨0, 9, .wo, 0⟩]
  | .skFaultInj => [⟨4, 28, .rw, 0⟩, ⟨3, 1, .rw, 0⟩, ⟨2, 1, .rw, 0⟩, ⟨0, 2, .rw, 0⟩]
  | .skSpareMapTx => [⟨31, 1, .ro, 0⟩, ⟨9, 22, .rsv, 0⟩, ⟨0, 9, .ro, 0⟩]
  | .skSpareMapRx => [⟨31, 1, .ro, 0⟩, ⟨9, 22, .rsv, 0⟩, ⟨0, 9, .ro, 0⟩]
  | .skClosure => [⟨0, 32, .rol, 0⟩]
  | .skRelay => [⟨35, 29, .rsv, 0⟩, ⟨26, 9, .rw, 0⟩, ⟨18, 8, .rw, 0⟩, ⟨6, 12, .rw, 0⟩, ⟨3, 3, .rw, 0⟩, ⟨0, 3, .rw, 0⟩]
  | .hrStatus => [⟨5, 27, .rsv, 0⟩, ⟨4, 1, .ro, 0⟩, ⟨3, 1, .ro, 0⟩, ⟨2, 1, .ro, 0⟩, ⟨1, 1, .ro, 0⟩, ⟨0, 1, .ro, 0⟩]
  | .hrEvent => [⟨5, 27, .rsv, 0⟩, ⟨4, 1, .w1c, 0⟩, ⟨3, 1, .w1c, 0⟩, ⟨2, 1, .w1c, 0⟩, ⟨1, 1, .w1c, 0⟩, ⟨0, 1, .w1c, 0⟩]
  | .hrEventCount => [⟨40, 24, .rsv, 0⟩, ⟨0, 8, .ro, 0⟩, ⟨8, 8, .ro, 0⟩, ⟨16, 8, .ro, 0⟩, ⟨24, 8, .ro, 0⟩, ⟨32, 8, .ro, 0⟩]
  | .hrDelay => [⟨16, 16, .ro, 0⟩, ⟨0, 16, .ro, 0⟩]
  | .hrTally => [⟨0, 64, .ro, 0⟩]
  | .hrBarrierTimeout => [⟨16, 16, .rsv, 0⟩, ⟨0, 16, .rw, 3906⟩]
  | .tlSelect => [⟨11, 21, .rsv, 0⟩, ⟨0, 11, .rw, 0⟩]
  | .tlTileStatus => [⟨23, 9, .rsv, 0⟩, ⟨22, 1, .ro, 0⟩, ⟨20, 2, .ro, 0⟩, ⟨18, 2, .ro, 0⟩, ⟨15, 3, .ro, 0⟩, ⟨10, 5, .ro, 16⟩, ⟨9, 1, .ro, 0⟩, ⟨5, 4, .ro, 0⟩, ⟨0, 5, .ro, 0⟩]
  | .tlCellLayerMap => [⟨7, 1, .ro, 0⟩, ⟨15, 1, .ro, 0⟩, ⟨23, 1, .ro, 0⟩, ⟨31, 1, .ro, 0⟩, ⟨6, 1, .ro, 0⟩, ⟨14, 1, .ro, 0⟩, ⟨22, 1, .ro, 0⟩, ⟨30, 1, .ro, 0⟩, ⟨5, 1, .ro, 0⟩, ⟨13, 1, .ro, 0⟩, ⟨21, 1, .ro, 0⟩, ⟨29, 1, .ro, 0⟩, ⟨0, 5, .ro, 0⟩, ⟨8, 5, .ro, 0⟩, ⟨16, 5, .ro, 0⟩, ⟨24, 5, .ro, 0⟩]
  | .tlCellLayerState => [⟨34, 30, .rsv, 0⟩, ⟨0, 2, .ro, 0⟩, ⟨2, 2, .ro, 0⟩, ⟨4, 2, .ro, 0⟩, ⟨6, 2, .ro, 0⟩, ⟨8, 2, .ro, 0⟩, ⟨10, 2, .ro, 0⟩, ⟨12, 2, .ro, 0⟩, ⟨14, 2, .ro, 0⟩, ⟨16, 2, .ro, 0⟩, ⟨18, 2, .ro, 0⟩, ⟨20, 2, .ro, 0⟩, ⟨22, 2, .ro, 0⟩, ⟨24, 2, .ro, 0⟩, ⟨26, 2, .ro, 0⟩, ⟨28, 2, .ro, 0⟩, ⟨30, 2, .ro, 0⟩, ⟨32, 2, .ro, 0⟩]
  | .tlGen => [⟨17, 15, .rsv, 0⟩, ⟨16, 1, .ro, 0⟩, ⟨8, 8, .ro, 0⟩, ⟨0, 8, .ro, 0⟩]
  | .tlRotate => [⟨63, 1, .wo, 0⟩, ⟨60, 3, .wo, 0⟩, ⟨56, 4, .wo, 0⟩, ⟨48, 8, .wo, 0⟩, ⟨0, 48, .wo, 0⟩]
  | .tlRepairList => [⟨15, 1, .rw, 0⟩, ⟨31, 1, .rw, 0⟩, ⟨47, 1, .rw, 0⟩, ⟨63, 1, .rw, 0⟩, ⟨10, 5, .rsv, 0⟩, ⟨26, 5, .rsv, 0⟩, ⟨42, 5, .rsv, 0⟩, ⟨58, 5, .rsv, 0⟩, ⟨0, 10, .rw, 0⟩, ⟨16, 10, .rw, 0⟩, ⟨32, 10, .rw, 0⟩, ⟨48, 10, .rw, 0⟩]
  | .tlEvent => [⟨12, 20, .rsv, 0⟩, ⟨11, 1, .w1c, 0⟩, ⟨10, 1, .w1c, 0⟩, ⟨9, 1, .w1c, 0⟩, ⟨8, 1, .w1c, 0⟩, ⟨7, 1, .w1c, 0⟩, ⟨6, 1, .w1c, 0⟩, ⟨5, 1, .w1c, 0⟩, ⟨4, 1, .w1c, 0⟩, ⟨3, 1, .w1c, 0⟩, ⟨2, 1, .w1c, 0⟩, ⟨1, 1, .w1c, 0⟩, ⟨0, 1, .w1c, 0⟩]
  | .tlEventCount => [⟨96, 32, .rsv, 0⟩, ⟨0, 8, .ro, 0⟩, ⟨8, 8, .ro, 0⟩, ⟨16, 8, .ro, 0⟩, ⟨24, 8, .ro, 0⟩, ⟨32, 8, .ro, 0⟩, ⟨40, 8, .ro, 0⟩, ⟨48, 8, .ro, 0⟩, ⟨56, 8, .ro, 0⟩, ⟨64, 8, .ro, 0⟩, ⟨72, 8, .ro, 0⟩, ⟨80, 8, .ro, 0⟩, ⟨88, 8, .ro, 0⟩]
  | .tlErrorInfo => [⟨40, 24, .ro, 0⟩, ⟨37, 3, .ro, 0⟩, ⟨26, 11, .ro, 0⟩, ⟨22, 4, .ro, 0⟩, ⟨17, 5, .ro, 0⟩, ⟨14, 3, .ro, 0⟩, ⟨10, 4, .ro, 0⟩, ⟨0, 10, .ro, 1023⟩]
  | .tlStats => [⟨48, 16, .ro, 0⟩, ⟨32, 16, .ro, 0⟩, ⟨0, 32, .ro, 0⟩]
  | .tlCal => [⟨16, 16, .ro, 0⟩, ⟨0, 16, .ro, 0⟩]
  | .tlCtrl => [⟨24, 8, .rsv, 0⟩, ⟨16, 8, .rw, 30⟩, ⟨8, 8, .rw, 16⟩, ⟨4, 4, .rsv, 0⟩, ⟨0, 4, .rw, 8⟩]
  | .tlUpkeepCtrl => [⟨24, 8, .rsv, 0⟩, ⟨16, 8, .rw, 128⟩, ⟨8, 8, .rw, 8⟩, ⟨3, 5, .rsv, 0⟩, ⟨2, 1, .rw, 1⟩, ⟨1, 1, .rw, 1⟩, ⟨0, 1, .rw, 1⟩]
  | .tlCruise => [⟨31, 1, .wo, 0⟩, ⟨30, 1, .wo, 0⟩, ⟨5, 25, .rsv, 0⟩, ⟨0, 5, .wo, 0⟩]
  | .tlCruiseResult => [⟨40, 24, .ro, 0⟩, ⟨35, 5, .ro, 0⟩, ⟨31, 4, .ro, 0⟩, ⟨30, 1, .ro, 0⟩, ⟨29, 1, .ro, 0⟩, ⟨21, 8, .ro, 0⟩, ⟨11, 10, .ro, 0⟩, ⟨3, 8, .ro, 0⟩, ⟨0, 3, .ro, 0⟩]
  | .tlMonCtrl => [⟨28, 4, .rsv, 0⟩, ⟨24, 4, .rw, 0⟩, ⟨13, 11, .rw, 0⟩, ⟨8, 5, .rw, 12⟩, ⟨1, 7, .rsv, 0⟩, ⟨0, 1, .wo, 0⟩]
  | .tlMonDest => [⟨48, 16, .rsv, 0⟩, ⟨0, 48, .rw, 0⟩]
  | .tlUpkeepEvent => [⟨7, 25, .rsv, 0⟩, ⟨6, 1, .w1c, 0⟩, ⟨5, 1, .w1c, 0⟩, ⟨4, 1, .w1c, 0⟩, ⟨3, 1, .w1c, 0⟩, ⟨2, 1, .w1c, 0⟩, ⟨1, 1, .w1c, 0⟩, ⟨0, 1, .w1c, 0⟩]
  | .tlUpkeepEventCount => [⟨56, 8, .rsv, 0⟩, ⟨0, 8, .ro, 0⟩, ⟨8, 8, .ro, 0⟩, ⟨16, 8, .ro, 0⟩, ⟨24, 8, .ro, 0⟩, ⟨32, 8, .ro, 0⟩, ⟨40, 8, .ro, 0⟩, ⟨48, 8, .ro, 0⟩]
  | .gvId => [⟨16, 16, .rsv, 0⟩, ⟨12, 4, .ro, 6⟩, ⟨8, 4, .ro, 0⟩, ⟨6, 2, .rsv, 0⟩, ⟨0, 6, .ro, 0⟩]
  | .gvStatus => [⟨24, 8, .ro, 0⟩, ⟨18, 6, .rsv, 0⟩, ⟨17, 1, .ro, 0⟩, ⟨16, 1, .ro, 0⟩, ⟨10, 6, .rsv, 0⟩, ⟨4, 6, .ro, 0⟩, ⟨2, 2, .rsv, 0⟩, ⟨0, 2, .ro, 0⟩]
  | .gvCtrl => [⟨24, 8, .rw, 100⟩, ⟨16, 8, .rw, 4⟩, ⟨8, 8, .rw, 25⟩, ⟨2, 6, .rsv, 0⟩, ⟨1, 1, .rw, 1⟩, ⟨0, 1, .rw, 1⟩]
  | .gvStreamCtrl => [⟨16, 16, .rsv, 0⟩, ⟨0, 16, .rw, 0⟩]
  | .gvQueueLevel => [⟨56, 8, .ro, 0⟩, ⟨48, 8, .ro, 0⟩, ⟨40, 8, .ro, 0⟩, ⟨32, 8, .ro, 0⟩, ⟨24, 8, .ro, 0⟩, ⟨16, 8, .ro, 0⟩, ⟨8, 8, .ro, 0⟩, ⟨0, 8, .ro, 0⟩]
  | .gvQueueLevel2 => [⟨15, 17, .rsv, 0⟩, ⟨9, 6, .ro, 0⟩, ⟨0, 9, .ro, 0⟩]
  | .gvEvent => [⟨10, 22, .rsv, 0⟩, ⟨9, 1, .w1c, 0⟩, ⟨8, 1, .w1c, 0⟩, ⟨7, 1, .w1c, 0⟩, ⟨6, 1, .w1c, 0⟩, ⟨5, 1, .w1c, 0⟩, ⟨4, 1, .w1c, 0⟩, ⟨3, 1, .w1c, 0⟩, ⟨2, 1, .w1c, 0⟩, ⟨1, 1, .w1c, 0⟩, ⟨0, 1, .w1c, 0⟩]
  | .gvEventCount => [⟨80, 48, .rsv, 0⟩, ⟨0, 8, .ro, 0⟩, ⟨8, 8, .ro, 0⟩, ⟨16, 8, .ro, 0⟩, ⟨24, 8, .ro, 0⟩, ⟨32, 8, .ro, 0⟩, ⟨40, 8, .ro, 0⟩, ⟨48, 8, .ro, 0⟩, ⟨56, 8, .ro, 0⟩, ⟨64, 8, .ro, 0⟩, ⟨72, 8, .ro, 0⟩]
  | .gvNumCount => [⟨0, 32, .ro, 0⟩]
  | .gvStealCount => [⟨48, 16, .ro, 0⟩, ⟨32, 16, .ro, 0⟩, ⟨16, 16, .ro, 0⟩, ⟨0, 16, .ro, 0⟩]
  | .gvXlateStats => [⟨32, 32, .ro, 0⟩, ⟨0, 32, .ro, 0⟩]
  | .gvCoreStatus => [⟨44, 20, .rsv, 0⟩, ⟨36, 8, .ro, 0⟩, ⟨32, 4, .ro, 0⟩, ⟨16, 16, .ro, 0⟩, ⟨0, 16, .ro, 65535⟩]
  | .gvDispatchIndex => [⟨15, 17, .rsv, 0⟩, ⟨0, 15, .rw, 0⟩]
  | .gvDispatchData => [⟨63, 1, .rw, 1⟩, ⟨61, 2, .rw, 0⟩, ⟨55, 6, .rw, 0⟩, ⟨51, 4, .rw, 0⟩, ⟨40, 11, .rw, 0⟩, ⟨36, 4, .rw, 0⟩, ⟨35, 1, .rw, 0⟩, ⟨29, 6, .rw, 0⟩, ⟨25, 4, .rw, 0⟩, ⟨14, 11, .rw, 0⟩, ⟨10, 4, .rw, 0⟩, ⟨0, 10, .rsv, 0⟩]
  | .gvStagingBase => [⟨48, 16, .rsv, 0⟩, ⟨0, 48, .rw, 0⟩]
  | .gvShadow => [⟨127, 1, .rw, 0⟩, ⟨126, 1, .ro, 0⟩, ⟨111, 15, .rw, 0⟩, ⟨64, 47, .rsv, 0⟩, ⟨0, 64, .rw, 0⟩]
  | .gvCounter => [⟨16, 16, .rsv, 0⟩, ⟨0, 16, .ro, 0⟩]
  | .hrStepOrigin => [⟨0, 64, .ro, 0⟩]
  | .hrStepCtrl => [⟨24, 8, .ro, 0⟩, ⟨18, 6, .rsv, 0⟩, ⟨17, 1, .ro, 0⟩, ⟨16, 1, .ro, 0⟩, ⟨0, 16, .ro, 0⟩]
  | .hrStepNow => [⟨0, 64, .ro, 0⟩]
  | .hrSlipEvent => [⟨4, 28, .rsv, 0⟩, ⟨3, 1, .w1c, 0⟩, ⟨2, 1, .w1c, 0⟩, ⟨1, 1, .w1c, 0⟩, ⟨0, 1, .w1c, 0⟩]
  | .hrSlipEventCount => [⟨32, 32, .rsv, 0⟩, ⟨0, 8, .ro, 0⟩, ⟨8, 8, .ro, 0⟩, ⟨16, 8, .ro, 0⟩, ⟨24, 8, .ro, 0⟩]
  | .hrSlipTotal => [⟨0, 32, .ro, 0⟩]
  | .hrSlipLast => [⟨40, 24, .ro, 0⟩, ⟨36, 4, .ro, 0⟩, ⟨32, 4, .ro, 0⟩, ⟨0, 32, .ro, 0⟩]
  | .sqSelect => [⟨15, 17, .rsv, 0⟩, ⟨0, 15, .rw, 0⟩]
  | .sqEntry => [⟨0, 64, .ro, 0⟩]
  | .sqCounts => [⟨96, 32, .rsv, 0⟩, ⟨80, 16, .ro, 4096⟩, ⟨64, 16, .ro, 0⟩, ⟨48, 16, .ro, 0⟩, ⟨32, 16, .ro, 0⟩, ⟨16, 16, .ro, 0⟩, ⟨0, 16, .ro, 0⟩]
  | .sqPool => [⟨48, 16, .rsv, 0⟩, ⟨24, 24, .ro, 0⟩, ⟨0, 24, .ro, 0⟩]
  | .sqCtrl => [⟨10, 22, .rsv, 0⟩, ⟨9, 1, .rw, 1⟩, ⟨8, 1, .rw, 1⟩, ⟨0, 8, .rw, 64⟩]
  | .sqEvent => [⟨8, 24, .rsv, 0⟩, ⟨7, 1, .w1c, 0⟩, ⟨6, 1, .w1c, 0⟩, ⟨5, 1, .w1c, 0⟩, ⟨4, 1, .w1c, 0⟩, ⟨3, 1, .w1c, 0⟩, ⟨2, 1, .w1c, 0⟩, ⟨1, 1, .w1c, 0⟩, ⟨0, 1, .w1c, 0⟩]
  | .sqEventCount => [⟨0, 8, .ro, 0⟩, ⟨8, 8, .ro, 0⟩, ⟨16, 8, .ro, 0⟩, ⟨24, 8, .ro, 0⟩, ⟨32, 8, .ro, 0⟩, ⟨40, 8, .ro, 0⟩, ⟨48, 8, .ro, 0⟩, ⟨56, 8, .ro, 0⟩]
  | .sqListArea => [⟨40, 24, .rol, 0⟩, ⟨0, 40, .rol, 0⟩]
  | .sqAdmitCount => [⟨48, 16, .ro, 0⟩, ⟨32, 16, .ro, 0⟩, ⟨16, 16, .ro, 0⟩, ⟨0, 16, .ro, 0⟩]
  | .sqFellCtrl => [⟨16, 16, .rw, 100⟩, ⟨0, 16, .rw, 1000⟩]
  | .sqFellStatus => [⟨24, 8, .rsv, 0⟩, ⟨16, 8, .ro, 0⟩, ⟨0, 16, .ro, 0⟩]
  | .sqFellEvent => [⟨6, 26, .rsv, 0⟩, ⟨5, 1, .w1c, 0⟩, ⟨4, 1, .w1c, 0⟩, ⟨3, 1, .w1c, 0⟩, ⟨2, 1, .w1c, 0⟩, ⟨1, 1, .w1c, 0⟩, ⟨0, 1, .w1c, 0⟩]
  | .sqFellEventCount => [⟨48, 16, .rsv, 0⟩, ⟨0, 8, .ro, 0⟩, ⟨8, 8, .ro, 0⟩, ⟨16, 8, .ro, 0⟩, ⟨24, 8, .ro, 0⟩, ⟨32, 8, .ro, 0⟩, ⟨40, 8, .ro, 0⟩]
  | .cpId => [⟨20, 12, .rsv, 0⟩, ⟨17, 3, .ro, 0⟩, ⟨15, 2, .ro, 0⟩, ⟨14, 1, .ro, 0⟩, ⟨8, 6, .ro, 0⟩, ⟨0, 8, .ro, 0⟩]
  | .cpVersion => [⟨16, 16, .ro, 0⟩, ⟨0, 16, .ro, 0⟩]
  | .cpModuleId => [⟨0, 64, .ro, 0⟩]
  | .cpStatus => [⟨10, 22, .rsv, 0⟩, ⟨9, 1, .ro, 0⟩, ⟨8, 1, .ro, 0⟩, ⟨7, 1, .ro, 0⟩, ⟨6, 1, .ro, 0⟩, ⟨5, 1, .ro, 0⟩, ⟨4, 1, .ro, 0⟩, ⟨0, 4, .ro, 1⟩]
  | .cpTally => [⟨0, 64, .ro, 0⟩]
  | .cpEventStatus => [⟨8, 24, .rsv, 0⟩, ⟨7, 1, .w1c, 0⟩, ⟨6, 1, .w1c, 0⟩, ⟨5, 1, .w1c, 0⟩, ⟨4, 1, .w1c, 0⟩, ⟨3, 1, .w1c, 0⟩, ⟨2, 1, .w1c, 0⟩, ⟨1, 1, .w1c, 0⟩, ⟨0, 1, .w1c, 0⟩]
  | .cpEventCount => [⟨0, 8, .ro, 0⟩, ⟨8, 8, .ro, 0⟩, ⟨16, 8, .ro, 0⟩, ⟨24, 8, .ro, 0⟩, ⟨32, 8, .ro, 0⟩, ⟨40, 8, .ro, 0⟩, ⟨48, 8, .ro, 0⟩, ⟨56, 8, .ro, 0⟩]
  | .cpFuncRights => [⟨38, 26, .rsv, 0⟩, ⟨32, 6, .rol, 0⟩, ⟨25, 7, .rsv, 0⟩, ⟨24, 1, .rol, 0⟩, ⟨16, 8, .rol, 0⟩, ⟨11, 5, .rsv, 0⟩, ⟨10, 1, .rol, 0⟩, ⟨0, 10, .rol, 0⟩]
  | .mbPost => [⟨16, 16, .wo, 0⟩, ⟨13, 3, .rsv, 0⟩, ⟨0, 13, .wo, 0⟩]
  | .mbStatus => [⟨48, 16, .rsv, 0⟩, ⟨32, 16, .ro, 0⟩, ⟨29, 3, .rsv, 0⟩, ⟨16, 13, .ro, 0⟩, ⟨3, 13, .rsv, 0⟩, ⟨2, 1, .ro, 0⟩, ⟨0, 2, .ro, 0⟩]
  | .mbCtrl => [⟨1, 31, .rsv, 0⟩, ⟨0, 1, .wo, 0⟩]
  | .mbEventPage => [⟨12, 52, .rw, 0⟩, ⟨1, 11, .rsv, 0⟩, ⟨0, 1, .rw, 0⟩]
  | .mbEventHead => [⟨0, 64, .ro, 0⟩]
  | .cpIntMap => [⟨7, 1, .rw, 0⟩, ⟨15, 1, .rw, 0⟩, ⟨23, 1, .rw, 0⟩, ⟨31, 1, .rw, 0⟩, ⟨39, 1, .rw, 0⟩, ⟨47, 1, .rw, 0⟩, ⟨55, 1, .rw, 0⟩, ⟨63, 1, .rw, 0⟩, ⟨4, 3, .rsv, 0⟩, ⟨12, 3, .rsv, 0⟩, ⟨20, 3, .rsv, 0⟩, ⟨28, 3, .rsv, 0⟩, ⟨36, 3, .rsv, 0⟩, ⟨44, 3, .rsv, 0⟩, ⟨52, 3, .rsv, 0⟩, ⟨60, 3, .rsv, 0⟩, ⟨0, 4, .rw, 0⟩, ⟨8, 4, .rw, 0⟩, ⟨16, 4, .rw, 0⟩, ⟨24, 4, .rw, 0⟩, ⟨32, 4, .rw, 0⟩, ⟨40, 4, .rw, 0⟩, ⟨48, 4, .rw, 0⟩, ⟨56, 4, .rw, 0⟩]
  | .cpIntCtrl => [⟨16, 16, .rsv, 0⟩, ⟨0, 16, .rw, 10⟩]
  | .cpViolLast => [⟨96, 32, .ro, 0⟩, ⟨80, 16, .ro, 0⟩, ⟨72, 8, .rsv, 0⟩, ⟨64, 8, .ro, 0⟩, ⟨0, 64, .ro, 0⟩]
  | .ldPortStatus => [⟨8, 24, .rsv, 0⟩, ⟨7, 1, .ro, 0⟩, ⟨6, 1, .ro, 0⟩, ⟨5, 1, .ro, 0⟩, ⟨4, 1, .ro, 0⟩, ⟨3, 1, .ro, 0⟩, ⟨2, 1, .ro, 0⟩, ⟨1, 1, .ro, 0⟩, ⟨0, 1, .ro, 0⟩]
  | .ldPortCtrl => [⟨4, 28, .rsv, 0⟩, ⟨3, 1, .rw, 0⟩, ⟨2, 1, .rw, 1⟩, ⟨1, 1, .rw, 1⟩, ⟨0, 1, .rw, 1⟩]
  | .ldClass => [⟨27, 5, .rsv, 0⟩, ⟨24, 3, .rw, 3⟩, ⟨18, 6, .rw, 26⟩, ⟨12, 6, .rw, 34⟩, ⟨6, 6, .rw, 46⟩, ⟨0, 6, .rsv, 0⟩]
  | .ldPttCtrl => [⟨24, 8, .rw, 10⟩, ⟨16, 8, .rw, 8⟩, ⟨0, 16, .rw, 1000⟩]
  | .ldRdmaRate => [⟨8, 24, .rsv, 0⟩, ⟨0, 8, .rw, 56⟩]
  | .ldBufLevel => [⟨48, 16, .rsv, 0⟩, ⟨32, 16, .ro, 0⟩, ⟨16, 16, .ro, 0⟩, ⟨0, 16, .ro, 0⟩]
  | .ldEvent => [⟨12, 20, .rsv, 0⟩, ⟨11, 1, .w1c, 0⟩, ⟨10, 1, .w1c, 0⟩, ⟨9, 1, .w1c, 0⟩, ⟨8, 1, .w1c, 0⟩, ⟨7, 1, .w1c, 0⟩, ⟨6, 1, .w1c, 0⟩, ⟨5, 1, .w1c, 0⟩, ⟨4, 1, .w1c, 0⟩, ⟨3, 1, .w1c, 0⟩, ⟨2, 1, .w1c, 0⟩, ⟨1, 1, .w1c, 0⟩, ⟨0, 1, .w1c, 0⟩]
  | .ldEventCount => [⟨96, 32, .rsv, 0⟩, ⟨0, 8, .ro, 0⟩, ⟨8, 8, .ro, 0⟩, ⟨16, 8, .ro, 0⟩, ⟨24, 8, .ro, 0⟩, ⟨32, 8, .ro, 0⟩, ⟨40, 8, .ro, 0⟩, ⟨48, 8, .ro, 0⟩, ⟨56, 8, .ro, 0⟩, ⟨64, 8, .ro, 0⟩, ⟨72, 8, .ro, 0⟩, ⟨80, 8, .ro, 0⟩, ⟨88, 8, .ro, 0⟩]
  | .ldPttStats => [⟨32, 32, .ro, 0⟩, ⟨0, 32, .ro, 0⟩]
  | .ldFecStats => [⟨32, 32, .ro, 0⟩, ⟨0, 32, .ro, 0⟩]
  | .ldPtpStatus => [⟨32, 32, .ro, 0⟩, ⟨16, 16, .rsv, 0⟩, ⟨8, 8, .ro, 0⟩, ⟨2, 6, .rsv, 0⟩, ⟨1, 1, .ro, 0⟩, ⟨0, 1, .ro, 0⟩]
  | .twPortStatus => [⟨4, 28, .rsv, 0⟩, ⟨3, 1, .ro, 0⟩, ⟨2, 1, .ro, 0⟩, ⟨1, 1, .ro, 0⟩, ⟨0, 1, .ro, 0⟩]
  | .twPairStatus => [⟨6, 26, .rsv, 0⟩, ⟨5, 1, .ro, 0⟩, ⟨4, 1, .ro, 0⟩, ⟨3, 1, .rsv, 0⟩, ⟨0, 3, .ro, 0⟩]
  | .twPartnerId => [⟨0, 64, .ro, 0⟩]
  | .twCtrl => [⟨24, 8, .rsv, 0⟩, ⟨8, 16, .rw, 160⟩, ⟨0, 8, .rw, 10⟩]
  | .twOffset => [⟨0, 64, .ro, 0⟩]
  | .twEvent => [⟨9, 23, .rsv, 0⟩, ⟨8, 1, .w1c, 0⟩, ⟨7, 1, .w1c, 0⟩, ⟨6, 1, .w1c, 0⟩, ⟨5, 1, .w1c, 0⟩, ⟨4, 1, .w1c, 0⟩, ⟨3, 1, .w1c, 0⟩, ⟨2, 1, .w1c, 0⟩, ⟨1, 1, .w1c, 0⟩, ⟨0, 1, .w1c, 0⟩]
  | .twEventCount => [⟨72, 56, .rsv, 0⟩, ⟨0, 8, .ro, 0⟩, ⟨8, 8, .ro, 0⟩, ⟨16, 8, .ro, 0⟩, ⟨24, 8, .ro, 0⟩, ⟨32, 8, .ro, 0⟩, ⟨40, 8, .ro, 0⟩, ⟨48, 8, .ro, 0⟩, ⟨56, 8, .ro, 0⟩, ⟨64, 8, .ro, 0⟩]
  | .twMirrorStats => [⟨32, 32, .ro, 0⟩, ⟨16, 16, .ro, 0⟩, ⟨0, 16, .ro, 0⟩]
  | .twErrors => [⟨16, 16, .ro, 0⟩, ⟨0, 16, .ro, 0⟩]
  | .twFaultInj => [⟨4, 28, .rw, 0⟩, ⟨3, 1, .rw, 0⟩, ⟨2, 1, .rw, 0⟩, ⟨0, 2, .rw, 0⟩]
  | .twMirrorPool => [⟨56, 8, .rsv, 0⟩, ⟨40, 16, .rol, 0⟩, ⟨24, 16, .rsv, 0⟩, ⟨0, 24, .rol, 0⟩]
  | .pwStandStatus => [⟨30, 2, .ro, 0⟩, ⟨24, 6, .rsv, 0⟩, ⟨19, 5, .ro, 18⟩, ⟨18, 1, .ro, 0⟩, ⟨17, 1, .ro, 0⟩, ⟨16, 1, .ro, 0⟩, ⟨15, 1, .ro, 0⟩, ⟨14, 1, .ro, 0⟩, ⟨12, 2, .ro, 0⟩, ⟨10, 2, .rsv, 0⟩, ⟨0, 10, .ro, 0⟩]
  | .pwStandLimit => [⟨25, 7, .rsv, 0⟩, ⟨16, 9, .ro, 400⟩, ⟨9, 7, .rsv, 0⟩, ⟨0, 9, .ro, 400⟩]
  | .pwMeter => [⟨19, 13, .rsv, 0⟩, ⟨0, 19, .ro, 0⟩]
  | .pwVlogCtrl => [⟨30, 2, .rw, 0⟩, ⟨20, 10, .rw, 850⟩, ⟨10, 10, .rw, 550⟩, ⟨0, 10, .rw, 750⟩]
  | .pwPhaseStatus => [⟨36, 28, .rsv, 0⟩, ⟨0, 2, .ro, 0⟩, ⟨2, 2, .ro, 0⟩, ⟨4, 2, .ro, 0⟩, ⟨6, 2, .ro, 0⟩, ⟨8, 2, .ro, 0⟩, ⟨10, 2, .ro, 0⟩, ⟨12, 2, .ro, 0⟩, ⟨14, 2, .ro, 0⟩, ⟨16, 2, .ro, 0⟩, ⟨18, 2, .ro, 0⟩, ⟨20, 2, .ro, 0⟩, ⟨22, 2, .ro, 0⟩, ⟨24, 2, .ro, 0⟩, ⟨26, 2, .ro, 0⟩, ⟨28, 2, .ro, 0⟩, ⟨30, 2, .ro, 0⟩, ⟨32, 2, .ro, 0⟩, ⟨34, 2, .ro, 0⟩]
  | .pwCurrent => [⟨16, 16, .ro, 0⟩, ⟨0, 16, .ro, 0⟩]
  | .pwGroveHdr => [⟨0, 2, .ro, 0⟩, ⟨2, 2, .ro, 0⟩, ⟨4, 2, .ro, 0⟩, ⟨6, 2, .ro, 0⟩, ⟨8, 2, .ro, 0⟩, ⟨10, 2, .ro, 0⟩, ⟨12, 2, .ro, 0⟩, ⟨14, 2, .ro, 0⟩, ⟨16, 2, .ro, 0⟩, ⟨18, 2, .ro, 0⟩, ⟨20, 2, .ro, 0⟩, ⟨22, 2, .ro, 0⟩, ⟨24, 2, .ro, 0⟩, ⟨26, 2, .ro, 0⟩, ⟨28, 2, .ro, 0⟩, ⟨30, 2, .ro, 0⟩]
  | .pwGroveFault => [⟨16, 16, .ro, 0⟩, ⟨0, 16, .ro, 0⟩]
  | .pwBreaker => [⟨31, 1, .wo, 0⟩, ⟨27, 4, .rsv, 0⟩, ⟨24, 3, .ro, 0⟩, ⟨8, 16, .rsv, 0⟩, ⟨0, 8, .rw, 120⟩]
  | .pwEvent => [⟨11, 21, .rsv, 0⟩, ⟨10, 1, .w1c, 0⟩, ⟨9, 1, .w1c, 0⟩, ⟨8, 1, .w1c, 0⟩, ⟨7, 1, .w1c, 0⟩, ⟨6, 1, .w1c, 0⟩, ⟨5, 1, .w1c, 0⟩, ⟨4, 1, .w1c, 0⟩, ⟨3, 1, .w1c, 0⟩, ⟨2, 1, .w1c, 0⟩, ⟨1, 1, .w1c, 0⟩, ⟨0, 1, .w1c, 0⟩]
  | .pwEventCount => [⟨88, 40, .rsv, 0⟩, ⟨0, 8, .ro, 0⟩, ⟨8, 8, .ro, 0⟩, ⟨16, 8, .ro, 0⟩, ⟨24, 8, .ro, 0⟩, ⟨32, 8, .ro, 0⟩, ⟨40, 8, .ro, 0⟩, ⟨48, 8, .ro, 0⟩, ⟨56, 8, .ro, 0⟩, ⟨64, 8, .ro, 0⟩, ⟨72, 8, .ro, 0⟩, ⟨80, 8, .ro, 0⟩]
  | .pwFeed => [⟨50, 14, .rsv, 0⟩, ⟨49, 1, .ro, 0⟩, ⟨48, 1, .ro, 0⟩, ⟨32, 16, .ro, 0⟩, ⟨16, 16, .ro, 0⟩, ⟨0, 16, .ro, 0⟩]
  | .pwConverters => [⟨27, 5, .rsv, 0⟩, ⟨22, 5, .ro, 18⟩, ⟨18, 4, .rsv, 0⟩, ⟨0, 18, .ro, 262143⟩]
  | .pwModuleLimit => [⟨48, 16, .rsv, 0⟩, ⟨32, 16, .ro, 14000⟩, ⟨16, 16, .rol, 0⟩, ⟨0, 16, .rw, 14000⟩]
  | .pwModuleMeter => [⟨16, 16, .rsv, 0⟩, ⟨0, 16, .ro, 0⟩]
  | .pwBand => [⟨60, 4, .rsv, 0⟩, ⟨59, 1, .ro, 0⟩, ⟨58, 1, .ro, 0⟩, ⟨48, 10, .ro, 0⟩, ⟨32, 16, .ro, 0⟩, ⟨16, 16, .ro, 0⟩, ⟨0, 16, .rsv, 0⟩]
  | .pwWakeCtrl => [⟨24, 8, .rsv, 0⟩, ⟨16, 8, .rw, 100⟩, ⟨8, 8, .rw, 75⟩, ⟨4, 4, .rw, 2⟩, ⟨1, 3, .rsv, 0⟩, ⟨0, 1, .rw, 1⟩]
  | .pwModEvent => [⟨8, 24, .rsv, 0⟩, ⟨7, 1, .w1c, 0⟩, ⟨6, 1, .w1c, 0⟩, ⟨5, 1, .w1c, 0⟩, ⟨4, 1, .w1c, 0⟩, ⟨3, 1, .w1c, 0⟩, ⟨2, 1, .w1c, 0⟩, ⟨1, 1, .w1c, 0⟩, ⟨0, 1, .w1c, 0⟩]
  | .pwModEventCount => [⟨0, 8, .ro, 0⟩, ⟨8, 8, .ro, 0⟩, ⟨16, 8, .ro, 0⟩, ⟨24, 8, .ro, 0⟩, ⟨32, 8, .ro, 0⟩, ⟨40, 8, .ro, 0⟩, ⟨48, 8, .ro, 0⟩, ⟨56, 8, .ro, 0⟩]
  | .thStandStatus => [⟨24, 8, .ro, 0⟩, ⟨17, 7, .ro, 100⟩, ⟨4, 13, .rsv, 0⟩, ⟨3, 1, .ro, 0⟩, ⟨2, 1, .ro, 0⟩, ⟨1, 1, .ro, 0⟩, ⟨0, 1, .ro, 0⟩]
  | .thSensor => [⟨31, 1, .ro, 0⟩, ⟨16, 15, .rsv, 0⟩, ⟨0, 16, .ro, 0⟩]
  | .thPeak => [⟨16, 16, .rsv, 0⟩, ⟨0, 16, .ro, 0⟩]
  | .thEvent => [⟨5, 27, .rsv, 0⟩, ⟨4, 1, .w1c, 0⟩, ⟨3, 1, .w1c, 0⟩, ⟨2, 1, .w1c, 0⟩, ⟨1, 1, .w1c, 0⟩, ⟨0, 1, .w1c, 0⟩]
  | .thEventCount => [⟨40, 24, .rsv, 0⟩, ⟨0, 8, .ro, 0⟩, ⟨8, 8, .ro, 0⟩, ⟨16, 8, .ro, 0⟩, ⟨24, 8, .ro, 0⟩, ⟨32, 8, .ro, 0⟩]
  | .thCoolant => [⟨48, 16, .ro, 0⟩, ⟨32, 16, .ro, 0⟩, ⟨16, 16, .ro, 0⟩, ⟨0, 16, .ro, 0⟩]
  | .thModStatus => [⟨8, 24, .rsv, 0⟩, ⟨4, 4, .ro, 0⟩, ⟨3, 1, .rsv, 0⟩, ⟨2, 1, .ro, 0⟩, ⟨1, 1, .ro, 0⟩, ⟨0, 1, .ro, 0⟩]
  | .thModEvent => [⟨3, 29, .rsv, 0⟩, ⟨2, 1, .w1c, 0⟩, ⟨1, 1, .w1c, 0⟩, ⟨0, 1, .w1c, 0⟩]
  | .thModEventCount => [⟨24, 40, .rsv, 0⟩, ⟨0, 8, .ro, 0⟩, ⟨8, 8, .ro, 0⟩, ⟨16, 8, .ro, 0⟩]
  | .btStatus => [⟨28, 4, .rsv, 0⟩, ⟨24, 4, .ro, 0⟩, ⟨16, 8, .ro, 0⟩, ⟨15, 1, .ro, 0⟩, ⟨14, 1, .ro, 0⟩, ⟨12, 2, .rsv, 0⟩, ⟨11, 1, .ro, 0⟩, ⟨10, 1, .ro, 0⟩, ⟨9, 1, .ro, 0⟩, ⟨8, 1, .ro, 0⟩, ⟨4, 4, .ro, 0⟩, ⟨0, 4, .rsv, 0⟩]
  | .btVersion => [⟨0, 32, .ro, 0⟩]
  | .btStaged => [⟨0, 32, .ro, 0⟩]
  | .btCounter => [⟨0, 32, .ro, 0⟩]
  | .btIdentity => [⟨32, 32, .ro, 0⟩, ⟨0, 32, .ro, 0⟩]
  | .btEvent => [⟨6, 26, .rsv, 0⟩, ⟨5, 1, .w1c, 0⟩, ⟨4, 1, .w1c, 0⟩, ⟨3, 1, .w1c, 0⟩, ⟨2, 1, .w1c, 0⟩, ⟨1, 1, .w1c, 0⟩, ⟨0, 1, .w1c, 0⟩]
  | .btEventCount => [⟨48, 16, .rsv, 0⟩, ⟨0, 8, .ro, 0⟩, ⟨8, 8, .ro, 0⟩, ⟨16, 8, .ro, 0⟩, ⟨24, 8, .ro, 0⟩, ⟨32, 8, .ro, 0⟩, ⟨40, 8, .ro, 0⟩]
  | .btProtBank => [⟨1, 31, .rsv, 0⟩, ⟨0, 1, .ro, 0⟩]
  | .btBootTally => [⟨0, 64, .ro, 0⟩]

/-- The width of a register in bits, as its heading gives it. -/
def Reg.width : Reg → Nat
  | .skPortId => 32
  | .skStatus => 32
  | .skEvent => 32
  | .skEventCount => 64
  | .skErrors => 32
  | .skCredit => 32
  | .skSpareCtrl => 32
  | .skSpareForce => 32
  | .skFaultInj => 32
  | .skSpareMapTx => 32
  | .skSpareMapRx => 32
  | .skClosure => 32
  | .skRelay => 64
  | .hrStatus => 32
  | .hrEvent => 32
  | .hrEventCount => 64
  | .hrDelay => 32
  | .hrTally => 64
  | .hrBarrierTimeout => 32
  | .tlSelect => 32
  | .tlTileStatus => 32
  | .tlCellLayerMap => 32
  | .tlCellLayerState => 64
  | .tlGen => 32
  | .tlRotate => 64
  | .tlRepairList => 64
  | .tlEvent => 32
  | .tlEventCount => 128
  | .tlErrorInfo => 64
  | .tlStats => 64
  | .tlCal => 32
  | .tlCtrl => 32
  | .tlUpkeepCtrl => 32
  | .tlCruise => 32
  | .tlCruiseResult => 64
  | .tlMonCtrl => 32
  | .tlMonDest => 64
  | .tlUpkeepEvent => 32
  | .tlUpkeepEventCount => 64
  | .gvId => 32
  | .gvStatus => 32
  | .gvCtrl => 32
  | .gvStreamCtrl => 32
  | .gvQueueLevel => 64
  | .gvQueueLevel2 => 32
  | .gvEvent => 32
  | .gvEventCount => 128
  | .gvNumCount => 32
  | .gvStealCount => 64
  | .gvXlateStats => 64
  | .gvCoreStatus => 64
  | .gvDispatchIndex => 32
  | .gvDispatchData => 64
  | .gvStagingBase => 64
  | .gvShadow => 128
  | .gvCounter => 32
  | .hrStepOrigin => 64
  | .hrStepCtrl => 32
  | .hrStepNow => 64
  | .hrSlipEvent => 32
  | .hrSlipEventCount => 64
  | .hrSlipTotal => 32
  | .hrSlipLast => 64
  | .sqSelect => 32
  | .sqEntry => 64
  | .sqCounts => 128
  | .sqPool => 64
  | .sqCtrl => 32
  | .sqEvent => 32
  | .sqEventCount => 64
  | .sqListArea => 64
  | .sqAdmitCount => 64
  | .sqFellCtrl => 32
  | .sqFellStatus => 32
  | .sqFellEvent => 32
  | .sqFellEventCount => 64
  | .cpId => 32
  | .cpVersion => 32
  | .cpModuleId => 64
  | .cpStatus => 32
  | .cpTally => 64
  | .cpEventStatus => 32
  | .cpEventCount => 64
  | .cpFuncRights => 64
  | .mbPost => 32
  | .mbStatus => 64
  | .mbCtrl => 32
  | .mbEventPage => 64
  | .mbEventHead => 64
  | .cpIntMap => 64
  | .cpIntCtrl => 32
  | .cpViolLast => 128
  | .ldPortStatus => 32
  | .ldPortCtrl => 32
  | .ldClass => 32
  | .ldPttCtrl => 32
  | .ldRdmaRate => 32
  | .ldBufLevel => 64
  | .ldEvent => 32
  | .ldEventCount => 128
  | .ldPttStats => 64
  | .ldFecStats => 64
  | .ldPtpStatus => 64
  | .twPortStatus => 32
  | .twPairStatus => 32
  | .twPartnerId => 64
  | .twCtrl => 32
  | .twOffset => 64
  | .twEvent => 32
  | .twEventCount => 128
  | .twMirrorStats => 64
  | .twErrors => 32
  | .twFaultInj => 32
  | .twMirrorPool => 64
  | .pwStandStatus => 32
  | .pwStandLimit => 32
  | .pwMeter => 32
  | .pwVlogCtrl => 32
  | .pwPhaseStatus => 64
  | .pwCurrent => 32
  | .pwGroveHdr => 32
  | .pwGroveFault => 32
  | .pwBreaker => 32
  | .pwEvent => 32
  | .pwEventCount => 128
  | .pwFeed => 64
  | .pwConverters => 32
  | .pwModuleLimit => 64
  | .pwModuleMeter => 32
  | .pwBand => 64
  | .pwWakeCtrl => 32
  | .pwModEvent => 32
  | .pwModEventCount => 64
  | .thStandStatus => 32
  | .thSensor => 32
  | .thPeak => 32
  | .thEvent => 32
  | .thEventCount => 64
  | .thCoolant => 64
  | .thModStatus => 32
  | .thModEvent => 32
  | .thModEventCount => 64
  | .btStatus => 32
  | .btVersion => 32
  | .btStaged => 32
  | .btCounter => 32
  | .btIdentity => 64
  | .btEvent => 32
  | .btEventCount => 64
  | .btProtBank => 32
  | .btBootTally => 64

/-- The offset of a register in its block, as its heading gives it. -/
def Reg.offset : Reg → Nat
  | .skPortId => 0
  | .skStatus => 4
  | .skEvent => 8
  | .skEventCount => 12
  | .skErrors => 20
  | .skCredit => 28
  | .skSpareCtrl => 32
  | .skSpareForce => 36
  | .skFaultInj => 40
  | .skSpareMapTx => 256
  | .skSpareMapRx => 384
  | .skClosure => 512
  | .skRelay => 655360
  | .hrStatus => 0
  | .hrEvent => 4
  | .hrEventCount => 8
  | .hrDelay => 16
  | .hrTally => 24
  | .hrBarrierTimeout => 32
  | .tlSelect => 0
  | .tlTileStatus => 4
  | .tlCellLayerMap => 16
  | .tlCellLayerState => 32
  | .tlGen => 40
  | .tlRotate => 48
  | .tlRepairList => 56
  | .tlEvent => 64
  | .tlEventCount => 72
  | .tlErrorInfo => 88
  | .tlStats => 96
  | .tlCal => 104
  | .tlCtrl => 112
  | .tlUpkeepCtrl => 120
  | .tlCruise => 124
  | .tlCruiseResult => 128
  | .tlMonCtrl => 136
  | .tlMonDest => 144
  | .tlUpkeepEvent => 160
  | .tlUpkeepEventCount => 168
  | .gvId => 0
  | .gvStatus => 4
  | .gvCtrl => 8
  | .gvStreamCtrl => 12
  | .gvQueueLevel => 16
  | .gvQueueLevel2 => 24
  | .gvEvent => 32
  | .gvEventCount => 40
  | .gvNumCount => 64
  | .gvStealCount => 96
  | .gvXlateStats => 104
  | .gvCoreStatus => 128
  | .gvDispatchIndex => 192
  | .gvDispatchData => 200
  | .gvStagingBase => 208
  | .gvShadow => 256
  | .gvCounter => 512
  | .hrStepOrigin => 40
  | .hrStepCtrl => 48
  | .hrStepNow => 56
  | .hrSlipEvent => 64
  | .hrSlipEventCount => 72
  | .hrSlipTotal => 80
  | .hrSlipLast => 88
  | .sqSelect => 0
  | .sqEntry => 8
  | .sqCounts => 136
  | .sqPool => 152
  | .sqCtrl => 176
  | .sqEvent => 184
  | .sqEventCount => 192
  | .sqListArea => 208
  | .sqAdmitCount => 224
  | .sqFellCtrl => 232
  | .sqFellStatus => 240
  | .sqFellEvent => 248
  | .sqFellEventCount => 256
  | .cpId => 0
  | .cpVersion => 4
  | .cpModuleId => 8
  | .cpStatus => 16
  | .cpTally => 24
  | .cpEventStatus => 32
  | .cpEventCount => 40
  | .cpFuncRights => 48
  | .mbPost => 64
  | .mbStatus => 72
  | .mbCtrl => 80
  | .mbEventPage => 88
  | .mbEventHead => 96
  | .cpIntMap => 104
  | .cpIntCtrl => 112
  | .cpViolLast => 128
  | .ldPortStatus => 0
  | .ldPortCtrl => 4
  | .ldClass => 8
  | .ldPttCtrl => 12
  | .ldRdmaRate => 16
  | .ldBufLevel => 24
  | .ldEvent => 32
  | .ldEventCount => 40
  | .ldPttStats => 64
  | .ldFecStats => 72
  | .ldPtpStatus => 80
  | .twPortStatus => 0
  | .twPairStatus => 4
  | .twPartnerId => 8
  | .twCtrl => 16
  | .twOffset => 24
  | .twEvent => 32
  | .twEventCount => 40
  | .twMirrorStats => 56
  | .twErrors => 64
  | .twFaultInj => 72
  | .twMirrorPool => 80
  | .pwStandStatus => 0
  | .pwStandLimit => 4
  | .pwMeter => 8
  | .pwVlogCtrl => 12
  | .pwPhaseStatus => 16
  | .pwCurrent => 24
  | .pwGroveHdr => 32
  | .pwGroveFault => 36
  | .pwBreaker => 40
  | .pwEvent => 48
  | .pwEventCount => 56
  | .pwFeed => 0
  | .pwConverters => 8
  | .pwModuleLimit => 16
  | .pwModuleMeter => 24
  | .pwBand => 32
  | .pwWakeCtrl => 96
  | .pwModEvent => 104
  | .pwModEventCount => 112
  | .thStandStatus => 0
  | .thSensor => 16
  | .thPeak => 64
  | .thEvent => 72
  | .thEventCount => 80
  | .thCoolant => 0
  | .thModStatus => 8
  | .thModEvent => 16
  | .thModEventCount => 24
  | .btStatus => 0
  | .btVersion => 16
  | .btStaged => 32
  | .btCounter => 48
  | .btIdentity => 64
  | .btEvent => 72
  | .btEventCount => 80
  | .btProtBank => 88
  | .btBootTally => 96

/-- Byte distance between the entries of a register array; 0 for a single register. -/
def Reg.stride : Reg → Nat
  | .skSpareMapTx => 4
  | .skSpareMapRx => 4
  | .skClosure => 4
  | .skRelay => 8
  | .tlCellLayerMap => 4
  | .gvNumCount => 4
  | .gvCoreStatus => 8
  | .gvShadow => 16
  | .gvCounter => 4
  | .sqEntry => 8
  | .pwBand => 8
  | .thSensor => 4
  | .btVersion => 4
  | .btStaged => 4
  | .btCounter => 4
  | _ => 0

/-- Number of entries of a register array. -/
def Reg.count : Reg → Nat
  | .skSpareMapTx => 32
  | .skSpareMapRx => 32
  | .skClosure => 8
  | .skRelay => 128
  | .tlCellLayerMap => 4
  | .gvNumCount => 8
  | .gvCoreStatus => 6
  | .gvShadow => 16
  | .gvCounter => 64
  | .sqEntry => 16
  | .pwBand => 7
  | .thSensor => 8
  | .btVersion => 4
  | .btStaged => 4
  | .btCounter => 4
  | _ => 1

/-- Every register of a block, by the prefix of its name and its window (R56, R96, R202, R281, R428). -/
inductive Block where
  | sk | relay | hr | tl | gv | sq | cp | ld | tw | pwStand | pwModule | thStand | thModule | bt
deriving DecidableEq, Repr

def Reg.block : Reg → Block
  | .skPortId => .sk
  | .skStatus => .sk
  | .skEvent => .sk
  | .skEventCount => .sk
  | .skErrors => .sk
  | .skCredit => .sk
  | .skSpareCtrl => .sk
  | .skSpareForce => .sk
  | .skFaultInj => .sk
  | .skSpareMapTx => .sk
  | .skSpareMapRx => .sk
  | .skClosure => .sk
  | .skRelay => .relay
  | .hrStatus => .hr
  | .hrEvent => .hr
  | .hrEventCount => .hr
  | .hrDelay => .hr
  | .hrTally => .hr
  | .hrBarrierTimeout => .hr
  | .tlSelect => .tl
  | .tlTileStatus => .tl
  | .tlCellLayerMap => .tl
  | .tlCellLayerState => .tl
  | .tlGen => .tl
  | .tlRotate => .tl
  | .tlRepairList => .tl
  | .tlEvent => .tl
  | .tlEventCount => .tl
  | .tlErrorInfo => .tl
  | .tlStats => .tl
  | .tlCal => .tl
  | .tlCtrl => .tl
  | .tlUpkeepCtrl => .tl
  | .tlCruise => .tl
  | .tlCruiseResult => .tl
  | .tlMonCtrl => .tl
  | .tlMonDest => .tl
  | .tlUpkeepEvent => .tl
  | .tlUpkeepEventCount => .tl
  | .gvId => .gv
  | .gvStatus => .gv
  | .gvCtrl => .gv
  | .gvStreamCtrl => .gv
  | .gvQueueLevel => .gv
  | .gvQueueLevel2 => .gv
  | .gvEvent => .gv
  | .gvEventCount => .gv
  | .gvNumCount => .gv
  | .gvStealCount => .gv
  | .gvXlateStats => .gv
  | .gvCoreStatus => .gv
  | .gvDispatchIndex => .gv
  | .gvDispatchData => .gv
  | .gvStagingBase => .gv
  | .gvShadow => .gv
  | .gvCounter => .gv
  | .hrStepOrigin => .hr
  | .hrStepCtrl => .hr
  | .hrStepNow => .hr
  | .hrSlipEvent => .hr
  | .hrSlipEventCount => .hr
  | .hrSlipTotal => .hr
  | .hrSlipLast => .hr
  | .sqSelect => .sq
  | .sqEntry => .sq
  | .sqCounts => .sq
  | .sqPool => .sq
  | .sqCtrl => .sq
  | .sqEvent => .sq
  | .sqEventCount => .sq
  | .sqListArea => .sq
  | .sqAdmitCount => .sq
  | .sqFellCtrl => .sq
  | .sqFellStatus => .sq
  | .sqFellEvent => .sq
  | .sqFellEventCount => .sq
  | .cpId => .cp
  | .cpVersion => .cp
  | .cpModuleId => .cp
  | .cpStatus => .cp
  | .cpTally => .cp
  | .cpEventStatus => .cp
  | .cpEventCount => .cp
  | .cpFuncRights => .cp
  | .mbPost => .cp
  | .mbStatus => .cp
  | .mbCtrl => .cp
  | .mbEventPage => .cp
  | .mbEventHead => .cp
  | .cpIntMap => .cp
  | .cpIntCtrl => .cp
  | .cpViolLast => .cp
  | .ldPortStatus => .ld
  | .ldPortCtrl => .ld
  | .ldClass => .ld
  | .ldPttCtrl => .ld
  | .ldRdmaRate => .ld
  | .ldBufLevel => .ld
  | .ldEvent => .ld
  | .ldEventCount => .ld
  | .ldPttStats => .ld
  | .ldFecStats => .ld
  | .ldPtpStatus => .ld
  | .twPortStatus => .tw
  | .twPairStatus => .tw
  | .twPartnerId => .tw
  | .twCtrl => .tw
  | .twOffset => .tw
  | .twEvent => .tw
  | .twEventCount => .tw
  | .twMirrorStats => .tw
  | .twErrors => .tw
  | .twFaultInj => .tw
  | .twMirrorPool => .tw
  | .pwStandStatus => .pwStand
  | .pwStandLimit => .pwStand
  | .pwMeter => .pwStand
  | .pwVlogCtrl => .pwStand
  | .pwPhaseStatus => .pwStand
  | .pwCurrent => .pwStand
  | .pwGroveHdr => .pwStand
  | .pwGroveFault => .pwStand
  | .pwBreaker => .pwStand
  | .pwEvent => .pwStand
  | .pwEventCount => .pwStand
  | .pwFeed => .pwModule
  | .pwConverters => .pwModule
  | .pwModuleLimit => .pwModule
  | .pwModuleMeter => .pwModule
  | .pwBand => .pwModule
  | .pwWakeCtrl => .pwModule
  | .pwModEvent => .pwModule
  | .pwModEventCount => .pwModule
  | .thStandStatus => .thStand
  | .thSensor => .thStand
  | .thPeak => .thStand
  | .thEvent => .thStand
  | .thEventCount => .thStand
  | .thCoolant => .thModule
  | .thModStatus => .thModule
  | .thModEvent => .thModule
  | .thModEventCount => .thModule
  | .btStatus => .bt
  | .btVersion => .bt
  | .btStaged => .bt
  | .btCounter => .bt
  | .btIdentity => .bt
  | .btEvent => .bt
  | .btEventCount => .bt
  | .btProtBank => .bt
  | .btBootTally => .bt

/-- The registers of a block, in the order of the tables. -/
def Block.regs : Block → List Reg
  | .sk => [.skPortId, .skStatus, .skEvent, .skEventCount, .skErrors, .skCredit, .skSpareCtrl, .skSpareForce, .skFaultInj, .skSpareMapTx, .skSpareMapRx, .skClosure]
  | .relay => [.skRelay]
  | .hr => [.hrStatus, .hrEvent, .hrEventCount, .hrDelay, .hrTally, .hrBarrierTimeout, .hrStepOrigin, .hrStepCtrl, .hrStepNow, .hrSlipEvent, .hrSlipEventCount, .hrSlipTotal, .hrSlipLast]
  | .tl => [.tlSelect, .tlTileStatus, .tlCellLayerMap, .tlCellLayerState, .tlGen, .tlRotate, .tlRepairList, .tlEvent, .tlEventCount, .tlErrorInfo, .tlStats, .tlCal, .tlCtrl, .tlUpkeepCtrl, .tlCruise, .tlCruiseResult, .tlMonCtrl, .tlMonDest, .tlUpkeepEvent, .tlUpkeepEventCount]
  | .gv => [.gvId, .gvStatus, .gvCtrl, .gvStreamCtrl, .gvQueueLevel, .gvQueueLevel2, .gvEvent, .gvEventCount, .gvNumCount, .gvStealCount, .gvXlateStats, .gvCoreStatus, .gvDispatchIndex, .gvDispatchData, .gvStagingBase, .gvShadow, .gvCounter]
  | .sq => [.sqSelect, .sqEntry, .sqCounts, .sqPool, .sqCtrl, .sqEvent, .sqEventCount, .sqListArea, .sqAdmitCount, .sqFellCtrl, .sqFellStatus, .sqFellEvent, .sqFellEventCount]
  | .cp => [.cpId, .cpVersion, .cpModuleId, .cpStatus, .cpTally, .cpEventStatus, .cpEventCount, .cpFuncRights, .mbPost, .mbStatus, .mbCtrl, .mbEventPage, .mbEventHead, .cpIntMap, .cpIntCtrl, .cpViolLast]
  | .ld => [.ldPortStatus, .ldPortCtrl, .ldClass, .ldPttCtrl, .ldRdmaRate, .ldBufLevel, .ldEvent, .ldEventCount, .ldPttStats, .ldFecStats, .ldPtpStatus]
  | .tw => [.twPortStatus, .twPairStatus, .twPartnerId, .twCtrl, .twOffset, .twEvent, .twEventCount, .twMirrorStats, .twErrors, .twFaultInj, .twMirrorPool]
  | .pwStand => [.pwStandStatus, .pwStandLimit, .pwMeter, .pwVlogCtrl, .pwPhaseStatus, .pwCurrent, .pwGroveHdr, .pwGroveFault, .pwBreaker, .pwEvent, .pwEventCount]
  | .pwModule => [.pwFeed, .pwConverters, .pwModuleLimit, .pwModuleMeter, .pwBand, .pwWakeCtrl, .pwModEvent, .pwModEventCount]
  | .thStand => [.thStandStatus, .thSensor, .thPeak, .thEvent, .thEventCount]
  | .thModule => [.thCoolant, .thModStatus, .thModEvent, .thModEventCount]
  | .bt => [.btStatus, .btVersion, .btStaged, .btCounter, .btIdentity, .btEvent, .btEventCount, .btProtBank, .btBootTally]

/-- A register shown for the tile that TL_SELECT names (R96). -/
def Reg.perTile : Reg → Bool
  | .tlTileStatus | .tlCellLayerMap | .tlCellLayerState | .tlGen | .tlRotate | .tlRepairList | .tlStats | .tlCal | .tlCruise | .tlCruiseResult => true
  | _ => false

/-! The named fields of the tables: `<register>_<field>`; a field that a table indexes carries its index. -/

def skPortId_kind : Fld := ⟨.skPortId, 30, 2⟩
def skPortId_peerPort : Fld := ⟨.skPortId, 22, 3⟩
def skPortId_peer : Fld := ⟨.skPortId, 16, 6⟩
def skPortId_port : Fld := ⟨.skPortId, 6, 3⟩
def skPortId_stand : Fld := ⟨.skPortId, 0, 6⟩
def skStatus_sparesUsedRx : Fld := ⟨.skStatus, 9, 5⟩
def skStatus_sparesUsedTx : Fld := ⟨.skStatus, 4, 5⟩
def skStatus_sparingActive : Fld := ⟨.skStatus, 3, 1⟩
def skStatus_retryActive : Fld := ⟨.skStatus, 2, 1⟩
def skStatus_degraded : Fld := ⟨.skStatus, 1, 1⟩
def skStatus_linkUp : Fld := ⟨.skStatus, 0, 1⟩
def skEvent_injectActive : Fld := ⟨.skEvent, 7, 1⟩
def skEvent_closureDrop : Fld := ⟨.skEvent, 6, 1⟩
def skEvent_relayMiss : Fld := ⟨.skEvent, 5, 1⟩
def skEvent_linkDown : Fld := ⟨.skEvent, 4, 1⟩
def skEvent_sparesLow : Fld := ⟨.skEvent, 3, 1⟩
def skEvent_laneSpared : Fld := ⟨.skEvent, 2, 1⟩
def skEvent_retryExhausted : Fld := ⟨.skEvent, 1, 1⟩
def skEvent_crcError : Fld := ⟨.skEvent, 0, 1⟩
def skErrors_retryCount : Fld := ⟨.skErrors, 16, 16⟩
def skErrors_crcCount : Fld := ⟨.skErrors, 0, 16⟩
def skCredit_ctlCredits : Fld := ⟨.skCredit, 16, 4⟩
def skCredit_fellCredits : Fld := ⟨.skCredit, 12, 4⟩
def skCredit_dataCredits : Fld := ⟨.skCredit, 0, 9⟩
def skSpareCtrl_window : Fld := ⟨.skSpareCtrl, 16, 4⟩
def skSpareCtrl_errThreshold : Fld := ⟨.skSpareCtrl, 8, 8⟩
def skSpareCtrl_autoSpareEn : Fld := ⟨.skSpareCtrl, 0, 1⟩
def skSpareForce_go : Fld := ⟨.skSpareForce, 31, 1⟩
def skSpareForce_dir : Fld := ⟨.skSpareForce, 9, 1⟩
def skSpareForce_lane : Fld := ⟨.skSpareForce, 0, 9⟩
def skFaultInj_value : Fld := ⟨.skFaultInj, 4, 28⟩
def skFaultInj_dir : Fld := ⟨.skFaultInj, 3, 1⟩
def skFaultInj_byRate : Fld := ⟨.skFaultInj, 2, 1⟩
def skFaultInj_mode : Fld := ⟨.skFaultInj, 0, 2⟩
def skSpareMapTx_valid : Fld := ⟨.skSpareMapTx, 31, 1⟩
def skSpareMapTx_lane : Fld := ⟨.skSpareMapTx, 0, 9⟩
def skSpareMapRx_valid : Fld := ⟨.skSpareMapRx, 31, 1⟩
def skSpareMapRx_lane : Fld := ⟨.skSpareMapRx, 0, 9⟩
def skClosure_permit : Fld := ⟨.skClosure, 0, 32⟩
def skRelay_creditShare : Fld := ⟨.skRelay, 26, 9⟩
def skRelay_imageTag : Fld := ⟨.skRelay, 18, 8⟩
def skRelay_transferId : Fld := ⟨.skRelay, 6, 12⟩
def skRelay_outPort : Fld := ⟨.skRelay, 3, 3⟩
def skRelay_inPort : Fld := ⟨.skRelay, 0, 3⟩
def hrStatus_lockstepBeacon : Fld := ⟨.hrStatus, 4, 1⟩
def hrStatus_tallyLocked : Fld := ⟨.hrStatus, 3, 1⟩
def hrStatus_secondaryOk : Fld := ⟨.hrStatus, 2, 1⟩
def hrStatus_primaryOk : Fld := ⟨.hrStatus, 1, 1⟩
def hrStatus_tree : Fld := ⟨.hrStatus, 0, 1⟩
def hrEvent_bothTreesLost : Fld := ⟨.hrEvent, 4, 1⟩
def hrEvent_barrierTimeout : Fld := ⟨.hrEvent, 3, 1⟩
def hrEvent_wordCrcError : Fld := ⟨.hrEvent, 2, 1⟩
def hrEvent_treeSwitch : Fld := ⟨.hrEvent, 1, 1⟩
def hrEvent_beaconMissed : Fld := ⟨.hrEvent, 0, 1⟩
def hrDelay_secondary : Fld := ⟨.hrDelay, 16, 16⟩
def hrDelay_primary : Fld := ⟨.hrDelay, 0, 16⟩
def hrTally_tally : Fld := ⟨.hrTally, 0, 64⟩
def hrBarrierTimeout_frames : Fld := ⟨.hrBarrierTimeout, 0, 16⟩
def tlSelect_tile : Fld := ⟨.tlSelect, 0, 11⟩
def tlTileStatus_reverseLatched : Fld := ⟨.tlTileStatus, 22, 1⟩
def tlTileStatus_retiredCount : Fld := ⟨.tlTileStatus, 20, 2⟩
def tlTileStatus_tileState : Fld := ⟨.tlTileStatus, 18, 2⟩
def tlTileStatus_rotationState : Fld := ⟨.tlTileStatus, 15, 3⟩
def tlTileStatus_rotationPhys : Fld := ⟨.tlTileStatus, 10, 5⟩
def tlTileStatus_activeValid : Fld := ⟨.tlTileStatus, 9, 1⟩
def tlTileStatus_activeLogical : Fld := ⟨.tlTileStatus, 5, 4⟩
def tlTileStatus_activePhys : Fld := ⟨.tlTileStatus, 0, 5⟩
def tlGen_armedValid : Fld := ⟨.tlGen, 16, 1⟩
def tlGen_armedGen : Fld := ⟨.tlGen, 8, 8⟩
def tlGen_currentGen : Fld := ⟨.tlGen, 0, 8⟩
def tlRotate_go : Fld := ⟨.tlRotate, 63, 1⟩
def tlRotate_kind : Fld := ⟨.tlRotate, 60, 3⟩
def tlRotate_logical : Fld := ⟨.tlRotate, 56, 4⟩
def tlRotate_gen : Fld := ⟨.tlRotate, 48, 8⟩
def tlRotate_src : Fld := ⟨.tlRotate, 0, 48⟩
def tlEvent_copyFailed : Fld := ⟨.tlEvent, 11, 1⟩
def tlEvent_rotateBusy : Fld := ⟨.tlEvent, 10, 1⟩
def tlEvent_reverseMismatch : Fld := ⟨.tlEvent, 9, 1⟩
def tlEvent_verifyFail : Fld := ⟨.tlEvent, 8, 1⟩
def tlEvent_rotationDone : Fld := ⟨.tlEvent, 7, 1⟩
def tlEvent_calDrift : Fld := ⟨.tlEvent, 6, 1⟩
def tlEvent_suspectSet : Fld := ⟨.tlEvent, 5, 1⟩
def tlEvent_headerError : Fld := ⟨.tlEvent, 4, 1⟩
def tlEvent_tileError : Fld := ⟨.tlEvent, 3, 1⟩
def tlEvent_corrected : Fld := ⟨.tlEvent, 2, 1⟩
def tlEvent_reread : Fld := ⟨.tlEvent, 1, 1⟩
def tlEvent_checkMismatch : Fld := ⟨.tlEvent, 0, 1⟩
def tlErrorInfo_tallyLow : Fld := ⟨.tlErrorInfo, 40, 24⟩
def tlErrorInfo_kind : Fld := ⟨.tlErrorInfo, 37, 3⟩
def tlErrorInfo_tile : Fld := ⟨.tlErrorInfo, 26, 11⟩
def tlErrorInfo_logical : Fld := ⟨.tlErrorInfo, 22, 4⟩
def tlErrorInfo_rowGroup : Fld := ⟨.tlErrorInfo, 17, 5⟩
def tlErrorInfo_plane : Fld := ⟨.tlErrorInfo, 14, 3⟩
def tlErrorInfo_checkGroup : Fld := ⟨.tlErrorInfo, 10, 4⟩
def tlErrorInfo_column : Fld := ⟨.tlErrorInfo, 0, 10⟩
def tlStats_tileErrors : Fld := ⟨.tlStats, 48, 16⟩
def tlStats_corrections : Fld := ⟨.tlStats, 32, 16⟩
def tlStats_rereads : Fld := ⟨.tlStats, 0, 32⟩
def tlCal_factoryTrim : Fld := ⟨.tlCal, 16, 16⟩
def tlCal_gainTrim : Fld := ⟨.tlCal, 0, 16⟩
def tlCtrl_calLimit : Fld := ⟨.tlCtrl, 16, 8⟩
def tlCtrl_swapForce : Fld := ⟨.tlCtrl, 8, 8⟩
def tlCtrl_slicePairs : Fld := ⟨.tlCtrl, 0, 4⟩
def tlUpkeepCtrl_maxRotations : Fld := ⟨.tlUpkeepCtrl, 16, 8⟩
def tlUpkeepCtrl_forcedSliceGap : Fld := ⟨.tlUpkeepCtrl, 8, 8⟩
def tlUpkeepCtrl_monEn : Fld := ⟨.tlUpkeepCtrl, 2, 1⟩
def tlUpkeepCtrl_forcedSliceEn : Fld := ⟨.tlUpkeepCtrl, 1, 1⟩
def tlUpkeepCtrl_cruiseEn : Fld := ⟨.tlUpkeepCtrl, 0, 1⟩
def tlCruise_go : Fld := ⟨.tlCruise, 31, 1⟩
def tlCruise_priority : Fld := ⟨.tlCruise, 30, 1⟩
def tlCruise_phys : Fld := ⟨.tlCruise, 0, 5⟩
def tlCruiseResult_tallyLow : Fld := ⟨.tlCruiseResult, 40, 24⟩
def tlCruiseResult_phys : Fld := ⟨.tlCruiseResult, 35, 5⟩
def tlCruiseResult_logical : Fld := ⟨.tlCruiseResult, 31, 4⟩
def tlCruiseResult_rowIdentityFail : Fld := ⟨.tlCruiseResult, 30, 1⟩
def tlCruiseResult_coppiceDue : Fld := ⟨.tlCruiseResult, 29, 1⟩
def tlCruiseResult_maxResidual : Fld := ⟨.tlCruiseResult, 21, 8⟩
def tlCruiseResult_cellsOver : Fld := ⟨.tlCruiseResult, 11, 10⟩
def tlCruiseResult_maxExcursion : Fld := ⟨.tlCruiseResult, 3, 8⟩
def tlCruiseResult_stuck : Fld := ⟨.tlCruiseResult, 0, 3⟩
def tlMonCtrl_logical : Fld := ⟨.tlMonCtrl, 24, 4⟩
def tlMonCtrl_tile : Fld := ⟨.tlMonCtrl, 13, 11⟩
def tlMonCtrl_window : Fld := ⟨.tlMonCtrl, 8, 5⟩
def tlMonCtrl_go : Fld := ⟨.tlMonCtrl, 0, 1⟩
def tlMonDest_addr : Fld := ⟨.tlMonDest, 0, 48⟩
def tlUpkeepEvent_monDone : Fld := ⟨.tlUpkeepEvent, 6, 1⟩
def tlUpkeepEvent_stuckCell : Fld := ⟨.tlUpkeepEvent, 5, 1⟩
def tlUpkeepEvent_coppiceDue : Fld := ⟨.tlUpkeepEvent, 4, 1⟩
def tlUpkeepEvent_rowIdentityFail : Fld := ⟨.tlUpkeepEvent, 3, 1⟩
def tlUpkeepEvent_forcedSlice : Fld := ⟨.tlUpkeepEvent, 2, 1⟩
def tlUpkeepEvent_cruiseBusy : Fld := ⟨.tlUpkeepEvent, 1, 1⟩
def tlUpkeepEvent_cruiseDone : Fld := ⟨.tlUpkeepEvent, 0, 1⟩
def gvId_cores : Fld := ⟨.gvId, 12, 4⟩
def gvId_cluster : Fld := ⟨.gvId, 8, 4⟩
def gvId_die : Fld := ⟨.gvId, 0, 6⟩
def gvStatus_imageTag : Fld := ⟨.gvStatus, 24, 8⟩
def gvStatus_exact : Fld := ⟨.gvStatus, 17, 1⟩
def gvStatus_lockstep : Fld := ⟨.gvStatus, 16, 1⟩
def gvStatus_coresRunning : Fld := ⟨.gvStatus, 4, 6⟩
def gvStatus_power : Fld := ⟨.gvStatus, 0, 2⟩
def gvCtrl_commitTimeout : Fld := ⟨.gvCtrl, 24, 8⟩
def gvCtrl_stealMin : Fld := ⟨.gvCtrl, 16, 8⟩
def gvCtrl_stealWait : Fld := ⟨.gvCtrl, 8, 8⟩
def gvCtrl_taskStealEn : Fld := ⟨.gvCtrl, 1, 1⟩
def gvCtrl_attnStealEn : Fld := ⟨.gvCtrl, 0, 1⟩
def gvStreamCtrl_streamEntry : Fld := ⟨.gvStreamCtrl, 0, 16⟩
def gvQueueLevel_memOps : Fld := ⟨.gvQueueLevel, 56, 8⟩
def gvQueueLevel_dma : Fld := ⟨.gvQueueLevel, 48, 8⟩
def gvQueueLevel_kvAppend : Fld := ⟨.gvQueueLevel, 40, 8⟩
def gvQueueLevel_softmax : Fld := ⟨.gvQueueLevel, 32, 8⟩
def gvQueueLevel_finish : Fld := ⟨.gvQueueLevel, 24, 8⟩
def gvQueueLevel_accum : Fld := ⟨.gvQueueLevel, 16, 8⟩
def gvQueueLevel_dispatch : Fld := ⟨.gvQueueLevel, 8, 8⟩
def gvQueueLevel_quantize : Fld := ⟨.gvQueueLevel, 0, 8⟩
def gvQueueLevel2_task : Fld := ⟨.gvQueueLevel2, 9, 6⟩
def gvQueueLevel2_attn : Fld := ⟨.gvQueueLevel2, 0, 9⟩
def gvEvent_commitTimeout : Fld := ⟨.gvEvent, 9, 1⟩
def gvEvent_shadowApplied : Fld := ⟨.gvEvent, 8, 1⟩
def gvEvent_redirect : Fld := ⟨.gvEvent, 7, 1⟩
def gvEvent_cancelDrop : Fld := ⟨.gvEvent, 6, 1⟩
def gvEvent_replay : Fld := ⟨.gvEvent, 5, 1⟩
def gvEvent_scaleEvent : Fld := ⟨.gvEvent, 4, 1⟩
def gvEvent_numericFault : Fld := ⟨.gvEvent, 3, 1⟩
def gvEvent_pageInvalid : Fld := ⟨.gvEvent, 2, 1⟩
def gvEvent_descriptorError : Fld := ⟨.gvEvent, 1, 1⟩
def gvEvent_coreFault : Fld := ⟨.gvEvent, 0, 1⟩
def gvNumCount_count : Fld := ⟨.gvNumCount, 0, 32⟩
def gvStealCount_tasksOut : Fld := ⟨.gvStealCount, 48, 16⟩
def gvStealCount_tasksIn : Fld := ⟨.gvStealCount, 32, 16⟩
def gvStealCount_itemsOut : Fld := ⟨.gvStealCount, 16, 16⟩
def gvStealCount_itemsIn : Fld := ⟨.gvStealCount, 0, 16⟩
def gvXlateStats_misses : Fld := ⟨.gvXlateStats, 32, 32⟩
def gvXlateStats_hits : Fld := ⟨.gvXlateStats, 0, 32⟩
def gvCoreStatus_fault : Fld := ⟨.gvCoreStatus, 36, 8⟩
def gvCoreStatus_state : Fld := ⟨.gvCoreStatus, 32, 4⟩
def gvCoreStatus_pc : Fld := ⟨.gvCoreStatus, 16, 16⟩
def gvCoreStatus_task : Fld := ⟨.gvCoreStatus, 0, 16⟩
def gvDispatchIndex_entry : Fld := ⟨.gvDispatchIndex, 0, 15⟩
def gvDispatchData_valid : Fld := ⟨.gvDispatchData, 63, 1⟩
def gvDispatchData_kind : Fld := ⟨.gvDispatchData, 61, 2⟩
def gvDispatchData_die : Fld := ⟨.gvDispatchData, 55, 6⟩
def gvDispatchData_cluster : Fld := ⟨.gvDispatchData, 51, 4⟩
def gvDispatchData_tile : Fld := ⟨.gvDispatchData, 40, 11⟩
def gvDispatchData_logical : Fld := ⟨.gvDispatchData, 36, 4⟩
def gvDispatchData_mirrorValid : Fld := ⟨.gvDispatchData, 35, 1⟩
def gvDispatchData_mirrorDie : Fld := ⟨.gvDispatchData, 29, 6⟩
def gvDispatchData_mirrorCluster : Fld := ⟨.gvDispatchData, 25, 4⟩
def gvDispatchData_mirrorTile : Fld := ⟨.gvDispatchData, 14, 11⟩
def gvDispatchData_mirrorLogical : Fld := ⟨.gvDispatchData, 10, 4⟩
def gvStagingBase_addr : Fld := ⟨.gvStagingBase, 0, 48⟩
def gvShadow_arm : Fld := ⟨.gvShadow, 127, 1⟩
def gvShadow_applied : Fld := ⟨.gvShadow, 126, 1⟩
def gvShadow_entry : Fld := ⟨.gvShadow, 111, 15⟩
def gvShadow_value : Fld := ⟨.gvShadow, 0, 64⟩
def gvCounter_value : Fld := ⟨.gvCounter, 0, 16⟩
def hrStepOrigin_origin : Fld := ⟨.hrStepOrigin, 0, 64⟩
def hrStepCtrl_epoch : Fld := ⟨.hrStepCtrl, 24, 8⟩
def hrStepCtrl_exact : Fld := ⟨.hrStepCtrl, 17, 1⟩
def hrStepCtrl_lockstep : Fld := ⟨.hrStepCtrl, 16, 1⟩
def hrStepCtrl_period : Fld := ⟨.hrStepCtrl, 0, 16⟩
def hrStepNow_step : Fld := ⟨.hrStepNow, 0, 64⟩
def hrSlipEvent_lateArrival : Fld := ⟨.hrSlipEvent, 3, 1⟩
def hrSlipEvent_replay : Fld := ⟨.hrSlipEvent, 2, 1⟩
def hrSlipEvent_extraReread : Fld := ⟨.hrSlipEvent, 1, 1⟩
def hrSlipEvent_overrun : Fld := ⟨.hrSlipEvent, 0, 1⟩
def hrSlipTotal_slips : Fld := ⟨.hrSlipTotal, 0, 32⟩
def hrSlipLast_tallyLow : Fld := ⟨.hrSlipLast, 40, 24⟩
def hrSlipLast_kind : Fld := ⟨.hrSlipLast, 36, 4⟩
def hrSlipLast_cluster : Fld := ⟨.hrSlipLast, 32, 4⟩
def hrSlipLast_step : Fld := ⟨.hrSlipLast, 0, 32⟩
def sqSelect_entry : Fld := ⟨.sqSelect, 0, 15⟩
def sqEntry_bytes : Fld := ⟨.sqEntry, 0, 64⟩
def sqCounts_closed : Fld := ⟨.sqCounts, 80, 16⟩
def sqCounts_felling : Fld := ⟨.sqCounts, 64, 16⟩
def sqCounts_suspended : Fld := ⟨.sqCounts, 48, 16⟩
def sqCounts_decode : Fld := ⟨.sqCounts, 32, 16⟩
def sqCounts_prefill : Fld := ⟨.sqCounts, 16, 16⟩
def sqCounts_opening : Fld := ⟨.sqCounts, 0, 16⟩
def sqPool_free : Fld := ⟨.sqPool, 24, 24⟩
def sqPool_total : Fld := ⟨.sqPool, 0, 24⟩
def sqCtrl_allocEn : Fld := ⟨.sqCtrl, 9, 1⟩
def sqCtrl_deckKvEn : Fld := ⟨.sqCtrl, 8, 1⟩
def sqCtrl_mapAhead : Fld := ⟨.sqCtrl, 0, 8⟩
def sqEvent_kvLost : Fld := ⟨.sqEvent, 7, 1⟩
def sqEvent_genHandover : Fld := ⟨.sqEvent, 6, 1⟩
def sqEvent_variantLoad : Fld := ⟨.sqEvent, 5, 1⟩
def sqEvent_pageMoved : Fld := ⟨.sqEvent, 4, 1⟩
def sqEvent_pageInvalidReport : Fld := ⟨.sqEvent, 3, 1⟩
def sqEvent_kvExhausted : Fld := ⟨.sqEvent, 2, 1⟩
def sqEvent_pageWait : Fld := ⟨.sqEvent, 1, 1⟩
def sqEvent_staleHandle : Fld := ⟨.sqEvent, 0, 1⟩
def sqListArea_units : Fld := ⟨.sqListArea, 40, 24⟩
def sqListArea_base : Fld := ⟨.sqListArea, 0, 40⟩
def sqAdmitCount_suspends : Fld := ⟨.sqAdmitCount, 48, 16⟩
def sqAdmitCount_refuses : Fld := ⟨.sqAdmitCount, 32, 16⟩
def sqAdmitCount_defers : Fld := ⟨.sqAdmitCount, 16, 16⟩
def sqAdmitCount_admits : Fld := ⟨.sqAdmitCount, 0, 16⟩
def sqFellCtrl_reuseGuard : Fld := ⟨.sqFellCtrl, 16, 16⟩
def sqFellCtrl_fellTimeout : Fld := ⟨.sqFellCtrl, 0, 16⟩
def sqFellStatus_wordsWaiting : Fld := ⟨.sqFellStatus, 16, 8⟩
def sqFellStatus_fellingsOpen : Fld := ⟨.sqFellStatus, 0, 16⟩
def sqFellEvent_slotWait : Fld := ⟨.sqFellEvent, 5, 1⟩
def sqFellEvent_fellRefused : Fld := ⟨.sqFellEvent, 4, 1⟩
def sqFellEvent_shed : Fld := ⟨.sqFellEvent, 3, 1⟩
def sqFellEvent_fellTimeout : Fld := ⟨.sqFellEvent, 2, 1⟩
def sqFellEvent_fellDone : Fld := ⟨.sqFellEvent, 1, 1⟩
def sqFellEvent_fellIssued : Fld := ⟨.sqFellEvent, 0, 1⟩
def cpId_landing : Fld := ⟨.cpId, 17, 3⟩
def cpId_port : Fld := ⟨.cpId, 15, 2⟩
def cpId_vf : Fld := ⟨.cpId, 14, 1⟩
def cpId_function : Fld := ⟨.cpId, 8, 6⟩
def cpId_stepping : Fld := ⟨.cpId, 0, 8⟩
def cpVersion_firmwareBuild : Fld := ⟨.cpVersion, 16, 16⟩
def cpVersion_daushVersion : Fld := ⟨.cpVersion, 0, 16⟩
def cpModuleId_serial : Fld := ⟨.cpModuleId, 0, 64⟩
def cpStatus_tenantValid : Fld := ⟨.cpStatus, 9, 1⟩
def cpStatus_exact : Fld := ⟨.cpStatus, 8, 1⟩
def cpStatus_lockstep : Fld := ⟨.cpStatus, 7, 1⟩
def cpStatus_tallyLocked : Fld := ⟨.cpStatus, 6, 1⟩
def cpStatus_twinPaired : Fld := ⟨.cpStatus, 5, 1⟩
def cpStatus_forester : Fld := ⟨.cpStatus, 4, 1⟩
def cpStatus_state : Fld := ⟨.cpStatus, 0, 4⟩
def cpTally_tally : Fld := ⟨.cpTally, 0, 64⟩
def cpEventStatus_aer : Fld := ⟨.cpEventStatus, 7, 1⟩
def cpEventStatus_twin : Fld := ⟨.cpEventStatus, 6, 1⟩
def cpEventStatus_eventPageOff : Fld := ⟨.cpEventStatus, 5, 1⟩
def cpEventStatus_serviceState : Fld := ⟨.cpEventStatus, 4, 1⟩
def cpEventStatus_violation : Fld := ⟨.cpEventStatus, 3, 1⟩
def cpEventStatus_postRefused : Fld := ⟨.cpEventStatus, 2, 1⟩
def cpEventStatus_recordWritten : Fld := ⟨.cpEventStatus, 1, 1⟩
def cpEventStatus_responseReady : Fld := ⟨.cpEventStatus, 0, 1⟩
def cpFuncRights_totalVfs : Fld := ⟨.cpFuncRights, 32, 6⟩
def cpFuncRights_tenantValid : Fld := ⟨.cpFuncRights, 24, 1⟩
def cpFuncRights_tenant : Fld := ⟨.cpFuncRights, 16, 8⟩
def cpFuncRights_allTenants : Fld := ⟨.cpFuncRights, 10, 1⟩
def cpFuncRights_groups : Fld := ⟨.cpFuncRights, 0, 10⟩
def mbPost_postNumber : Fld := ⟨.mbPost, 16, 16⟩
def mbPost_length : Fld := ⟨.mbPost, 0, 13⟩
def mbStatus_lastPost : Fld := ⟨.mbStatus, 32, 16⟩
def mbStatus_respLen : Fld := ⟨.mbStatus, 16, 13⟩
def mbStatus_taken : Fld := ⟨.mbStatus, 2, 1⟩
def mbStatus_state : Fld := ⟨.mbStatus, 0, 2⟩
def mbCtrl_abort : Fld := ⟨.mbCtrl, 0, 1⟩
def mbEventPage_addr : Fld := ⟨.mbEventPage, 12, 52⟩
def mbEventPage_enable : Fld := ⟨.mbEventPage, 0, 1⟩
def mbEventHead_number : Fld := ⟨.mbEventHead, 0, 64⟩
def cpIntCtrl_holdoff : Fld := ⟨.cpIntCtrl, 0, 16⟩
def cpViolLast_offset : Fld := ⟨.cpViolLast, 96, 32⟩
def cpViolLast_command : Fld := ⟨.cpViolLast, 80, 16⟩
def cpViolLast_kind : Fld := ⟨.cpViolLast, 64, 8⟩
def cpViolLast_tally : Fld := ⟨.cpViolLast, 0, 64⟩
def ldPortStatus_ptpSelected : Fld := ⟨.ldPortStatus, 7, 1⟩
def ldPortStatus_pfcActive : Fld := ⟨.ldPortStatus, 6, 1⟩
def ldPortStatus_modulePresent : Fld := ⟨.ldPortStatus, 5, 1⟩
def ldPortStatus_remoteFault : Fld := ⟨.ldPortStatus, 4, 1⟩
def ldPortStatus_localFault : Fld := ⟨.ldPortStatus, 3, 1⟩
def ldPortStatus_fecLocked : Fld := ⟨.ldPortStatus, 2, 1⟩
def ldPortStatus_pcsAligned : Fld := ⟨.ldPortStatus, 1, 1⟩
def ldPortStatus_linkUp : Fld := ⟨.ldPortStatus, 0, 1⟩
def ldPortCtrl_pfcEn : Fld := ⟨.ldPortCtrl, 3, 1⟩
def ldPortCtrl_rdmaEn : Fld := ⟨.ldPortCtrl, 2, 1⟩
def ldPortCtrl_pttEn : Fld := ⟨.ldPortCtrl, 1, 1⟩
def ldPortCtrl_portEn : Fld := ⟨.ldPortCtrl, 0, 1⟩
def ldClass_pfcPriority : Fld := ⟨.ldClass, 24, 3⟩
def ldClass_dscpRdma : Fld := ⟨.ldClass, 18, 6⟩
def ldClass_dscpData : Fld := ⟨.ldClass, 12, 6⟩
def ldClass_dscpCtrl : Fld := ⟨.ldClass, 6, 6⟩
def ldPttCtrl_bindIdle : Fld := ⟨.ldPttCtrl, 24, 8⟩
def ldPttCtrl_takeoverRepeats : Fld := ⟨.ldPttCtrl, 16, 8⟩
def ldPttCtrl_promptWait : Fld := ⟨.ldPttCtrl, 0, 16⟩
def ldRdmaRate_rdmaRate : Fld := ⟨.ldRdmaRate, 0, 8⟩
def ldBufLevel_data : Fld := ⟨.ldBufLevel, 32, 16⟩
def ldBufLevel_rdma : Fld := ⟨.ldBufLevel, 16, 16⟩
def ldBufLevel_ctrl : Fld := ⟨.ldBufLevel, 0, 16⟩
def ldEvent_ptpLockLost : Fld := ⟨.ldEvent, 11, 1⟩
def ldEvent_rdmaNak : Fld := ⟨.ldEvent, 10, 1⟩
def ldEvent_formatReject : Fld := ⟨.ldEvent, 9, 1⟩
def ldEvent_dataDrop : Fld := ⟨.ldEvent, 8, 1⟩
def ldEvent_ctrlDrop : Fld := ⟨.ldEvent, 7, 1⟩
def ldEvent_wrongPort : Fld := ⟨.ldEvent, 6, 1⟩
def ldEvent_bindConflict : Fld := ⟨.ldEvent, 5, 1⟩
def ldEvent_replayDrop : Fld := ⟨.ldEvent, 4, 1⟩
def ldEvent_authFail : Fld := ⟨.ldEvent, 3, 1⟩
def ldEvent_malformed : Fld := ⟨.ldEvent, 2, 1⟩
def ldEvent_fecUncorrected : Fld := ⟨.ldEvent, 1, 1⟩
def ldEvent_linkDown : Fld := ⟨.ldEvent, 0, 1⟩
def ldPttStats_framesOut : Fld := ⟨.ldPttStats, 32, 32⟩
def ldPttStats_framesIn : Fld := ⟨.ldPttStats, 0, 32⟩
def ldFecStats_uncorrected : Fld := ⟨.ldFecStats, 32, 32⟩
def ldFecStats_corrected : Fld := ⟨.ldFecStats, 0, 32⟩
def ldPtpStatus_offset : Fld := ⟨.ldPtpStatus, 32, 32⟩
def ldPtpStatus_domain : Fld := ⟨.ldPtpStatus, 8, 8⟩
def ldPtpStatus_backupInUse : Fld := ⟨.ldPtpStatus, 1, 1⟩
def ldPtpStatus_locked : Fld := ⟨.ldPtpStatus, 0, 1⟩
def twPortStatus_retryActive : Fld := ⟨.twPortStatus, 3, 1⟩
def twPortStatus_heartbeatOk : Fld := ⟨.twPortStatus, 2, 1⟩
def twPortStatus_fecLocked : Fld := ⟨.twPortStatus, 1, 1⟩
def twPortStatus_linkUp : Fld := ⟨.twPortStatus, 0, 1⟩
def twPairStatus_partitioned : Fld := ⟨.twPairStatus, 5, 1⟩
def twPairStatus_leader : Fld := ⟨.twPairStatus, 4, 1⟩
def twPairStatus_state : Fld := ⟨.twPairStatus, 0, 3⟩
def twPartnerId_serial : Fld := ⟨.twPartnerId, 0, 64⟩
def twCtrl_hbTimeout : Fld := ⟨.twCtrl, 8, 16⟩
def twCtrl_hbInterval : Fld := ⟨.twCtrl, 0, 8⟩
def twOffset_offset : Fld := ⟨.twOffset, 0, 64⟩
def twEvent_injectActive : Fld := ⟨.twEvent, 8, 1⟩
def twEvent_barrierFail : Fld := ⟨.twEvent, 7, 1⟩
def twEvent_reunionSeen : Fld := ⟨.twEvent, 6, 1⟩
def twEvent_takeover : Fld := ⟨.twEvent, 5, 1⟩
def twEvent_partnerLost : Fld := ⟨.twEvent, 4, 1⟩
def twEvent_mirrorLate : Fld := ⟨.twEvent, 3, 1⟩
def twEvent_hbPortLost : Fld := ⟨.twEvent, 2, 1⟩
def twEvent_linkDown : Fld := ⟨.twEvent, 1, 1⟩
def twEvent_crcError : Fld := ⟨.twEvent, 0, 1⟩
def twMirrorStats_acked : Fld := ⟨.twMirrorStats, 32, 32⟩
def twMirrorStats_lagMax : Fld := ⟨.twMirrorStats, 16, 16⟩
def twMirrorStats_held : Fld := ⟨.twMirrorStats, 0, 16⟩
def twErrors_retryCount : Fld := ⟨.twErrors, 16, 16⟩
def twErrors_crcCount : Fld := ⟨.twErrors, 0, 16⟩
def twFaultInj_value : Fld := ⟨.twFaultInj, 4, 28⟩
def twFaultInj_dir : Fld := ⟨.twFaultInj, 3, 1⟩
def twFaultInj_byRate : Fld := ⟨.twFaultInj, 2, 1⟩
def twFaultInj_mode : Fld := ⟨.twFaultInj, 0, 2⟩
def twMirrorPool_mirrorEntries : Fld := ⟨.twMirrorPool, 40, 16⟩
def twMirrorPool_mirrorPages : Fld := ⟨.twMirrorPool, 0, 24⟩
def pwStandStatus_standPower : Fld := ⟨.pwStandStatus, 30, 2⟩
def pwStandStatus_phasesOk : Fld := ⟨.pwStandStatus, 19, 5⟩
def pwStandStatus_segmentOpen : Fld := ⟨.pwStandStatus, 18, 1⟩
def pwStandStatus_derated : Fld := ⟨.pwStandStatus, 17, 1⟩
def pwStandStatus_breakerOpen : Fld := ⟨.pwStandStatus, 16, 1⟩
def pwStandStatus_elecThin : Fld := ⟨.pwStandStatus, 15, 1⟩
def pwStandStatus_meterThin : Fld := ⟨.pwStandStatus, 14, 1⟩
def pwStandStatus_wake : Fld := ⟨.pwStandStatus, 12, 2⟩
def pwStandStatus_vlogMv : Fld := ⟨.pwStandStatus, 0, 10⟩
def pwStandLimit_effective : Fld := ⟨.pwStandLimit, 16, 9⟩
def pwStandLimit_limit : Fld := ⟨.pwStandLimit, 0, 9⟩
def pwMeter_meter : Fld := ⟨.pwMeter, 0, 19⟩
def pwVlogCtrl_mode : Fld := ⟨.pwVlogCtrl, 30, 2⟩
def pwVlogCtrl_ceiling : Fld := ⟨.pwVlogCtrl, 20, 10⟩
def pwVlogCtrl_floor : Fld := ⟨.pwVlogCtrl, 10, 10⟩
def pwVlogCtrl_set : Fld := ⟨.pwVlogCtrl, 0, 10⟩
def pwCurrent_input : Fld := ⟨.pwCurrent, 16, 16⟩
def pwCurrent_vlog : Fld := ⟨.pwCurrent, 0, 16⟩
def pwGroveFault_stuckClosed : Fld := ⟨.pwGroveFault, 16, 16⟩
def pwGroveFault_stuckOpen : Fld := ⟨.pwGroveFault, 0, 16⟩
def pwBreaker_close : Fld := ⟨.pwBreaker, 31, 1⟩
def pwBreaker_cause : Fld := ⟨.pwBreaker, 24, 3⟩
def pwBreaker_tripCurrent : Fld := ⟨.pwBreaker, 0, 8⟩
def pwEvent_vlogLimit : Fld := ⟨.pwEvent, 10, 1⟩
def pwEvent_headerStuck : Fld := ⟨.pwEvent, 9, 1⟩
def pwEvent_wakeDeferred : Fld := ⟨.pwEvent, 8, 1⟩
def pwEvent_wakeThinned : Fld := ⟨.pwEvent, 7, 1⟩
def pwEvent_wakeStretched : Fld := ⟨.pwEvent, 6, 1⟩
def pwEvent_meterThin : Fld := ⟨.pwEvent, 5, 1⟩
def pwEvent_elecThin : Fld := ⟨.pwEvent, 4, 1⟩
def pwEvent_derate : Fld := ⟨.pwEvent, 3, 1⟩
def pwEvent_breakerTrip : Fld := ⟨.pwEvent, 2, 1⟩
def pwEvent_phaseShorted : Fld := ⟨.pwEvent, 1, 1⟩
def pwEvent_phaseLost : Fld := ⟨.pwEvent, 0, 1⟩
def pwFeed_feedBOk : Fld := ⟨.pwFeed, 49, 1⟩
def pwFeed_feedAOk : Fld := ⟨.pwFeed, 48, 1⟩
def pwFeed_inputPower : Fld := ⟨.pwFeed, 32, 16⟩
def pwFeed_feedB : Fld := ⟨.pwFeed, 16, 16⟩
def pwFeed_feedA : Fld := ⟨.pwFeed, 0, 16⟩
def pwConverters_working : Fld := ⟨.pwConverters, 22, 5⟩
def pwConverters_ok : Fld := ⟨.pwConverters, 0, 18⟩
def pwModuleLimit_inForce : Fld := ⟨.pwModuleLimit, 32, 16⟩
def pwModuleLimit_configuredMax : Fld := ⟨.pwModuleLimit, 16, 16⟩
def pwModuleLimit_set : Fld := ⟨.pwModuleLimit, 0, 16⟩
def pwModuleMeter_sum : Fld := ⟨.pwModuleMeter, 0, 16⟩
def pwBand_segmentOpen : Fld := ⟨.pwBand, 59, 1⟩
def pwBand_lowered : Fld := ⟨.pwBand, 58, 1⟩
def pwBand_wakeReserved : Fld := ⟨.pwBand, 48, 10⟩
def pwBand_meters : Fld := ⟨.pwBand, 32, 16⟩
def pwBand_limit : Fld := ⟨.pwBand, 16, 16⟩
def pwWakeCtrl_deferRetry : Fld := ⟨.pwWakeCtrl, 16, 8⟩
def pwWakeCtrl_thinFloor : Fld := ⟨.pwWakeCtrl, 8, 8⟩
def pwWakeCtrl_wakeMax : Fld := ⟨.pwWakeCtrl, 4, 4⟩
def pwWakeCtrl_thinForWakeEn : Fld := ⟨.pwWakeCtrl, 0, 1⟩
def pwModEvent_busLow : Fld := ⟨.pwModEvent, 7, 1⟩
def pwModEvent_moduleThin : Fld := ⟨.pwModEvent, 6, 1⟩
def pwModEvent_bandSegmentOpen : Fld := ⟨.pwModEvent, 5, 1⟩
def pwModEvent_limitLowered : Fld := ⟨.pwModEvent, 4, 1⟩
def pwModEvent_converterLost : Fld := ⟨.pwModEvent, 3, 1⟩
def pwModEvent_feedRestored : Fld := ⟨.pwModEvent, 2, 1⟩
def pwModEvent_feedBLost : Fld := ⟨.pwModEvent, 1, 1⟩
def pwModEvent_feedALost : Fld := ⟨.pwModEvent, 0, 1⟩
def thStandStatus_hottest : Fld := ⟨.thStandStatus, 24, 8⟩
def thStandStatus_heatFactor : Fld := ⟨.thStandStatus, 17, 7⟩
def thStandStatus_sensorFault : Fld := ⟨.thStandStatus, 3, 1⟩
def thStandStatus_heatOff : Fld := ⟨.thStandStatus, 2, 1⟩
def thStandStatus_thinning : Fld := ⟨.thStandStatus, 1, 1⟩
def thStandStatus_warning : Fld := ⟨.thStandStatus, 0, 1⟩
def thSensor_valid : Fld := ⟨.thSensor, 31, 1⟩
def thSensor_temp : Fld := ⟨.thSensor, 0, 16⟩
def thPeak_peak : Fld := ⟨.thPeak, 0, 16⟩
def thEvent_returnReady : Fld := ⟨.thEvent, 4, 1⟩
def thEvent_sensorFault : Fld := ⟨.thEvent, 3, 1⟩
def thEvent_heatOff : Fld := ⟨.thEvent, 2, 1⟩
def thEvent_thinStart : Fld := ⟨.thEvent, 1, 1⟩
def thEvent_warning : Fld := ⟨.thEvent, 0, 1⟩
def thCoolant_flow : Fld := ⟨.thCoolant, 48, 16⟩
def thCoolant_outlet : Fld := ⟨.thCoolant, 32, 16⟩
def thCoolant_inletB : Fld := ⟨.thCoolant, 16, 16⟩
def thCoolant_inletA : Fld := ⟨.thCoolant, 0, 16⟩
def thModStatus_lastCause : Fld := ⟨.thModStatus, 4, 4⟩
def thModStatus_flowLow : Fld := ⟨.thModStatus, 2, 1⟩
def thModStatus_inletTimer : Fld := ⟨.thModStatus, 1, 1⟩
def thModStatus_inletHigh : Fld := ⟨.thModStatus, 0, 1⟩
def thModEvent_flowLow : Fld := ⟨.thModEvent, 2, 1⟩
def thModEvent_inletTimer : Fld := ⟨.thModEvent, 1, 1⟩
def thModEvent_inletHigh : Fld := ⟨.thModEvent, 0, 1⟩
def btStatus_failCode : Fld := ⟨.btStatus, 24, 4⟩
def btStatus_step : Fld := ⟨.btStatus, 16, 8⟩
def btStatus_active : Fld := ⟨.btStatus, 15, 1⟩
def btStatus_standbyReady : Fld := ⟨.btStatus, 14, 1⟩
def btStatus_manifestSlot : Fld := ⟨.btStatus, 11, 1⟩
def btStatus_protSlot : Fld := ⟨.btStatus, 10, 1⟩
def btStatus_cfgSlot : Fld := ⟨.btStatus, 9, 1⟩
def btStatus_fwSlot : Fld := ⟨.btStatus, 8, 1⟩
def btStatus_rootsRevoked : Fld := ⟨.btStatus, 4, 4⟩
def btVersion_version : Fld := ⟨.btVersion, 0, 32⟩
def btStaged_version : Fld := ⟨.btStaged, 0, 32⟩
def btCounter_counter : Fld := ⟨.btCounter, 0, 32⟩
def btIdentity_slhFp : Fld := ⟨.btIdentity, 32, 32⟩
def btIdentity_rsaFp : Fld := ⟨.btIdentity, 0, 32⟩
def btEvent_residentDropped : Fld := ⟨.btEvent, 5, 1⟩
def btEvent_swapFallback : Fld := ⟨.btEvent, 4, 1⟩
def btEvent_swapDone : Fld := ⟨.btEvent, 3, 1⟩
def btEvent_slotFallback : Fld := ⟨.btEvent, 2, 1⟩
def btEvent_counterAdvanced : Fld := ⟨.btEvent, 1, 1⟩
def btEvent_verifyFail : Fld := ⟨.btEvent, 0, 1⟩
def btProtBank_bank : Fld := ⟨.btProtBank, 0, 1⟩
def btBootTally_tally : Fld := ⟨.btBootTally, 0, 64⟩

def skEventCount_count (k : Nat) : Fld := ⟨.skEventCount, 0 + 8 * k, 8⟩
def hrEventCount_count (k : Nat) : Fld := ⟨.hrEventCount, 0 + 8 * k, 8⟩
def tlCellLayerMap_reverseOk (k : Nat) : Fld := ⟨.tlCellLayerMap, 7 + 8 * k, 1⟩
def tlCellLayerMap_wide (k : Nat) : Fld := ⟨.tlCellLayerMap, 6 + 8 * k, 1⟩
def tlCellLayerMap_suspect (k : Nat) : Fld := ⟨.tlCellLayerMap, 5 + 8 * k, 1⟩
def tlCellLayerMap_phys (k : Nat) : Fld := ⟨.tlCellLayerMap, 0 + 8 * k, 5⟩
def tlCellLayerState_state (k : Nat) : Fld := ⟨.tlCellLayerState, 0 + 2 * k, 2⟩
def tlRepairList_valid (k : Nat) : Fld := ⟨.tlRepairList, 15 + 16 * k, 1⟩
def tlRepairList_column (k : Nat) : Fld := ⟨.tlRepairList, 0 + 16 * k, 10⟩
def tlEventCount_count (k : Nat) : Fld := ⟨.tlEventCount, 0 + 8 * k, 8⟩
def tlUpkeepEventCount_count (k : Nat) : Fld := ⟨.tlUpkeepEventCount, 0 + 8 * k, 8⟩
def gvEventCount_count (k : Nat) : Fld := ⟨.gvEventCount, 0 + 8 * k, 8⟩
def hrSlipEventCount_count (k : Nat) : Fld := ⟨.hrSlipEventCount, 0 + 8 * k, 8⟩
def sqEventCount_count (k : Nat) : Fld := ⟨.sqEventCount, 0 + 8 * k, 8⟩
def sqFellEventCount_count (k : Nat) : Fld := ⟨.sqFellEventCount, 0 + 8 * k, 8⟩
def cpEventCount_count (k : Nat) : Fld := ⟨.cpEventCount, 0 + 8 * k, 8⟩
def cpIntMap_en (k : Nat) : Fld := ⟨.cpIntMap, 7 + 8 * k, 1⟩
def cpIntMap_vector (k : Nat) : Fld := ⟨.cpIntMap, 0 + 8 * k, 4⟩
def ldEventCount_count (k : Nat) : Fld := ⟨.ldEventCount, 0 + 8 * k, 8⟩
def twEventCount_count (k : Nat) : Fld := ⟨.twEventCount, 0 + 8 * k, 8⟩
def pwPhaseStatus_phase (k : Nat) : Fld := ⟨.pwPhaseStatus, 0 + 2 * k, 2⟩
def pwGroveHdr_cluster (k : Nat) : Fld := ⟨.pwGroveHdr, 0 + 2 * k, 2⟩
def pwEventCount_count (k : Nat) : Fld := ⟨.pwEventCount, 0 + 8 * k, 8⟩
def pwModEventCount_count (k : Nat) : Fld := ⟨.pwModEventCount, 0 + 8 * k, 8⟩
def thEventCount_count (k : Nat) : Fld := ⟨.thEventCount, 0 + 8 * k, 8⟩
def thModEventCount_count (k : Nat) : Fld := ⟨.thModEventCount, 0 + 8 * k, 8⟩
def btEventCount_count (k : Nat) : Fld := ⟨.btEventCount, 0 + 8 * k, 8⟩

end Sys2Proof.Machine
end

