-- ==== Sys2Proof/Machine/State.lean ====
section
/-! DEFINITION. Everything the manual gives the module to hold, as plain data, the state after reset, and the reasons
for which a step can stop. Registers of the manual's tables live in one register file (`State.regs`); what no register
shows has a record of its own below. -/

namespace Sys2Proof.Machine

/-- Why a command stops the model. -/
inductive Fault where
  /-- Raised by the yarder, the page walk and tier programming for an HBM byte address at or above 24 × 64 GiB, which no
  stack holds (R15, R18, R260). Safe: the manual gives such an access no effect. -/
  | hbmAddress (byte : Nat)
  /-- Raised by a register write to a Forester address at which the manual places no register. Safe: the manual
  describes no such access. -/
  | noRegister (addr : Nat)
deriving DecidableEq, Repr

/-- Why the model gives a command no meaning. -/
inductive Refusal where
  /-- Raised by an arm of `exec` that has no meaning yet. Safe: the model stops. -/
  | notModelled (mnemonic : String)
deriving DecidableEq, Repr

/-- A byte memory: address and byte pairs, addresses strictly rising, no byte 0 listed; a byte that is not listed
reads as 0 (log 1). -/
abbrev Memory := List Host.Cell

/-! ## Links (chapter Carrier, Stands and Fabric) -/

/-- What a flit of a type without a payload layout in the manual carries (log 20): an HBM read request, HBM read data, an HBM
write, a nak, a diagnosis request, or a felling acknowledgement (R30, R34, R195, R313). -/
inductive FlitArg where
  | plain
  | hbmRequest (addr line lines : Nat)
  | hbmData (line : Nat) (bytes : List Byte)
  | hbmWrite (addr : Nat) (bytes : List Byte)
  | nak (ch : Fin 3) (seq : Nat)
  | diagnosis
  | ack (id : FellId) (stand : Nat)
deriving DecidableEq, Repr

/-- A flit that waits in a port for a credit, with what it carries, the relay entry whose share it takes (R42), and the port
and channel whose receive buffer it still holds. -/
structure Waiting where
  flit  : Flit
  arg   : FlitArg
  relay : Option Nat := none
  held  : Option PortId := none
deriving DecidableEq, Repr

/-- One channel of a port (R34, R35): the waiting flits, the next link_seq to send, the next link_seq expected, whether
the receiver has sent a nak and waits for the resend, how often in a row that flit has failed, and the relay entries of
the flits whose credits are still out. -/
structure Chan where
  waiting  : List Waiting := []
  txSeq    : Nat := 0
  rxSeq    : Nat := 0
  discards : Bool := false
  fails    : Nat := 0
  out      : List (Option Nat) := []
deriving DecidableEq, Repr

/-- One end of a link (R34, R35, R38, R474): the channels, the replay buffer, partial-sum flits that hold their credit
(R175), the lane diagnosis, the sparing in progress in each direction, the injection's progress, and whether the link went
down in TEST (R476) or with a dark stand (R435). -/
structure Port where
  chans     : Tbl (Fin 3) Chan := []
  replay    : List (Flit × FlitArg) := []
  held      : List Flit := []
  diagnosis : Bool := false
  spareRx   : Option (Fin 512 × Fin 32) := none
  spareTx   : Option (Fin 512 × Fin 32) := none
  injected  : Nat := 0
  seen      : Nat := 0
  swapHeld  : Option (Flit × FlitArg) := none
  sparesDue : List (Fin 512) := []
  downInTest : Bool := false
  dark      : Bool := false
deriving DecidableEq, Repr

/-- Link-control and lane-sparing messages on the control channel (R34, R38). -/
inductive LinkMsg where
  | nak (ch : Fin 3) (seq : Nat)
  | diagnosis
  | pattern
  | sparing (lane : Fin 512) (spare : Fin 32)
  | confirm (lane : Fin 512) (spare : Fin 32)
deriving DecidableEq, Repr

/-! ## Haul road -/

/-- A barrier at the sequencing root (R47, R159): participants, arrivals, the largest value carried, the release tally. -/
structure Barrier where
  parts    : List Participant := []
  arrived  : List Participant := []
  xmax     : Option Int := none
  release  : Option Nat := none
  released : List Participant := []
deriving DecidableEq, Repr

/-- The sequencing root's queues, one for each use of a slot (R45), and the place in the frame. -/
structure HaulRoad where
  data     : List HrWord := []
  felling  : List HrWord := []
  barriers : List HrWord := []
  forester : List HrWord := []
  linkMgmt : List HrWord := []
  frame    : Nat := 0
  slot     : Nat := 0
deriving DecidableEq, Repr

/-- A stand's side of the haul road and of the lockstep grid (R46, R50, R232): beacons missed in a row, CRC failures in
the frame, the last words kept from the other tree, the local tally, the announced step tally with its grid. -/
structure StandRoad where
  missed    : Nat := 0
  crcFails  : Nat := 0
  frame     : Nat := 0
  kept      : List HrWord := []
  taken     : List (Nat × Nat) := []
  tally     : Nat := 0
  announced : Nat := 0
deriving DecidableEq, Repr

/-! ## Weight tiles -/

/-- The header latch image of a tier (R79): exponent offsets, codebook, repair map and mode. -/
structure Latch where
  expo     : BitVec 2048 := 0
  codebook : BitVec 80 := 0
  repair   : BitVec 48 := 0
  mode     : BitVec 8 := 0
  imageTag : Nat := 0
  gen      : Nat := 0
  logical  : Nat := 0
deriving DecidableEq, Repr

/-- A physical tier (R58 to R61): the data-column codes of each row, the latch image, the tier record, and the columns with
stuck cells that Forester firmware knows of (R109). A row that is not listed holds code 0 in every column. Check digits, column sums and CRCs are functions of these. -/
structure Tier where
  rows         : Tbl Nat (BitVec 2048) := []
  latch        : Latch := {}
  layer        : Nat := 0
  programTally : Nat := 0
  programCount : Nat := 0
  stuckCols : List Nat := []
deriving DecidableEq, Repr

/-- The kinds of a rotation (R88). -/
inductive RotKind where
  | copy | load | update
deriving DecidableEq, Repr

/-- A rotation in progress on a tile (R88, R90): what is written, the next row, the program-verify pairs spent on it, and the tier image where firmware names one (golden, load or variant) instead of an HBM address. -/
structure Rotation where
  kind    : RotKind := .copy
  logical : Nat := 0
  gen     : Nat := 0
  src     : Nat := 0
  row     : Nat := 0
  rowRead : Bool := false
  pairs   : Nat := 0
  image   : Option TierImage := none
deriving DecidableEq, Repr

/-- A cruise in progress (R99): the physical tier, the next slice, its priority, MVMs since the last slice, and what
the slices so far have found, in 1/16 unit. -/
structure Cruise where
  phys     : Nat := 0
  slice    : Nat := 0
  priority : Bool := false
  mvms     : Nat := 0
  maxRes   : Nat := 0
  overs    : Nat := 0
  maxE     : Nat := 0
  stuck    : List Nat := []
  badRow   : Bool := false
deriving DecidableEq, Repr

/-- The drift record of a physical tier (R102, R103, R109, R112, R116): clock in 0.05 s units times 2^16, the tally of the
last cruise, the last cruise finding of the present contents, whether it is suspect since, the first interval after a long
off-time, whether a coppice is scheduled, the clock since programming, early findings in a row, and whether the tier has yet to
pass the priority cruise of its stand's return (R119). -/
structure Drift where
  clock      : Nat := 0
  lastCruise : Nat := 0
  finding    : Nat := 0
  suspect    : Bool := false
  firstLong  : Bool := false
  coppice    : Bool := false
  sinceProg  : Nat := 0
  early      : Nat := 0
  due        : Bool := false
deriving DecidableEq, Repr

/-- A weight tile beyond its registers: the 17 physical tiers, the header latch of the active tier, the rotation and the
cruise, the drift records, the MVMs of each logical tier, when the active tier was activated or calibrated, and the logical tiers that remaps
have moved away (R113). -/
structure Tile where
  tiers    : Tbl Nat Tier := []
  latch    : Latch := {}
  rotation : Option Rotation := none
  cruise   : Option Cruise := none
  drift    : Tbl Nat Drift := []
  mvms     : Tbl Nat Nat := []
  calTally : Nat := 0
  gone     : List Nat := []
deriving DecidableEq, Repr

/-- A rotation that waits in Forester firmware for its grove (R110). -/
structure RotRequest where
  tile    : TileId
  kind    : RotKind := .copy
  logical : Nat := 0
  gen     : Nat := 0
  src     : Nat := 0
  maxRes  : Nat := 0
  image   : Option TierImage := none
deriving DecidableEq, Repr

/-- A remap (R113): the tile that the image gives the logical tier, the source and the destination tile, the dispatch entry in the owner's
grove, whether it is done, and whether the digital path serves the tier instead (R115). -/
structure Remap where
  owner   : TileId
  src     : TileId
  logical : Nat := 0
  dst     : TileId
  entry   : Nat := 0
  done    : Bool := false
  digital : Bool := false
deriving DecidableEq, Repr

/-- One column of the output monitor (R106). -/
structure MonColumn where
  min   : Nat := 0
  max   : Nat := 0
  sum   : Nat := 0
  count : Nat := 0
  hist  : Tbl Nat Nat := []
deriving DecidableEq, Repr

/-- An output-monitor window (R106). -/
structure Monitor where
  tile    : Nat := 0
  logical : Nat := 0
  left    : Nat := 0
  columns : Tbl Nat MonColumn := []
deriving DecidableEq, Repr

/-! ## Groves -/

/-- A descriptor in a stage queue with its queue slot and, in lockstep mode, the step tally that let it start (R233). -/
structure QItem where
  desc : Descriptor := 0
  slot : Nat := 0
  goAt : Option Nat := none
deriving DecidableEq, Repr

/-- An armed receive of the accumulator bank (R174, R175). -/
structure Receive where
  item : QItem := {}
  left : Nat := 0
deriving DecidableEq, Repr

/-- A scale event kept by a grove (R159, R160): its step, its kind, the largest X_nat seen here, and, once the replay
has been released, the floor that it raises to. -/
structure ScaleEvent where
  key      : StepKey
  kind     : ScaleKind := .input
  xnat     : Int := 0
  released : Option Int := none
deriving DecidableEq, Repr

/-- A completion of lockstep mode that has not taken effect (R233, R235): the counter it adds to, its due tally, the
sequence it belongs to, and whether it came late. -/
structure DueAct where
  ctr  : Option Nat := none
  due  : Nat := 0
  seq  : Option Nat := none
  late : Bool := false
deriving DecidableEq, Repr


/-- A grove beyond its registers and its deck (R162): stage queues, accumulators, felled map, dispatch table, translation
cache (most recent first), armed receives, step reports as lead, finishing history by image tag and slot,
scale events, the history slot and largest e of steps that have not committed, the output monitor, the
next task slot, work that score engines and fellers have stolen. -/
structure Grove where
  queues   : Tbl Nat (List QItem) := []
  acc      : Tbl Nat (BitVec 88) := []
  felled   : List Nat := []
  dispatch : Tbl Nat (BitVec 64) := []
  xlate    : List (Nat × Nat × BitVec 32) := []
  receives : List Receive := []
  reports  : Tbl StepKey (List StepReport) := []
  history  : Tbl (Nat × Nat) (List Int) := []
  events   : List ScaleEvent := []
  pendingE : Tbl StepKey (Nat × Int) := []
  monitor  : Option Monitor := none
  nextSlot : Nat := 0
  due      : List DueAct := []
deriving DecidableEq, Repr

/-- What a feller waits for. -/
inductive FellerWait where
  | running
  | counter (ctr : Fin 64) (value : Nat)
  | queue (stage : Nat) (desc : Descriptor)
deriving DecidableEq, Repr

/-- A feller beyond GV_CORE_STATUS (R185): registers, masks, home grove, argument line, the task it runs, and what it
waits for. -/
structure Feller where
  sregs  : Tbl (Fin 32) (BitVec 64) := []
  vregs  : Tbl (Fin 16) VecReg := []
  masks  : Tbl (Fin 4) MaskReg := []
  home   : GroveId := ⟨0, 0⟩
  argLine : Nat := 0
  task   : Option QItem := none
  wait   : FellerWait := .running
deriving DecidableEq, Repr

/-! ## Control ports (chapter Control Ports and Mailboxes) -/

/-- An event record (R332): the detail bytes by kind, zeros to 32. -/
structure EventRecord where
  number : Nat := 0
  tally  : Nat := 0
  kind   : Nat := 0
  tenant : Nat := 0
  handle : Nat := 0
  detail : List Byte := []
deriving DecidableEq, Repr

/-- A function of a control port beyond its registers (R319, R324, R326, R331, R335, R340): whether it exists, Bus Master Enable and
D3hot, the two slots, the copied request, taken requests whose function was reset, a formed response that is not written yet,
the operations whose host transfers run, the sequence whose suspension a response waits for, and MSI-X. -/
structure Func where
  exists_   : Bool := false
  busMaster : Bool := false
  d3hot     : Bool := false
  request   : Memory := []
  copied    : List Byte := []
  orphans   : List (List Byte) := []
  response  : List Byte := []
  ready     : Option (List Byte) := none
  transfer  : List Nat := []
  awaits    : Option Nat := none
  msixTable : Tbl Nat (BitVec 128) := []
  msixPending : List Nat := []
  lastMsg   : Tbl Nat Nat := []
  waitMsg   : List Nat := []
deriving DecidableEq, Repr

/-- A violation log entry (R339). -/
structure Violation where
  tally    : Nat := 0
  tenant   : Nat := 0
  source   : Nat := 0
  kind     : Nat := 0
  func     : Nat := 0
  imageTag : Nat := 0
  repeats  : Nat := 0
  addr     : Nat := 0
  detail   : Nat := 0
deriving DecidableEq, Repr

/-- The service states with their codes (R11, CP_STATUS). -/
inductive Service where
  | off | stump | survey | streaming | serving | degraded | twinSole | draining | test
deriving DecidableEq, Repr

/-! ## Sequences (chapters Sequences and the KV Cache; Speculation, Admission and Felling) -/

/-- Why a sequence is suspended (R255, record 0x0003): by a higher class, by a page wait, or by the host. -/
inductive SuspendCause where
  | preempted | pageWait | host
deriving DecidableEq, Repr

/-- A step of a sequence between its layer-0 entry and its commit: first position, positions, and whether it is a
prefill chunk. -/
structure InFlight where
  pos     : Nat := 0
  count   : Nat := 0
  prefill : Bool := false
  entered : Nat := 0
deriving DecidableEq, Repr

/-- A token sent to the client, kept for RESEND (R376, R379). -/
structure SentToken where
  step  : Nat := 0
  token : BitVec 32 := 0
  prov  : BitVec 8 := 0
deriving DecidableEq, Repr

/-- A Sequence Table entry with what the landings and firmware keep of it beyond its 128 bytes: its suspension, the step
in flight, pending close and suspension, the prompt received, the client's address, the tokens kept for RESEND, the
pages being freed, the mirror's acknowledgements, the adaptation batch, the end of its reuse guard, whether its full copy to a new partner is still unacknowledged (R405), whether it moves to
the partner at its next step boundary (R402), and, for a mirror,
the sapling entry on its origin. -/
structure Seq where
  entry      : SeqEntry := ⟨0, false, false, false, false, false, false, false, 0, 0, 0, 0, 0, 0, 0, 0, 0, 0, 0, 0, 0, 0, 0, 0, 0, 0, 0, 0, 0, 0, 0, 0, 0, 0, 0, 0, 0, 0, 0, 0⟩
  cause      : Option SuspendCause := none
  suspendAt  : Nat := 0
  asked      : Option SuspendCause := none
  closing    : Option Nat := none
  inFlight   : Option InFlight := none
  expect     : Nat := 0
  ttft       : Nat := 0
  logitsN    : Nat := 0
  protected_ : Nat := 0
  reuseAt    : Nat := 0
  endCode    : Nat := 0
  tokens     : Tbl Nat (BitVec 32) := []
  embeds     : Tbl Nat (Nat × Tbl Nat Byte) := []
  targets    : Tbl Nat (BitVec 32) := []
  landing    : Nat := 0
  addr       : BitVec 128 := 0
  udp        : BitVec 16 := 0
  source     : Nat := 0
  reqTag     : BitVec 32 := 0
  fromHost   : Bool := false
  sent       : List SentToken := []
  freeing    : Tbl Nat Nat := []
  units      : Nat := 0
  mirrored   : Bool := false
  mirrorOut  : List (Nat × Nat) := []
  fellSeen   : Bool := false
  takeoverStep : Nat := 0
  dupNext    : Bool := false
  provAcc    : BitVec 8 := 0
  repeats    : Nat := 0
  partnerHandle : BitVec 32 := 0
  pathLeft   : List Nat := []
  rejoin     : Bool := false
  stepSeen   : Nat := 0
  copying    : Bool := false
  moving     : Bool := false
  originSapling : Nat := 0
deriving DecidableEq, Repr

/-- A felling kept by its origin landing (R310, R313): the entries, the reason, the stands that have acknowledged, and whether its responses were sent at fell_timeout. -/
structure Felling where
  entries : List Nat := []
  reason  : Nat := 0
  code    : Nat := 0
  acks    : List Nat := []
  timedOut : Bool := false
deriving DecidableEq, Repr

/-- A tenant's shed hold (R311). -/
structure ShedHold where
  tenant : Nat := 0
  image  : Nat := 0
  cls    : Nat := 0
  until_ : Nat := 0
deriving DecidableEq, Repr

/-- A class record (R295). -/
structure ClassRec where
  mayPreempt   : Bool := false
  suspendable  : Bool := false
  overcommitOk : Bool := false
  deckKv       : Bool := false
  ttft         : Nat := 0
  itl          : Nat := 0
  expect       : Nat := 0
  pageWait     : Nat := 0
  suspendLimit : Nat := 0
  retryMin     : Nat := 0
  retryMax     : Nat := 0
deriving DecidableEq, Repr

/-- A variant of an image (R272, R274, R276): staged tiers, the tiers that its master weights started from, pool tiers it holds while hot, the mark for eviction, the load
in progress, its generation, update number, master weights and when it was used last. -/
structure Variant where
  staged   : List VariantTier := []
  origin   : List VariantTier := []
  hot      : Bool := false
  loading  : Bool := false
  marked   : Bool := false
  pool     : List (Nat × Nat × Nat × Nat) := []
  gen      : Nat := 0
  armed    : Option Nat := none
  update   : Nat := 0
  master   : Tbl (Nat × Nat) (BitVec 16) := []
  tokens   : Nat := 0
  lastUsed : Nat := 0
  tenant   : Nat := 0
  eta      : BitVec 16 := 0
  interval : Nat := 0
deriving DecidableEq, Repr

/-- A live 8-byte word that a relocation or patch record changes (R217, R218). -/
inductive PatchPlace where
  | dispatch (g : GroveId) (entry : Nat)
  | istore (addr : Nat)
  | deck (addr : Nat)
  | counter (g : GroveId) (first : Nat)
  | relay (stand : Fin 42) (n : Nat)
deriving DecidableEq, Repr

/-- A loaded image (R205, R300, R301, R351): its file, state, plan in force, clearing, the HBM place of its staging tables and tier images (base and bytes), measured step-time ratios by kind
(1/1024), committed tokens per pass, tiers placed elsewhere, and per-layer streaming facts. -/
structure Image where
  file     : ImageFile
  state    : Nat := 0
  cleared  : Bool := false
  plan     : Nat := 0
  held     : Bool := false
  ratios   : Tbl Nat (List (Nat × Nat)) := []
  passes   : List Nat := []
  variants : Tbl Nat Variant := []
  op       : Nat := 0
  stagingId : Nat := 0
  digital  : List TileId := []
  uncleared : List (TileId × Nat) := []
  source   : List Byte := []
  placement : Nat := 0
  place    : List Nat := []
  regions  : List Nat := []
  gen      : Nat := 0
  disabled : List Nat := []
  faults   : List PlanFault := []
  uncovered : Bool := false
  undo     : List (PatchPlace × Nat) := []
  stream   : Nat × Nat := (0, 0)
deriving DecidableEq, Repr

/-! ## Tenants and the network edge -/

/-- A PTT key slot (R370): the key, the order in which it was written, the counters of frames sent by landing, and, by
source, the highest counter accepted with the window of 64 below it (R372). -/
structure KeySlot where
  key     : BitVec 256 := 0
  written : Nat := 0
  sent    : Tbl Nat Nat := []
  high    : Tbl Nat Nat := []
  window  : Tbl Nat (List Nat) := []
deriving DecidableEq, Repr

/-- A tenant (R350, R370, R372, R377): quotas, key slots and the active one, source bindings (landing and tally of the
last accepted frame), the request tags kept by source with their tally and answer, and the adaptation settings. -/
structure Tenant where
  maxSeqs  : Option Nat := none
  maxPages : Option Nat := none
  slots    : Tbl Nat KeySlot := []
  active   : Nat := 0
  keyOrder : Nat := 0
  bindings : Tbl Nat (Nat × Nat) := []
  tags     : Tbl Nat (List (BitVec 32 × Nat × List Byte)) := []
  adaptOn  : Bool := false
  adaptEta : BitVec 16 := 0
  adaptInterval : Nat := 0
deriving DecidableEq, Repr

/-! ## Management (chapters Boot, Trust and Streaming Start; Faults, Fault Injection and Service) -/

/-- The PLDM terminus (R477): its id, the registered event receiver, whether events are enabled, the locate effecter. -/
structure PldmState where
  tid      : Nat := 0
  receiver : Nat := 0
  via      : Nat := 0
  enabled  : Bool := false
  locate   : Nat := 1
deriving DecidableEq, Repr

/-! ## Power (chapter Power Delivery) -/

/-- A stand's power beyond its registers: the lowered limits of its band, of the module and of another stand's wake (R210,
R415, R419), the wake in progress (its stages, the grove and stage it has reached, the tries of that grove) with its
reservation in tokens, phases with an input current above 70 A (R421), whether the breaker's retest passed or was spent
(R422), whether PWR_STAND_SERVICE took the stand out, when the stand went dark (R119), whether a deferred wake's time
has passed, and the operation of PWR_STAND_SERVICE. -/
structure StandPower where
  bandCap   : Option Nat := none
  moduleCap : Option Nat := none
  wakeCap   : Option Nat := none
  wakeFor   : Nat := 0
  stages    : Nat := 0
  grove     : Nat := 0
  stage     : Nat := 0
  tries     : Nat := 0
  reserve   : Nat := 0
  shorting  : List Nat := []
  checkOk   : Bool := false
  retested  : Bool := false
  returning : Bool := false
  service   : Bool := false
  darkAt    : Nat := 0
  fromDark  : Bool := false
  op        : Nat := 0
deriving DecidableEq, Repr

/-- What the injection of a twin port has done since it was written (R474), actions and frames, and how many arriving frames have failed in a
row (R390). -/
structure TwinInject where
  acted : Nat := 0
  seen  : Nat := 0
  fails : Nat := 0
deriving DecidableEq, Repr

/-- The pair beyond the TW registers (R391 to R406): the operation of TWIN_PAIR or TWIN_REPLACE, the ports named, start_in_step,
what the partner's pair-control frame said, the send and receive tallies of its last heartbeat, the arrivals and the release of a
twin barrier, the staging window of a replacement, entries that a takeover restored and the mirror pool still counts, whether
the partner reports TEST, whether pairing began in the sole state, and, by port, the receipt of the last heartbeat with the heartbeats missed, the
period agreed at a twin barrier (R241), and, by port, the progress of its injection. -/
structure TwinState where
  op        : Nat := 0
  ports     : List Nat := []
  inStep    : Bool := false
  replacing : Bool := false
  partner   : Option PairControl := none
  lastBeat  : Option (Nat × Nat) := none
  ownHere   : Bool := false
  peerHere  : Bool := false
  arrivedAt : Nat := 0
  release   : Option Nat := none
  window    : Memory := []
  restored  : List Nat := []
  peerTest  : Bool := false
  wasSole   : Bool := false
  beatAt    : Tbl Nat Nat := []
  missed    : Nat := 0
  period    : Nat := 0
  injects   : Tbl Nat TwinInject := []
deriving DecidableEq, Repr

/-- A drain in progress (R349, R411): its deadline, whether sequences move to the twin, and its operation. -/
structure Drain where
  deadline : Option Nat := none
  move     : Bool := false
  op       : Nat := 0
deriving DecidableEq, Repr

/-- An operation record (R348, DEV_GET_OPERATION): states 0 running, 1 done, 2 failed, 3 aborted. -/
structure Operation where
  command  : Nat := 0
  func     : Nat := 0
  state    : Nat := 0
  progress : Nat := 0
  status   : Nat := 0
  detail   : Nat := 0
  result   : Nat := 0
deriving DecidableEq, Repr

/-! ## Staging, golden images and RoCEv2 (R351, R383 to R385, R458) -/

/-- A staging area: the tenant that opened it, its length, source (0 host, 1 RoCEv2 write, 2 RoCEv2 read), base and remote key, the
tag of the resident entry of a boot staging area, and the ranges (offset, length) that have been written. -/
structure Staging where
  tenant  : Nat := 0
  length  : Nat := 0
  source  : Nat := 0
  base    : Nat := 0
  key     : BitVec 32 := 0
  boot    : Option Nat := none
  got     : List (Nat × Nat) := []
deriving DecidableEq, Repr

/-- The golden image source of an image (IMG_SET_GOLDEN): 0 a staging area, 1 remote. -/
structure Golden where
  source  : Nat := 0
  staging : Nat := 0
  addr    : Nat := 0
  key     : BitVec 32 := 0
deriving DecidableEq, Repr

/-- A RoCEv2 queue pair: the peer, its staging id, whether the connection waits for RTU (0), is up (1) or is in the error state (2),
the path MTU, the next packet numbers to receive and to send, READs outstanding as (packet number, offset, length), how often CNPs
have halved its READ rate, and ACK timeouts in a row. -/
structure Qp where
  peer    : BitVec 128 := 0
  peerQp  : Nat := 0
  staging : Nat := 0
  state   : Nat := 0
  mtu     : Nat := 0
  rxPsn   : Nat := 0
  txPsn   : Nat := 0
  reads   : List (Nat × Nat × Nat) := []
  halved  : Nat := 0
  tries   : Nat := 0
deriving DecidableEq, Repr

/-! ## PTP (R242 to R244, R386) -/

/-- The PTP slave: whether the backup port is in use, the Sync whose origin time is awaited or last known as (sequence id, origin,
receipt), the Delay_Req in flight as (sequence id, send tally), the mean path delay, the last measured offsets, whether the tally has
stepped, and whether it is locked. -/
structure PtpState where
  backup  : Bool := false
  sync    : Option (Nat × Option Nat × Nat) := none
  request : Option (Nat × Nat) := none
  nextSeq : Nat := 0
  delay   : Int := 0
  offsets : List Int := []
  stepped : Bool := false
  locked  : Bool := false
deriving DecidableEq, Repr

/-! ## Forester swap (R461) -/

/-- A Forester swap: its operation, the records it installs, and how far it is: 0 the standby reboots, 1 the standby is ready, 2 the
old Forester reboots, 3 the active one failed while the standby reboots (R463). -/
structure Swap where
  op      : Nat := 0
  records : List (Nat × SignedRecord) := []
  stage   : Nat := 0
deriving DecidableEq, Repr

/-! ## Module flash (R116, R441, R447, R448) -/

/-- An entry of the resident list (R448). -/
structure Resident where
  digest    : BitVec 384 := 0
  length    : Nat := 0
  tag       : Nat := 0
  placement : Nat := 0
deriving DecidableEq, Repr

/-- The drift snapshot's record of a physical tier (R116): its clock in 0.05 s, its last hold time, and whether it is retired. -/
structure SnapTier where
  clock   : Nat := 0
  hold    : Nat := 0
  retired : Bool := false
deriving DecidableEq, Repr

/-- Module flash (R441): the record slots by kind and slot, the rollback counters by kind, the resident list in boot order, the
drift snapshot with its tally, whether an orderly shutdown record follows it, the last-shutdown tally, and the shutdown cause
with its tally (R437). -/
structure Flash where
  slots    : Tbl (Nat × Nat) SignedRecord := []
  counters : Tbl Nat Nat := []
  resident : List Resident := []
  snap     : Tbl (TileId × Nat) SnapTier := []
  snapAt   : Nat := 0
  orderly  : Bool := false
  lastDown : Nat := 0
  cause    : Nat := 0
  causeAt  : Nat := 0
deriving DecidableEq, Repr

/-! ## What the module sends out -/

/-- What leaves the module or crosses between its parts, oldest first: flits and link control, haul-road words, event
records and MSI-X messages on the control ports, frames on the network ports, frames on the twin ports, step reports and commits, words between
landings, messages of the management transports, and changes of pins. -/
inductive Out where
  | flit (p : PortId) (x : Flit) (arg : FlitArg)
  | credit (p : PortId) (ch : Fin 3)
  | link (p : PortId) (m : LinkMsg)
  | hrWord (tree : Nat) (w : HrWord)
  | relayMiss (s : Nat) (port : Nat) (tag : Nat)
  | record (fn : Nat) (addr : Nat) (r : EventRecord)
  | msix (fn vec : Nat)
  | ptt (landing : Nat) (addr : BitVec 128) (udp : BitVec 16) (kind : Nat) (flags : Nat) (prov : BitVec 8) (tenant : Nat)
      (handle : BitVec 32) (step : Nat) (tally : Nat) (payload : List Byte) (port dscp session counter : Nat)
  | frame (landing : Nat) (kind : Nat) (dst : BitVec 128) (payload : List Byte)
  | rdma (landing : Nat) (kind : Nat) (dscp : Nat) (dst : BitVec 128) (payload : List Byte)
  | twin (port : Nat) (kind : Nat) (handle : BitVec 32) (step : Nat) (payload : List Byte)
  | host (fn : Nat) (bytes : List Byte)
  | mgmt (via : Nat) (payload : List Byte)
  | pin (name : Nat) (value : Nat)
  | report (dest : GroveId) (r : StepReport)
  | commit (dest : GroveId) (key : StepKey) (ctr : Fin 64)
  | firmware (kind : Nat) (a b : Nat)
deriving DecidableEq, Repr

/-! ## The machine -/

/-- The state of a Celros W10 module. -/
structure State where
  /-- Commands that wait, first in, first out. -/
  pending  : List Instr := []
  /-- The tally in ns (R46): the sequencing root's, which the landings and control ports show. -/
  tally    : Nat := 0
  /-- Uses so far of the free values of `Config` (the model's own field, log 10). -/
  freeUses : Nat := 0
  out      : List Out := []
  service  : Service := .off
  regs     : Tbl RegKey RegVal := []
  decks    : Memory := []
  hbm      : Memory := []
  istore   : Memory := []
  ports    : Tbl PortId Port := []
  road     : HaulRoad := {}
  roads    : Tbl (Fin 42) StandRoad := []
  barriers : Tbl Nat Barrier := []
  tiles    : Tbl TileId Tile := []
  groves   : Tbl GroveId Grove := []
  fellers  : Tbl FellerId Feller := []
  rotWait  : List RotRequest := []
  remaps   : List Remap := []
  handover : Option (Nat × Nat) := none
  journal  : List (Nat × JournalRec) := []
  srcCount : Tbl Nat Nat := []
  funcs    : Tbl (Fin 256) Func := []
  violLog  : Tbl Nat (List Violation) := []
  violCount : Tbl Nat Nat := []
  seqs     : Tbl Nat Seq := []
  fellings : Tbl FellId Felling := []
  fellCtr  : Tbl Nat Nat := []
  standFells : Tbl (Fin 42) (List (FellId × List Nat)) := []
  sheds    : List ShedHold := []
  classes  : Tbl Nat ClassRec := []
  images   : Tbl Nat Image := []
  usedPages : List Nat := []
  usedUnits : List (Nat × Nat) := []
  usedDeckPages : List (Nat × Nat × Nat) := []
  tenants  : Tbl Nat Tenant := []
  foresterB : Bool := false
  standbyIn : Bool := false
  reserve  : List Nat := []
  landingsLost : List Nat := []
  config   : ConfigRecord := ⟨0, 0, none, 0, 0, [], [], 0, 14000, [], 0, [], [], []⟩
  prot     : ProtectionRecord := ⟨[], [], [], [], 0, 0, 0, 0, 0, false⟩
  bankB    : Bool := false
  events   : PldmState := {}
  lockstep : Bool := false
  exact    : Bool := false
  period   : Nat := 0
  epoch    : Nat := 0
  origin   : Nat := 0
  wakeWant : List Nat := []
  powers   : Tbl Nat StandPower := []
  sensors  : Tbl Nat Int := []
  flowLow  : Nat := 0
  latched  : Bool := false
  protLocked : Bool := false
  flash    : Flash := {}
  refBackup : Bool := false
  twin     : TwinState := {}
  drain    : Option Drain := none
  ops      : Tbl Nat Operation := []
  nextOp   : Nat := 1
  misses   : Tbl Nat Nat := []
  thinWaits : List Nat := []
  testSave : Option (Tbl RegKey RegVal) := none
  offHistory : Option (Nat × Option Int) := none
  journalLow : Bool := false
  stagings : Tbl Nat Staging := []
  nextStaging : Nat := 0
  goldens  : Tbl Nat Golden := []
  qps      : Tbl (Nat × Nat) Qp := []
  ptp      : PtpState := {}
  swap     : Option Swap := none
  staged   : Tbl Nat SignedRecord := []
  running_ : Tbl (Nat × Nat) SignedRecord := []
  spdm     : Tbl Nat Nat := []
  /-- Landings whose OSFP module is held in low-power mode (R485). -/
  osfpHeld : List Nat := []
  /-- The request pins of J16 that are low: 9 and 10 (R491, R492). -/
  pinsLow  : List Nat := []
  surveyLeft : List (TileId × Nat) := []
deriving DecidableEq, Repr

/-- The module right after reset: no input power, every register at the reset value of its table (`RegKey.reset`), every
memory, queue and table empty (log 2). -/
def State.reset : State := {}

end Sys2Proof.Machine
end

