-- ==== Sys2Proof/Machine/Ops.lean ====
section
/-! DEFINITION. The named operations over tables, memories and registers, and what several families share: events,
journal records, violations, event records and MSI-X messages, and the change of the service state. -/

namespace Sys2Proof.Machine

/-! ## Tables -/

/-- The entry of a key, if the table lists it. -/
def tblFind {κ α : Type} [DecidableEq κ] : Tbl κ α → κ → Option α
  | [], _ => none
  | (k', a) :: r, k => if k' = k then some a else tblFind r k

/-- The entry of a key, `d` where the table does not list it. -/
def tblGet {κ α : Type} [DecidableEq κ] (t : Tbl κ α) (k : κ) (d : α) : α := (tblFind t k).getD d

/-- The table with the entry of one key replaced or added. -/
def tblSet {κ α : Type} [DecidableEq κ] : Tbl κ α → κ → α → Tbl κ α
  | [], k, a => [(k, a)]
  | (k', a') :: r, k, a => if k' = k then (k, a) :: r else (k', a') :: tblSet r k a

/-- The table without the entry of one key. -/
def tblErase {κ α : Type} [DecidableEq κ] (t : Tbl κ α) (k : κ) : Tbl κ α := t.filter (fun p => p.1 ≠ k)

/-! ## Byte memories -/

/-- The byte at an address; a byte that is not listed reads as 0 (log 1). -/
def Memory.read : Memory → Nat → Byte
  | [], _ => 0
  | (a, b) :: r, x => if a = x then b else if x < a then 0 else Memory.read r x

/-- The memory with one byte written; the form stays canonical. -/
def Memory.write : Memory → Nat → Byte → Memory
  | [], x, v => if v = 0 then [] else [(x, v)]
  | (a, b) :: r, x, v =>
    if x < a then (if v = 0 then (a, b) :: r else (x, v) :: (a, b) :: r)
    else if x = a then (if v = 0 then r else (x, v) :: r)
    else (a, b) :: Memory.write r x v

/-- `Memory.wfFrom lo m`: addresses strictly rise from `lo` on and no byte is 0. -/
def Memory.wfFrom : Nat → Memory → Bool
  | _, [] => true
  | lo, (a, b) :: r => decide (lo ≤ a) && decide (b ≠ 0) && Memory.wfFrom (a + 1) r

/-- The canonical form of a memory. -/
def Memory.wf (m : Memory) : Bool := Memory.wfFrom 0 m

/-- `n` bytes from an address. -/
def Memory.readN (m : Memory) (a : Nat) : Nat → List Byte
  | 0 => []
  | n + 1 => m.read a :: Memory.readN m (a + 1) n

/-- The memory with bytes written from an address on. -/
def Memory.writeN (m : Memory) (a : Nat) : List Byte → Memory
  | [] => m
  | b :: r => Memory.writeN (m.write a b) (a + 1) r

end Sys2Proof.Machine

namespace Sys2Proof

/-! ## Numbering of parts -/

/-- The unit number of a grove's registers, and its place in deck and instruction-store addresses. -/
def GroveId.num (g : GroveId) : Nat := g.stand.val * 16 + g.grove.val

/-- The unit number of a tile's registers. -/
def TileId.num (t : TileId) : Nat := (t.stand.val * 16 + t.grove.val) * 2048 + t.tile.val

/-- The grove of a tile. -/
def TileId.groveId (t : TileId) : GroveId := ⟨t.stand, t.grove⟩

/-- The grove a feller belongs to. -/
def FellerId.groveId (f : FellerId) : GroveId := ⟨f.stand, f.grove⟩

/-- The unit number of a port's registers: 8 for each stand, then 3 for each landing's end. -/
def PortId.num : PortId → Nat
  | .stand s p => s.val * 8 + p.val
  | .landing l p => 336 + l.val * 3 + p.val

/-- The stand index or landing code of a port's die (R32). -/
def PortId.die : PortId → Nat
  | .stand s _ => s.val
  | .landing l _ => 48 + l.val

/-- The port number of an end (R27, R30). -/
def PortId.index : PortId → Nat
  | .stand _ p => p.val
  | .landing _ p => p.val

end Sys2Proof

namespace Sys2Proof.Machine

/-! ## The stand map and the links (R23 to R30) -/

/-- Row of a stand index, 0 for row A (R23). -/
def standRow (s : Nat) : Nat :=
  if s < 4 then 0 else if s < 10 then 1 else if s < 17 then 2 else if s < 25 then 3 else if s < 32 then 4
  else if s < 38 then 5 else 6

/-- Horizontal position of a stand in half stand widths: 2 × ((c − 1) + o) (R23, R24). -/
def standX2 (s : Nat) : Int :=
  if s < 4 then 2 * (s : Int) + 3 else if s < 10 then 2 * ((s : Int) - 4) + 2 else if s < 17 then 2 * ((s : Int) - 10) + 1
  else if s < 25 then 2 * ((s : Int) - 17) else if s < 32 then 2 * ((s : Int) - 25) + 1
  else if s < 38 then 2 * ((s : Int) - 32) + 2 else 2 * ((s : Int) - 38) + 5

/-- Row step and position step (in half widths) of each skid-link port (R27). -/
def portStep (p : Nat) : Int × Int :=
  match p with
  | 0 => (0, 2) | 1 => (-1, 1) | 2 => (-1, -1) | 3 => (0, -2) | 4 => (1, -1) | _ => (1, 1)

/-- The hexagonal neighbor that a skid-link port faces (R25, R27). -/
def hexPeer (s p : Nat) : Option Nat :=
  if 6 ≤ p then none else
  (upTo 42).find? (fun t => decide ((standRow t : Int) = (standRow s : Int) + (portStep p).1 ∧
    standX2 t = standX2 s + (portStep p).2))

/-- The rim links: stand, port, stand, port (R27). -/
def rimLinks : List (Nat × Nat × Nat × Nat) :=
  [(0, 3, 10, 2), (3, 0, 9, 2), (4, 3, 17, 2), (9, 0, 24, 1), (17, 4, 32, 3), (24, 5, 37, 0), (32, 5, 38, 3),
   (31, 5, 41, 0)]

/-- The landing links of each landing in the order of its row: stand and stand port (R30). -/
def landingLinks (l : Nat) : List (Nat × Nat) :=
  match l with
  | 0 => [(0, 6), (1, 6), (2, 6)]
  | 1 => [(3, 6), (9, 6), (16, 6)]
  | 2 => [(16, 7), (24, 6), (31, 6)]
  | 3 => [(31, 7), (37, 6), (41, 6)]
  | 4 => [(41, 7), (40, 6), (39, 6)]
  | 5 => [(38, 6), (32, 6), (25, 6)]
  | 6 => [(25, 7), (17, 6), (10, 6)]
  | _ => [(10, 7), (4, 6), (0, 7)]

/-- The rim link of a stand's port, if it has one: far stand and far port. -/
def rimPeer (s p : Nat) : Option (Nat × Nat) :=
  rimLinks.findSome? (fun r =>
    if r.1 = s ∧ r.2.1 = p then some (r.2.2.1, r.2.2.2)
    else if r.2.2.1 = s ∧ r.2.2.2 = p then some (r.1, r.2.1) else none)

/-- The landing that a stand's landing-link port reaches: landing and its port number. -/
def landingPeer (s p : Nat) : Option (Nat × Nat) :=
  (upTo 8).findSome? (fun l => ((landingLinks l).zipIdx.find? (fun q => decide (q.1 = (s, p)))).map (fun q => (l, q.2)))

/-- Kind (0 hexagonal, 1 rim, 2 landing link, 3 unused), far die and far port of a stand's port (SK_PORT_ID). -/
def portInfo (s p : Nat) : Nat × Nat × Nat :=
  match hexPeer s p with
  | some t => (0, t, (p + 3) % 6)
  | none =>
    match rimPeer s p with
    | some (t, q) => (1, t, q)
    | none =>
      match landingPeer s p with
      | some (l, q) => (2, 48 + l, q)
      | none => (3, 0, 0)

/-- The stand port with plain numbers, stand 0 port 0 when they are out of range. -/
def standPort (s p : Nat) : PortId :=
  if h : s < 42 ∧ p < 8 then .stand ⟨s, h.1⟩ ⟨p, h.2⟩ else .stand 0 0

/-- The landing port with plain numbers. -/
def landingPort (l p : Nat) : PortId :=
  if h : l < 8 ∧ p < 3 then .landing ⟨l, h.1⟩ ⟨p, h.2⟩ else .landing 0 0

end Sys2Proof.Machine

namespace Sys2Proof

/-- The other end of a link; none for an unused port. -/
def PortId.peer : PortId → Option PortId
  | .stand s p =>
    match Machine.portInfo s.val p.val with
    | (0, t, q) => some (Machine.standPort t q)
    | (1, t, q) => some (Machine.standPort t q)
    | (2, l, q) => some (Machine.landingPort (l - 48) q)
    | _ => none
  | .landing l p => ((Machine.landingLinks l.val)[p.val]?).map (fun q => Machine.standPort q.1 q.2)

/-- Spare lanes per direction: 16 on a skid link, 32 on a landing link (R30, R31). -/
def PortId.spares : PortId → Nat
  | .stand _ p => if p.val < 6 then 16 else 32
  | .landing _ _ => 32

end Sys2Proof

namespace Sys2Proof.Machine

/-! ## Registers -/

/-- Parts of the module's identity that reset values name (R341; log 3): part stepping, serial, firmware build and
Daush version before any record of flash is read. -/
def partStepping : Nat := 0xB0

/-- Fields of a register whose reset value is given per instance: (lowest bit, value). -/
def RegKey.instanceReset (k : RegKey) : List (Nat × Nat) :=
  match k.reg with
  | .skPortId =>
    if k.unit < 336 then
      let s := k.unit / 8
      let p := k.unit % 8
      [(30, (portInfo s p).1), (22, (portInfo s p).2.2), (16, (portInfo s p).2.1), (6, p), (0, s)]
    else
      let l := (k.unit - 336) / 3
      let p := (k.unit - 336) % 3
      let q := (landingLinks l).getD p (0, 0)
      [(30, 2), (22, q.2), (16, q.1), (6, p), (0, 48 + l)]
  | .tlCellLayerMap => [(0, 4 * k.idx), (8, 4 * k.idx + 1), (16, 4 * k.idx + 2), (24, 4 * k.idx + 3)]
  | .tlCellLayerState => (upTo 16).map (fun j => (2 * j, 1))
  | .pwBand => [(16, 350 * ((upTo 42).filter (fun n => standRow n = k.idx)).length)]
  | .gvDispatchData => [(55, k.unit / 16), (51, k.unit % 16)]
  | .gvId => [(8, k.unit % 16), (0, k.unit / 16)]
  | .cpId => [(17, 2 * (k.unit / 64)), (15, k.unit / 64), (14, b2n (decide (k.unit % 64 ≠ 0))), (8, k.unit % 64),
      (0, partStepping)]
  | _ => []

/-- The reset value of a register: its table's fields, then the fields given per instance. -/
def RegKey.reset (k : RegKey) : RegVal :=
  BitVec.ofNat 128
    (k.instanceReset.foldl (fun v p => v + p.2 * 2 ^ p.1)
      (k.reg.rows.foldl (fun v r => v + r.reset * 2 ^ r.lo) 0))

/-- The value a register holds. -/
def State.reg (s : State) (k : RegKey) : RegVal := tblGet s.regs k k.reset

/-- The state with a register's value replaced. -/
def State.setReg (s : State) (k : RegKey) (v : RegVal) : State := { s with regs := tblSet s.regs k v }

/-- The register that holds a field, for a unit and an array index. -/
def Fld.key (f : Fld) (unit idx : Nat) : RegKey := ⟨f.reg, unit, idx, 0⟩

/-- The value of a field of an array register. -/
def State.getAt (s : State) (f : Fld) (unit idx : Nat) : Nat := bits (s.reg (f.key unit idx)).toNat f.lo f.len

/-- The value of a field. -/
def State.get (s : State) (f : Fld) (unit : Nat) : Nat := s.getAt f unit 0

/-- Is a one-bit field set? -/
def State.on (s : State) (f : Fld) (unit : Nat) : Bool := s.get f unit == 1

/-- The state with a field of an array register written. -/
def State.putAt (s : State) (f : Fld) (unit idx x : Nat) : State :=
  s.setReg (f.key unit idx) (BitVec.ofNat 128 (putBits (s.reg (f.key unit idx)).toNat f.lo f.len x))

/-- The state with a field written. -/
def State.put (s : State) (f : Fld) (unit x : Nat) : State := s.putAt f unit 0 x

/-- The state with a counter field increased by 1, saturating at its width. -/
def State.satUp (s : State) (f : Fld) (unit : Nat) : State := s.put f unit (satInc f.len (s.get f unit))

/-- The state with a counter field of an array register increased by 1, saturating at its width. -/
def State.satUpAt (s : State) (f : Fld) (unit idx : Nat) : State :=
  s.putAt f unit idx (satInc f.len (s.getAt f unit idx))

/-- The state with a counter field increased, wrapping at its width. -/
def State.wrapUp (s : State) (f : Fld) (unit : Nat) : State := s.put f unit (s.get f unit + 1)

/-- A hardware set of a W1C event bit: the bit becomes 1 and its 8-bit count in `counts` advances modulo 256 (R9). -/
def State.raise (s : State) (f : Fld) (counts : Reg) (unit : Nat) : State :=
  (s.put f unit 1).wrapUp ⟨counts, 8 * f.lo, 8⟩ unit

/-- Events of each block. -/
def State.skEv (s : State) (f : Fld) (unit : Nat) : State := s.raise f .skEventCount unit
def State.hrEv (s : State) (f : Fld) (unit : Nat) : State := s.raise f .hrEventCount unit
def State.slipEv (s : State) (f : Fld) (unit : Nat) : State := s.raise f .hrSlipEventCount unit
def State.tlEv (s : State) (f : Fld) (unit : Nat) : State := s.raise f .tlEventCount unit
def State.upkeepEv (s : State) (f : Fld) (unit : Nat) : State := s.raise f .tlUpkeepEventCount unit
def State.gvEv (s : State) (f : Fld) (unit : Nat) : State := s.raise f .gvEventCount unit
def State.sqEv (s : State) (f : Fld) (unit : Nat) : State := s.raise f .sqEventCount unit
def State.fellEv (s : State) (f : Fld) (unit : Nat) : State := s.raise f .sqFellEventCount unit
def State.ldEv (s : State) (f : Fld) (unit : Nat) : State := s.raise f .ldEventCount unit
def State.twEv (s : State) (f : Fld) (unit : Nat) : State := s.raise f .twEventCount unit
def State.pwEv (s : State) (f : Fld) (unit : Nat) : State := s.raise f .pwEventCount unit
def State.pwModEv (s : State) (f : Fld) : State := s.raise f .pwModEventCount 0
def State.thEv (s : State) (f : Fld) (unit : Nat) : State := s.raise f .thEventCount unit
def State.thModEv (s : State) (f : Fld) : State := s.raise f .thModEventCount 0
def State.btEv (s : State) (f : Fld) (unit : Nat) : State := s.raise f .btEventCount unit

/-! ## Outputs, records and messages -/

/-- The state with something sent out. -/
def State.emit (s : State) (o : Out) : State := { s with out := s.out ++ [o] }

/-- A fold over a list that threads the state. -/
def State.each {α : Type} (s : State) (xs : List α) (f : State → α → State) : State := xs.foldl f s

/-- Records that a journal segment of 128 MiB holds (R245). -/
def journalCapacity : Nat := 4194304

/-- The journal's segment for a source: a landing's own; the landing of the active Forester (FA in L3, FB in L7) for a
Forester and for records of the partner; for a stand the landing that its route plan names (R245). -/
def journalSegment (source : Nat) : Nat :=
  if source < 42 then (Config.journalLanding source).val
  else if 48 ≤ source ∧ source < 56 then source - 48
  else if source = 57 then 7 else 3

/-- A record added to a ring: beyond the segment's capacity its oldest record goes (R245). -/
def journalPush (j : List (Nat × JournalRec)) (seg : Nat) (r : JournalRec) : List (Nat × JournalRec) :=
  if (j.filter (fun p => p.1 = seg)).length < journalCapacity then j ++ [(seg, r)]
  else j.eraseP (fun p => p.1 == seg) ++ [(seg, r)]

/-- Is a segment's oldest record less than 1 s old (R245)? (DEDUCED: log 142.) -/
def State.segmentYoung (s : State) (seg : Nat) : Bool :=
  match s.journal.find? (fun p => p.1 == seg) with
  | some p => decide (s.tally < p.2.tally + 1000000000)
  | none => false

/-- Write a tally journal record (R245): `tenant` and `seq` are 0xFFFF for none. journal_low sets while the segment's oldest record is
less than 1 s old. (DESIGN CHOICE: log 27.) -/
def State.journalRec (s : State) (source kind tag tenant seq : Nat) (detail : Nat) : State :=
  let s := { s with
    journal := journalPush s.journal (journalSegment source)
      ⟨s.tally, kind, source, tag, tenant, seq, tblGet s.srcCount source 0, BitVec.ofNat 64 detail⟩
    srcCount := tblSet s.srcCount source (tblGet s.srcCount source 0 + 1) }
  { s with journalLow := s.journalLow || s.segmentYoung (journalSegment source) }

/-- Code of a service state (CP_STATUS.state). -/
def Service.code : Service → Nat
  | .off => 0 | .stump => 1 | .survey => 2 | .streaming => 3 | .serving => 4 | .degraded => 5 | .twinSole => 6
  | .draining => 7 | .test => 8

/-- The active Forester: 0 FA, 1 FB (BT_STATUS). -/
def State.activeForester (s : State) : Nat := if s.foresterB then 1 else 0

/-- The journal and violation-log source of the active Forester (R245, R339). -/
def State.foresterSource (s : State) : Nat := 56 + s.activeForester

/-- The landing of a control port: L0, L2, L4, L6 (R15, R318). -/
def portLanding (f : Nat) : Nat := 2 * (f / 64)

/-- The function record. -/
def State.func (s : State) (f : Fin 256) : Func :=
  tblGet s.funcs f { exists_ := decide (f.val % 64 = 0) }

/-- The state with a function record replaced. -/
def State.setFunc (s : State) (f : Fin 256) (x : Func) : State := { s with funcs := tblSet s.funcs f x }

/-- Every function that exists: the physical functions and the enabled virtual ones (R321, R322). -/
def State.functions (s : State) : List (Fin 256) := (List.finRange 256).filter (fun f => (s.func f).exists_)

/-- Is a vector masked: the mask bit of its table entry (bit 96; masked until host software clears it, log 6)? -/
def Func.masked (x : Func) (vec : Nat) : Bool := bit (tblGet x.msixTable vec (BitVec.ofNat 128 (2 ^ 96))).toNat 96

/-- Send, hold back or pend a message on a vector (R335, R319): a masked vector, a function without Bus Master Enable or in
D3hot sets the pending bit; within holdoff of the last message the request waits for the end of holdoff. -/
def State.msixRequest (s : State) (f : Fin 256) (vec : Nat) : State :=
  let x := s.func f
  if x.masked vec || !x.busMaster || x.d3hot then
    s.setFunc f { x with msixPending := if vec ∈ x.msixPending then x.msixPending else x.msixPending ++ [vec] }
  else
    let hold := 100 * s.get cpIntCtrl_holdoff f.val
    match tblFind x.lastMsg vec with
    | some t =>
      if s.tally < t + hold then
        s.setFunc f { x with waitMsg := if vec ∈ x.waitMsg then x.waitMsg else x.waitMsg ++ [vec] }
      else (s.setFunc f { x with lastMsg := tblSet x.lastMsg vec s.tally }).emit (.msix f.val vec)
    | none => (s.setFunc f { x with lastMsg := tblSet x.lastMsg vec s.tally }).emit (.msix f.val vec)

/-- A hardware set of bit `k` of CP_EVENT_STATUS, with its count and, when mapped and enabled, its message (R335, R336). -/
def State.cpEv (s : State) (fld : Fld) (f : Fin 256) : State :=
  let s := s.raise fld .cpEventCount f.val
  let m := (s.reg ⟨.cpIntMap, f.val, 0, 0⟩).toNat
  if bit m (8 * fld.lo + 7) then s.msixRequest f (bits m (8 * fld.lo) 4) else s

/-- The bank of the RO/L registers that the protection record fills (R451, BT_PROT_BANK). -/
def State.protBank (s : State) : Nat := b2n s.bankB

/-- The tenant of a function, if the protection record assigns one (R321). -/
def State.tenantOf (s : State) (f : Fin 256) : Option Nat :=
  let v := (s.reg ⟨.cpFuncRights, f.val, 0, s.protBank⟩).toNat
  if bit v 24 then some (bits v 16 8) else none

/-- The function to which a tenant number is assigned (R321: at most one). -/
def State.functionOf (s : State) (tenant : Nat) : Option (Fin 256) :=
  (List.finRange 256).find? (fun f => s.tenantOf f == some tenant)

/-- Number and write an event record (R332, R334): numbered always; written while the page is enabled, Bus Master Enable is
1 and the function is in D0, and otherwise event_page_off sets. -/
def State.eventRecord (s : State) (f : Fin 256) (kind tenant handle : Nat) (detail : List Byte) : State :=
  let n := (s.get mbEventHead_number f.val + 1) % 2 ^ 64
  let s := (s.put mbEventHead_number f.val n).cpEv cpEventStatus_recordWritten f
  let x := s.func f
  let page := (s.reg ⟨.mbEventPage, f.val, 0, 0⟩).toNat
  let s :=
    if bit page 0 && x.busMaster && !x.d3hot then
      s.emit (.record f.val (bits page 12 52 * 4096 + 64 * (n % 64)) ⟨n, s.tally, kind, tenant, handle, padTo 32 detail⟩)
    else s.cpEv cpEventStatus_eventPageOff f
  if kind = 6 then s.cpEv cpEventStatus_twin f else s

/-- An event record to a tenant's function, where one exists. -/
def State.tenantRecord (s : State) (tenant kind handle : Nat) (detail : List Byte) : State :=
  match s.functionOf tenant with
  | some f => s.eventRecord f kind tenant handle detail
  | none => s

/-- No sequence handle (R332). -/
def noHandle : Nat := 0xFFFFFFFF

/-- Does a violation match the newest entry in source, function, kind and address within 1 ms (R339)? -/
def violRepeats (log : List Violation) (v : Violation) : Bool :=
  match log.getLast? with
  | some w => decide (w.source = v.source ∧ w.func = v.func ∧ w.kind = v.kind ∧ w.addr = v.addr ∧ v.tally ≤ w.tally + 1000000)
  | none => false

/-- The log of a landing (0 to 7) or a Forester (8, 9) with a violation added: a repeat counts in the newest entry; the ring
holds 64 (R339). -/
def violPush (log : List Violation) (v : Violation) : List Violation :=
  if violRepeats log v then
    log.dropLast ++ log.getLast?.toList.map (fun w => { w with repeats := min 255 (w.repeats + 1) })
  else (log ++ [v]).drop (log.length + 1 - 64)

/-- Log a violation (R338, R339) in log `log`; charged to a function, it also sets that function's violation bit, updates
CP_VIOL_LAST and writes a record of kind 0x0005. (DEDUCED: log 172.) -/
def State.violation (s : State) (log source kind : Nat) (func : Option (Fin 256)) (tag addr command : Nat) : State :=
  let tenant := match func with
    | some f => (s.tenantOf f).getD 0xFFFF
    | none => 0xFFFF
  let v : Violation := ⟨s.tally, tenant, source, kind, (func.map (fun f => f.val)).getD 0xFFFF, tag, 0, addr, command⟩
  let old := tblGet s.violLog log []
  let s := { s with
    violLog := tblSet s.violLog log (violPush old v)
    violCount := tblSet s.violCount log (tblGet s.violCount log 0 + (if violRepeats old v then 0 else 1)) }
  match func with
  | none => s
  | some f =>
    let s := s.cpEv cpEventStatus_violation f
    let s := s.setReg ⟨.cpViolLast, f.val, 0, 0⟩
      (BitVec.ofNat 128 (s.tally % 2 ^ 64 + kind * 2 ^ 64 + command * 2 ^ 80 + (addr % 2 ^ 32) * 2 ^ 96))
    s.eventRecord f 5 tenant noHandle (bytesLE 1 kind ++ bytesLE 2 command ++ bytesLE 4 addr)

/-- A violation that the active Forester logs (R339). -/
def State.foresterViolation (s : State) (source kind : Nat) (func : Option (Fin 256)) (tag addr command : Nat) : State :=
  s.violation (8 + s.activeForester) source kind func tag addr command

/-- A PlatformEventMessage to the registered receiver (R477): a sensor crossed a threshold or a state changed. -/
def State.platformEvent (s : State) (sensor value : Nat) : State :=
  if s.events.enabled then
    s.emit (.mgmt s.events.via (bytesLE 1 0x0A ++ bytesLE 1 s.events.tid ++ bytesLE 2 sensor ++ bytesLE 2 value))
  else s

/-- A change of the service state: record 0x0004 to every function and journal record 0x0043 (R469); the same state again
changes nothing. -/
def State.setService (s : State) (n : Service) : State :=
  if s.service = n then s else
  let old := s.service.code
  let s := { s with service := n }
  let s := s.each s.functions (fun s f =>
    (s.cpEv cpEventStatus_serviceState f).eventRecord f 4 ((s.tenantOf f).getD 0xFFFF) noHandle
      (bytesLE 1 old ++ bytesLE 1 n.code))
  let s := s.journalRec s.foresterSource 0x0043 0 0xFFFF 0xFFFF (old + 256 * n.code)
  s.platformEvent 0x0300 n.code

/-! ## Responses (R328, R343) -/

/-- The bytes of a response: the request's command and tag echoed, and a body only with OK, DEFERRED or REFUSED. -/
def responseBytes (request : List Byte) (status detail : Nat) (body : List Byte) : List Byte :=
  let body := if status = 0 ∨ status = 0x0300 ∨ status = 0x0301 then body else []
  padTo 2 request ++ bytesLE 2 status ++ bytesLE 2 detail ++ bytesLE 2 body.length
    ++ padTo 8 ((request.drop 8).take 8) ++ body

/-- Form the response of a function's copied request; RESPONSE_READY writes it. -/
def State.answer (s : State) (f : Fin 256) (status detail : Nat) (body : List Byte) : State :=
  let x := s.func f
  s.setFunc f { x with ready := some (responseBytes x.copied status detail body), awaits := none }

/-- Form the responses that wait for the suspension of a sequence (R353, SEQ_SUSPEND). -/
def State.answerAwaits (s : State) (i status detail : Nat) : State :=
  s.each (s.functions.filter (fun f => (s.func f).awaits == some i)) (fun s f => s.answer f status detail [])

/-! ## Operations (R344, R348) -/

/-- OK and ABORTED (R344). -/
def stOk : Nat := 0
def stAborted : Nat := 1

/-- End an operation with its final status, detail and result; it is done with OK, failed otherwise. -/
def State.endOp (s : State) (op status detail result : Nat) : State :=
  match tblFind s.ops op with
  | some o =>
    if o.state = 0 then
      { s with ops := tblSet s.ops op { o with
          state := if status = 0 then 1 else if status = stAborted then 3 else 2
          progress := if status = 0 then 100 else o.progress
          status := status, detail := detail, result := result } }
    else s
  | none => s

/-! ## Free values -/

/-- A free value of `w` bits (log 10), and the state with its use counted. -/
def State.free (s : State) (w : Nat) : BitVec w × State :=
  (Config.freeBits s.freeUses w, { s with freeUses := s.freeUses + 1 })

/-! ## Tiles, groves and decks -/

/-- The record of a tile. -/
def State.tile (s : State) (t : TileId) : Tile := tblGet s.tiles t {}

/-- The state with a tile's record replaced. -/
def State.setTile (s : State) (t : TileId) (x : Tile) : State := { s with tiles := tblSet s.tiles t x }

/-- The record of a grove. -/
def State.grove (s : State) (g : GroveId) : Grove := tblGet s.groves g {}

/-- The state with a grove's record replaced. -/
def State.setGrove (s : State) (g : GroveId) (x : Grove) : State := { s with groves := tblSet s.groves g x }

/-- A dispatch entry that nothing has written: the grove's own tile and logical tier (GV_DISPATCH_DATA). -/
def dispatchDefault (g : GroveId) (e : Nat) : BitVec 64 :=
  BitVec.ofNat 64 (2 ^ 63 + g.stand.val * 2 ^ 55 + g.grove.val * 2 ^ 51 + e / 16 * 2 ^ 40 + e % 16 * 2 ^ 36)

/-- A dispatch entry of a grove (R172). -/
def State.dispatchEntry (s : State) (g : GroveId) (e : Nat) : BitVec 64 :=
  tblGet (s.grove g).dispatch (e % 32768) (dispatchDefault g (e % 32768))

/-- The state with a dispatch entry written. -/
def State.setDispatch (s : State) (g : GroveId) (e : Nat) (v : BitVec 64) : State :=
  let x := s.grove g
  s.setGrove g { x with dispatch := tblSet x.dispatch (e % 32768) v }

/-- The record of a feller; its home is its own grove until it takes a task. -/
def State.feller (s : State) (f : FellerId) : Feller := tblGet s.fellers f { home := f.groveId }

/-- The state with a feller's record replaced. -/
def State.setFeller (s : State) (f : FellerId) (x : Feller) : State := { s with fellers := tblSet s.fellers f x }

/-- Bytes of a deck (R162). -/
def deckBytes : Nat := 16777216

/-- Address of a byte of a grove's deck. -/
def deckAddr (g : GroveId) (a : Nat) : Nat := g.num * deckBytes + a % deckBytes

/-- `n` bytes of a deck. -/
def State.deckRead (s : State) (g : GroveId) (a n : Nat) : List Byte := s.decks.readN (deckAddr g a) n

/-- The state with bytes of a deck written. -/
def State.deckWrite (s : State) (g : GroveId) (a : Nat) (bs : List Byte) : State :=
  { s with decks := s.decks.writeN (deckAddr g a) bs }

/-- Bytes of all stacks: 24 × 64 GiB, stack n from n × 2^36 (log 5). -/
def hbmBytes : Nat := 24 * 2 ^ 36

/-- `n` bytes of HBM. -/
def State.hbmRead (s : State) (a n : Nat) : List Byte := s.hbm.readN a n

/-- The state with bytes of HBM written. -/
def State.hbmWrite (s : State) (a : Nat) (bs : List Byte) : State := { s with hbm := s.hbm.writeN a bs }

/-- `n` bytes of a grove's instruction store of 64 KiB (R162). -/
def State.istoreRead (s : State) (g : GroveId) (a n : Nat) : List Byte := s.istore.readN (g.num * 65536 + a) n

end Sys2Proof.Machine
end

