-- ==== Sys2Proof/Machine/Links.lean ====
section
/-! DEFINITION. Flits and link ends: header fields, the CRC, reception with retry, credits, closure, transmission with
injection, lane diagnosis and lane sparing (R32 to R43, R473 to R475). -/

namespace Sys2Proof

/-! ## Flit fields (R32) -/

def Flit.hdr (x : Flit) (lo len : Nat) : Nat := Machine.bits x.header.toNat lo len
def Flit.type (x : Flit) : Nat := x.hdr 92 4
def Flit.channel (x : Flit) : Nat := x.hdr 90 2
def Flit.fallback (x : Flit) : Bool := Machine.bit x.header.toNat 89
def Flit.last (x : Flit) : Bool := Machine.bit x.header.toNat 88
def Flit.linkSeq (x : Flit) : Nat := x.hdr 80 8
def Flit.dstDie (x : Flit) : Nat := x.hdr 74 6
def Flit.dstGrove (x : Flit) : Nat := x.hdr 70 4
def Flit.srcDie (x : Flit) : Nat := x.hdr 64 6
def Flit.srcGrove (x : Flit) : Nat := x.hdr 60 4
def Flit.imageTag (x : Flit) : Nat := x.hdr 52 8
def Flit.hopsLeft (x : Flit) : Nat := x.hdr 48 4
def Flit.transferId (x : Flit) : Nat := x.hdr 36 12
def Flit.flitIndex (x : Flit) : Nat := x.hdr 24 12
def Flit.tallyLow (x : Flit) : Nat := x.hdr 0 24

/-- The flit with a header field replaced; the CRC is not touched. -/
def Flit.withHdr (x : Flit) (lo len v : Nat) : Flit :=
  { x with header := BitVec.ofNat 96 (Machine.putBits x.header.toNat lo len v) }

/-- Header and payload bytes in the order of R32, each little-endian (R7; log 4). -/
def Flit.bytes (x : Flit) : List Byte := Machine.bytesLE 12 x.header.toNat ++ Machine.bytesLE 240 x.payload.toNat

/-- Does the CRC-32C over header and payload hold (R34)? -/
def Flit.crcOk (x : Flit) : Bool := x.crc == Machine.crc32c x.bytes

/-- The flit with its CRC formed. -/
def Flit.sealed (x : Flit) : Flit := { x with crc := Machine.crc32c x.bytes }

/-- The payload as bytes. -/
def Flit.payloadBytes (x : Flit) : List Byte := Machine.bytesLE 240 x.payload.toNat

end Sys2Proof

namespace Sys2Proof.Machine

/-- A flit of a type and channel with payload bytes, zeros to 240 (R33). -/
def mkFlit (type channel : Nat) (last fallback : Bool) (dstDie dstGrove srcDie srcGrove tag hops transfer index tally : Nat)
    (payload : List Byte) : Flit :=
  ⟨BitVec.ofNat 96 (type * 2 ^ 92 + channel * 2 ^ 90 + b2n fallback * 2 ^ 89 + b2n last * 2 ^ 88 + dstDie * 2 ^ 74
      + dstGrove * 2 ^ 70 + srcDie * 2 ^ 64 + srcGrove * 2 ^ 60 + tag * 2 ^ 52 + hops * 2 ^ 48 + transfer * 2 ^ 36
      + (index % 4096) * 2 ^ 24 + tally % 2 ^ 24),
    BitVec.ofNat 1920 (fromLE (payload.take 240)), 0⟩

/-- The receiver's extension of tally_low: the value closest to its own tally whose low 24 bits match, the earlier one
when two are equally close (R33). -/
def extendTally (own low : Nat) : Nat :=
  let base := own - own % 2 ^ 24 + low
  if base < own then
    (if base + 2 ^ 24 - own < own - base then base + 2 ^ 24 else base)
  else if 2 ^ 24 ≤ base ∧ own + 2 ^ 24 - base ≤ base - own then base - 2 ^ 24
  else base

/-! ## Ports -/

/-- The record of a link end. -/
def State.port (s : State) (p : PortId) : Port := tblGet s.ports p {}

/-- The state with a link end's record replaced. -/
def State.setPort (s : State) (p : PortId) (x : Port) : State := { s with ports := tblSet s.ports p x }

/-- A channel of a link end. -/
def Port.chan (x : Port) (c : Fin 3) : Chan := tblGet x.chans c {}

/-- The state with one channel of a link end replaced. -/
def State.setChan (s : State) (p : PortId) (c : Fin 3) (x : Chan) : State :=
  s.setPort p { s.port p with chans := tblSet (s.port p).chans c x }

/-- The channel numbers 0 data, 1 felling lane, 2 control. -/
def chanOf (n : Nat) : Option (Fin 3) := if h : n < 3 then some ⟨n, h⟩ else none

/-- The credit field of a channel (SK_CREDIT). -/
def creditField (c : Fin 3) : Fld :=
  match c with
  | 0 => skCredit_dataCredits
  | 1 => skCredit_fellCredits
  | 2 => skCredit_ctlCredits

/-- Data, felling-lane and control credits of a receiving buffer (R35). -/
def creditMax (c : Fin 3) : Nat :=
  match c with
  | 0 => 368
  | 1 => 8
  | 2 => 8

/-- Queue a flit for transmission; `held` is the port whose receive buffer it keeps until it leaves. -/
def State.queueFlit (s : State) (p : PortId) (relay : Option Nat) (held : Option PortId) (x : Flit) (arg : FlitArg) : State :=
  match chanOf x.channel with
  | none => s
  | some c =>
    let ch := (s.port p).chan c
    s.setChan p c { ch with waiting := ch.waiting ++ [⟨x, arg, relay, held⟩] }

/-- Kind and operands of a link message, as `Config.linkPayload` takes them. -/
def LinkMsg.args : LinkMsg → Nat × Nat × Nat
  | .nak ch q => (0, ch.val, q)
  | .diagnosis => (1, 0, 0)
  | .pattern => (2, 0, 0)
  | .sparing l sp => (3, l.val, sp.val)
  | .confirm l sp => (4, l.val, sp.val)

/-- Send a link-control or lane-sparing message on the control channel (R34, R38): it is queued as a flit of type 0x8 or
0x9 whose payload layout the manual does not give (log 20), and its content is recorded as an output. -/
def State.sendLink (s : State) (p : PortId) (m : LinkMsg) : State :=
  let a := m.args
  let type := if a.1 ≤ 1 then 8 else 9
  let f := mkFlit type 2 true false 0 0 p.die 0 0 0 0 0 s.tally []
  (s.queueFlit p none none { f with payload := Config.linkPayload a.1 a.2.1 a.2.2 } .plain).emit (.link p m)

/-- A receiver returns a credit when a flit leaves its buffer (R35). -/
def State.returnCredit (s : State) (p : PortId) (c : Fin 3) : State := s.emit (.credit p c)

/-- Is a link trained and carrying flits? -/
def State.linkUp (s : State) (p : PortId) : Bool := s.on skStatus_linkUp p.num

/-- Does the closure map of a receiving port permit an image tag (R43)? Tag 0 always is. -/
def State.closurePermits (s : State) (p : PortId) (tag : Nat) : Bool :=
  tag == 0 || bit (s.reg ⟨.skClosure, p.num, tag / 32, s.protBank⟩).toNat (tag % 32)

/-- A failed reception: a CRC failure, or a link_seq out of order handled as one of the expected flit (R34, R475). The
receiver sends a nak of the expected flit and discards the channel until its resend; eight failures in a row start a lane
diagnosis. -/
def State.rejectFlit (s : State) (p : PortId) (c : Fin 3) : State :=
  let ch := (s.port p).chan c
  let fails := ch.fails + 1
  let s := s.setChan p c { ch with discards := true, fails := if fails = 8 then 0 else fails }
  let s := (s.skEv skEvent_crcError p.num).satUp skErrors_crcCount p.num
  let s := s.put skStatus_retryActive p.num 1
  if fails = 8 then
    let s := s.skEv skEvent_retryExhausted p.num
    let s := s.setPort p { s.port p with diagnosis := true }
    s.sendLink p .diagnosis
  else s.sendLink p (.nak c ch.rxSeq)

/-- The spare lanes of one direction that a port's map shows free, lowest first. -/
def State.freeSpares (s : State) (p : PortId) (map : Reg) : List Nat :=
  (upTo p.spares).filter (fun n => !bit (s.reg ⟨map, p.num, n, 0⟩).toNat 31)

/-- Record a spare in a map and its effects on SK_STATUS and SK_EVENT (R38, SK_STATUS, SK_EVENT.spares_low). -/
def State.recordSpare (s : State) (p : PortId) (map : Reg) (used : Fld) (lane : Fin 512) (spare : Fin 32) : State :=
  let s := s.setReg ⟨map, p.num, spare.val, 0⟩ (BitVec.ofNat 128 (2 ^ 31 + lane.val))
  let free := (s.freeSpares p map).length
  let s := (s.put used p.num (min 31 (p.spares - free))).put skStatus_degraded p.num 1
  if free ≤ 2 then s.skEv skEvent_sparesLow p.num else s

/-- How an injection acts on the next flit of a direction (R474): the mode when it acts now, and the state with its
progress. Count mode acts `value` times and then turns itself off; rate mode acts on every 2^value[7:0]-th flit. -/
def State.inject (s : State) (p : PortId) (dir : Nat) : Nat × State :=
  let mode := s.get skFaultInj_mode p.num
  if mode = 0 ∨ s.get skFaultInj_dir p.num ≠ dir ∨ s.service ≠ .test then (0, s) else
  let v := s.get skFaultInj_value p.num
  let x := s.port p
  if s.on skFaultInj_byRate p.num then
    let s := s.setPort p { x with seen := x.seen + 1 }
    if (x.seen + 1) % 2 ^ (v % 256) = 0 then (mode, s.skEv skEvent_injectActive p.num) else (0, s)
  else if v ≤ x.injected then (0, s.put skFaultInj_mode p.num 0)
  else
    let s := s.setPort p { x with injected := x.injected + 1 }
    let s := s.skEv skEvent_injectActive p.num
    (mode, if x.injected + 1 = v then s.put skFaultInj_mode p.num 0 else s)

/-- Reception of a flit by a link end (R34, R43, R475): the flit is accepted with its link_seq, or rejected, or dropped by
the closure map. Answers the state and whether the flit is accepted; an accepted flit still holds its buffer slot. -/
def State.acceptFlit (s : State) (p : PortId) (x : Flit) : State × Bool :=
  if !s.linkUp p then (s, false) else
  match chanOf x.channel with
  | none => (s, false)
  | some c =>
    let ch := (s.port p).chan c
    let good := x.crcOk && x.linkSeq == ch.rxSeq
    if ch.discards && x.linkSeq != ch.rxSeq then (s, false)
    else if !good then (s.rejectFlit p c, false)
    else
      let s := s.setChan p c { ch with discards := false, fails := 0, rxSeq := (ch.rxSeq + 1) % 256 }
      let s := if ch.discards then s.put skStatus_retryActive p.num 0 else s
      if s.closurePermits p x.imageTag then (s, true)
      else
        let s := s.skEv skEvent_closureDrop p.num
        let s := match p with
          | .stand st q => s.foresterViolation st.val 9 none x.imageTag q.val (x.imageTag * 256 + q.val)
          | .landing l q => s.violation l.val (48 + l.val) 9 none x.imageTag q.val (x.imageTag * 256 + q.val)
        (s.returnCredit p c, false)

/-- The header and payload of a flit, with its CRC broken. -/
def Flit.broken (x : Flit) : Flit := { x with crc := ~~~ x.crc }

/-- Reception behind an injection that acts on arriving flits (R474, dir 1): drop loses the flit before any check, corrupt
makes its CRC fail, and swap lets the next flit of the channel pass it. Answers the flits accepted, in order. -/
def State.receiveFlit (s : State) (p : PortId) (x : Flit) (arg : FlitArg) : State × List (Flit × FlitArg) :=
  let one (s : State) (y : Flit × FlitArg) : State × List (Flit × FlitArg) :=
    let a := s.acceptFlit p y.1
    (a.1, if a.2 then [y] else [])
  match (s.port p).swapHeld with
  | some y =>
    if y.1.channel = x.channel ∧ s.get skFaultInj_dir p.num = 1 then
      let s := s.setPort p { s.port p with swapHeld := none }
      let a := one s (x, arg)
      let b := one a.1 y
      (b.1, a.2 ++ b.2)
    else one s (x, arg)
  | none =>
    match s.inject p 1 with
    | (1, s) => (s, [])
    | (2, s) => one s (Flit.broken x, arg)
    | (3, s) => (s.setPort p { s.port p with swapHeld := some (x, arg) }, [])
    | (_, s) => one s (x, arg)

/-- The flits of one channel that the replay buffer of 512 keeps (R34). -/
def replayDepth : Nat := 512

/-- The flits of a relay entry that hold credits of a port's data channel (R42). -/
def Port.relayUse (x : Port) (entry : Nat) : Nat := (((x.chan 0).out).filter (fun e => e == some entry)).length

/-- The first waiting flit that may be sent: a relayed flit only within its entry's credit_share (R42). -/
def State.nextWaiting (s : State) (p : PortId) (c : Fin 3) : Option Waiting :=
  ((s.port p).chan c).waiting.find? (fun w =>
    match w.relay, p with
    | some e, .stand st _ =>
      decide ((s.port p).relayUse e < s.getAt skRelay_creditShare st.val e)
    | _, _ => true)

/-- A flit leaves a port behind an injection with dir 0 (R474): drop loses it after it entered the replay buffer, corrupt
flips payload bits after the CRC, and swap holds it until the next flit of its channel has left. -/
def State.sendOut (s : State) (p : PortId) (f : Flit) (arg : FlitArg) : State :=
  match (s.port p).swapHeld with
  | some y =>
    if y.1.channel = f.channel ∧ s.get skFaultInj_dir p.num = 0 then
      ((s.setPort p { s.port p with swapHeld := none }).emit (.flit p f arg)).emit (.flit p y.1 y.2)
    else s.emit (.flit p f arg)
  | none =>
    match s.inject p 0 with
    | (1, s) => s
    | (2, s) => s.emit (.flit p { f with payload := f.payload ^^^ Config.flipMask } arg)
    | (3, s) => s.setPort p { s.port p with swapHeld := some (f, arg) }
    | (_, s) => s.emit (.flit p f arg)

/-- The flit that a port sends in place of an idle one in TEST (R473): type 0x0, channel 0, and a payload that the manual calls pseudo-random
and does not give (a free value, log 121). -/
def State.testFlit (s : State) : Waiting × State :=
  let v := s.free 1920
  (⟨⟨0, v.1, 0⟩, .plain, none, none⟩, v.2)

/-- What a port has to send on a channel: the first flit that may go, or in TEST a test flit on channel 0. -/
def State.toSend (s : State) (p : PortId) (c : Fin 3) : Option (Waiting × State) :=
  match s.nextWaiting p c with
  | some w => some (w, s)
  | none => if s.service = .test ∧ c = 0 then some s.testFlit else none

/-- A port sends a waiting flit of a channel once it holds a credit, with its link_seq and CRC, and keeps it in the replay
buffer (R34, R35); the receive buffer that a relayed flit came from is free again. (DEDUCED: log 160.) -/
def State.transmit (s : State) (p : PortId) (c : Fin 3) : State :=
  if !s.linkUp p || s.get (creditField c) p.num == 0 then s else
  match s.toSend p c with
  | none => s
  | some (w, s) =>
    let x := s.port p
    let ch := x.chan c
    let f := (w.flit.withHdr 80 8 ch.txSeq).sealed
    let s := s.setPort p { x with
      chans := tblSet x.chans c
        { ch with waiting := ch.waiting.erase w, txSeq := (ch.txSeq + 1) % 256, out := ch.out ++ [w.relay] }
      replay := (x.replay ++ [(f, w.arg)]).drop (x.replay.length + 1 - replayDepth) }
    let s := s.put (creditField c) p.num (s.get (creditField c) p.num - 1)
    let s := match w.held with
      | some q => s.returnCredit q c
      | none => s
    s.sendOut p f w.arg

/-- The flits of a channel in the replay buffer from the failed one on: the newest run that starts with its link_seq. -/
def replayFrom (fs : List (Flit × FlitArg)) (c : Fin 3) (seq : Nat) : List (Flit × FlitArg) :=
  let g := fs.filter (fun f => f.1.channel == c.val)
  match g.reverse.findIdx? (fun f => f.1.linkSeq == seq) with
  | some i => g.drop (g.length - 1 - i)
  | none => []

/-- Resend from a failed flit out of the replay buffer (R34); an injection acts on the resends too (R474). -/
def State.resend (s : State) (p : PortId) (c : Fin 3) (seq : Nat) : State :=
  (s.satUp skErrors_retryCount p.num).each (replayFrom (s.port p).replay c seq) (fun s f => s.sendOut p f.1 f.2)

end Sys2Proof.Machine
end

