-- ==== Sys2Proof/Machine/SeqOps.lean ====
section
/-! DEFINITION. What several families do to sequences: entries and handles, state changes, the KV region and its pages,
frames to the client, felling words, endings, suspension and resumption (R252 to R266, R305 to R315, R378, R465). -/

namespace Sys2Proof

/-- A field of an image header, by byte offset and length (R203). -/
def ImageFile.hdr (f : ImageFile) (byte len : Nat) : Nat := Machine.bits f.header.toNat (8 * byte) (8 * len)

end Sys2Proof

namespace Sys2Proof.Machine

/-! ## Entries and handles -/

/-- The states of an entry (R253). -/
def seqClosed : Nat := 0
def seqOpening : Nat := 1
def seqPrefill : Nat := 2
def seqDecode : Nat := 3
def seqSuspended : Nat := 4
def seqFelling : Nat := 5

/-- The record of an entry. -/
def State.seq (s : State) (i : Nat) : Seq := tblGet s.seqs i {}

/-- The state with an entry's record replaced. -/
def State.setSeq (s : State) (i : Nat) (x : Seq) : State := { s with seqs := tblSet s.seqs i x }

/-- The state with an entry changed by a function. -/
def State.modSeq (s : State) (i : Nat) (f : Seq → Seq) : State := s.setSeq i (f (s.seq i))

/-- The state with the 128 bytes of an entry changed by a function. -/
def State.modEntry (s : State) (i : Nat) (f : SeqEntry → SeqEntry) : State :=
  s.modSeq i (fun x => { x with entry := f x.entry })

/-- The landing that holds an entry (R252). -/
def seqLanding (i : Nat) : Nat := i / 4096

/-- The handle of an entry: generation, 0, index (R252). -/
def handleOf (e : SeqEntry) (i : Nat) : Nat := e.gen.toNat * 65536 + i

/-- The handle of the entry with index `i`. -/
def State.handle (s : State) (i : Nat) : Nat := handleOf (s.seq i).entry i

/-- The entry that a handle names, when its generation is current and bit 15 is 0 (R252). -/
def State.ofHandle (s : State) (h : Nat) : Option Nat :=
  if bits h 15 1 = 0 ∧ (s.seq (h % 32768)).entry.gen.toNat = h / 65536 then some (h % 32768) else none

/-- The indices of the entries that are not CLOSED, in index order. -/
def State.openSeqs (s : State) : List Nat :=
  sortBy ((s.seqs.filter (fun p => p.2.entry.state ≠ 0)).map (fun p => p.1)) (fun a b => decide (a ≤ b))

/-- A state change of an entry with its journal record 0x0010 (R255, R246). -/
def State.seqState (s : State) (i new : Nat) : State :=
  let e := (s.seq i).entry
  let s := s.modEntry i (fun e => { e with state := new })
  s.journalRec (48 + seqLanding i) 0x0010 e.imageTag e.tenant i (e.state + 256 * new)

/-- The 128 bytes of an entry (R253). -/
def entryBytes (e : SeqEntry) (i : Nat) : List Byte :=
  bytesLE 1 e.state
  ++ bytesLE 1 (b2n e.overcommit + 2 * b2n e.deckKv + 4 * b2n e.adapt + 8 * b2n e.partner + 16 * b2n e.pageWait
      + 32 * b2n e.hostKey + 64 * b2n e.resumePrefill)
  ++ bytesLE 1 e.cls ++ bytesLE 1 e.imageTag ++ bytesLE 2 e.tenant ++ bytesLE 2 e.variant ++ bytesLE 4 (handleOf e i)
  ++ bytesLE 4 e.step ++ bytesLE 8 e.key.toNat ++ bytesLE 4 e.length ++ bytesLE 4 e.maxLen ++ bytesLE 4 e.promptLen
  ++ bytesLE 4 e.pagesReserved ++ bytesLE 8 e.pageList ++ bytesLE 4 e.pagesMapped ++ bytesLE 4 e.tokensLeft
  ++ bytesLE 2 e.temperature.toNat ++ bytesLE 2 e.topP.toNat ++ bytesLE 2 e.topK ++ bytesLE 2 0
  ++ bytesLE 4 e.stopToken.toNat ++ bytesLE 4 e.lastToken.toNat ++ bytesLE 8 e.firstDue ++ bytesLE 8 e.nextDue
  ++ bytesLE 4 e.itlTarget ++ bytesLE 4 e.misses ++ bytesLE 1 e.specMode ++ bytesLE 1 e.candidates
  ++ bytesLE 1 e.acceptance ++ bytesLE 1 e.saplingTag ++ bytesLE 2 e.saplingSeq ++ bytesLE 2 0 ++ bytesLE 8 e.openTally
  ++ bytesLE 8 e.commitTally ++ bytesLE 4 e.update ++ bytesLE 4 e.filled

/-! ## Images -/


/-- The image loaded under a tag. -/
def State.image (s : State) (tag : Nat) : Option Image := tblFind s.images tag

/-- The state with the image of a tag replaced. -/
def State.setImage (s : State) (tag : Nat) (x : Image) : State := { s with images := tblSet s.images tag x }

/-- The state with a loaded image changed; no change where the tag holds none. -/
def State.modImage (s : State) (tag : Nat) (f : Image → Image) : State :=
  match s.image tag with
  | some x => s.setImage tag (f x)
  | none => s

/-- The tags of the loaded images, ascending. -/
def State.imageTags (s : State) : List Nat := sortBy (s.images.map (fun p => p.1)) (fun a b => decide (a ≤ b))

/-- The layer records of a loaded image; empty where none is loaded. -/
def State.layers (s : State) (tag : Nat) : List LayerRec := ((s.image tag).map (fun x => x.file.layerTable)).getD []

/-- Open sequences of an image. -/
def State.seqsOf (s : State) (tag : Nat) : List Nat := s.openSeqs.filter (fun i => (s.seq i).entry.imageTag = tag)

/-! ## The KV region (R258 to R264) -/

/-- MX blocks of a K row of a layer. -/
def rowBlocks (l : LayerRec) : Nat := l.kvHeads * l.dimBlocks

/-- Bytes of a K or V row of a layer (R258). -/
def rowBytes (l : LayerRec) : Nat := 64 * (ceilDiv (rowBlocks l) 64 + ceilDiv (rowBlocks l * blockBytes l.kvFormat) 64)

/-- Region pages of a K or V section for `n` positions (R258). -/
def sectionPages (l : LayerRec) (n : Nat) : Nat := ceilDiv (n * rowBytes l) 65536

/-- KV pages that `n` positions need: the head, then K and V of every layer (R298). -/
def pagesFor (ls : List LayerRec) (n : Nat) : Nat := 1 + (ls.map (fun l => 2 * sectionPages l n)).sum

/-- The first region page of the K section (or V section) of a layer for a region sized for `maxLen` (R258). -/
def sectionStart (ls : List LayerRec) (maxLen layer : Nat) (isV : Bool) : Nat :=
  1 + ((ls.take layer).map (fun l => 2 * sectionPages l maxLen)).sum
    + (if isV then sectionPages (ls.getD layer ⟨0, 0, 0, 0, 0, 0, 0, 0, [], []⟩) maxLen else 0)

/-- Region page and byte within it of byte `j` of the row of a position (R258). -/
def rowPlace (ls : List LayerRec) (maxLen layer : Nat) (isV : Bool) (pos j : Nat) : Nat × Nat :=
  let l := ls.getD layer ⟨0, 0, 0, 0, 0, 0, 0, 0, [], []⟩
  let byte := pos * rowBytes l + j
  (sectionStart ls maxLen layer isV + byte / 65536, byte % 65536)

/-- A page-list entry of a sequence (R260, R261). -/
def State.pageEntry (s : State) (i page : Nat) : Nat := fromLE (s.hbmRead ((s.seq i).entry.pageList + 4 * page) 4)

/-- The state with a page-list entry written. -/
def State.setPageEntry (s : State) (i page v : Nat) : State :=
  s.hbmWrite ((s.seq i).entry.pageList + 4 * page) (bytesLE 4 v)

/-- KV pool pages of a landing's share, and the number of its first page: the share lies at the end of the landing's three
stacks (log 26). -/
def State.poolPages (s : State) (l : Nat) : Nat := s.config.poolPages.getD l 0
def State.poolBase (s : State) (l : Nat) : Nat := 3 * (l + 1) * 2 ^ 20 - s.poolPages l

/-- The landing whose stacks hold an HBM page. -/
def pageLanding (p : Nat) : Nat := p / (3 * 2 ^ 20)

/-- Does an HBM page lie in the KV pool? -/
def State.inPool (s : State) (p : Nat) : Bool :=
  decide (p < 25165824) && decide (s.poolBase (pageLanding p) ≤ p)

/-- Where a page lies: an HBM byte address, or a deck with a byte address in it. -/
inductive Place where
  | hbm (addr : Nat)
  | deck (g : GroveId) (addr : Nat)
deriving DecidableEq, Repr

/-- The grove with plain numbers. -/
def groveOf (stand grove : Nat) : GroveId := ⟨Fin.ofNat 42 stand, Fin.ofNat 16 grove⟩

/-- The place that a page-list entry names; none for an invalid page number (R260). -/
def State.placeOf (s : State) (v : Nat) : Option Place :=
  match bits v 30 2 with
  | 1 => if s.inPool (bits v 0 30) then some (.hbm (bits v 0 30 * 65536)) else none
  | 2 =>
    if bits v 18 12 = 0 ∧ bits v 12 6 < 42 then
      some (.deck (groveOf (bits v 12 6) (bits v 8 4)) (bits v 0 8 * 65536))
    else none
  | _ => none

/-- Bytes at an offset of a place. -/
def State.placeRead (s : State) (p : Place) (off n : Nat) : List Byte :=
  match p with
  | .hbm a => s.hbmRead (a + off) n
  | .deck g a => s.deckRead g (a + off) n

/-- The state with bytes at an offset of a place written. -/
def State.placeWrite (s : State) (p : Place) (off : Nat) (bs : List Byte) : State :=
  match p with
  | .hbm a => s.hbmWrite (a + off) bs
  | .deck g a => s.deckWrite g (a + off) bs

/-- Region pages of a sequence. -/
def State.regionPages (s : State) (i : Nat) : Nat :=
  pagesFor (s.layers (s.seq i).entry.imageTag) (s.seq i).entry.maxLen

/-- The 64-byte lines of a row, each with its page and offset: `lines` of them from line 0. -/
def rowLines (ls : List LayerRec) (maxLen layer : Nat) (isV : Bool) (pos : Nat) : List (Nat × Nat) :=
  (upTo (rowBytes (ls.getD layer ⟨0, 0, 0, 0, 0, 0, 0, 0, [], []⟩) / 64)).map
    (fun n => rowPlace ls maxLen layer isV pos (64 * n))

/-- The bytes of a stored row; none where a page of it is invalid. -/
def State.kvRow (s : State) (i layer : Nat) (isV : Bool) (pos : Nat) : Option (List Byte) :=
  let e := (s.seq i).entry
  ((rowLines (s.layers e.imageTag) e.maxLen layer isV pos).mapM (fun p =>
    (s.placeOf (s.pageEntry i p.1)).map (fun pl => s.placeRead pl p.2 64))).map List.flatten

/-- The state with a row stored; lines whose page is invalid are not written. -/
def State.setKvRow (s : State) (i layer : Nat) (isV : Bool) (pos : Nat) (bs : List Byte) : State :=
  let e := (s.seq i).entry
  ((rowLines (s.layers e.imageTag) e.maxLen layer isV pos).zip (chunks 64 (bs.length + 1) bs)).foldl (fun s p =>
    match s.placeOf (s.pageEntry i p.1.1) with
    | some pl => s.placeWrite pl p.1.2 p.2
    | none => s) s

/-! ## Pages -/

/-- The lowest free page of a landing's share (R263; log 26). -/
def State.lowestFree (s : State) (l : Nat) : Option Nat :=
  ((upTo (min (s.poolPages l) (s.usedPages.length + 1))).find? (fun n => decide (s.poolBase l + n ∉ s.usedPages))).map
    (fun n => s.poolBase l + n)

/-- Free pages of a landing's share (SQ_POOL). -/
def State.freeIn (s : State) (l : Nat) : Nat := s.poolPages l - (s.usedPages.filter (fun p => pageLanding p = l)).length

/-- Free pages of the whole pool: every page of it that is not in use. -/
def State.freeTotal (s : State) : Nat := ((upTo 8).map s.poolPages).sum - s.usedPages.length

/-- Pages of the whole pool. -/
def State.poolTotal (s : State) : Nat := ((upTo 8).map s.poolPages).sum

/-- Pages reserved by the open sequences, the partner's mirrors apart. -/
def State.reservedTotal (s : State) : Nat := (s.openSeqs.map (fun i => (s.seq i).entry.pagesReserved)).sum

/-- Reserved pages that the other open sequences have not mapped yet. -/
def State.owedPages (s : State) (i : Nat) : Nat :=
  ((s.openSeqs.filter (fun j => j ≠ i)).map (fun j => (s.seq j).entry.pagesReserved - (s.seq j).entry.pagesMapped)).sum

/-- An HBM page for region page `page` of entry `i` (R263): from landing (i + page) mod 8, else from the next that has one;
beyond its reservation a sequence takes only pages that no other reservation needs. -/
def State.takePage (s : State) (i page : Nat) : Option Nat :=
  let e := (s.seq i).entry
  if e.pagesReserved ≤ e.pagesMapped ∧ s.freeTotal ≤ s.owedPages i then none
  else (upTo 8).findSome? (fun k => s.lowestFree ((i + page + k) % 8))

/-- The layer whose section a region page belongs to. -/
def layerOfPage (ls : List LayerRec) (maxLen page : Nat) : Nat :=
  (upTo ls.length).foldl (fun a l => if sectionStart ls maxLen l false ≤ page then l else a) 0

/-- A free deck page of the layer's pool (R264), lowest in the table's order. -/
def State.takeDeckPage (s : State) (tag layer : Nat) : Option (Nat × Nat × Nat) :=
  ((s.layers tag).getD layer ⟨0, 0, 0, 0, 0, 0, 0, 0, [], []⟩).deckPages.find? (fun p => p ∉ s.usedDeckPages)

/-- Map one region page of a sequence (R262 to R264); none where no page can be had. -/
def State.mapPage (s : State) (i page : Nat) : Option State :=
  let e := (s.seq i).entry
  let ls := s.layers e.imageTag
  let up (s : State) : State := s.modEntry i (fun e => { e with pagesMapped := e.pagesMapped + 1 })
  let deck := if e.deckKv && s.on sqCtrl_deckKvEn (seqLanding i) && page ≠ 0 then
      s.takeDeckPage e.imageTag (layerOfPage ls e.maxLen page) else none
  match deck with
  | some d =>
    some (up ({ s with usedDeckPages := s.usedDeckPages ++ [d] }.setPageEntry i page
      (2 * 2 ^ 30 + d.1 * 2 ^ 12 + d.2.1 * 2 ^ 8 + d.2.2)))
  | none =>
    match s.takePage i page with
    | some p => some (up ({ s with usedPages := s.usedPages ++ [p] }.setPageEntry i page (2 ^ 30 + p)))
    | none => none

/-- Map every page of a list that is not mapped yet; pages already mapped stay when a later one cannot be had. Answers the
state and whether all are mapped. -/
def State.mapPages (s : State) (i : Nat) : List Nat → State × Bool
  | [] => (s, true)
  | p :: r =>
    if bits (s.pageEntry i p) 30 2 ≠ 0 then s.mapPages i r
    else if !s.on sqCtrl_allocEn (seqLanding i) then (s, false)
    else match s.mapPage i p with
      | some s => State.mapPages s i r
      | none => (s, false)

/-- The region pages that positions below `n` use in every section (R262). -/
def pagesCovering (ls : List LayerRec) (maxLen n : Nat) : List Nat :=
  0 :: (upTo ls.length).flatMap (fun k =>
    let l := ls.getD k ⟨0, 0, 0, 0, 0, 0, 0, 0, [], []⟩
    let c := min (sectionPages l n) (sectionPages l maxLen)
    (upTo c).map (fun j => sectionStart ls maxLen k false + j) ++ (upTo c).map (fun j => sectionStart ls maxLen k true + j))

/-- Free the place that a page-list entry names (R265 step 4). -/
def State.freeEntry (s : State) (v : Nat) : State :=
  match bits v 30 2 with
  | 1 => { s with usedPages := s.usedPages.filter (fun p => p ≠ bits v 0 30) }
  | 2 => { s with usedDeckPages := s.usedDeckPages.filter (fun d => d ≠ (bits v 12 6, bits v 8 4, bits v 0 8)) }
  | _ => s

/-- Every grove drops the translation-cache entries of a sequence (R197). -/
def State.dropXlate (s : State) (i : Nat) : State :=
  { s with groves := s.groves.map (fun p => (p.1, { p.2 with xlate := p.2.xlate.filter (fun x => x.1 ≠ i) })) }

/-- Free every mapped page of a sequence and its page-list units, after every grove has dropped its translations (R265,
R261). -/
def State.freeRegion (s : State) (i : Nat) : State :=
  let s := s.dropXlate i
  let s := s.each (upTo (s.regionPages i)) (fun s p => (s.freeEntry (s.pageEntry i p)).setPageEntry i p 0)
  let x := s.seq i
  { s.modSeq i (fun x => { x with entry := { x.entry with pagesMapped := 0 }, freeing := [] }) with
    usedUnits := s.usedUnits.filter (fun u => u.1 ≠ x.entry.pageList / 4096) }

/-! ## Frames to the client (R370, R378, R380) -/

/-- The PTT frame types of R369. -/
def pttOpen : Nat := 1
def pttOpenResult : Nat := 2
def pttPrompt : Nat := 3
def pttEmbed : Nat := 4
def pttTarget : Nat := 5
def pttToken : Nat := 6
def pttLogits : Nat := 7
def pttEnd : Nat := 8
def pttFell : Nat := 9
def pttShed : Nat := 10
def pttResend : Nat := 11
def pttTakeover : Nat := 12
def pttError : Nat := 13

/-- The record of a tenant. -/
def State.tenant (s : State) (t : Nat) : Tenant := tblGet s.tenants t {}

/-- The state with a tenant's record replaced. -/
def State.setTenant (s : State) (t : Nat) (x : Tenant) : State := { s with tenants := tblSet s.tenants t x }

/-- The port that a frame leaves from: the home port while its link is up, else the lowest port whose link is up (R380). -/
def State.egress (s : State) (home : Nat) : Option Nat :=
  if s.on ldPortStatus_linkUp home then some home else (upTo 8).find? (fun l => s.on ldPortStatus_linkUp l)

/-- Take the next frame counter of a tenant's active slot at a landing (R370): at 2^32 − 1 the other slot becomes active if
it holds a key written later, and otherwise no frame is sent. -/
def State.nextCounter (s : State) (t l : Nat) : Option State :=
  let x := s.tenant t
  match tblFind x.slots x.active with
  | none => none
  | some k =>
    let c := tblGet k.sent l 0 + 1
    if c < 2 ^ 32 then
      some (s.setTenant t { x with slots := tblSet x.slots x.active { k with sent := tblSet k.sent l c } })
    else match tblFind x.slots (1 - x.active) with
      | some o =>
        if k.written < o.written ∧ tblGet o.sent l 0 + 1 < 2 ^ 32 then
          some (s.setTenant t { x with
            active := 1 - x.active
            slots := tblSet x.slots (1 - x.active) { o with sent := tblSet o.sent l (tblGet o.sent l 0 + 1) } })
        else none
      | none => none

/-- The UDP ports of PTT data and PTT control frames (R365). -/
def pttData : Nat := 47110
def pttControl : Nat := 47111

/-- The UDP source port of a frame that the module sends (R369): TOKEN, LOGITS and OPEN_RESULT are data, the others control. -/
def pttSourcePort (kind : Nat) : Nat := if kind = pttOpenResult ∨ kind = pttToken ∨ kind = pttLogits then pttData else pttControl

/-- Send a PTT frame of a tenant (R366, R367, R370) under the active slot, with direction 1, the landing as source, and the slot's next
counter; it is not sent while the tenant has no key or no port is up. -/
def State.pttSend (s : State) (home tenant : Nat) (addr : BitVec 128) (udp : BitVec 16) (kind flags : Nat)
    (prov : BitVec 8) (handle step : Nat) (payload : List Byte) : State :=
  match s.egress home with
  | none => s
  | some l =>
    match s.nextCounter tenant l with
    | none => s
    | some s =>
      let t := s.tenant tenant
      let port := pttSourcePort kind
      (s.wrapUp ldPttStats_framesOut l).emit
        (.ptt l addr udp kind flags prov tenant (BitVec.ofNat 32 handle) step s.tally payload port
          (s.get (if port = pttData then ldClass_dscpData else ldClass_dscpCtrl) l) (t.active * 2 ^ 15 + 2 ^ 14 + l * 2 ^ 7)
          (tblGet (tblGet t.slots t.active {}).sent l 0))

/-- A PTT frame of a sequence, to the address of its OPEN (R380); a sequence that no frame has named has no client yet. -/
def State.seqFrame (s : State) (i kind flags : Nat) (prov : BitVec 8) (step : Nat) (payload : List Byte) : State :=
  let x := s.seq i
  if x.fromHost && x.addr == 0 then s else
  s.pttSend x.landing x.entry.tenant x.addr x.udp kind flags prov (s.handle i) step payload

/-! ## Mirroring -/

/-- Is the module paired (TW_PAIR_STATUS.state, R391)? -/
def pairPaired : Nat := 2
def State.paired (s : State) : Bool := s.get twPairStatus_state 0 == pairPaired

/-- Do mirror records flow: the module is paired, or its new partner is being filled (R405 step 5)? -/
def State.mirrors (s : State) : Bool := s.paired || s.get twPairStatus_state 0 == 4

/-- The landing of a twin port (R15). -/
def twinLanding (port : Nat) : Nat := if port = 0 then 1 else 5

/-- The twin port that frames leave by: TW0 while it is up, else TW1 (R390). -/
def State.twinPort (s : State) : Nat := if s.on twPortStatus_linkUp 1 then 0 else 1

/-- Has the partner a full copy of the sequence (R394, R405)? -/
def State.safe (s : State) (i : Nat) : Bool := s.paired && (s.seq i).mirrored && !(s.seq i).copying

/-- Send a mirror record of a mirrored sequence to the partner (R394). FELL goes on the control channel. -/
def State.mirror (s : State) (i kind step : Nat) (body : List Byte) : State :=
  if s.mirrors && (s.seq i).mirrored then
    s.emit (.twin s.twinPort kind (BitVec.ofNat 32 (s.handle i)) step body)
  else s

/-! ## Felling (R309 to R313) -/

/-- Felling reasons (R310) of the landing's own endings, by status code (R344). -/
def fellReason (code : Nat) : Nat :=
  match code with
  | 0x0400 => 2 | 0x0401 => 3 | 0x0402 => 4 | 0x0403 => 5 | 0x0404 => 6 | 0x0405 => 7
  | _ => 0

/-- A felling of `entry` reaches its sapling, and a sapling's draft its target's word (R285, R309). -/
def State.withSapling (s : State) (i : Nat) : List Nat :=
  let e := (s.seq i).entry
  if e.specMode ≠ 0 ∧ (s.seq e.saplingSeq).entry.state ≠ 0 ∧ e.saplingSeq ≠ i then [i, e.saplingSeq] else [i]

/-- The content of a felling word of form 1 (R310), little-endian (log 4). -/
def fellWordList (origin reason n : Nat) (idx : List Nat) : BitVec 448 :=
  BitVec.ofNat 448 (fromLE ([1, BitVec.ofNat 8 idx.length, BitVec.ofNat 8 (48 + origin), BitVec.ofNat 8 reason]
    ++ bytesLE 4 n ++ idx.flatMap (bytesLE 2)))

/-- The content of a felling word of form 2 for the entries of one aligned group of 256 (R310). -/
def fellWordMap (origin reason n base : Nat) (idx : List Nat) : BitVec 448 :=
  BitVec.ofNat 448 (fromLE ([2, 0, BitVec.ofNat 8 (48 + origin), BitVec.ofNat 8 reason] ++ bytesLE 4 n
    ++ bytesLE 2 base ++ List.replicate 6 0 ++ bytesLE 32 ((idx.map (fun k => 2 ^ (k - base))).sum)))

/-- Submit a felling word to the felling lane (R310 step 3): slot_wait sets behind more than 16 words. -/
def State.submitFelling (s : State) (origin : Nat) (content : BitVec 448) : State :=
  let waiting := s.road.felling.length
  let s := { s with road := { s.road with felling := s.road.felling ++
    [(⟨2, 48 + origin, 0, s.road.frame, s.road.slot, true, content⟩ : HrWord)] } }
  let s := s.put sqFellStatus_wordsWaiting origin (s.get sqFellStatus_wordsWaiting origin + 1)
  let s := s.fellEv sqFellEvent_fellIssued origin
  if 16 < waiting then s.fellEv sqFellEvent_slotWait origin else s

/-- The entries of a list that a felling reaches: open and not already in FELLING (R309), with their saplings. -/
def State.fellable (s : State) (idx : List Nat) : List Nat :=
  ((idx.filter (fun i => (s.seq i).entry.state ≠ 0 ∧ (s.seq i).entry.state ≠ seqFelling)).flatMap s.withSapling).eraseDups

/-- Fell entries from a landing with a reason and the status code and detail of their END (R309, R310): journal record 0x0012, state
FELLING, one felling word for each 24 entries; `asMap` uses bitmap words. The FELL mirror record goes to the partner. -/
def State.fell (s : State) (origin : Fin 8) (idx : List Nat) (reason code detail : Nat) (asMap : Bool) : State :=
  let all := s.fellable idx
  let groups := if asMap then
      (upTo 128).filterMap (fun b =>
        let g := all.filter (fun i => i / 256 = b)
        if g = [] then none else some g)
    else chunks 24 (all.length + 1) all
  s.each groups (fun s g =>
    let n := tblGet s.fellCtr origin.val 0
    let id : FellId := ⟨origin, n⟩
    let s := { s with
      fellCtr := tblSet s.fellCtr origin.val (n + 1)
      fellings := tblSet s.fellings id ({ entries := g, reason := reason, code := code } : Felling) }
    let s := s.put sqFellStatus_fellingsOpen origin.val (s.get sqFellStatus_fellingsOpen origin.val + 1)
    let s := s.each g (fun s i =>
      let e := (s.seq i).entry
      let s := s.journalRec (48 + origin.val) 0x0012 e.imageTag e.tenant i (48 + origin.val + e.step * 2 ^ 32)
      let s := s.modSeq i (fun x => { x with endCode := code + detail * 65536 })
      let s := s.seqState i seqFelling
      let s := s.answerAwaits i 2 reason
      s.mirror i 6 e.step (bytesLE 1 reason ++ bytesLE 8 s.tally))
    s.submitFelling origin.val
      (if asMap then fellWordMap origin.val reason n (256 * ((g.headD 0) / 256)) g
       else fellWordList origin.val reason n g))

/-- The landing with a plain number. -/
def landingOf (l : Nat) : Fin 8 := Fin.ofNat 8 l

/-- Stands that are powered: every stand that is not dark (R313, PW_STAND_STATUS.stand_power). -/
def State.poweredStands (s : State) : List Nat := (upTo 42).filter (fun n => s.get pwStandStatus_standPower n ≠ 0)

/-! ## Endings (R465) -/

/-- END to the client, the kind 0x0002 record to the tenant's function, and the journal (R378, R465). -/
def State.sendEnd (s : State) (i code detail : Nat) : State :=
  let e := (s.seq i).entry
  let s := s.seqFrame i pttEnd 4 0 e.step (bytesBE 2 code ++ bytesBE 2 detail ++ bytesBE 4 e.length)
  s.tenantRecord e.tenant 2 (s.handle i) (bytesLE 2 code ++ bytesLE 4 e.step ++ bytesLE 4 e.length)

/-- Open sequences of the module's own: no mirrors of the partner's (R253, R472). -/
def State.ownOpen (s : State) : List Nat := s.openSeqs.filter (fun i => !(s.seq i).entry.partner)

/-- The operation of a drain ends once no sequence of the module's own is open (R349). (DEDUCED: log 168.) -/
def State.drainCheck (s : State) : State :=
  match s.drain with
  | some d => if d.op ≠ 0 ∧ s.ownOpen = [] then { s with drain := some { d with op := 0 } }.endOp d.op stOk 0 0 else s
  | none => s

/-- An entry enters CLOSED (R255): its pages and units are freed and what belongs to the open sequence is dropped; the
tokens kept for RESEND stay until it reopens (R376). -/
def State.closeEntry (s : State) (i : Nat) : State :=
  let s := s.freeRegion i
  let s := s.seqState i seqClosed
  let s := s.answerAwaits i 0x0103 seqClosed
  let s := s.drainCheck
  let s := { s with twin := { s.twin with restored := s.twin.restored.filter (fun j => j ≠ i) } }
  s.modSeq i (fun x => { x with
    entry := { x.entry with pagesReserved := 0, pageWait := false }
    cause := none, asked := none, closing := none, inFlight := none, units := 0, freeing := []
    tokens := [], embeds := [], targets := [], mirrored := false, copying := false, moving := false, mirrorOut := [], pathLeft := [], rejoin := false })

/-- Close an entry with a code: END, the record, CLOSED, and the same for its sapling, which has no client (R255, R285). -/
def State.endClosed (s : State) (i code detail : Nat) : State :=
  let s := s.mirror i 4 (s.seq i).entry.step (bytesLE 1 seqClosed ++ bytesLE 1 2)
  let e := (s.seq i).entry
  let s := (s.sendEnd i code detail).closeEntry i
  if e.specMode ≠ 0 ∧ (s.seq e.saplingSeq).entry.state ≠ 0 ∧ e.saplingSeq ≠ i then s.closeEntry e.saplingSeq else s

/-- A sequence hands itself over to the partner (R402 steps 1 to 5, R466): a MOVE frame, records of kind 0x0006 with
direction 0, and the entry closes without END. (DEDUCED: log 138.) -/
def State.moveOut (s : State) (i : Nat) : State :=
  let e := (s.seq i).entry
  let s := s.emit (.twin s.twinPort 7 (BitVec.ofNat 32 (s.handle i)) e.step [])
  let s := s.tenantRecord e.tenant 6 (s.handle i) (bytesLE 1 0 ++ bytesLE 4 1)
  let s := s.closeEntry i
  if e.specMode ≠ 0 ∧ (s.seq e.saplingSeq).entry.state ≠ 0 ∧ e.saplingSeq ≠ i then s.closeEntry e.saplingSeq else s

/-- Causes of R465 that follow from the image and the data, so that the partner would repeat them: the sequence ends. -/
def endsWhenPaired (code : Nat) (byTimeout : Bool) : Bool :=
  code == 0x0400 || code == 0x0402 || code == 0x0405 || (code == 0x0404 && !byTimeout)

/-- An ending with a code of R465: a mirrored sequence of a paired module moves to the partner where the table says so, and
every other one is felled by its landing with the code (R309, R465, R466). Only an open sequence of this module ends. -/
def State.endSeq (s : State) (i code detail : Nat) (byTimeout : Bool) : State :=
  let x := s.seq i
  if x.entry.state = 0 ∨ x.entry.state = seqFelling ∨ x.entry.partner then s
  else if s.safe i && !endsWhenPaired code byTimeout then s.moveOut i
  else
    s.fell (landingOf (seqLanding i)) [i] (fellReason code) code detail false

/-- Fold `endSeq` over sequences. -/
def State.endSeqs (s : State) (idx : List Nat) (code detail : Nat) (byTimeout : Bool) : State :=
  s.each idx (fun s i => s.endSeq i code detail byTimeout)

/-- Functions with image rights to an image (R334 kind 0x0007): those whose tenant's rights hold the tag, and those that can
name any tenant. -/
def State.imageFunctions (s : State) (tag : Nat) : List (Fin 256) :=
  s.functions.filter (fun f =>
    bit (s.reg ⟨.cpFuncRights, f.val, 0, s.protBank⟩).toNat 10 ||
    (match s.tenantOf f with
     | some t => ((s.prot.tenants.find? (fun r => r.tenant = t)).map (fun r => bit r.images.toNat tag)).getD false
     | none => false))

/-- A record of kind 0x0007 for an image: 0 cleared, 1 faulted, 2 unloaded. -/
def State.imageRecord (s : State) (tag what : Nat) : State :=
  s.each (s.imageFunctions tag) (fun s f =>
    s.eventRecord f 7 ((s.tenantOf f).getD 0xFFFF) noHandle (bytesLE 1 tag ++ bytesLE 1 what))

/-- Forester firmware marks an image faulted (R190, R216, R466) and ends or moves its sequences with IMAGE_FAULTED. -/
def State.faultImage (s : State) (tag : Nat) (byTimeout : Bool) : State :=
  match s.image tag with
  | none => s
  | some x =>
    if x.state = 3 then s else
    let s := s.setImage tag { x with state := 3 }
    let s := s.imageRecord tag 1
    s.endSeqs (s.seqsOf tag) 0x0404 tag byTimeout

/-! ## Suspension (R256, R306 to R308) -/

/-- Code of a suspension cause in records of kind 0x0003. -/
def SuspendCause.code : SuspendCause → Nat
  | .preempted => 0 | .pageWait => 1 | .host => 2

/-- A sequence enters SUSPENDED (R255, R256): resume_prefill records the state left, and a record of kind 0x0003 goes to the
tenant's function. -/
def State.suspendNow (s : State) (i : Nat) (c : SuspendCause) : State :=
  let e := (s.seq i).entry
  if e.state ≠ seqPrefill ∧ e.state ≠ seqDecode then s else
  let s := s.seqState i seqSuspended
  let s := s.modSeq i (fun x => { x with
    entry := { x.entry with resumePrefill := decide (e.state = seqPrefill), pageWait := decide (c = .pageWait) }
    cause := some c, suspendAt := s.tally, asked := none, rejoin := false })
  let s := s.tenantRecord e.tenant 3 (s.handle i) (bytesLE 1 0 ++ bytesLE 1 c.code)
  let s := if c = .host then s.answerAwaits i 0 0 else s
  s.mirror i 4 e.step (bytesLE 1 seqSuspended ++ bytesLE 1 0)

/-- A suspended sequence resumes into the state that resume_prefill names (R255, R307): next_due becomes the resume tally
plus itl_target, a target of 0 declaring none. -/
def State.resumeNow (s : State) (i : Nat) : State :=
  let x := s.seq i
  let e := x.entry
  if e.state ≠ seqSuspended then s else
  let s := s.seqState i (if e.resumePrefill then seqPrefill else seqDecode)
  let s := s.modSeq i (fun y => { y with
    entry := { y.entry with pageWait := false, nextDue := s.tally + y.entry.itlTarget }
    cause := none })
  let s := s.tenantRecord e.tenant 3 (s.handle i)
    (bytesLE 1 1 ++ bytesLE 1 ((x.cause.map SuspendCause.code).getD 0))
  s.mirror i 4 e.step (bytesLE 1 (if e.resumePrefill then seqPrefill else seqDecode) ++ bytesLE 1 1)

/-! ## Classes (R295, R296) -/

/-- The class records after boot (R296). -/
def classDefault (c : Nat) : ClassRec :=
  { mayPreempt := decide (c ≤ 3), suspendable := decide (1 ≤ c), overcommitOk := decide (4 ≤ c), deckKv := decide (c = 0)
    ttft := 0, itl := 0, expect := 256, pageWait := 100000, suspendLimit := 1000
    retryMin := if c ≤ 3 then 1 else 10, retryMax := if c ≤ 3 then 100 else 1000 }

/-- The record of a service class. -/
def State.classRec (s : State) (c : Nat) : ClassRec := tblGet s.classes c (classDefault c)

/-! ## The service state of R471 -/

/-- Is a stand derated, or fewer than 16 bus converters working, or one Forester alone, or a plan other than the primary in
force, or no reserve stand left, or a tier served through the digital path (R471)? -/
def State.degradedNow (s : State) : Bool :=
  s.images.any (fun p => p.2.plan ≠ 0 || p.2.uncovered) || s.reserve.isEmpty || decide (s.get pwConverters_working 0 < 16)
  || (upTo 42).any (fun n => s.on pwStandStatus_derated n) || s.images.any (fun p => !p.2.digital.isEmpty) || !s.standbyIn

/-- Code of the sole pair state (TW_PAIR_STATUS). -/
def pairSole : Nat := 3

/-- The state that R471 gives now. -/
def State.steady (s : State) : Service :=
  if s.get twPairStatus_state 0 = pairSole then .twinSole else if s.degradedNow then .degraded else .serving

/-- The service state follows R471 outside STUMP, SURVEY, STREAMING, DRAINING, TEST and OFF. -/
def State.follow (s : State) : State :=
  match s.service with
  | .serving | .degraded | .twinSole => s.setService s.steady
  | _ => s

/-- The last completed step of R449 on the active Forester (BT_STATUS.step, in L3 for FA and in L7 for FB). -/
def State.bootStep (s : State) (n : Nat) : State := s.put btStatus_step (if s.foresterB then 7 else 3) n

/-- STREAMING ends once every resident image, and every other one loaded, is cleared (R118 step 5, R448). -/
def State.streamCheck (s : State) : State :=
  let ready := s.flash.resident.all (fun r => match s.image r.tag with
    | some x => x.cleared
    | none => false)
  if s.service = .streaming ∧ ready ∧ s.images.all (fun p => p.2.cleared) then (s.bootStep 13).setService s.steady else s

/-- SURVEY ends once the priority cruise is complete (R118, R469). -/
def State.surveyCheck (s : State) : State :=
  if s.service = .survey ∧ s.surveyLeft = [] then ((s.bootStep 10).setService .streaming).streamCheck else s

end Sys2Proof.Machine
end

