-- ==== Sys2Proof/Machine/DetOps.lean ====
section
/-! DEFINITION. The lockstep grid, slips, and the journal's plan records: what several families do with the mode word
(R229 to R236, R246). -/

namespace Sys2Proof.Machine

/-- The stand with a plain number. -/
def standOf (n : Nat) : Fin 42 := Fin.ofNat 42 n

/-- A stand's side of the haul road. -/
def State.road' (s : State) (n : Fin 42) : StandRoad := tblGet s.roads n {}

/-- The state with a stand's side of the haul road replaced. -/
def State.setRoad (s : State) (n : Fin 42) (x : StandRoad) : State := { s with roads := tblSet s.roads n x }

/-- The largest lockstep_period of the loaded images, in units of 128 ns (R231), and of what a twin barrier has agreed (R241). -/
def State.imagePeriod (s : State) : Nat := (s.images.map (fun p => p.2.file.hdr 26 2)).foldl max s.twin.period

/-- The mode and the grid shown in every stand's registers (R251, GV_STATUS). -/
def State.showGrid (s : State) : State :=
  let s := s.each (upTo 42) (fun s n =>
    let s := s.put hrStepOrigin_origin n (if s.lockstep then s.origin else 0)
    let s := s.put hrStepCtrl_epoch n s.epoch
    let s := s.put hrStepCtrl_exact n (b2n s.exact)
    let s := s.put hrStepCtrl_lockstep n (b2n s.lockstep)
    let s := s.put hrStepCtrl_period n s.period
    let s := s.put hrStatus_lockstepBeacon n (b2n s.lockstep)
    let s := s.put hrStepNow_step n 0
    s.put hrSlipTotal_slips n 0)
  s.each (upTo 672) (fun s g => (s.put gvStatus_exact g (b2n s.exact)).put gvStatus_lockstep g (b2n s.lockstep))

/-- A new grid, with its epoch, from the release tally of the barrier that lands a change (R231); without DET_LOCKSTEP no
grid is set. Descriptors that a step tally of the old grid had let start wait for one of the new grid. (DEDUCED: log 151.) -/
def State.newGrid (s : State) (release : Nat) : State :=
  let s := { s with
    period := if s.lockstep then s.imagePeriod else 0
    origin := if s.lockstep then release else 0
    epoch := (s.epoch + 1) % 256 }
  s.showGrid

/-- A load or an unload that changes P starts a new grid in lockstep mode (R231). -/
def State.periodCheck (s : State) : State :=
  if s.lockstep ∧ s.period ≠ s.imagePeriod then s.newGrid (s.tally + 240) else s

/-- Step number of a tally on the grid. -/
def State.stepNumber (s : State) (t : Nat) : Nat := if s.period = 0 then 0 else (t - s.origin) / (s.period * 128)

/-- The first step tally at or after a tally (R235, R236). -/
def State.stepAtOrAfter (s : State) (t : Nat) : Nat :=
  if s.period = 0 then t else
  let p := s.period * 128
  if t ≤ s.origin then s.origin else s.origin + ceilDiv (t - s.origin) p * p

/-- The due tally of an activity that starts at a step tally, with its budget in 0.1 ns (R233). -/
def State.dueTally (s : State) (start tenths : Nat) : Nat :=
  start + max 1 (ceilDiv tenths (s.period * 1280)) * (s.period * 128)

/-- A lockstep slip on a stand (R236): its event, the stand's registers, journal record 0x0042, and the slip bit of the
provenance of the sequence it affects. Kinds: 0 overrun, 1 extra re-read, 2 replay, 3 late arrival. -/
def State.slip (s : State) (n : Fin 42) (cluster kind : Nat) (seq : Option Nat) : State :=
  let t := (s.road' n).tally
  let s := s.slipEv (match kind with
    | 0 => hrSlipEvent_overrun | 1 => hrSlipEvent_extraReread | 2 => hrSlipEvent_replay | _ => hrSlipEvent_lateArrival) n.val
  let s := s.satUp hrSlipTotal_slips n.val
  let s := s.put hrSlipLast_tallyLow n.val t
  let s := s.put hrSlipLast_kind n.val kind
  let s := s.put hrSlipLast_cluster n.val cluster
  let s := s.put hrSlipLast_step n.val (s.stepNumber t)
  let s := s.journalRec n.val 0x0042 0 0xFFFF (seq.getD 0xFFFF) kind
  match seq with
  | some i => s.modSeq i (fun x => { x with provAcc := x.provAcc ||| 16 })
  | none => s

/-- A tally that lies `d` off, forward or back, not before 0. -/
def shiftTally (t : Nat) (d : Int) : Nat := (Int.ofNat t + d).toNat

end Sys2Proof.Machine
end

