-- ==== Sys2Proof/Machine/TileMap.lean ====
section
/-! DEFINITION. The map of a tile's logical tiers to its physical tiers, rotation requests, and the retirement and remapping of tiers (R57,
R76, R89, R95, R110, R112, R113, R115). -/

namespace Sys2Proof.Machine

/-! ## The tile map (R57, TL_CELL_LAYER_MAP, TL_CELL_LAYER_STATE) -/

def State.physOf (s : State) (t : TileId) (k : Nat) : Nat := s.getAt (tlCellLayerMap_phys (k % 4)) t.num (k / 4)

/-- The physical tier with a number. -/
def State.tier (s : State) (t : TileId) (p : Nat) : Tier := tblGet (s.tile t).tiers p {}

/-- The state with a physical tier replaced. -/
def State.setTier (s : State) (t : TileId) (p : Nat) (x : Tier) : State :=
  let y := s.tile t
  s.setTile t { y with tiers := tblSet y.tiers p x }

/-- The state code of a physical tier: 0 rotation, 1 in service, 2 retired, 3 writing. -/
def State.tierState (s : State) (t : TileId) (p : Nat) : Nat := s.get (tlCellLayerState_state p) t.num
def State.setTierState (s : State) (t : TileId) (p v : Nat) : State := s.put (tlCellLayerState_state p) t.num v

/-- The logical tier that a physical tier in service holds; one that a remap has moved away holds none (R113). -/
def State.logicalOf (s : State) (t : TileId) (p : Nat) : Option Nat :=
  if s.tierState t p = 1 then (upTo 16).find? (fun k => s.physOf t k == p && decide (k ∉ (s.tile t).gone)) else none

/-- Has a logical tier its place in a tile: the tile in service, and the tier not moved away by a remap (R95, R113)? -/
def State.hasPlace (s : State) (t : TileId) (k : Nat) : Bool :=
  s.get tlTileStatus_tileState t.num != 2 && decide (k ∉ (s.tile t).gone)

/-- The drift record of a physical tier. -/
def State.drift (s : State) (t : TileId) (p : Nat) : Drift := tblGet (s.tile t).drift p {}
def State.setDrift (s : State) (t : TileId) (p : Nat) (d : Drift) : State :=
  let y := s.tile t
  s.setTile t { y with drift := tblSet y.drift p d }

/-- Rotation states of TL_TILE_STATUS. -/
def rsIdle : Nat := 0
def rsWriting : Nat := 1
def rsVerifying : Nat := 2
def rsPending : Nat := 3
def rsArmed : Nat := 4
def rsNone : Nat := 5

/-- A rotation is abandoned; its tier stays the rotation tier. -/
def State.abandonRotation (s : State) (t : TileId) : State :=
  match (s.tile t).rotation with
  | none => s
  | some _ =>
    let s := s.setTierState t (s.get tlTileStatus_rotationPhys t.num) 0
    let s := (s.put tlTileStatus_rotationState t.num rsIdle).put tlGen_armedValid t.num 0
    s.setTile t { s.tile t with rotation := none }

/-! ## Rotation requests of Forester firmware (R110) -/

/-- Is a rotation of a logical tier asked for or in progress? -/
def State.rotationAsked (s : State) (t : TileId) (k : Nat) : Bool :=
  s.rotWait.any (fun r => decide (r.tile = t) && r.logical == k)
  || (match (s.tile t).rotation with
      | some r => r.logical == k
      | none => false)

/-- Can a tile start a rotation of a logical tier: none runs, it has a rotation tier, and the tier has its place (R95)? (DEDUCED: log 129.) -/
def State.canRotate (s : State) (t : TileId) (k : Nat) : Bool :=
  (s.tile t).rotation.isNone && s.get tlTileStatus_rotationState t.num != rsNone && s.hasPlace t k

/-- Rotations that run in a grove, COPY, LOAD and UPDATE alike. -/
def State.rotationsIn (s : State) (g : GroveId) : Nat :=
  (s.tiles.filter (fun p => decide (p.1.groveId = g) && p.2.rotation.isSome)).length

/-- Ask for a rotation; one already asked for stays, and a tier that has been moved away has none. -/
def State.askRotation (s : State) (r : RotRequest) : State :=
  if s.rotationAsked r.tile r.logical || decide (r.logical ∈ (s.tile r.tile).gone) then s else { s with rotWait := s.rotWait ++ [r] }

/-- The remap that brought a logical tier to a tile, in progress or done. -/
def State.remapTo (s : State) (t : TileId) (k : Nat) : Option Remap :=
  s.remaps.reverse.find? (fun r => decide (r.dst = t) && r.logical == k && !r.digital)

/-- The tile that the image gives a logical tier: the source of the remap that brought the tier here. -/
def State.ownerOf (s : State) (t : TileId) (k : Nat) : TileId := ((s.remapTo t k).map (fun r => r.owner)).getD t

/-- The golden tier image of a logical tier (R76, R113): the loaded image's section 0x02. (DEDUCED: log 155.) -/
def State.goldenTier (s : State) (t : TileId) (k : Nat) : Option TierImage :=
  let o := s.ownerOf t k
  s.images.findSome? (fun p =>
    p.2.file.tiers.find? (fun x =>
      p.2.place.getD x.stand 99 = o.stand.val ∧ x.grove = o.grove.val ∧ x.tile = o.tile.val ∧ x.logical = k))

/-- Ask for a LOAD of a logical tier from its golden image, in its present generation (R76, R89, R101). -/
def State.askGolden (s : State) (t : TileId) (k : Nat) : State :=
  match s.goldenTier t k with
  | some x => s.askRotation { tile := t, kind := .load, logical := k, gen := s.get tlGen_currentGen t.num, image := some x }
  | none => s

/-- A logical tier is cleared (R118 step 4): its priority cruise found nothing, or its coppice or load has swapped. The image is
cleared by IMAGE_CLEARED once no tier is left (R459). -/
def State.clearTier (s : State) (t : TileId) (k : Nat) : State :=
  let o := s.ownerOf t k
  { s with images := s.images.map (fun p => (p.1, { p.2 with uncleared := p.2.uncleared.filter (fun e => e ≠ (o, k)) })) }

/-! ## Retirement and remapping (R95, R112, R113, R115) -/

/-- Tiles of a grove that some loaded image, variant pool or remap uses. -/
def State.usedTiles (s : State) (g : GroveId) : List Nat :=
  s.images.flatMap (fun p =>
    (p.2.file.tiers.filter (fun x => p.2.place.getD x.stand 99 = g.stand.val ∧ x.grove = g.grove.val)).map (fun x => x.tile)
    ++ (p.2.file.layerTable.flatMap (fun l => (l.poolTiers.filter (fun q =>
        p.2.place.getD q.1 99 = g.stand.val ∧ q.2.1 = g.grove.val)).map (fun q => q.2.2.1))))
  ++ ((s.remaps.filter (fun r => decide (r.dst.groveId = g))).map (fun r => r.dst.tile.val))

/-- The tile and logical tier of a pool tier (stand, grove, tile, logical). -/
def poolTile (q : Nat × Nat × Nat × Nat) : TileId := ⟨standOf q.1, Fin.ofNat 16 q.2.1, Fin.ofNat 2048 q.2.2.1⟩

/-- Is a logical tier of a tile in the pool of a layer of some loaded image (R272)? -/
def State.poolTier (s : State) (t : TileId) (k : Nat) : Bool :=
  s.images.any (fun p => p.2.file.layerTable.any (fun l => l.poolTiers.any (fun q =>
    decide (p.2.place.getD q.1 99 = t.stand.val ∧ q.2.1 = t.grove.val ∧ q.2.2.1 = t.tile.val ∧ q.2.2.2 = k))))

/-- A spare tile in good order of a grove that is not dark: the lowest one. -/
def State.spareTile (s : State) (g : GroveId) : Option TileId :=
  let used := s.usedTiles g
  if s.get gvStatus_power g.num = 3 then none else
  ((List.finRange 2048).find? (fun k =>
    decide (k.val ∉ used) && s.get tlTileStatus_retiredCount (TileId.num ⟨g.stand, g.grove, k⟩) == 0)).map
    (fun k => ⟨g.stand, g.grove, k⟩)

/-- Where a remapped tier goes (R113): a spare tile of the same grove, then of the same stand. -/
def State.remapTarget (s : State) (t : TileId) : Option TileId :=
  (t.groveId :: (List.finRange 16).map (fun k => (⟨t.stand, k⟩ : GroveId))).findSome? s.spareTile

/-- A tile releases the physical tier of a logical tier that is served elsewhere or by nothing (R113 step 5): it becomes the rotation tier of
a tile that has none, unless it is retired itself; the tile then rotates again. -/
def State.releaseTier (s : State) (t : TileId) (k : Nat) : State :=
  if !s.hasPlace t k then s else
  let p := s.physOf t k
  let s := if s.get tlTileStatus_activeLogical t.num = k then s.put tlTileStatus_activeValid t.num 0 else s
  let s := s.setTile t { s.tile t with gone := (s.tile t).gone ++ [k] }
  let s := if s.tierState t p = 2 then s else (s.setTierState t p 0).put tlTileStatus_rotationPhys t.num p
  s.put tlTileStatus_rotationState t.num rsIdle

/-- The dispatch entry of a tier that a remap has moved, or that the digital path serves (R113 step 3, R115). -/
def State.remapEntry (s : State) (r : Remap) : BitVec 64 :=
  let g := r.owner.groveId
  let d := r.dst
  let e := (s.dispatchEntry g r.entry).toNat
  if r.digital then BitVec.ofNat 64 (putBits e 61 2 2) else
  let e := putBits (putBits e 61 2 (if d.groveId = g then 0 else 1)) 55 6 d.stand.val
  BitVec.ofNat 64 (putBits (putBits (putBits e 51 4 d.grove.val) 40 11 d.tile.val) 36 4 r.logical)

/-- Forester firmware starts a remap of a logical tier (R113), from the golden image or the image given; a destination that fails is given up
for another one. With no reserve capacity left on the stand the tier is served through the digital path (R115), and one that no image uses
is released at once. (DEDUCED: log 53.) -/
def State.startRemap (s : State) (t : TileId) (k : Nat) (image : Option TierImage) : State :=
  if s.remaps.any (fun r => decide (r.src = t) && r.logical == k) then s else
  let o := s.ownerOf t k
  let given := (s.remapTo t k).filter (fun r => !r.done)
  let src := (given.map (fun r => r.src)).getD t
  let entry := o.tile.val * 16 + k
  let golden := match image with
    | some x => some x
    | none => s.goldenTier t k
  let s := { s with
    rotWait := s.rotWait.filter (fun r => !(decide (r.tile = t) && r.logical == k))
    remaps := s.remaps.filter (fun r => some r ≠ given) }
  match golden, s.remapTarget t with
  | some x, some d =>
    State.askRotation { s with remaps := s.remaps ++ [{ owner := o, src := src, logical := k, dst := d, entry := entry }] }
      { tile := d, kind := .load, logical := k, gen := s.get tlGen_currentGen t.num, image := some x }
  | some x, none =>
    let r : Remap := { owner := o, src := t, logical := k, dst := t, entry := entry, done := true, digital := true }
    let s := { s with
      remaps := s.remaps ++ [r]
      images := s.images.map (fun (p : Nat × Image) =>
        if p.2.file.tiers.any (fun y => decide (y = x)) ∧ t ∉ p.2.digital then (p.1, { p.2 with digital := p.2.digital ++ [t] })
        else p) }
    ((((s.setDispatch o.groveId entry (s.remapEntry r)).clearTier o k).releaseTier t k).releaseTier src k).follow
  | none, _ => if s.poolTier t k then s else s.releaseTier t k

/-- The logical tier with the fewest MVMs that a remap can move, the lowest one among equals (R113). -/
def State.idlest (s : State) (t : TileId) : Nat :=
  let n (k : Nat) : Nat := tblGet (s.tile t).mvms k 0
  let ks := (upTo 16).filter (fun k => s.hasPlace t k && !s.poolTier t k)
  ks.foldl (fun b k => if n k < n b then k else b) (ks.headD 0)

/-- A physical tier is retired (R112): a rotation of the tile ends, and one that brings new contents is asked for again. One retired tier leaves the tile without a rotation tier and a logical tier
to remap, two retire the tile. A tier retired while it holds a logical tier has that one remapped. -/
def State.retireTier (s : State) (t : TileId) (p : Nat) : State :=
  if s.tierState t p = 2 then s else
  let held := s.logicalOf t p
  let again := ((s.tile t).rotation.filter (fun r => r.kind != .copy)).map (fun r =>
    ({ tile := t, kind := r.kind, logical := r.logical, gen := r.gen, src := r.src, image := r.image } : RotRequest))
  let s := (again.map (fun r => (s.abandonRotation t).askRotation r)).getD (s.abandonRotation t)
  let s := s.setTierState t p 2
  let n := min 2 (s.get tlTileStatus_retiredCount t.num + 1)
  let s := (s.put tlTileStatus_retiredCount t.num n).put tlTileStatus_rotationState t.num rsNone
  if n = 1 then s.startRemap t (held.getD (s.idlest t)) none
  else
    let waiting (k : Nat) : Option TierImage := (s.rotWait.find? (fun r => decide (r.tile = t) && r.logical == k)).bind (fun r => r.image)
    (s.put tlTileStatus_tileState t.num 2).each ((upTo 16).filter (fun k => k ∉ (s.tile t).gone)) (fun s k => s.startRemap t k (waiting k))

/-- Before new contents are loaded, a tile without a rotation tier gives one up (R95, R113): that of a logical tier whose physical tier is
retired, else the one with the fewest MVMs. -/
def State.makeRoom (s : State) (t : TileId) : State :=
  if s.get tlTileStatus_rotationState t.num ≠ rsNone ∨ s.remaps.any (fun r => decide (r.src = t) && !r.done) then s else
  s.releaseTier t (((upTo 16).find? (fun k => s.hasPlace t k && s.tierState t (s.physOf t k) == 2)).getD (s.idlest t))

/-- The loads of new contents wait in Forester firmware (R110); one for a logical tier that its tile has no place for goes to reserve
capacity (R113). -/
def State.queueLoads (s : State) (rs : List RotRequest) : State :=
  (s.each rs (fun s r => s.makeRoom r.tile)).each rs (fun s r =>
    if s.hasPlace r.tile r.logical then { s with rotWait := s.rotWait ++ [r] } else s.startRemap r.tile r.logical r.image)

/-- The remaps of a stand end: no image uses it any more. -/
def State.dropRemaps (s : State) (n : Nat) : State := { s with remaps := s.remaps.filter (fun r => r.owner.stand.val ≠ n) }

end Sys2Proof.Machine
end

