-- ==== Sys2Proof/Machine/PlanOps.lean ====
section
/-! DEFINITION. Relocation, patch records, power-token checks and the switch of an image to another plan
(R207, R209, R217, R218, R223 to R225). -/

namespace Sys2Proof

/-- The stand ends of a link. -/
def PortId.ends (p : PortId) : List (Nat × Nat) :=
  ([some p, p.peer].filterMap id).filterMap (fun q => match q with
    | .stand n k => some (n.val, k.val)
    | .landing _ _ => none)

end Sys2Proof

namespace Sys2Proof.Machine

/-! ## Patches -/

/-- The physical stand of a logical stand of an image, under the plan in force. -/
def Image.physical (x : Image) (logical : Nat) : Nat := x.place.getD logical 0

/-- The live word at a byte offset of a section (R217): sections are laid out by logical stand, grove and entry (log 30). -/
def Image.patchPlace (x : Image) (kind offset : Nat) : Option PatchPlace :=
  let g (n : Nat) : GroveId := groveOf (x.physical (n / 16)) n
  match kind with
  | 0x03 => some (.dispatch (g (offset / 262144)) (offset / 8 % 32768))
  | 0x05 => some (.istore ((g (offset / 65536)).num * 65536 + offset % 65536))
  | 0x06 => some (.deck (deckAddr (g (offset / deckBytes)) offset))
  | 0x07 => some (.counter (g (offset / 128)) (offset % 128 / 8 * 4))
  | 0x08 => some (.relay (standOf (x.physical (offset / 1024))) (offset / 8 % 128))
  | _ => none

/-- The word at a place. -/
def State.patchRead (s : State) : PatchPlace → Nat
  | .dispatch g e => (s.dispatchEntry g e).toNat
  | .istore a => fromLE (s.istore.readN a 8)
  | .deck a => fromLE (s.decks.readN a 8)
  | .counter g k => ((upTo 4).map (fun j => s.getAt gvCounter_value g.num (k + j) * 2 ^ (16 * j))).sum
  | .relay st n => (s.reg ⟨.skRelay, st.val, n, 0⟩).toNat

/-- The state with the word at a place written. -/
def State.patchWrite (s : State) (p : PatchPlace) (v : Nat) : State :=
  match p with
  | .dispatch g e =>
    s.setDispatch g e (BitVec.ofNat 64 v)
  | .istore a => { s with istore := s.istore.writeN a (bytesLE 8 v) }
  | .deck a => { s with decks := s.decks.writeN a (bytesLE 8 v) }
  | .counter g k => s.each (upTo 4) (fun s j => s.putAt gvCounter_value g.num (k + j) (bits v (16 * j) 16))
  | .relay st n => s.setReg ⟨.skRelay, st.val, n, 0⟩ (BitVec.ofNat 128 v)

/-- The value that a record writes into its field, before the width check (R217). -/
def Image.relocValue (x : Image) (tag : Nat) (r : RelocRec) (old : Nat) : Nat :=
  match r.kind with
  | 1 => x.physical r.operand
  | 2 => tag
  | 3 => old + x.regions.getD r.operand 0 / 2 ^ r.unit
  | 4 => 48 + x.regions.getD r.operand 0 / (3 * 2 ^ 36)
  | 5 => x.gen
  | 6 => Config.sequenceTableBase
  | _ => r.operand

/-- Does every value of the records fit its field (R218)? Fields are read from the live words. -/
def State.relocsFit (s : State) (x : Image) (tag : Nat) (rs : List RelocRec) : Bool :=
  rs.all (fun r =>
    let old := match x.patchPlace r.section_ r.offset with
      | some p => bits (s.patchRead p) r.bit r.width
      | none => 0
    decide (x.relocValue tag r old < 2 ^ r.width))

/-- Apply records to the live words; answers the words as they were, newest first. -/
def State.applyRelocs (s : State) (x : Image) (tag : Nat) (rs : List RelocRec) : State × List (PatchPlace × Nat) :=
  rs.foldl (fun (s, undo) r =>
    match x.patchPlace r.section_ r.offset with
    | none => (s, undo)
    | some p =>
      let w := s.patchRead p
      (s.patchWrite p (putBits w r.bit r.width (x.relocValue tag r (bits w r.bit r.width))), (p, w) :: undo))
    (s, [])

/-! ## Power tokens (R207, R209) -/

/-- The stands of a power band, one band for each row (R207). -/
def bandStands (b : Nat) : List Nat := (upTo 42).filter (fun n => standRow n = b)

/-- The largest phase of each logical stand, with its physical stand. -/
def tokenPeaks (place : List Nat) (phases : List (List Nat)) : List (Nat × Nat) :=
  place.zipIdx.map (fun p => (p.1, (phases.map (fun ph => ph.getD p.2 0)).foldl max 0))

/-- The power-token plan that an image runs on. -/
def Image.tokensInForce (x : Image) : List (List Nat) :=
  if x.plan = 0 then x.file.tokens
  else ((x.file.plans.find? (fun p => p.placement = x.placement ∧ p.number = x.plan)).map (fun p => p.tokens)).getD x.file.tokens

/-- Tokens that the loaded images, one tag apart, reserve on a stand. -/
def State.tokensOn (s : State) (except_ stand : Nat) : Nat :=
  ((s.images.filter (fun p => p.1 ≠ except_)).map (fun p =>
    ((tokenPeaks p.2.place p.2.tokensInForce).filter (fun q => q.1 = stand)).map (fun q => q.2))).flatten.sum

/-- Does a token plan hold every limit: each phase the 400 tokens of a stand, and the sums over all images those of each
band and of the module (R207, R209)? -/
def State.tokensOk (s : State) (tag : Nat) (place : List Nat) (phases : List (List Nat)) : Bool :=
  let peaks := tokenPeaks place phases
  let own (n : Nat) : Nat := ((peaks.filter (fun q => q.1 = n)).map (fun q => q.2)).sum
  let all (n : Nat) : Nat := own n + s.tokensOn tag n
  phases.all (fun ph => ph.all (fun t => decide (t ≤ 400)))
  && (upTo 7).all (fun b => decide (((bandStands b).map all).sum ≤ 350 * (bandStands b).length))
  && decide (((upTo 42).map all).sum ≤ s.get pwModuleLimit_inForce 0)

/-! ## Plans -/

/-- The pairs that an image transmits on under its plan in force. -/
def Image.pairsInForce (x : Image) : List (Nat × Nat) :=
  if x.plan = 0 then x.file.routePorts
  else ((x.file.plans.find? (fun p => p.placement = x.placement ∧ p.number = x.plan)).map (fun p => p.ports)).getD []


/-- The name of a link's fault: the end with the lower stand index (R28), or the stand end of a landing link. -/
def linkFault (p : PortId) : PlanFault :=
  match p.ends with
  | [a, b] => if a.1 ≤ b.1 then .link a.1 a.2 else .link b.1 b.2
  | [a] => .link a.1 a.2
  | _ => .link 0 0

/-- Does an image use a link under its plan in force (R40)? -/
def Image.usesLink (x : Image) (p : PortId) : Bool := p.ends.any (fun e => decide (e ∈ x.pairsInForce))

/-- Is a stand in an image's set? -/
def Image.hasStand (x : Image) (n : Nat) : Bool := decide (n ∈ x.place)

/-- Does an image's route plan cross a stand outside its set (R223)? -/
def Image.crosses (x : Image) (n : Nat) : Bool := !x.hasStand n && x.pairsInForce.any (fun q => q.1 == n)

/-- Are two lists of faults the same set? -/
def sameFaults (a b : List PlanFault) : Bool := a.all (fun x => decide (x ∈ b)) && b.all (fun x => decide (x ∈ a))

/-- Is a stand in service: neither dark nor off, as its power state shows (PW_STAND_STATUS.stand_power)? -/
def State.standOn (s : State) (n : Nat) : Bool := s.get pwStandStatus_standPower n == 2

/-- The plan for a set of faults that is enabled, whose reserve is in the reserve role, and whose tokens fit (R223, R225).
(DEDUCED: log 29.) -/
def State.planFor (s : State) (tag : Nat) (x : Image) (fs : List PlanFault) : Option PlanRec :=
  x.file.plans.find? (fun p =>
    decide (p.placement = x.placement) && sameFaults p.faults fs && !decide (p.number ∈ x.disabled)
    && (match p.reserve with
        | some r => decide (r ∈ s.reserve)
        | none => true)
    && s.tokensOk tag x.place p.tokens)

/-- Steps of an image that have not committed restart from their last committed step, once it resumes (R224 step 5): what is
queued and armed on its groves for them is gone, and the queues fill again. -/
def State.restartSteps (s : State) (tag : Nat) : State :=
  let place := ((s.image tag).map (fun x => x.place)).getD []
  let s := s.each (s.seqsOf tag) (fun s i => s.modSeq i (fun x => { x with inFlight := none }))
  { s with groves := s.groves.map (fun p =>
      if p.1.stand.val ∈ place then
        (p.1, { p.2 with queues := [], receives := [], reports := [], events := [], pendingE := [], due := [] })
      else p) }

/-- The number of the stand that a fault set loses, if it loses one of the image's own. -/
def lostStand (x : Image) (fs : List PlanFault) : Option Nat :=
  fs.findSome? (fun f => match f with
    | .stand n => if x.hasStand n then some n else none
    | .link _ _ => none)

/-- Give groves of a stand that replaces another the instruction stores, counters, deck contents and dispatch tables of the
image's sections (R224 step 3); entries of tiers that a remap has moved on that stand name their new place (R113). -/
def State.loadGroves (s : State) (x : Image) (logical phys : Nat) : State :=
  let mine (n : Nat) : Bool := n / 16 == logical
  let at_ (n : Nat) : GroveId := groveOf phys n
  let s := { s with
    istore := (x.file.istore.filter (fun (e : Nat × Nat × Byte) => mine e.1)).foldl
      (fun (m : Memory) (e : Nat × Nat × Byte) => m.write ((at_ e.1).num * 65536 + e.2.1 % 65536) e.2.2) s.istore
    decks := (x.file.deck.filter (fun (e : Nat × Nat × BitVec 512) => mine e.1)).foldl
      (fun (m : Memory) (e : Nat × Nat × BitVec 512) => m.writeN (deckAddr (at_ e.1) (64 * e.2.1)) (bytesLE 64 e.2.2.toNat)) s.decks }
  let s := s.each (x.file.counters.filter (fun (e : Nat × Nat × Nat) => mine e.1)) (fun s e =>
    s.putAt gvCounter_value (at_ e.1).num e.2.1 e.2.2)
  let s := s.each (x.file.dispatch.filter (fun (e : Nat × Nat × BitVec 64) => mine e.1)) (fun s e =>
    s.setDispatch (at_ e.1) e.2.1 e.2.2)
  s.each (s.remaps.filter (fun r => r.done && r.owner.stand.val == phys)) (fun s r => s.setDispatch r.owner.groveId r.entry (s.remapEntry r))

/-- The rotations that program every tier of a logical stand on its physical stand (R224 step 4). -/
def Image.loadsOf (x : Image) (logical : Nat) : List RotRequest :=
  (x.file.tiers.filter (fun t => t.stand = logical)).map (fun t =>
    { tile := ⟨standOf (x.physical logical), Fin.ofNat 16 t.grove, Fin.ofNat 2048 t.tile⟩
      kind := .load, logical := t.logical, gen := x.gen, image := some t })

/-- Faults that no plan covers (R223): mirrored sequences of a paired module move to the partner; the others pause until the
image is loaded again. -/
def State.uncoveredSwitch (s : State) (tag : Nat) (fs : List PlanFault) : State :=
  let s := s.modImage tag (fun x => { x with held := true, uncovered := true, faults := fs })
  let s := s.each (s.seqsOf tag) (fun s i => if s.safe i then s.moveOut i else s)
  s.follow

/-- An image takes a plan (R224): its relay images and patch records are written, journal record 0x0032 names it, and a
detour resumes at once, while a replacement holds the image until the reserve stand is programmed. -/
def State.takePlan (s : State) (tag : Nat) (x : Image) (p : PlanRec) (fs : List PlanFault) : State :=
  let lost := lostStand x fs
  let place := match lost, p.reserve with
    | some n, some r => x.place.map (fun k => if k = n then r else k)
    | _, _ => x.place
  let y := { x with plan := p.number, faults := fs, place := place, held := p.reserve.isSome, ratios := [] }
  let keep := p.relay.map (fun e => (PatchPlace.relay (standOf e.1) e.2.1, s.patchRead (.relay (standOf e.1) e.2.1)))
  let s := s.each p.relay (fun s e => s.patchWrite (.relay (standOf e.1) e.2.1) e.2.2.toNat)
  let s := match lost, p.reserve with
    | some n, some r =>
      let logical := x.place.idxOf n
      let s := { s with
        reserve := s.reserve.filter (fun k => k ≠ r)
        wakeWant := if r ∈ s.wakeWant then s.wakeWant else s.wakeWant ++ [r] }
      (s.loadGroves y logical r)
    | _, _ => s
  let a := s.applyRelocs y tag p.patches
  let s := a.1.setImage tag { y with undo := a.2 ++ keep.reverse ++ x.undo }
  let s := match lost, p.reserve with
    | some n, some _ => (s.dropRemaps n).queueLoads (y.loadsOf (x.place.idxOf n))
    | _, _ => s
  let s := s.journalRec s.foresterSource 0x0032 tag 0xFFFF 0xFFFF p.number
  let s := if p.reserve.isSome then s else
    let s := s.restartSteps tag
    if s.lockstep then s.newGrid (s.tally + 240) else s
  s.follow

/-- A fault that an image's plan in force does not survive (R40, R223): the plan for all its faults, or the uncovered rule. -/
def State.imageFault (s : State) (tag : Nat) (f : PlanFault) : State :=
  match s.image tag with
  | none => s
  | some x =>
    let fs := x.faults ++ [f]
    if x.uncovered ∨ f ∈ x.faults then s else
    match s.planFor tag x fs with
    | some p => s.takePlan tag x p fs
    | none => s.uncoveredSwitch tag fs

/-- An image returns to its primary plan at a barrier (R224, R476): the words that its detour changed are restored. -/
def State.returnPrimary (s : State) (tag : Nat) : State :=
  match s.image tag with
  | none => s
  | some x =>
    let s := s.each x.undo (fun s u => s.patchWrite u.1 u.2)
    let s := s.setImage tag { x with plan := 0, faults := [], undo := [], held := false, uncovered := false, ratios := [] }
    let s := s.journalRec s.foresterSource 0x0032 tag 0xFFFF 0xFFFF 0
    let s := s.restartSteps tag
    let s := if s.lockstep then s.newGrid (s.tally + 240) else s
    s.follow

/-- A link goes down at both ends (R40): the flits in flight are lost with it, and every image that uses it takes its detour. -/
def State.linkDown (s : State) (p : PortId) : State :=
  let users := s.imageTags.filter (fun t => ((s.image t).map (fun x => x.usesLink p)).getD false)
  let s := s.each ([some p, p.peer].filterMap id) (fun s q =>
    if !s.linkUp q then s else
    let s := s.put skStatus_linkUp q.num 0
    let s := s.put skStatus_sparingActive q.num 0
    let s := s.setPort q { s.port q with
      diagnosis := false, spareRx := none, spareTx := none, downInTest := decide (s.service = .test) }
    s.skEv skEvent_linkDown q.num)
  s.each users (fun s t => s.imageFault t (linkFault p))

end Sys2Proof.Machine
end

