-- ==== Sys2Proof/Machine/GroveOps.lean ====
section
/-! DEFINITION. What the stages of a grove share: descriptor fields, counters, queues, start and completion, drops, failures
of a step, translations, and deck lines (R163 to R169, R196, R210, R233). -/

namespace Sys2Proof.Machine

/-! ## Deck lines -/

/-- The 64 bytes of a deck line. -/
def State.line (s : State) (g : GroveId) (n : Nat) : List Byte := s.deckRead g (64 * n) 64

/-- `n` bytes from a deck line on. -/
def State.lineBytes (s : State) (g : GroveId) (line n : Nat) : List Byte := s.deckRead g (64 * line) n

/-- The state with bytes written from a deck line on. -/
def State.setLineBytes (s : State) (g : GroveId) (line : Nat) (bs : List Byte) : State := s.deckWrite g (64 * line) bs

/-! ## Counters (R165) -/

def State.counter (s : State) (g : GroveId) (k : Nat) : Nat := s.getAt gvCounter_value g.num k

def State.addCounter (s : State) (g : GroveId) (k n : Nat) : State :=
  s.putAt gvCounter_value g.num k (s.counter g k + n)

/-- Has a counter reached a value: is (counter − v) mod 2^16 below 2^15? -/
def ctrReached (c v : Nat) : Bool := decide ((c + 65536 - v % 65536) % 65536 < 32768)

/-- Is the wait condition of a descriptor met? -/
def State.waitMet (s : State) (g : GroveId) (d : Descriptor) : Bool :=
  !descWaitEn d || ctrReached (s.counter g (descWaitCtr d)) (descWaitValue d)

/-! ## Power of a grove, the stand meter -/

/-- Is a grove on (GV_STATUS.power)? -/
def State.groveOn (s : State) (g : GroveId) : Bool := s.get gvStatus_power g.num == 2

/-- Is an image on a stand held (R224 step 2, R230)? -/
def State.heldOn (s : State) (n : Nat) : Bool := s.images.any (fun p => p.2.held && p.2.hasStand n)

/-- Power costs of R208, in mW. -/
def costTile : Nat := 65
def costReverse : Nat := 50
def costCruise : Nat := 61
def costWrite : Nat := 45
def costFeller : Nat := 250
def costEngine : Nat := 120
def costStage : Nat := 300
def costAccum : Nat := 400

/-- Does the stand meter let an activity start (R210)? -/
def State.meterAllows (s : State) (n cost : Nat) : Bool :=
  decide (s.get pwMeter_meter n + cost ≤ 1000 * s.get pwStandLimit_effective n)

/-- Does the stand meter let an upkeep activity start: at or below 90 % of the stand limit afterwards (R210)? -/
def State.meterAllowsUpkeep (s : State) (n cost : Nat) : Bool :=
  decide (s.get pwMeter_meter n + cost ≤ 900 * s.get pwStandLimit_effective n)

/-- An activity waits at its start boundary: stand thinning (R210, PW_EVENT.meter_thin). -/
def State.meterWait (s : State) (n : Nat) : State :=
  let s := { s with thinWaits := s.thinWaits ++ [s.tally] }
  if s.on pwStandStatus_meterThin n then s else (s.put pwStandStatus_meterThin n 1).pwEv pwEvent_meterThin n

/-- Reserve and release cost on a stand's meter. -/
def State.meterAdd (s : State) (n cost : Nat) : State := s.put pwMeter_meter n (s.get pwMeter_meter n + cost)
def State.meterSub (s : State) (n cost : Nat) : State := s.put pwMeter_meter n (s.get pwMeter_meter n - cost)

/-! ## Completion -/

/-- A completion of an activity: at once outside lockstep mode, at its due tally in it (R233). `start` is the step tally at
which the activity started and `budget` its budget in 0.1 ns (R234). -/
def State.completeAt (s : State) (g : GroveId) (ctr seq : Option Nat) (start : Option Nat) (budget : Nat) : State :=
  match s.lockstep, start with
  | true, some t =>
    let x := s.grove g
    s.setGrove g { x with due := x.due ++ [{ ctr := ctr, due := s.dueTally t budget, seq := seq }] }
  | _, _ =>
    match ctr with
    | some k => s.addCounter g k 1
    | none => s

/-- The done action of a descriptor. -/
def descDone (d : Descriptor) : Option Nat := if descDoneEn d then some (descDoneCtr d) else none

/-- A descriptor completes. -/
def State.complete (s : State) (g : GroveId) (q : QItem) (budget : Nat) : State :=
  s.completeAt g (descDone q.desc) (descOwner q.desc) q.goAt budget

/-- A dropped descriptor of a felled sequence: its done counter advances and cancel_drop sets (R168). -/
def State.cancelDrop (s : State) (g : GroveId) (q : QItem) (budget : Nat) : State :=
  (s.complete g q budget).gvEv gvEvent_cancelDrop g.num

/-- Is a descriptor's sequence felled in a grove (R168, R169)? -/
def State.isFelled (s : State) (g : GroveId) (d : Descriptor) : Bool :=
  match descOwner d with
  | some i => decide (i ∈ (s.grove g).felled)
  | none => false

/-! ## Failures of a step -/

/-- The sequences that a descriptor's failure affects: its own, or those of its image with a step in flight (log 32). -/
def State.affected (s : State) (d : Descriptor) : List Nat :=
  match descOwner d with
  | some i => [i]
  | none => (s.seqsOf (descTag d)).filter (fun i => (s.seq i).inFlight.isSome)

/-- A descriptor error (R163): the descriptor is dropped, its done counter advances, and its sequence ends with STEP_FAILED. -/
def State.descError (s : State) (g : GroveId) (q : QItem) : State :=
  let s := (s.complete g q 0).gvEv gvEvent_descriptorError g.num
  s.endSeqs (s.affected q.desc) 0x0405 (descLayer q.desc) false

/-- A numeric fault (R129): the sequence's step ends with NUMERIC_FAULT. -/
def State.numericFault (s : State) (g : GroveId) (d : Descriptor) : State :=
  (s.gvEv gvEvent_numericFault g.num).endSeqs (s.affected d) 0x0402 (descLayer d) false

/-- An invalid page met by a walk (R196): the sequence's landing hears of it, and the step ends with PAGE_INVALID. -/
def State.pageInvalid (s : State) (g : GroveId) (d : Descriptor) : State :=
  let is := s.affected d
  let s := is.foldl (fun (s : State) i => s.sqEv sqEvent_pageInvalidReport (seqLanding i)) (s.gvEv gvEvent_pageInvalid g.num)
  s.endSeqs is 0x0403 (descLayer d) false

/-! ## Scale events of a grove (R154, R155, R159, R201) -/

/-- The scale event of a descriptor's layer step that a grove keeps; one that serves several sequences has none (R169). -/
def State.eventOf (s : State) (g : GroveId) (d : Descriptor) : Option ScaleEvent :=
  if descSeqValid d then (s.grove g).events.find? (fun e => decide (e.key = descKey d)) else none

/-- Does an announced scale event that is not released hold a descriptor of the scaler or tile dispatch? -/
def State.stopped (s : State) (g : GroveId) (d : Descriptor) : Bool :=
  decide (descStage d ≤ stDispatch) && (match s.eventOf g d with
    | some e => e.released.isNone
    | none => false)

/-- Is a descriptor part of a replay? -/
def State.replaying (s : State) (g : GroveId) (d : Descriptor) : Bool :=
  match s.eventOf g d with
  | some e => e.released.isSome
  | none => false

/-- The floor of a descriptor, raised in a replay to F' (R154). -/
def State.raisedFloor (s : State) (g : GroveId) (d : Descriptor) (f : Int) : Int :=
  match s.eventOf g d with
  | some e => match e.released with
    | some r => max f r
    | none => f
  | none => f

/-- Does a descriptor belong to the replay of an output-side event, which reads checked (R155)? -/
def State.outputReplay (s : State) (g : GroveId) (d : Descriptor) : Bool :=
  match s.eventOf g d with
  | some e => e.kind == .output && e.released.isSome
  | none => false

/-! ## Queues -/

/-- A stage queue of a grove. -/
def Grove.queue (x : Grove) (stage : Nat) : List QItem := tblGet x.queues stage []

/-- The state with a stage queue replaced. -/
def State.setQueue (s : State) (g : GroveId) (stage : Nat) (q : List QItem) : State :=
  let x := s.grove g
  s.setGrove g { x with queues := tblSet x.queues stage q }

/-- Add a descriptor to a stage queue, with the next task slot for a task (GV_CORE_STATUS.task). -/
def State.enqueue (s : State) (g : GroveId) (stage : Nat) (d : Descriptor) : State :=
  let x := s.grove g
  let slot := x.nextSlot
  let s := s.setGrove g { x with nextSlot := (slot + 1) % 32 }
  s.setQueue g stage (x.queue stage ++ [{ desc := d, slot := slot }])

/-- May an item start: its wait condition was met, in lockstep mode at a step tally (R167, R233)? -/
def State.mayStart (s : State) (g : GroveId) (q : QItem) : Bool :=
  if s.lockstep then q.goAt.isSome else s.waitMet g q.desc

/-- What the head of a stage queue does at its start boundary: nothing yet, a drop of a felled sequence's descriptor, a wait
of stand thinning, or a start with the queue already advanced. -/
inductive Start where
  | none
  | dropped (s : State)
  | thinned (s : State)
  | go (q : QItem) (s : State)

/-- The start boundary of a stage (R166 to R168, R210, R224): the head of the queue leaves it when its grove is on, its image
is not held, electrical thinning is off (R417), its wait condition is met and the stand meter holds its cost. -/
def State.startStage (s : State) (g : GroveId) (stage op cost : Nat) : Start :=
  if !s.groveOn g || s.heldOn g.stand.val || s.on pwStandStatus_elecThin g.stand.val then .none else
  match (s.grove g).queue stage with
  | [] => .none
  | q :: rest =>
    if !s.mayStart g q || s.stopped g q.desc then .none
    else if s.isFelled g q.desc then .dropped ((s.setQueue g stage rest).cancelDrop g q 0)
    else if !descOk q.desc then .dropped ((s.setQueue g stage rest).descError g q)
    else if descOp q.desc ≠ op then .none
    else if !s.meterAllows g.stand.val cost then .thinned (s.meterWait g.stand.val)
    else .go q (s.setQueue g stage rest)

/-- Run a stage from its start boundary; `run` is what a started descriptor does. -/
def State.runStage (s : State) (g : GroveId) (stage op cost : Nat) (run : QItem → State → State) : State :=
  match s.startStage g stage op cost with
  | .none => s
  | .dropped s => s
  | .thinned s => s
  | .go q s => run q s

/-- Run a stage from its start boundary, where what a started descriptor does can stop. -/
def State.runStageO (s : State) (g : GroveId) (stage op cost : Nat)
    (run : QItem → State → Host.Outcome State Fault Refusal) : Host.Outcome State Fault Refusal :=
  match s.startStage g stage op cost with
  | .none => .next s
  | .dropped s => .next s
  | .thinned s => .next s
  | .go q s => run q s

/-! ## Translations (R196, R197) -/

/-- Entries of a grove's translation cache. -/
def xlateDepth : Nat := 64

/-- Look up the page-list entry of a sequence's region page in a grove's cache, least recently used entry last; a miss reads
it from HBM and caches it when the page is valid. -/
def State.xlate (s : State) (g : GroveId) (i page : Nat) : Nat × State :=
  let x := s.grove g
  match x.xlate.find? (fun e => e.1 = i ∧ e.2.1 = page) with
  | some e =>
    let s := s.setGrove g { x with xlate := e :: x.xlate.filter (fun f => ¬ (f.1 = i ∧ f.2.1 = page)) }
    (e.2.2.toNat, s.put gvXlateStats_hits g.num (satInc 32 (s.get gvXlateStats_hits g.num)))
  | none =>
    let v := s.pageEntry i page
    let s := s.put gvXlateStats_misses g.num (satInc 32 (s.get gvXlateStats_misses g.num))
    if bits v 30 2 = 0 then (v, s)
    else (v, s.setGrove g { x with xlate := ((i, page, BitVec.ofNat 32 v) :: x.xlate).take xlateDepth })

/-! ## Provenance and numeric counts -/

/-- Set bits of the provenance of a sequence's step (R238). -/
def State.provBits (s : State) (i : Option Nat) (b : Nat) : State :=
  match i with
  | some i => s.modSeq i (fun x => { x with provAcc := x.provAcc ||| BitVec.ofNat 8 b })
  | none => s

/-- Add to a numeric event count of a grove (R161, GV_NUM_COUNT). -/
def State.numCount (s : State) (g : GroveId) (k n : Nat) : State :=
  s.putAt gvNumCount_count g.num k (min (2 ^ 32 - 1) (s.getAt gvNumCount_count g.num k + n))

end Sys2Proof.Machine
end

