-- ==== Sys2Proof/Machine/FellOps.lean ====
section
/-! DEFINITION. The felling words and the acknowledgements of stands and landings (R309 to R315). -/

namespace Sys2Proof.Machine

/-! ## Felling words (R310) -/

/-- The felling and the entries that a word's content names; none for a form that is not 1 or 2. -/
def parseFell (content : BitVec 448) : Option (FellId × List Nat) :=
  let bs := bytesLE 56 content.toNat
  let at_ (n len : Nat) : Nat := fromLE ((bs.drop n).take len)
  let id : FellId := ⟨landingOf (at_ 2 1 - 48), at_ 4 4⟩
  match at_ 0 1 with
  | 1 => some (id, (upTo (min 24 (at_ 1 1))).map (fun k => at_ (8 + 2 * k) 2))
  | 2 => some (id, ((upTo 256).filter (fun n => bit (at_ 16 32) n)).map (fun n => at_ 8 2 + n))
  | _ => none

/-- The felled-map bits of every grove of a stand, with its translations of the sequences dropped (R313 step 1, R197). -/
def State.setFelled (s : State) (n : Fin 42) (idx : List Nat) : State :=
  s.each (List.finRange 16) (fun s k =>
    let g : GroveId := ⟨n, k⟩
    let x := s.grove g
    s.setGrove g { x with
      felled := x.felled ++ idx.filter (fun i => i ∉ x.felled)
      xlate := x.xlate.filter (fun e => e.1 ∉ idx) })

/-- Forester firmware clears the felled-map bit of an entry in every grove when its handle is reused (R168, R314). -/
def State.clearFelled (s : State) (i : Nat) : State :=
  { s with groves := s.groves.map (fun p => (p.1, { p.2 with felled := p.2.felled.filter (fun j => j ≠ i) })) }

/-- Does a stand have a descriptor of one of the sequences queued or running (R313 step 3)? -/
def State.standBusyWith (s : State) (n : Fin 42) (idx : List Nat) : Bool :=
  let own (d : Descriptor) : Bool := match descOwner d with
    | some i => decide (i ∈ idx)
    | none => false
  (List.finRange 16).any (fun k =>
    let g : GroveId := ⟨n, k⟩
    let x := s.grove g
    x.queues.any (fun q => q.2.any (fun it => own it.desc)) || x.receives.any (fun r => own r.item.desc)
    || x.due.any (fun a => match a.seq with
        | some i => decide (i ∈ idx)
        | none => false)
    || s.fellers.any (fun p => match p.2.task with
        | some q => (p.2.home == g) && own q.desc
        | none => false))

/-! ## The acknowledgement table (R313) -/

/-- Stand ports whose link is up, with the die they reach. -/
def State.liveNeighbors (s : State) (n : Nat) : List (Nat × Nat) :=
  (upTo 8).filterMap (fun p =>
    if s.linkUp (standPort n p) then
      match portInfo n p with
      | (3, _, _) => none
      | (_, t, _) => some (p, t)
    else none)

/-- Distances to a landing over live links, one relaxation: a die's entry is one more than its nearest neighbor's. -/
def State.relax (s : State) (landing : Nat) (d : List (Option Nat)) : List (Option Nat) :=
  (upTo 42).map (fun n =>
    (s.liveNeighbors n).foldl (fun b q =>
      let v := if q.2 = 48 + landing then some 0 else if q.2 < 42 then d.getD q.2 none else none
      match v, b with
      | some x, some y => some (min (x + 1) y)
      | some x, none => some (x + 1)
      | none, b => b) (none : Option Nat))

/-- Distances of every stand to a landing; `fuel` bounds the relaxations. -/
def State.ackDistances (s : State) (landing : Nat) : Nat → List (Option Nat)
  | 0 => List.replicate 42 none
  | k + 1 => s.relax landing (State.ackDistances s landing k)

/-- The port of a stand's acknowledgement table for a landing: on a shortest path of live links, the lowest such port (the
choice among equal paths is the firmware's, log 33). -/
def State.ackPort (s : State) (n landing : Nat) : Option Nat :=
  let d := s.ackDistances landing 42
  let dist (q : Nat × Nat) : Option Nat :=
    if q.2 = 48 + landing then some 0 else if q.2 < 42 then d.getD q.2 none else none
  let best := (s.liveNeighbors n).foldl (fun b q =>
    match dist q, b with
    | some x, some (y, _) => if x < y then some (x, q.1) else b
    | some x, none => some (x, q.1)
    | none, b => b) (none : Option (Nat × Nat))
  best.map (fun b => b.2)

/-- A stand sends or forwards an acknowledgement toward its landing. -/
def State.sendAck (s : State) (n : Fin 42) (id : FellId) (from_ : Nat) (held : Option PortId) : State :=
  match s.ackPort n.val id.origin.val with
  | none => s
  | some p =>
    let f := mkFlit 7 1 true false (48 + id.origin.val) 0 from_ 0 0 0 0 0 s.tally []
    s.queueFlit (standPort n.val p) none held { f with payload := Config.linkPayload 5 id.n from_ } (.ack id from_)

/-! ## Completion (R313) -/

/-- Is an entry the sapling of an open target? It has no client of its own (R285). -/
def State.isSapling (s : State) (i : Nat) : Bool :=
  s.openSeqs.any (fun j => j ≠ i && (s.seq j).entry.specMode ≠ 0 && (s.seq j).entry.saplingSeq == i)

/-- The final response of a felled sequence: FELLED, or the code of the ending that felled it (R313, R465). -/
def State.fellResponse (s : State) (i : Nat) : State :=
  if s.isSapling i then s else
  let c := (s.seq i).endCode
  s.sendEnd i (c % 65536) (c / 65536)

/-- Time before a felled entry can reopen, in ns (SQ_FELL_CTRL.reuse_guard; 0 acts as 1). -/
def State.reuseGuard (s : State) (l : Nat) : Nat := max 1 (s.get sqFellCtrl_reuseGuard l) * 100000

/-- A felling completes: the responses that a timeout has not sent, journal record 0x0013, the pages freed, the entries
CLOSED (R313 to R315). -/
def State.fellDone (s : State) (id : FellId) (x : Felling) : State :=
  let s := if x.timedOut then s else s.each x.entries State.fellResponse
  let s := s.each x.entries (fun s i =>
    let e := (s.seq i).entry
    let s := s.journalRec (48 + seqLanding i) 0x0013 e.imageTag e.tenant i (48 + id.origin.val + e.step * 2 ^ 32)
    let s := s.mirror i 4 e.step (bytesLE 1 seqClosed ++ bytesLE 1 2)
    let s := s.closeEntry i
    s.modSeq i (fun y => { y with reuseAt := s.tally + s.reuseGuard (seqLanding i) }))
  let s := { s with fellings := tblErase s.fellings id }
  let l := id.origin.val
  (s.put sqFellStatus_fellingsOpen l (s.get sqFellStatus_fellingsOpen l - 1)).fellEv sqFellEvent_fellDone l

/-- An acknowledgement reaches the origin landing. -/
def State.fellAck (s : State) (id : FellId) (stand : Nat) : State :=
  match tblFind s.fellings id with
  | none => s
  | some x =>
    let x := { x with acks := if stand ∈ x.acks then x.acks else x.acks ++ [stand] }
    if s.poweredStands.all (fun n => decide (n ∈ x.acks)) then s.fellDone id x
    else { s with fellings := tblSet s.fellings id x }

end Sys2Proof.Machine
end

