-- ==== Sys2Proof/Machine/FlitOps.lean ====
section
/-! DEFINITION. What an accepted flit does where it arrives: relay, deck write, partial sums, HBM traffic, link control and
felling acknowledgements (R33, R41, R42, R175, R193, R195, R235, R313). -/

namespace Sys2Proof.Machine

/-! ## Partial sums (R133, R136, R137) -/

/-- An accumulator of a grove's bank; one that nothing has written holds 0. -/
def State.acc (s : State) (g : GroveId) (k : Nat) : BitVec 88 := tblGet (s.grove g).acc (k % 16384) 0

/-- The state with an accumulator written. -/
def State.setAcc (s : State) (g : GroveId) (k : Nat) (v : BitVec 88) : State :=
  let x := s.grove g
  s.setGrove g { x with acc := tblSet x.acc (k % 16384) v }

/-- Add an exact integer to an accumulator (R133). -/
def State.addAcc (s : State) (g : GroveId) (k : Nat) (v : Int) : State :=
  s.setAcc g k (s.acc g k + BitVec.ofInt 88 v)

/-- The integer of a CXP48 element (R136): M × 2^k, k in bits [47:40], M in bits [39:0]. -/
def cxpValue (e : Nat) : Int := signed 40 e * 2 ^ bits e 40 8

/-- The accumulators and integers that a partial-sum flit names (R137). -/
def partialElems (x : Flit) : List (Nat × Int) :=
  let bs := x.payloadBytes
  let first := fromLE (bs.take 4)
  let n := fromLE ((bs.drop 4).take 1)
  if x.fallback then
    (upTo (min n 16)).map (fun j => (first + j, signed 88 (fromLE ((bs.drop (8 + 11 * j)).take 11))))
  else (upTo (min n 32)).map (fun j => (first + j, cxpValue (fromLE ((bs.drop (8 + 6 * j)).take 6))))

/-- The receive of a transfer that is armed in a grove (R174, R175). -/
def Grove.receiveOf (x : Grove) (tag transfer : Nat) : Option Receive :=
  x.receives.find? (fun r => descTag r.item.desc = tag ∧ fieldOf r.item.desc 184 195 = transfer)

/-- The due tally that a lockstep flit carries, and whether it has come late at a stand (R235). -/
def State.flitDue (s : State) (n : Fin 42) (x : Flit) : Nat × Bool :=
  let own := (s.road' n).tally
  let due := extendTally own x.tallyLow
  if due < own then (s.stepAtOrAfter own, true) else (due, false)

/-- A remote effect on a counter: at once, or in lockstep mode at the due tally of its flit, with a slip when it is late. -/
def State.remoteAdd (s : State) (g : GroveId) (ctr seq : Option Nat) (x : Flit) : State :=
  if s.lockstep then
    let d := s.flitDue g.stand x
    let s := if d.2 then s.slip g.stand g.grove.val 3 seq else s
    let y := s.grove g
    s.setGrove g { y with due := y.due ++ [{ ctr := ctr, due := d.1, seq := seq, late := d.2 }] }
  else match ctr with
    | some k => s.addCounter g k 1
    | none => s

/-- A partial-sum flit meets the armed receive of its transfer: its integers are added exactly, and the receive completes once
all its elements have come (R174). None while no receive is armed. -/
def State.takePartial (s : State) (g : GroveId) (x : Flit) : Option State :=
  let y := s.grove g
  match y.receiveOf x.imageTag x.transferId with
  | none => none
  | some r =>
    let es := partialElems x
    let s := if s.isFelled g r.item.desc then s else s.each es (fun s e => s.addAcc g e.1 e.2)
    let left := r.left - es.length
    let y := s.grove g
    if left = 0 then
      let s := s.setGrove g { y with receives := y.receives.erase r }
      let s := s.remoteAdd g (descDone r.item.desc) (descOwner r.item.desc) x
      some (if s.isFelled g r.item.desc then s.gvEv gvEvent_cancelDrop g.num else s)
    else some (s.setGrove g { y with receives := y.receives.map (fun q => if q = r then { r with left := left } else q) })

/-! ## Deck writes (R193) -/

/-- The lines of a deck-write flit go to the destination grove's deck; the flit with the last bit adds to the named counter.
Lines beyond the deck are not written (log 34). -/
def State.writeLines (s : State) (g : GroveId) (x : Flit) : State :=
  let h := x.payload.toNat
  let first := bits h 0 18
  let n := bits h 18 2
  let s := if linesIn first n then s.setLineBytes g first ((x.payloadBytes.drop 8).take (64 * n)) else s
  if x.last && bit h 26 then s.remoteAdd g (some (bits h 20 6)) none x else s

/-! ## HBM traffic (R30, R195) -/

/-- Lines that one flit carries. -/
def flitLines : Nat := 3

/-- A landing answers a read request with read-data flits to the requesting grove, three lines each. -/
def State.answerRead (s : State) (p : PortId) (x : Flit) (addr line lines : Nat) : State :=
  let parts := chunks flitLines (lines + 1) (upTo lines)
  s.each parts.zipIdx (fun s q =>
    let at_ := addr + 64 * (q.1.headD 0)
    let bs := s.hbmRead at_ (64 * q.1.length)
    let f := mkFlit 5 0 (q.2 + 1 == parts.length) false x.srcDie x.srcGrove x.dstDie x.dstGrove x.imageTag
      x.hopsLeft x.transferId q.2 s.tally []
    s.queueFlit p none none { f with payload := Config.linkPayload 6 (line + q.1.headD 0) (fromLE bs) }
      (.hbmData (line + q.1.headD 0) bs))

/-! ## Relay (R41, R42) -/

/-- The relay entry of a stand that matches a flit. -/
def State.relayEntry (s : State) (n : Fin 42) (inPort : Nat) (x : Flit) : Option Nat :=
  (upTo 128).find? (fun k =>
    decide (s.getAt skRelay_creditShare n.val k ≠ 0 ∧ s.getAt skRelay_inPort n.val k = inPort ∧
      s.getAt skRelay_imageTag n.val k = x.imageTag ∧ s.getAt skRelay_transferId n.val k = x.transferId))

/-- A flit with hops left at a stand: forwarded by its entry with hops_left lowered, or dropped as a relay miss that the stand
counts and reports. -/
def State.relayFlit (s : State) (n : Fin 42) (q : Fin 8) (c : Fin 3) (x : Flit) (arg : FlitArg) : State :=
  match s.relayEntry n q.val x with
  | none =>
    let s := s.skEv skEvent_relayMiss (PortId.stand n q).num
    let s := { s with misses := tblSet s.misses n.val (tblGet s.misses n.val 0 + 1) }
    (s.emit (.relayMiss n.val q.val x.imageTag)).returnCredit (.stand n q) c
  | some k =>
    s.queueFlit (standPort n.val (s.getAt skRelay_outPort n.val k)) (some k) (some (.stand n q))
      (x.withHdr 48 4 (x.hopsLeft - 1)) arg

/-! ## Delivery -/

/-- What an accepted flit does at the end that accepted it. A flit whose buffer it leaves gives its credit back (R35). -/
def State.deliver (s : State) (p : PortId) (x : Flit) (arg : FlitArg) : State :=
  match chanOf x.channel with
  | none => s
  | some c =>
    let free := s.returnCredit p c
    match p, arg with
    | .stand n _, .ack id from_ => s.sendAck n id from_ (some p)
    | .landing l _, .ack id from_ => if id.origin = l then free.fellAck id from_ else free
    | _, .nak ch seq => free.resend p ch seq
    | _, .diagnosis => free.emit (.link p .pattern)
    | .landing _ _, .hbmRequest a line n => free.answerRead p x a line n
    | .landing _ _, .hbmWrite a bs => free.hbmWrite a bs
    | .stand n q, arg =>
      if x.hopsLeft ≠ 0 then s.relayFlit n q c x arg
      else
        let g : GroveId := ⟨n, Fin.ofNat 16 x.dstGrove⟩
        match arg with
        | .hbmData line bs => free.setLineBytes g line bs
        | _ =>
          if x.type = 1 ∨ x.type = 3 then free.writeLines g x
          else if x.type = 2 then
            match free.takePartial g x with
            | some s => s
            | none => s.setPort p { s.port p with held := (s.port p).held ++ [x] }
          else free
    | .landing _ _, _ => free

/-- A flit arrives at a link end: reception, then what each accepted flit does. -/
def State.arrive (s : State) (p : PortId) (x : Flit) (arg : FlitArg) : State :=
  let a := s.receiveFlit p x arg
  a.1.each a.2 (fun s y => s.deliver p y.1 y.2)

/-- Partial-sum flits of a transfer that wait in a stand's ports meet a receive that has started (R175). -/
def State.drainHeld (s : State) (g : GroveId) : State :=
  s.each (List.finRange 8) (fun s q =>
    let p : PortId := .stand g.stand q
    s.each (s.port p).held (fun s x =>
      if x.dstGrove ≠ g.grove.val then s else
      match s.takePartial g x with
      | none => s
      | some s =>
        (s.setPort p { s.port p with held := (s.port p).held.erase x }).returnCredit p 0))

end Sys2Proof.Machine
end

