-- ==== Sys2Proof/Machine/RouteOps.lean ====
section
/-! DEFINITION. Transfers that a grove sends to another grove: their route over the relay tables, and their flits (R32, R41, R42, R136,
R137, R193). -/

namespace Sys2Proof.Machine

/-- Follow the relay entries from the stand and port where a flit arrives to its destination; answers the relays taken. -/
def State.relayHops (s : State) (dst tag transfer : Nat) : Nat → Nat → Nat → Option Nat
  | 0, _, _ => none
  | fuel + 1, stand, inPort =>
    if stand = dst then some 0 else
    match (upTo 128).find? (fun k =>
      decide (s.getAt skRelay_creditShare stand k ≠ 0 ∧ s.getAt skRelay_inPort stand k = inPort ∧
        s.getAt skRelay_imageTag stand k = tag ∧ s.getAt skRelay_transferId stand k = transfer)) with
    | none => none
    | some k =>
      match portInfo stand (s.getAt skRelay_outPort stand k) with
      | (3, _, _) => none
      | (_, t, q) => if t < 42 then (State.relayHops s dst tag transfer fuel t q).map (fun h => h + 1) else none

/-- The port by which a transfer leaves its stand, and its relays: a live port from which the relay tables lead to the destination,
with the fewest relays, the lowest port among equals (DEDUCED, log 58). -/
def State.routeTo (s : State) (stand dst tag transfer : Nat) : Option (Nat × Nat) :=
  (upTo 8).foldl (fun (b : Option (Nat × Nat)) p =>
    if !s.linkUp (standPort stand p) then b else
    match portInfo stand p with
    | (3, _, _) => b
    | (_, t, q) =>
      if 42 ≤ t then b else
      match s.relayHops dst tag transfer 16 t q, b with
      | some h, some (_, h') => if h < h' then some (p, h) else b
      | some h, none => some (p, h)
      | none, b => b) none

/-- Hops of a transfer for its lockstep budget: relays and the last hop; 0 on the stand mesh. -/
def State.hopsTo (s : State) (stand dst tag transfer : Nat) : Nat :=
  if stand = dst then 0 else ((s.routeTo stand dst tag transfer).map (fun r => r.2 + 1)).getD 1

/-- The lockstep budget of a transfer in 0.1 ns (R234). -/
def transferBudget (hops flits : Nat) : Nat := 531 * hops + 136 * (hops - 1) + 1186 + 12 * flits

/-- The tally that the flits of a transfer carry: the send tally, or in lockstep mode the due tally (R32, R235). -/
def State.stamp (s : State) (q : QItem) (budget : Nat) : Nat :=
  match s.lockstep, q.goAt with
  | true, some t => s.dueTally t budget
  | _, _ => s.tally

/-- Send a transfer: over the stand mesh to a grove of the same stand, at once, or as flits queued on the port of its route. None where a
partial sum finds no armed receive on the own stand; with no route the flits are lost, and the transfer never completes (R216). -/
def State.sendTransfer (s : State) (g : GroveId) (q : QItem) (dstDie dstGrove transfer type : Nat)
    (pays : List (List Byte × Bool)) (stamp : Nat) : Option State :=
  let tag := descTag q.desc
  let flit (hops k : Nat) (p : List Byte × Bool) : Flit :=
    mkFlit type 0 (k + 1 == pays.length) p.2 dstDie dstGrove g.stand.val g.grove.val tag hops transfer k stamp p.1
  if dstDie = g.stand.val then
    let dest : GroveId := ⟨g.stand, Fin.ofNat 16 dstGrove⟩
    pays.zipIdx.foldl (fun (o : Option State) p => match o with
      | none => none
      | some s =>
        if type = 2 then s.takePartial dest (flit 0 p.2 p.1) else some (s.writeLines dest (flit 0 p.2 p.1))) (some s)
  else match s.routeTo g.stand.val dstDie tag transfer with
    | none => some s
    | some (port, hops) =>
      some (s.each pays.zipIdx (fun s p => s.queueFlit (standPort g.stand.val port) none none (flit hops p.2 p.1) .plain))

/-! ## CXP48 (R136, R137) -/

/-- The smallest n with −2^(n−1) ≤ A < 2^(n−1). -/
def nbits (a : Int) : Nat :=
  let m := if a < 0 then (-a - 1).toNat else a.toNat
  if m = 0 then 1 else Nat.log2 m + 2

/-- The partial-sum payloads of one block of up to 32 consecutive columns: one CXP48 flit, or up to two LA88 flits. -/
def packBlock (first : Nat) (xs : List Int) : List (List Byte × Bool) :=
  let k := (xs.map nbits).foldl max 0 - 40
  let head (col n : Nat) : List Byte := bytesLE 4 col ++ bytesLE 1 n ++ bytesLE 3 0
  if xs.all (fun a => a % (2 ^ k : Nat) == 0) then
    [(head first xs.length ++ xs.flatMap (fun a => bytesLE 6 (unsigned 40 (a / (2 ^ k : Nat)) + k * 2 ^ 40)), false)]
  else
    (chunks 16 (xs.length + 1) xs).zipIdx.map (fun p =>
      (head (first + 16 * p.2) p.1.length ++ p.1.flatMap (fun a => bytesLE 11 (unsigned 88 a)), true))

/-- The partial-sum payloads of consecutive accumulators. -/
def packPartials (first : Nat) (xs : List Int) : List (List Byte × Bool) :=
  (chunks 32 (xs.length + 1) xs).zipIdx.flatMap (fun p => packBlock (first + 32 * p.2) p.1)

/-! ## Deck-write flits (R193) -/

/-- The payloads that carry lines to another deck, three lines each, with the counter to add to at the end. -/
def packLines (line : Nat) (bs : List Byte) (ctr : Option Nat) : List (List Byte × Bool) :=
  (chunks 192 (bs.length + 1) bs).zipIdx.map (fun p =>
    let n := p.1.length / 64
    let c := match ctr with
      | some c => c * 2 ^ 20 + 2 ^ 26
      | none => 0
    (bytesLE 8 (line + 3 * p.2 + n * 2 ^ 18 + c) ++ p.1, false))

end Sys2Proof.Machine
end

