-- ==== Sys2Proof/Machine/PowerOps.lean ====
section
/-! DEFINITION. What power and thermal events share: effective limits, a stand that goes dark, wakes, the loss of all power, and
draining (R119, R210, R223, R224, R266, R411 to R425, R434, R435). -/

namespace Sys2Proof.Machine

/-- A stand's power record. -/
def State.power (s : State) (n : Nat) : StandPower := tblGet s.powers n {}

/-- The state with a stand's power record replaced. -/
def State.setPower (s : State) (n : Nat) (x : StandPower) : State := { s with powers := tblSet s.powers n x }

/-- The state with a stand's power state changed, which the PLDM receiver hears of (R478). -/
def State.standState (s : State) (n v : Nat) : State :=
  if s.get pwStandStatus_standPower n = v then s
  else (s.put pwStandStatus_standPower n v).platformEvent (0x0400 + n) v

/-! ## Limits -/

/-- A limit under an optional cap. -/
def capped (l : Nat) : Option Nat → Nat
  | some c => min l c
  | none => l

/-- The effective limit of a stand (R210, R415, R416, R419, R434): the lowest of the stand limit lowered by its band, by the
module, by a wake, by VLOG above 750 mV and by heat, each applied to the stand limit (DEDUCED, log 40). -/
def State.effectiveOf (s : State) (n : Nat) : Nat :=
  let l := s.get pwStandLimit_limit n
  let x := s.power n
  let v := s.get pwStandStatus_vlogMv n
  let byVlog := if 750 < v then l * (750 * 750) / (v * v) else l
  min (min (capped (capped (capped l x.bandCap) x.moduleCap) x.wakeCap) byVlog)
    (l * s.get thStandStatus_heatFactor n / 100)

/-- A stand's effective limit formed anew. -/
def State.newEffective (s : State) (n : Nat) : State := s.put pwStandLimit_effective n (s.effectiveOf n)

/-- Tokens that wakes of a list of stands reserve. -/
def State.wakeReserved (s : State) (ns : List Nat) : Nat := (ns.map (fun n => (s.power n).reserve)).sum

/-- Meters and wake reservations of a list of stands, in mW. -/
def State.meterSum (s : State) (ns : List Nat) : Nat :=
  (ns.map (fun n => s.get pwMeter_meter n)).sum + 1000 * s.wakeReserved ns

/-- A wake's reservation leaves the sums at the first evaluation after its last grove woke (R419). -/
def State.dropReserves (s : State) (ns : List Nat) : State :=
  s.each ns (fun s n => if (s.power n).stages = 0 then s.setPower n { s.power n with reserve := 0 } else s)

/-- PW_BAND shows the band's meters, its wake reservations and whether a lowering is in force. -/
def State.showBand (s : State) (b : Nat) : State :=
  let ns := bandStands b
  let s := s.putAt pwBand_meters 0 b ((ns.map (fun n => s.get pwMeter_meter n)).sum / 1000)
  let s := s.putAt pwBand_wakeReserved 0 b (s.wakeReserved ns)
  s.putAt pwBand_lowered 0 b (b2n (ns.any (fun n =>
    (s.power n).bandCap.isSome || (s.power n).moduleCap.isSome || (s.power n).wakeCap.isSome)))

/-- The limit that lowering by a sum gives: limit × allowed / sum, rounded down to a token (R210, R415). -/
def loweredTo (limit allowed sum : Nat) : Nat := limit * allowed * 1000 / sum

/-- The module limit in force (R411): the set limit under the cap of the converters that work. -/
def State.newModuleLimit (s : State) : State :=
  let n := s.get pwConverters_working 0
  s.put pwModuleLimit_inForce 0 (min (s.get pwModuleLimit_set 0) (20000 - 1625 * (16 - n)))

/-! ## Wakes -/

/-- A wake of `n` has ended or is abandoned: the limits lowered for it rise again (R419). -/
def State.liftWake (s : State) (n : Nat) : State :=
  s.each (upTo 42) (fun s m =>
    let x := s.power m
    if x.wakeCap.isSome ∧ x.wakeFor = n then (s.setPower m { x with wakeCap := none }).newEffective m else s)

/-- Ask for a wake (R419). -/
def State.wantWake (s : State) (n : Nat) : State :=
  if n ∈ s.wakeWant then s else { s with wakeWant := s.wakeWant ++ [n] }

/-- Every link of a stand whose far die has power trains again, unless the link has failed by itself (DEDUCED, log 41). -/
def State.linksUp (s : State) (n : Nat) : State :=
  s.each (upTo 8) (fun s q =>
    let p := standPort n q
    match p.peer with
    | none => s
    | some r =>
      let far := match r with
        | .stand m _ => decide (s.get pwStandStatus_standPower m.val ≠ 0)
        | .landing _ _ => true
      if far && (s.port p).dark then
        s.each [p, r] (fun s e => (s.put skStatus_linkUp e.num 1).setPort e { s.port e with dark := false })
      else s)

/-! ## A stand goes dark -/

/-- The operation of PWR_STAND_SERVICE on a stand ends (R358). (DEDUCED: log 154.) -/
def State.endService (s : State) (n status : Nat) : State :=
  let op := (s.power n).op
  if op = 0 then s
  else (s.setPower n { s.power n with op := 0 }).endOp op status (if status = 0 then 0 else s.get pwStandStatus_standPower n) 0

/-- Is an image still held for the replacement of a stand that went dark? -/
def State.leaving (s : State) (n : Nat) : Bool :=
  s.images.any (fun p => p.2.held && !p.2.uncovered && decide (PlanFault.stand n ∈ p.2.faults))

/-- The links of a dark stand go down at both ends (R435); the module names the stand's loss, and not its links, to the plans. -/
def State.linksDark (s : State) (n : Nat) : State :=
  s.each (upTo 8) (fun s q =>
    let p := standPort n q
    if s.linkUp p then
      s.each ([some p, p.peer].filterMap id) (fun s e =>
        let s := (s.put skStatus_linkUp e.num 0).put skStatus_sparingActive e.num 0
        (s.setPort e { s.port e with diagnosis := false, spareRx := none, spareTx := none, dark := true }).skEv
          skEvent_linkDown e.num)
    else s)

/-- Open sequences that hold a deck page on a stand (R266). -/
def State.deckLosers (s : State) (n : Nat) : List Nat :=
  s.openSeqs.filter (fun i =>
    (s.seq i).entry.deckKv && (upTo (s.regionPages i)).any (fun p =>
      let v := s.pageEntry i p
      bits v 30 2 == 2 && bits v 12 6 == n))

/-- A grove that loses power: header off unless it is faulted, queues and fellers gone (R201, R425). -/
def State.groveOff (s : State) (g : GroveId) (power : Nat) : State :=
  let s := s.put gvStatus_power g.num power
  let s := s.put gvStatus_coresRunning g.num 0
  let busy := (s.fellers.filter (fun f => f.1.groveId = g ∧ f.2.task.isSome)).length
  let s := s.put pwMeter_meter g.stand.val (s.get pwMeter_meter g.stand.val - 250 * busy)
  let s := s.each (upTo 6) (fun s k => s.setReg ⟨.gvCoreStatus, g.num, k, 0⟩ 0xFFFF)
  let h := pwGroveHdr_cluster g.grove.val
  let s := if s.get h g.stand.val = 3 then s else s.put h g.stand.val 0
  let x := s.grove g
  let s := s.setGrove g { x with
    queues := [], receives := [], reports := [], events := [], pendingE := [], due := [], xlate := [], monitor := none }
  { s with
    fellers := s.fellers.filter (fun f => f.1.groveId ≠ g)
    tiles := s.tiles.map (fun t => if t.1.groveId = g then (t.1, { t.2 with rotation := none, cruise := none }) else t)
    rotWait := s.rotWait.filter (fun r => r.tile.groveId ≠ g) }

/-- Fellings that waited only for stands that are dark now complete (R313). -/
def State.recheckFellings (s : State) : State :=
  s.each s.fellings (fun s p =>
    match tblFind s.fellings p.1 with
    | some x => if s.poweredStands.all (fun n => decide (n ∈ x.acks)) then s.fellDone p.1 x else s
    | none => s)

/-- A stand loses its power (R224 step 1, R413, R422, R435): its registers, groves and links show it, and what waited on it is gone. -/
def State.standDown (s : State) (n : Nat) : State :=
  let st := standOf n
  let s := (s.endService n 0x0103).standState n 0
  let s := ((s.put pwStandStatus_wake n 0).put pwStandStatus_vlogMv n 0).put pwStandStatus_elecThin n 0
  let s := (s.put pwStandStatus_meterThin n 0).put pwMeter_meter n 0
  let s := s.setPower n { s.power n with stages := 0, reserve := 0, wakeCap := none, darkAt := s.tally }
  let s := s.liftWake n
  let s := { s with
    wakeWant := s.wakeWant.filter (fun m => m ≠ n)
    reserve := s.reserve.filter (fun m => m ≠ n)
    surveyLeft := s.surveyLeft.filter (fun e => e.1.stand.val ≠ n)
    standFells := tblErase s.standFells st }
  let s := s.each (List.finRange 16) (fun s k => s.groveOff ⟨st, k⟩ 3)
  let s := s.linksDark n
  s.journalRec s.foresterSource 0x0033 0 0xFFFF 0xFFFF n

/-- What follows a stand's loss: sequences of its images that are mirrored move to the twin (R423), those with deck pages on it are lost
(R266), and its images take the plans for its loss (R223). -/
def State.afterDark (s : State) (n : Nat) : State :=
  let lost := s.deckLosers n
  let own := s.imageTags.filter (fun t => ((s.image t).map (fun x => x.hasStand n)).getD false)
  let users := s.imageTags.filter (fun t => ((s.image t).map (fun x => x.hasStand n || x.crosses n)).getD false)
  let s := s.endSeqs lost 0x0401 n false
  let s := s.each lost (fun s i =>
    if (s.seq i).entry.state = seqFelling ∧ (s.seq i).endCode = 0x0401 + n * 65536 then s.sqEv sqEvent_kvLost (seqLanding i) else s)
  let s := if s.paired then
      s.each own (fun s t => s.each (s.seqsOf t) (fun s i =>
        if s.safe i && (s.seq i).entry.state ≠ seqFelling && !(s.seq i).entry.partner then s.moveOut i else s))
    else s
  let s := s.each users (fun s t => s.imageFault t (.stand n))
  s.recheckFellings.follow.surveyCheck

/-- A stand that is not dark goes dark. -/
def State.goDark (s : State) (n : Nat) : State :=
  if s.get pwStandStatus_standPower n = 0 then s else (s.standDown n).afterDark n

/-- A stand powers down into the reserve role: regulators stay on, groves are gated (R29, R418). -/
def State.toReserve (s : State) (n : Nat) : State :=
  let s := s.each (List.finRange 16) (fun s k => s.groveOff ⟨standOf n, k⟩ 0)
  let s := (s.standState n 3).put pwMeter_meter n 0
  { s with reserve := if n ∈ s.reserve then s.reserve else s.reserve ++ [n] }.follow

/-! ## Draining and the loss of power -/

/-- The earlier of two deadlines, where there are two. -/
def sooner : Option Nat → Option Nat → Option Nat
  | some a, some b => some (min a b)
  | some a, none => some a
  | none, b => b

/-- Forester firmware sets DRAINING (R349, R411): `op` is the operation that completes when no sequence is open, 0 for none. A drain that is
under way keeps its operation, its move and the earlier deadline. (DEDUCED: log 168.) -/
def State.startDrain (s : State) (deadline : Option Nat) (move : Bool) (op : Nat) : State :=
  let old : Drain := if s.service = .draining then s.drain.getD {} else {}
  { s with drain := some {
      deadline := sooner old.deadline (deadline.map (fun d => s.tally + d)), move := move || old.move
      op := if op = 0 then old.op else op } }.setService .draining

/-- Pins of J16 that the module drives (R488). -/
def pinPwrGood : Nat := 12
def pinThermTrip : Nat := 13
def pinPps : Nat := 14
def pinLed : Nat := 15

/-- The stored contents of a tile: its cells and retirement keep, its latch, rotation and cruise are gone without power. -/
def tileOff (t : Tile) : Tile := { t with latch := {}, rotation := none, cruise := none }

/-- The module enters OFF (R410, R437, R469): what stands in cells and flash stays, everything else is gone. The tally, the
waiting commands and what has been sent out are the model's. -/
def State.powerOff (s : State) : State :=
  let s := (s.setService .off).emit (.pin pinPwrGood 0)
  { State.reset with
    pending := s.pending
    tally := s.tally
    freeUses := s.freeUses
    out := s.out
    regs := [(⟨.pwFeed, 0, 0, 0⟩, s.reg ⟨.pwFeed, 0, 0, 0⟩)]
    tiles := s.tiles.map (fun t => (t.1, tileOff t.2))
    latched := s.latched
    flash := s.flash }

end Sys2Proof.Machine
end

