-- ==== Sys2Proof/Machine/TileOps.lean ====
section
/-! DEFINITION. Weight tiles: cells and readings, the failure ladder, activation, calibration, rotations and swaps (R57 to R95, R99 to
R112). -/

namespace Sys2Proof

/-! ## The header latch (R79) -/

def Machine.Latch.wide (l : Machine.Latch) : Bool := Machine.bit l.mode.toNat 0
def Machine.Latch.reverseOk (l : Machine.Latch) : Bool := Machine.bit l.mode.toNat 1

/-- Rows of a row group: 64 in normal-level mode, 32 in wide-level mode (R62, R63). -/
def Machine.Latch.group (l : Machine.Latch) : Nat := if l.wide then 32 else 64

/-- The offset of the cell targets: 8, or 15 in wide-level mode (R65). -/
def Machine.Latch.off (l : Machine.Latch) : Nat := if l.wide then 15 else 8

/-- The weight of a cell code (R62, R63). -/
def Machine.Latch.weight (l : Machine.Latch) (code : Nat) : Int :=
  if l.wide then Machine.signed 5 (Machine.bits l.codebook.toNat (5 * code) 5) else (code : Int) - 8

/-- The target of a cell code in units. -/
def Machine.Latch.units (l : Machine.Latch) (code : Nat) : Nat := (l.weight code + l.off).toNat

/-- The exponent offset of a data column. -/
def Machine.Latch.expOf (l : Machine.Latch) (c : Nat) : Nat := Machine.bits l.expo.toNat (4 * c) 4

/-- The column that a repair column stands in for, when its entry is valid. -/
def Machine.Latch.repairOf (l : Machine.Latch) (k : Nat) : Option Nat :=
  let e := Machine.bits l.repair.toNat (12 * k) 12
  if k < 4 ∧ Machine.bit e 11 then some (Machine.bits e 0 10) else none

/-- The code of a data column in a row (R88: even columns in the low nibble). -/
def Machine.Tier.code (x : Machine.Tier) (row col : Nat) : Nat :=
  Machine.bits (Machine.tblGet x.rows row 0).toNat (4 * col) 4

end Sys2Proof

namespace Sys2Proof.Machine

/-- A logical tier is marked suspect (R74, R80, R101). -/
def State.markSuspect (s : State) (t : TileId) (k : Nat) : State :=
  let p := s.physOf t k
  let s := s.putAt (tlCellLayerMap_suspect (k % 4)) t.num (k / 4) 1
  let s := if s.get tlTileStatus_tileState t.num = 0 then s.put tlTileStatus_tileState t.num 1 else s
  (s.setDrift t p { s.drift t p with suspect := true }).tlEv tlEvent_suspectSet t.groveId.num

/-- Kinds of tile error (TL_ERROR_INFO). -/
def teMismatch : Nat := 0
def teHeader : Nat := 1
def teReverse : Nat := 2
def teReverseNotAllowed : Nat := 3
def teGenStale : Nat := 4

/-- An MVM ends in a tile error (R76). -/
def State.tileError (s : State) (t : TileId) (kind logical group plane check : Nat) : State :=
  let g := t.groveId.num
  let s := s.setReg ⟨.tlErrorInfo, g, 0, 0⟩ 0
  let s := (s.put tlErrorInfo_tallyLow g s.tally).put tlErrorInfo_kind g kind
  let s := (s.put tlErrorInfo_tile g t.tile.val).put tlErrorInfo_logical g logical
  let s := (s.put tlErrorInfo_rowGroup g group).put tlErrorInfo_plane g plane
  let s := (s.put tlErrorInfo_checkGroup g check).put tlErrorInfo_column g 0x3FF
  (s.satUp tlStats_tileErrors t.num).tlEv tlEvent_tileError g

/-! ## Activation and calibration (R79 to R81) -/

/-- The converter gain takes a trim (R81): beyond cal_limit (0.1 %) of the factory trim (1/1,024), cal_drift sets. -/
def State.calibrate (s : State) (t : TileId) (trim : BitVec 16) : State :=
  let s := s.put tlCal_gainTrim t.num trim.toNat
  let s := s.setTile t { s.tile t with calTally := s.tally }
  let d := (signed 16 trim.toNat - signed 16 (s.get tlCal_factoryTrim t.num)).natAbs
  if s.get tlCtrl_calLimit t.groveId.num * 1024 < d * 1000 then s.tlEv tlEvent_calDrift t.groveId.num else s

/-- Is a physical tier programmed? One that never was holds no latch image with a valid CRC (R79). -/
def Tier.programmed (x : Tier) : Bool := decide (0 < x.programCount)

/-- Does an image that serves from the arrays use a tile? -/
def State.inService (s : State) (t : TileId) : Bool :=
  s.images.any (fun p => p.2.state == 2 && !p.2.held && p.2.file.tiers.any (fun x =>
    p.2.place.getD x.stand 99 == t.stand.val && x.grove == t.grove.val && x.tile == t.tile.val))

/-- The pending or armed rotation of a logical tier lands (R90 to R92): the map changes, the old physical tier becomes the rotation
tier, the drift clock restarts, and a cruise or monitor window of the tier is discarded (R111). -/
def State.landSwap (s : State) (t : TileId) : State :=
  let x := s.tile t
  match x.rotation with
  | none => s
  | some r =>
    let g := t.groveId
    let new := s.get tlTileStatus_rotationPhys t.num
    let old := s.physOf t r.logical
    let l := (s.tier t new).latch
    let q := r.logical / 4
    let k := r.logical % 4
    let s := s.putAt (tlCellLayerMap_phys k) t.num q new
    let s := s.putAt (tlCellLayerMap_wide k) t.num q (b2n l.wide)
    let s := s.putAt (tlCellLayerMap_reverseOk k) t.num q (b2n l.reverseOk)
    let s := s.putAt (tlCellLayerMap_suspect k) t.num q 0
    let s := (s.setTierState t new 1).setTierState t old 0
    let s := (s.put tlTileStatus_rotationPhys t.num old).put tlTileStatus_rotationState t.num 0
    let s := if r.kind = .copy then s else
      (s.put tlGen_currentGen t.num r.gen).put tlGen_armedValid t.num 0
    let s := if s.get tlTileStatus_activeLogical t.num = r.logical then s.put tlTileStatus_activeValid t.num 0 else s
    let y := s.tile t
    let s := s.setTile t { y with
      rotation := none
      cruise := match y.cruise with
        | some c => if c.phys = old then none else some c
        | none => none
      drift := tblSet y.drift new { early := (s.drift t new).early } }
    let z := s.grove g
    let s : State := match z.monitor with
      | some m => if m.tile = t.tile.val ∧ m.logical = r.logical then s.setGrove g { z with monitor := none } else s
      | none => s
    let clean := (upTo 16).all (fun j => s.getAt (tlCellLayerMap_suspect (j % 4)) t.num (j / 4) == 0)
    let s := if clean ∧ s.get tlTileStatus_tileState t.num = 1 then s.put tlTileStatus_tileState t.num 0 else s
    let s := s.tlEv tlEvent_rotationDone g.num
    let s := s.journalRec t.stand.val 0x0030 l.imageTag 0xFFFF 0xFFFF
      (t.stand.val + t.grove.val * 2 ^ 8 + t.tile.val * 2 ^ 16 + r.logical * 2 ^ 32)
    let s := s.clearTier t r.logical
    if 500000 ≤ (s.tier t old).programCount then s.retireTier t old else s

/-- A tier switch (R80): a pending swap of the tier lands first (R94), the latch is read, at most twice, and the gain is calibrated.
Answers whether the tier is active now. -/
def State.activate (s : State) (t : TileId) (k : Nat) (env : MvmEnv) : State × Bool :=
  let s := match (s.tile t).rotation with
    | some r => if r.logical = k ∧ s.get tlTileStatus_rotationState t.num = rsPending then s.landSwap t else s
    | none => s
  let p := s.physOf t k
  let x := s.tier t p
  let fails := if x.programmed then min 2 env.latchFails else 2
  let s := s.each (upTo fails) (fun s _ => s.tlEv tlEvent_headerError t.groveId.num)
  if fails = 2 then
    (((s.put tlTileStatus_activeValid t.num 0).markSuspect t k).tileError t teHeader k 0 0 0, false)
  else
    let s := s.setTile t { s.tile t with latch := x.latch }
    let s := (s.put tlTileStatus_activeValid t.num 1).put tlTileStatus_activeLogical t.num k
    let s := (s.put tlTileStatus_activePhys t.num p).put tlTileStatus_reverseLatched t.num 0
    (match env.trim with
      | some v => s.calibrate t v
      | none => s.setTile t { s.tile t with calTally := s.tally }, true)

/-! ## Input blocks (R131) -/

/-- An XI block: exponent X, whether it is empty or an underflow block, its elements. -/
structure XiBlock where
  x     : Int
  empty : Bool
  q     : List Int
deriving DecidableEq, Repr

/-- Parse an XI block of `n` elements of `w` bits. -/
def parseXi (w n : Nat) (bs : List Byte) : XiBlock :=
  let h := fromLE (bs.take 4)
  let e := fromLE ((bs.drop 4).take (w * n / 8))
  ⟨(bits h 0 8 : Int) - 127, bit h 8 || bit h 9, (unpackDigits w n e).map (fun d => signed w d)⟩

/-- Lines of one XI block: two for XI8 in normal-level mode, else one (R170). -/
def xiLines (xi8 wide : Bool) : Nat := if xi8 && !wide then 2 else 1

/-- The blocks of one vector from a deck line on, and whether they are XI8; the element width is that of the first block's header. -/
def State.readBlocks (s : State) (g : GroveId) (line count n : Nat) (wide : Bool) : List XiBlock × Bool :=
  let xi8 := bit (fromLE (s.lineBytes g line 4)) 10
  let w := if xi8 then 8 else 4
  let step := xiLines xi8 wide
  ((upTo count).map (fun b => parseXi w n (s.lineBytes g (line + b * step) (4 + w * n / 8))), xi8)

/-- The bit of plane `p` of an element of `w` bits. -/
def planeBit (w : Nat) (q : Int) (p : Nat) : Bool := bit (unsigned w q) p

/-- The signed weight of a plane (R65). -/
def planeWeight (w p : Nat) : Int := if p + 1 = w then -(2 ^ p) else 2 ^ p

/-! ## Readings (R62 to R64, R72) -/

/-- The target in units of a logical column's cell in a row: data, or digit 0 to 2 of a check group. -/
def Tier.units (x : Tier) (l : Latch) (row col : Nat) : Nat :=
  if col < 512 then l.units (x.code row col)
  else
    let sum := ((upTo 32).map (fun j => l.units (x.code row (32 * ((col - 512) / 3) + j)))).sum
    match (col - 512) % 3 with
    | 0 => sum % 16 | 1 => sum / 16 % 16 | _ => sum / 256

/-- The exact reading of a column with a set of rows driven. -/
def Tier.reading (x : Tier) (l : Latch) (rows : List Nat) (col : Nat) : Nat := (rows.map (fun r => x.units l r col)).sum

/-- The largest cell value of a column (the converter range table of chapter Weight Tiles). -/
def cellMax (wide : Bool) (col : Nat) : Nat :=
  if col < 512 then (if wide then 30 else 15) else if (col - 512) % 3 = 2 then (if wide then 3 else 1) else 15

/-- The check group of a logical column. -/
def checkGroup (col : Nat) : Nat := if col < 512 then col / 32 else (col - 512) / 3

/-- The factor of a column's reading in its group's identity (R73). -/
def checkFactor (col : Nat) : Int := if col < 512 then 1 else -(16 ^ ((col - 512) % 3))

/-! ## The failure ladder (R73 to R75) -/

/-- Deviations of one read: logical column and its difference from the exact reading. -/
abbrev ReadErrs := List (Nat × Int)

/-- The deviations of a read as the converters show them: a repaired column's own reading is ignored, a repair column's counts for
the column it replaces, and codes run from 0 to 1,023. -/
def readErrs (x : Tier) (l : Latch) (rows : List Nat) (es : List ReadError) : ReadErrs :=
  let replaced := (upTo 4).filterMap l.repairOf
  let one (e : ReadError) : Option (Nat × Int) :=
    let col := if e.column < 560 then (if e.column ∈ replaced then none else some e.column) else l.repairOf (e.column - 560)
    match col with
    | none => none
    | some c =>
      let y : Int := x.reading l rows c
      let v := max 0 (min 1023 (y + e.err))
      if v = y then none else some (c, v - y)
  es.filterMap one

/-- The discrepancy D of a check group. -/
def groupD (es : ReadErrs) (g : Nat) : Int :=
  ((es.filter (fun e => checkGroup e.1 = g)).map (fun e => checkFactor e.1 * e.2)).sum

/-- Does a read pass: every D is 0, and no reading exceeds 960 (R64, R73)? -/
def checkOk (x : Tier) (l : Latch) (rows : List Nat) (es : ReadErrs) : Bool :=
  (upTo 16).all (fun g => groupD es g == 0) && es.all (fun e => decide ((x.reading l rows e.1 : Int) + e.2 ≤ 960))

/-- The first failing check group of a read. -/
def firstFailing (es : ReadErrs) : Nat := ((upTo 16).find? (fun g => groupD es g ≠ 0)).getD 0

/-- The deviation of a column in a read. -/
def errOf (es : ReadErrs) (c : Nat) : Int := tblGet es c 0

/-- Solve the one column of a failing group that reads differently in `a` and `b` (R75). -/
def solveGroup (x : Tier) (l : Latch) (rows : List Nat) (a b : ReadErrs) (g : Nat) : Option (Nat × Int) :=
  let cols := (((a ++ b).map (fun e => e.1)).eraseDups).filter (fun c => checkGroup c = g ∧ errOf a c ≠ errOf b c)
  match cols with
  | [c] =>
    let f := checkFactor c
    let d := groupD b g
    if d % f ≠ 0 then none else
    let e := errOf b c - d / f
    let v := (x.reading l rows c : Int) + e
    if 0 ≤ v ∧ v ≤ (rows.length * cellMax l.wide c : Nat) then some (c, e) else none
  | _ => none

/-- Single-error correction of read `b` against read `a` (R75). -/
def correctRead (x : Tier) (l : Latch) (rows : List Nat) (a b : ReadErrs) : Option ReadErrs :=
  match ((upTo 16).filter (fun g => groupD b g ≠ 0)).mapM (solveGroup x l rows a b) with
  | none => none
  | some fixed =>
    let c := (fixed ++ b.filter (fun e => fixed.all (fun f => f.1 ≠ e.1))).filter (fun e => e.2 ≠ 0)
    if checkOk x l rows c then some c else none

/-- What the ladder has done in one MVM: mismatches, re-reads, corrections, whether the tier became suspect, and the row group,
plane and check group of a tile error. -/
structure LadderLog where
  m      : Nat
  reads  : Nat
  fixes  : Nat
  tries  : Nat
  sus    : Bool
  err    : Option (Nat × Nat × Nat)
deriving DecidableEq, Repr

/-- One row group and plane through the ladder (R74): the deviations of the read that is used. -/
def ladderStep (x : Tier) (l : Latch) (rows : List Nat) (g p : Nat) (a b d : ReadErrs) (z : LadderLog) : ReadErrs × LadderLog :=
  if checkOk x l rows a then (a, z) else
  let z := { z with m := z.m + 1 }
  if z.m = 3 then ([], { z with err := some (g, p, firstFailing a) }) else
  let z := { z with reads := z.reads + 1 }
  if checkOk x l rows b then (b, z) else
  let z := { z with m := z.m + 1, sus := true }
  if z.m = 3 then ([], { z with err := some (g, p, firstFailing b) }) else
  let z := { z with tries := z.tries + 1 }
  match correctRead x l rows a b with
  | some c => (c, { z with fixes := z.fixes + 1 })
  | none =>
    let z := { z with reads := z.reads + 1 }
    if checkOk x l rows d then (d, z) else ([], { z with m := z.m + 1, err := some (g, p, firstFailing d) })

/-! ## Rotations (R86 to R92) -/

/-- Start a rotation on a tile that can rotate (R88): the rotation tier is written from now on. -/
def State.startRotation (s : State) (r : RotRequest) : State :=
  let t := r.tile
  let p := s.get tlTileStatus_rotationPhys t.num
  let s := (s.setTierState t p 3).put tlTileStatus_rotationState t.num rsWriting
  let x := s.tier t p
  let s := s.setTier t p { x with programCount := x.programCount + 1, programTally := s.tally, rows := [] }
  s.setTile t { s.tile t with rotation := some {
      kind := r.kind, logical := r.logical, gen := r.gen, src := r.src, image := r.image } }

/-- The row that a rotation writes: the source tier's for a COPY, the tier image's otherwise (R88). -/
def State.rotRow (s : State) (t : TileId) (r : Rotation) (row : Nat) : BitVec 2048 :=
  match r.kind, r.image with
  | .copy, _ => tblGet (s.tier t (s.physOf t r.logical)).rows row 0
  | _, some x => tblGet x.rows row 0
  | _, none => BitVec.ofNat 2048 (fromLE (s.hbmRead (256 * r.src + 256 * row) 256))

/-- The repair map that TL_REPAIR_LIST asks for (R79, R88). -/
def State.repairMap (s : State) (t : TileId) : BitVec 48 :=
  BitVec.ofNat 48 (((upTo 4).map (fun i =>
    (s.get (tlRepairList_valid i) t.num * 2 ^ 11 + s.get (tlRepairList_column i) t.num) * 2 ^ (12 * i))).sum)

/-- The latch image that a rotation writes (R79, R88); the tag of an HBM tier image is the grove's. -/
def State.rotLatch (s : State) (t : TileId) (r : Rotation) : Latch :=
  let old := (s.tier t (s.physOf t r.logical)).latch
  let repair := s.repairMap t
  match r.kind, r.image with
  | .copy, _ => { old with repair := repair }
  | _, some x =>
    { expo := x.expo, codebook := x.codebook, repair := repair, mode := x.mode
      imageTag := s.get gvStatus_imageTag t.groveId.num, gen := r.gen, logical := r.logical }
  | _, none =>
    let bs := s.hbmRead (256 * r.src + 262144) 512
    { expo := BitVec.ofNat 2048 (fromLE (bs.take 256)), codebook := BitVec.ofNat 80 (fromLE ((bs.drop 256).take 10))
      mode := BitVec.ofNat 8 (fromLE ((bs.drop 266).take 1)), repair := repair
      imageTag := s.get gvStatus_imageTag t.groveId.num, gen := r.gen, logical := r.logical }

/-- A tile error on a tier, or a bad source row, abandons a COPY of it; a LOAD from the golden image replaces it (R89, R111). -/
def State.copyLost (s : State) (t : TileId) (k : Nat) : State :=
  match (s.tile t).rotation with
  | some r => if r.kind = .copy ∧ r.logical = k then (s.abandonRotation t).askGolden t k else s
  | none => s

/-! ## Cruise (R99, R104, R111) -/

/-- Start a cruise of a service tier of a tile on which none runs. -/
def State.startCruise (s : State) (t : TileId) (phys : Nat) (priority : Bool) : State :=
  if (s.tile t).cruise.isSome then s else
  match s.logicalOf t phys with
  | none => s
  | some k =>
    if s.rotationAsked t k then s
    else s.setTile t { s.tile t with cruise := some { phys := phys, priority := priority } }

/-- The rate of the drift clock at a temperature in 1/16 °C, for 10 ms, in 0.05 s × 2^−16 (R102): 0.2 × 2^16 × 2^((T − 60) / 8),
rounded down. -/
def driftStep (temp : Int) : Nat :=
  (((exExp (Ex.dy ((temp - 960) * fxLn2) (-427))).mul (Ex.ofInt 65536)).divNat 5 |>.floorGrid 0).toNat

end Sys2Proof.Machine
end

