-- ==== Sys2Proof/Machine/Stages.lean ====
section
/-! DEFINITION. The scaler, the accumulator bank and the deck operations (R130 to R137, R154, R170, R174, R192). -/

namespace Sys2Proof.Machine

/-! ## Scale-event words (R159) -/

/-- A scale-event word, as the model packs it (log 35): the step's key, the kind and the largest X_nat. -/
def scaleWord (k : StepKey) (kind : ScaleKind) (xnat : Int) : BitVec 448 :=
  let c := match kind with
    | .input => 0
    | .finishing => 1
    | .output => 2
  BitVec.ofNat 448 (k.tag + k.seq * 2 ^ 8 + k.layer * 2 ^ 24 + k.step * 2 ^ 40 + c * 2 ^ 72 + unsigned 32 xnat * 2 ^ 96 + 2 ^ 200)

/-- A grove keeps one event per image, sequence, layer and step (R159). -/
def State.keepEvent (s : State) (g : GroveId) (k : StepKey) (kind : ScaleKind) (xnat : Int) : State :=
  let x := s.grove g
  if x.events.any (fun e => decide (e.key = k)) then s else
  (s.setGrove g { x with events := x.events ++ [{ key := k, kind := kind, xnat := xnat }] }).gvEv gvEvent_scaleEvent g.num

/-- A grove raises an input-side or output-side scale event: it keeps it and submits the word (R144, R159). -/
def State.raiseScale (s : State) (g : GroveId) (k : StepKey) (kind : ScaleKind) (xnat : Int) : State :=
  if (s.grove g).events.any (fun e => decide (e.key = k)) then s else
  let s := s.keepEvent g k kind xnat
  let s := s.journalRec g.stand.val 0x0020 k.tag 0xFFFF k.seq
    ((match kind with
      | .input => 0
      | .finishing => 1
      | .output => 2) + k.layer * 2 ^ 8 + k.step * 2 ^ 32)
  let w : HrWord := ⟨3, g.stand.val, 0, s.road.frame, s.road.slot, true, scaleWord k kind xnat⟩
  { s with road := { s.road with barriers := s.road.barriers ++ [w] } }

/-! ## Scaler (R130, R131, R170) -/

/-- What the scaler makes of one block. -/
inductive XiOut where
  | block (header : Nat) (q : List Int)
  | overflow (xnat : Int)
  | fault

/-- One XI block (R130): `n` bits, floor F, and the elements' exact values. -/
def quantizeBlock (n : Nat) (xi8 wide : Bool) (f : Int) (vs : List Ex) : XiOut :=
  let tags := b2n xi8 * 2 ^ 10 + b2n wide * 2 ^ 11
  let a := amax vs
  if a.num = 0 then .block (2 ^ 8 + tags) (vs.map (fun _ => 0)) else
  let nat_ := a.log2 - (n - 2 : Nat)
  if 127 < nat_ then .fault else
  let x := max nat_ f
  if f + 37 < x then .overflow nat_ else
  let q := vs.map (fun v => max (-(2 ^ (n - 1))) (min (2 ^ (n - 1) - 1) (v.roundGrid x .nearestEven)))
  if q.all (fun d => d == 0) then .block (2 ^ 9 + tags) q else .block ((x + 127).toNat + tags) q

/-- The bytes of an XI block in the deck (R131). -/
def xiBytes (n header : Nat) (q : List Int) : List Byte :=
  bytesLE 4 header ++ bytesLE (q.length * n / 8) (packDigits n (q.map (unsigned n)))

/-- The largest X_nat of blocks that overflow, if one does. -/
def overflowOf (bs : List XiOut) : Option Int :=
  bs.foldl (fun m b => match b, m with
    | .overflow x, some y => some (max x y)
    | .overflow x, none => some x
    | _, m => m) (none : Option Int)

/-- A scaler descriptor (R130, R154, R170). A value that is not finite, or that no block can carry, ends the step; a window overflow
raises a scale event, and no block of the descriptor is written (log 57). -/
def State.scale (s : State) (g : GroveId) (q : QItem) : State :=
  let d := q.desc
  let f := fieldOf d
  let xi8 := bit d.toNat 176
  let wide := bit d.toNat 177
  let n := if xi8 then 8 else 4
  let size := if wide then 32 else 64
  let count := f 164 171
  let budget := 400 + 80 * count
  match decodeVector (f 172 175) (count * size) (s.lineBytes g (f 128 145) (vectorBytes (f 172 175) (count * size))) with
  | none => (s.complete g q budget).numericFault g d
  | some vs =>
    let bs := (chunks size (count + 1) vs).map (quantizeBlock n xi8 wide (s.raisedFloor g d (signed 8 (f 178 185))))
    if bs.any (fun b => match b with
      | .fault => true
      | _ => false) then (s.complete g q budget).numericFault g d
    else match overflowOf bs with
      | some x =>
        let s := (s.numCount g 5 1).complete g q budget
        if descSeqValid d then s.raiseScale g (descKey d) .input x else s
      | none =>
        let s := s.each bs.zipIdx (fun s b => match b.1 with
          | .block h e =>
            let s := if bit h 8 then s.numCount g 0 1 else if bit h 9 then s.numCount g 1 1 else s
            s.setLineBytes g (f 146 163 + b.2 * xiLines xi8 wide) (padTo (64 * xiLines xi8 wide) (xiBytes n h e))
          | _ => s)
        s.complete g q budget

/-- SCALER_QUANTIZE (R130). -/
def execScalerQuantize (g : GroveId) (s : State) : Host.Outcome State Fault Refusal :=
  .next (s.runStage g stScaler 0 costStage (fun q s => s.scale g q))

/-! ## Accumulator bank (R174) -/

def accBase (d : Descriptor) : Nat := fieldOf d 128 141
def accCount (d : Descriptor) : Nat := fieldOf d 142 155 + 1
def accTransfer (d : Descriptor) : Nat := fieldOf d 184 195

/-- ACC_CLEAR (R174). -/
def execAccClear (g : GroveId) (s : State) : Host.Outcome State Fault Refusal :=
  .next (s.runStage g stAccum 0 costAccum (fun q s =>
    (s.each (upTo (accCount q.desc)) (fun s k => s.setAcc g (accBase q.desc + k) 0)).complete g q (400 + 2 * accCount q.desc)))

/-- The exact integers of consecutive accumulators. -/
def State.accInts (s : State) (g : GroveId) (d : Descriptor) : List Int :=
  (upTo (accCount d)).map (fun k => (s.acc g (accBase d + k)).toInt)

/-- ACC_SEND (R136, R137, R174); on its own stand a send waits for the receive of its transfer (log 64). -/
def execAccSend (g : GroveId) (s : State) : Host.Outcome State Fault Refusal :=
  .next (s.runStage g stAccum 1 costAccum (fun q t =>
    let d := q.desc
    let pays := packPartials (fieldOf d 196 209) (t.accInts g d)
    let die := fieldOf d 174 179
    let b := transferBudget (t.hopsTo g.stand.val die (descTag d) (accTransfer d)) pays.length
    match t.sendTransfer g q die (fieldOf d 180 183) (accTransfer d) 2 pays (t.stamp q b) with
    | some t => t.complete g q b
    | none => s))

/-- ACC_RECEIVE (R174, R175): the receive is armed, and partial sums that wait in the stand's ports are added. -/
def execAccReceive (g : GroveId) (s : State) : Host.Outcome State Fault Refusal :=
  .next (s.runStage g stAccum 2 costAccum (fun q s =>
    let x := s.grove g
    (s.setGrove g { x with receives := x.receives ++ [{ item := q, left := accCount q.desc }] }).drainHeld g))

/-- ACC_STORE (R133, R174): 16 bytes each, sign-extended. -/
def execAccStore (g : GroveId) (s : State) : Host.Outcome State Fault Refusal :=
  .next (s.runStage g stAccum 3 costAccum (fun q s =>
    let d := q.desc
    let bs := (s.accInts g d).flatMap (fun a => bytesLE 16 (unsigned 128 a))
    (s.setLineBytes g (fieldOf d 156 173) bs).complete g q (400 + 18 * ceilDiv (accCount d) 4)))

/-! ## Deck operations (R192) -/

/-- DECK_FILL (R192). -/
def execDeckFill (g : GroveId) (s : State) : Host.Outcome State Fault Refusal :=
  .next (s.runStage g stDeck 0 costStage (fun q s =>
    let n := fieldOf q.desc 146 163 + 1
    let pat := s.line g (fieldOf q.desc 164 181)
    (s.each (upTo n) (fun s k => s.setLineBytes g (fieldOf q.desc 128 145 + k) pat)).complete g q (400 + 18 * n)))

/-- DECK_COPY (R192). -/
def execDeckCopy (g : GroveId) (s : State) : Host.Outcome State Fault Refusal :=
  .next (s.runStage g stDeck 1 costStage (fun q s =>
    let n := fieldOf q.desc 146 163 + 1
    (s.each (upTo n) (fun s k =>
      s.setLineBytes g (fieldOf q.desc 128 145 + k) (s.line g (fieldOf q.desc 164 181 + k)))).complete g q (400 + 36 * n)))

end Sys2Proof.Machine
end

