-- ==== Sys2Proof/Machine/Finisher.lean ====
section
/-! DEFINITION. The finisher, step reports, norm watch, commits, and scale events (R138 to R160, R176 to R178). -/

namespace Sys2Proof.Machine

/-! ## Fields (R176) -/

def finCount (d : Descriptor) : Nat := fieldOf d 142 153 + 1
def finFormat (d : Descriptor) : Nat := fieldOf d 172 175
def finFunction (d : Descriptor) : Nat := fieldOf d 176 181
def finSlot (d : Descriptor) : Nat := fieldOf d 224 229

/-! ## Functions on bfloat16 results (R177) -/

/-- round() to bfloat16. -/
def rb (v : Ex) : Nat := toBf16 v

/-- max(x, 0), +0 for a zero of either sign (log 69). -/
def reluBf (x : Nat) : Nat := if (bf16Ex x).num ≤ 0 then 0 else x

/-- x × σ(x) or x × Φ(x), rounded. -/
def gateBf (phi : Bool) (x : Nat) : Nat := rb ((bf16Ex x).mul (bf16Ex (if phi then phiBf (bf16Ex x) else sigmaBf (bf16Ex x))))

/-- The gated functions: columns split in halves a, b. -/
def gatedBf (phi : Bool) (xs : List Nat) : List Nat :=
  let n := xs.length / 2
  ((xs.take n).zip (xs.drop n)).map (fun p => rb ((bf16Ex (gateBf phi p.1)).mul (bf16Ex p.2)))

/-- rsqrt of a mean of squares plus ε, as bfloat16; a sum that is not positive has no reciprocal root (it becomes an infinity). -/
def rsqrtMean (sq : Ex) (n : Nat) (eps : Nat) : Nat :=
  let m := (sq.divNat n).add (bf16Ex eps)
  if m.num ≤ 0 then 0x7F80 else rsqrtBf m

/-- RMS norm. -/
def rmsBf (xs gamma : List Nat) (eps : Nat) : List Nat :=
  let g := rsqrtMean (Ex.sum (xs.map (fun x => (bf16Ex x).mul (bf16Ex x)))) xs.length eps
  if g = 0x7F80 then xs.map (fun _ => 0x7F80) else
  xs.zipIdx.map (fun p => rb ((bf16Ex (rb ((bf16Ex p.1).mul (bf16Ex g)))).mul (bf16Ex (gamma.getD p.2 0))))

/-- Layer norm. -/
def layerNormBf (xs gamma beta : List Nat) (eps : Nat) : List Nat :=
  let n := xs.length
  let mu := (Ex.sum (xs.map bf16Ex)).divNat n
  let ds := xs.map (fun x => (bf16Ex x).add mu.neg)
  let g := rsqrtMean (Ex.sum (ds.map (fun v => v.mul v))) n eps
  if g = 0x7F80 then xs.map (fun _ => 0x7F80) else
  ds.zipIdx.map (fun p =>
    rb (((bf16Ex (rb ((bf16Ex (rb p.1)).mul (bf16Ex g)))).mul (bf16Ex (gamma.getD p.2 0))).add (bf16Ex (beta.getD p.2 0))))

/-- Rotary rotation of pairs with (c, s) pairs. -/
def rotaryBf (xs cs : List Nat) : List Nat :=
  (upTo (xs.length / 2)).flatMap (fun k =>
    let x0 := bf16Ex (xs.getD (2 * k) 0)
    let x1 := bf16Ex (xs.getD (2 * k + 1) 0)
    let c := bf16Ex (cs.getD (2 * k) 0)
    let s := bf16Ex (cs.getD (2 * k + 1) 0)
    [rb ((x0.mul c).add (x1.mul s).neg), rb ((x0.mul s).add (x1.mul c))])

/-- The parts of the aux area: `n` bfloat16 each, every part from a line boundary. -/
def State.auxPart (s : State) (g : GroveId) (line part n : Nat) (sizes : List Nat) : List Nat :=
  let at_ := line + ((sizes.take part).map (fun k => linesOf (2 * k))).sum
  (chunks 2 (n + 1) (s.lineBytes g at_ (2 * n))).map fromLE

/-- Numbers of bfloat16 in the aux parts of a function over `n` columns. -/
def auxSizes (fn n : Nat) : List Nat :=
  match fn with
  | 6 => [n, n, 1]
  | 7 => [n, n, n, 1]
  | 8 => [n, n]
  | 9 => [n, n]
  | _ => [n]

/-- A function of R177 on the bfloat16 results, with its aux operands. -/
def State.finApply (s : State) (g : GroveId) (d : Descriptor) (xs : List Nat) : List Nat :=
  let n := xs.length
  let fn := finFunction d
  let part (k m : Nat) : List Nat := s.auxPart g (fieldOf d 182 199) k m (auxSizes fn n)
  match fn with
  | 1 => xs.map reluBf
  | 2 => xs.map (gateBf true)
  | 3 => xs.map (gateBf false)
  | 4 => gatedBf false xs
  | 5 => gatedBf true xs
  | 6 => rmsBf xs (part 1 n) ((part 2 1).headD 0)
  | 7 => layerNormBf xs (part 1 n) (part 2 n) ((part 3 1).headD 0)
  | 8 => rotaryBf xs (part 1 n)
  | 9 => (xs.zip (part 1 n)).map (fun p => rb ((bf16Ex p.1).add (bf16Ex p.2)))
  | _ => xs

/-- Is every code of a list a finite bfloat16? -/
def allFinite (xs : List Nat) : Bool := xs.all (fun x => (FFmt.bf16.decode x).finite)

/-! ## Rounding (R138, R145, R147) -/

/-- The inputs of the counter hash that a descriptor's sequence gives: seed, model, sequence key. -/
def State.hashOf (s : State) (tag : Nat) (i : Nat) : BitVec 64 × BitVec 32 × BitVec 64 :=
  let x := (s.image tag).map (fun x => x.file)
  (BitVec.ofNat 64 ((x.map (fun f => f.hdr 16 8)).getD 0), BitVec.ofNat 32 ((x.map (fun f => f.hdr 12 4)).getD 0), (s.seq i).entry.key)

/-- The first position of a sequence's step: that of the step in flight, else the next position to commit. -/
def State.stepPos (s : State) (i : Nat) : Nat :=
  match (s.seq i).inFlight with
  | some f => f.pos
  | none => (s.seq i).entry.length

/-- Rounding of element `e` of a finisher result: stochastic under use 3 when the descriptor says so (R147;
DEDUCED: log 60). -/
def State.finRound (s : State) (d : Descriptor) (e : Nat) : Rounding :=
  if !bit d.toNat 231 then .nearestEven else
  let h := s.hashOf (descTag d) (descSeq d)
  .stochastic (counterHash h.1 h.2.1 h.2.2 (BitVec.ofNat 32 (s.stepPos (descSeq d))) (BitVec.ofNat 16 (descLayer d))
    (BitVec.ofNat 32 e) 3)

/-! ## The read-out window (R139 to R142) -/

/-- The short limit of an item below S (R139). -/
def shortBelow (fmt : Nat) : Int :=
  if isMx fmt then 31 else
  match fmt with
  | 6 => 59 | 7 => 60 | 9 => 52 | _ => 55

/-- The largest exponent of an item's values; none when all are 0. -/
def itemExp (vs : List Ex) : Option Int := let a := amax vs; if a.num = 0 then none else some a.log2

/-- The items of a finisher result: 32-column blocks for an MX result without a function, single columns otherwise (R139). -/
def finItems (fmt fn : Nat) (vs : List Ex) : List (List Ex) :=
  if isMx fmt && fn == 0 then chunks 32 (vs.length + 1) vs else vs.map (fun v => [v])

/-- Clipped and short items of a pass with window top S. -/
def repairsOf (lim : Int) (es : List (Option Int)) (top : Int) : Nat × Nat :=
  es.foldl (fun (a : Nat × Nat) e => match e with
    | some x => if top < x then (a.1 + 1, a.2) else if x < top - lim then (a.1, a.2 + 1) else a
    | none => a) (0, 0)

/-- The items of a streaming pass up to and including the one whose repair exceeds the limit (R141). -/
def untilLimit (lim : Int) (top : Int) (limit : Nat) : List (Option Int) → Nat → List (Option Int)
  | [], _ => []
  | e :: r, n =>
    let bad := match e with
      | some x => decide (top < x ∨ x < top - lim)
      | none => false
    let n' := if bad then n + 1 else n
    if limit < n' then [e] else e :: untilLimit lim top limit r n'

/-- The passes of a layer step's finish: repairs are counted, and a streaming pass beyond repair_limit is a finishing-kind event, after
which the step finishes in two passes (R140 to R142). The result is the same whatever the passes. Answers whether items were repaired. -/
def State.finPasses (s : State) (g : GroveId) (d : Descriptor) (es : List (Option Int)) (fmt : Nat) : State × Bool :=
  let lim := shortBelow fmt
  let hist := tblGet (s.grove g).history (descTag d, finSlot d) []
  let top := es.foldl (fun m e => match m, e with
    | some a, some b => some (max a b)
    | none, e => e
    | m, none => m) (none : Option Int)
  let two (s : State) : State × Bool :=
    match top with
    | none => (s, false)
    | some t => let c := repairsOf lim es t; (s.numCount g 3 c.2, decide (0 < c.2))
  if s.lockstep || bit d.toNat 230 || s.replaying g d || decide (hist.length < 16) then two s else
  let t := hist.foldl max (hist.headD 0)
  let c := repairsOf lim es t
  let limit := fieldOf d 200 207
  if c.1 + c.2 ≤ limit then ((s.numCount g 2 c.1).numCount g 3 c.2, decide (0 < c.1 + c.2))
  else
    let u := repairsOf lim (untilLimit lim t limit es 0) t
    let s := ((s.numCount g 2 u.1).numCount g 3 u.2).numCount g 4 1
    let s := s.gvEv gvEvent_scaleEvent g.num
    ((two s).1, true)

/-! ## Finish -/

/-- The lead grove of a layer of an image (R148, R178): its logical stand and grove under the placement in force. -/
def State.leadOf (s : State) (tag layer : Nat) : Option GroveId :=
  match s.image tag, (s.layers tag)[layer]? with
  | some x, some l => some (groveOf (x.physical (l.lead / 16)) (l.lead % 16))
  | _, _ => none

/-- Send a step report to the layer's lead grove (R178); a lead that reports keeps it on its own grove. -/
def State.sendReport (s : State) (g : GroveId) (d : Descriptor) (e : Option Int) (repaired fault : Bool) : State :=
  if !bit d.toNat 247 then s else
  let r : StepReport := {
    key := descKey d, grove := g, e := e, repaired := repaired, numericFault := fault
    ctr := Fin.ofNat 64 (fieldOf d 241 246), expected := if bit d.toNat 232 then fieldOf d 233 240 else 0 }
  let dest := if bit d.toNat 232 then some g else s.leadOf (descTag d) (descLayer d)
  match dest with
  | some l => s.emit (.report l r)
  | none => s

/-- The largest e of a grove's layer step, kept until the step commits (R140). -/
def State.noteE (s : State) (g : GroveId) (d : Descriptor) (e : Option Int) : State :=
  match e with
  | none => s
  | some v =>
    let x := s.grove g
    let old := (tblFind x.pendingE (descKey d)).map (fun p => p.2)
    s.setGrove g { x with pendingE := tblSet x.pendingE (descKey d) (finSlot d, max v (old.getD v)) }

/-- Items of a finisher descriptor, for its lockstep budget. -/
def finItemCount (d : Descriptor) : Nat :=
  if isMx (finFormat d) && finFunction d == 0 then ceilDiv (finCount d) 32 else finCount d

/-- A finisher descriptor (R138, R176): each exact value u is rounded once to the destination, or to bfloat16 for a function whose result
is converted once more. A value that is not finite ends the step (R129). -/
def State.finish (s : State) (g : GroveId) (q : QItem) : State :=
  let d := q.desc
  let n := finCount d
  let fmt := finFormat d
  let fn := finFunction d
  let budget := 1000 + 25 * n + 552 * finItemCount d
  let scale := s.auxPart g (fieldOf d 182 199) 0 n [n]
  let aux := ((auxSizes fn n).zipIdx.drop 1).flatMap (fun p => s.auxPart g (fieldOf d 182 199) p.2 p.1 (auxSizes fn n))
  let bad (s : State) : State := ((s.complete g q budget).sendReport g d none false true).numericFault g d
  if !allFinite scale || !allFinite aux then bad s else
  let grid := s.raisedFloor g d (signed 8 (fieldOf d 216 223)) + signed 8 (fieldOf d 208 215)
  let us := scale.zipIdx.map (fun p => (Ex.dy (s.acc g (fieldOf d 128 141 + p.2)).toInt grid).mul (bf16Ex p.1))
  let es := (finItems fmt fn us).map itemExp
  let a := s.finPasses g d es (if fn = 0 then fmt else 8)
  let s := a.1
  let e := itemExp us
  let out : Option (List Byte) :=
    if fn = 0 then some (encodeVector fmt us (s.finRound d))
    else
      let first (k : Nat) : Rounding := if fmt = 8 then s.finRound d k else .nearestEven
      let xs := us.zipIdx.map (fun p => match first p.2 with
        | .nearestEven => toBf16 p.1
        | .stochastic r => FFmt.bf16.encodeSat p.1 (.stochastic r))
      let ys := if allFinite xs then s.finApply g d xs else [0x7F80]
      if !allFinite ys then none
      else if fmt = 8 then some (ys.flatMap (bytesLE 2))
      else some (encodeVector fmt (ys.map bf16Ex) (s.finRound d))
  match out with
  | none => bad s
  | some bs =>
    if (isMx fmt || fn != 0) || (decodeVector fmt us.length bs).isSome then
      let s := s.setLineBytes g (fieldOf d 154 171) bs
      ((s.noteE g d e).complete g q budget).sendReport g d e a.2 false
    else bad s

/-- FINISH (R176). -/
def execFinish (g : GroveId) (s : State) : Host.Outcome State Fault Refusal :=
  .next (s.runStage g stFinisher 0 costStage (fun q s => s.finish g q))

/-! ## Norm watch (R148 to R156) -/

/-- The norm record of a layer in the region head (R259): center and valid; none where the head page is not mapped. -/
def State.normRecord (s : State) (i layer : Nat) : Option (Int × Bool) :=
  (s.placeOf (s.pageEntry i 0)).map (fun p =>
    let v := fromLE (s.placeRead p (4 * layer) 4)
    (signed 16 v, bit v 16))

/-- The state with a norm record written. -/
def State.setNorm (s : State) (i layer : Nat) (m : Int) : State :=
  match s.placeOf (s.pageEntry i 0) with
  | some p => s.placeWrite p (4 * layer) (bytesLE 4 (unsigned 16 m + 2 ^ 16))
  | none => s

/-- What norm watch decides for N (R150 to R152, R156): the new center, or a jump. -/
def normWatch (rec_ : Int × Bool) (n : Int) (replay : Bool) : Option Int :=
  if !rec_.2 then some (16 * n)
  else
    let d := 16 * n - rec_.1
    if -48 ≤ d ∧ d ≤ 48 then some (rec_.1 + d / 8)
    else if replay then some (16 * n) else none

/-- The reports of a step at its lead grove. -/
def State.reportsOf (s : State) (lead : GroveId) (k : StepKey) : List StepReport := tblGet (s.grove lead).reports k []

/-- A layer step commits at its lead grove (R178, R158, R238): a commit goes to every reporting grove; a replay sets its provenance bit
and journal record. -/
def State.commitLayer (s : State) (lead : GroveId) (k : StepKey) : State :=
  let rs := s.reportsOf lead k
  let x := s.grove lead
  let replayed := x.events.any (fun e => decide (e.key = k) && e.released.isSome)
  let s := s.setGrove lead { x with reports := tblErase x.reports k }
  let s := if s.lockstep then s else s.provBits (some k.seq) 4
  let s := if replayed then
      (s.provBits (some k.seq) 8).journalRec lead.stand.val 0x0021 k.tag 0xFFFF k.seq (k.layer * 2 ^ 8 + k.step * 2 ^ 32)
    else s
  s.each rs (fun s r => s.emit (.commit r.grove k r.ctr))

/-- All reports of a step are in (R178): norm watch on the largest e, then the commit or an output-side scale event. A step whose
output is all 0 has no exponent, and N is a free value (log 61). -/
def State.allReported (s : State) (lead : GroveId) (k : StepKey) : State :=
  let rs := s.reportsOf lead k
  if rs.any (fun r => r.numericFault) then
    let x := s.grove lead
    s.setGrove lead { x with reports := tblErase x.reports k }
  else
  let es := rs.filterMap (fun r => r.e)
  let a : Int × State := match es with
    | e :: r => (r.foldl max e, s)
    | [] => let f := s.free 12; (f.1.toInt, f.2)
  let s := a.2
  let ev := (s.grove lead).events.find? (fun e => decide (e.key = k))
  let replay := match ev with
    | some e => e.released.isSome
    | none => false
  match s.normRecord k.seq k.layer with
  | none => s.commitLayer lead k
  | some r =>
    match normWatch r a.1 replay with
    | some m => (s.setNorm k.seq k.layer m).commitLayer lead k
    | none => (s.numCount lead 6 1).raiseScale lead k .output 0

/-- STEP_REPORT (R178): a report reaches the lead grove. Those of a run that a scale event has abandoned are ignored (R201). -/
def execStepReport (lead : GroveId) (rep : StepReport) (s : State) : Host.Outcome State Fault Refusal :=
  .next (
    let x := s.grove lead
    let k := rep.key
    if !s.groveOn lead || x.events.any (fun e => decide (e.key = k) && e.released.isNone) then s else
    let rs := s.reportsOf lead k
    if rs.any (fun r => decide (r.grove = rep.grove) && r.ctr == rep.ctr) then s else
    let rs := rs ++ [rep]
    let s := s.setGrove lead { x with reports := tblSet x.reports k rs }
    let want := (rs.map (fun r => r.expected)).foldl max 0
    if 0 < want ∧ want ≤ rs.length then s.allReported lead k else s)

/-- COMMIT (R178, R140): the commit counter named in the grove's report advances, and the finishing history takes the step's e. -/
def execCommit (g : GroveId) (key : StepKey) (ctr : Fin 64) (s : State) : Host.Outcome State Fault Refusal :=
  .next (
    let x := s.grove g
    let hist := match tblFind x.pendingE key with
      | some (slot, e) =>
        let h := tblGet x.history (key.tag, slot) [] ++ [e]
        tblSet x.history (key.tag, slot) (h.drop (h.length - 16))
      | none => x.history
    let s := s.setGrove g { x with
      pendingE := tblErase x.pendingE key, history := hist, events := x.events.filter (fun e => e.key ≠ key) }
    s.addCounter g ctr.val 1)

/-- COMMIT_TIMEOUT (R178, R216): reports are missing; the lead reports the step, and the image is faulted. -/
def execCommitTimeout (lead : GroveId) (key : StepKey) (s : State) : Host.Outcome State Fault Refusal :=
  .next (
    if (s.reportsOf lead key).isEmpty then s else
    let s := (s.gvEv gvEvent_commitTimeout lead.num).emit (.firmware 1 lead.num key.step)
    let x := s.grove lead
    (s.setGrove lead { x with reports := tblErase x.reports key }).faultImage key.tag true)

/-! ## Scale events (R154 to R160) -/

/-- SCALE_EVENT_ANNOUNCE (R159): a grove of the layer stops issuing for the step, and its arrival carries its largest X_nat. -/
def execScaleEventAnnounce (g : GroveId) (ev : StepKey) (kind : ScaleKind) (xnat : Int) (s : State) :
    Host.Outcome State Fault Refusal :=
  .next (
    if !s.groveOn g || decide (ev.seq ∈ (s.grove g).felled) then s else
    let s := s.keepEvent g ev kind xnat
    let x := s.grove g
    let s := s.setGrove g { x with events := x.events.map (fun e => if e.key = ev then { e with xnat := max e.xnat xnat } else e) }
    s.emit (.hrWord 2 ⟨3, g.stand.val, 0, s.road.frame, s.road.slot, true, scaleWord ev kind xnat⟩))

/-- Queued descriptors of the scaler and of tile dispatch that a release drops (R201). -/
def State.dropStep (s : State) (g : GroveId) (k : StepKey) : State :=
  s.each [stScaler, stDispatch] (fun s st =>
    let hit (q : QItem) : Bool := descSeqValid q.desc && decide (descKey q.desc = k)
    let q := (s.grove g).queue st
    (s.setQueue g st (q.filter (fun i => !hit i))).each (q.filter hit) (fun s i => s.complete g i 0))

/-- SCALE_EVENT_RELEASE (R154, R155, R157, R201): the step is replayed, with the raised floor for an input-side event; each step at most
once. A felled sequence's event ends (R160). -/
def execScaleEventRelease (g : GroveId) (ev : StepKey) (xmax : Int) (s : State) : Host.Outcome State Fault Refusal :=
  .next (
    let x := s.grove g
    match x.events.find? (fun e => decide (e.key = ev)) with
    | none => s
    | some e =>
      if e.released.isSome then s
      else if ev.seq ∈ x.felled then s.setGrove g { x with events := x.events.filter (fun e => e.key ≠ ev) }
      else
        let f : Int := if e.kind = .input then xmax - 37 else -128
        let s := s.setGrove g { x with
          events := x.events.map (fun y => if y.key = ev then { y with released := some f } else y)
          reports := tblErase x.reports ev, pendingE := tblErase x.pendingE ev }
        let s := ((s.dropStep g ev).numCount g 7 1).gvEv gvEvent_replay g.num
        if s.lockstep then s.slip g.stand g.grove.val 2 (some ev.seq) else s)

end Sys2Proof.Machine
end

