-- ==== Sys2Proof/Machine/Attention.lean ====
section
/-! DEFINITION. Score engines, softmax unit and skidder: attention records and their combination, KV append, and the moves of accepted
tree rows (R179 to R183, R196 to R198, R267, R294). -/

namespace Sys2Proof.Machine

/-! ## Rows of the KV region -/

/-- Walk the page list for the lines of a row through the grove's translation cache (R196): its bytes, or none at an invalid page. -/
def State.walkRow (s : State) (g : GroveId) (i layer : Nat) (isV : Bool) (pos : Nat) : Option (List Byte) × State :=
  let e := (s.seq i).entry
  let lines := rowLines (s.layers e.imageTag) e.maxLen layer isV pos
  let pages := (lines.map (fun p => p.1)).eraseDups
  let w := pages.foldl (fun (a : Tbl Nat (Option Place) × State) p =>
    let r := a.2.xlate g i p
    (a.1 ++ [(p, r.2.placeOf r.1)], r.2)) (([] : Tbl Nat (Option Place)), s)
  ((lines.mapM (fun p => (tblGet w.1 p.1 none).map (fun pl => w.2.placeRead pl p.2 64))).map List.flatten, w.2)

/-- The layer record that a descriptor names. -/
def State.layerRec (s : State) (d : Descriptor) : LayerRec :=
  (s.layers (descTag d)).getD (descLayer d) ⟨0, 0, 0, 0, 0, 0, 0, 0, [], []⟩

/-- Rounding of element `e` of a K or V row (R147, uses 1 and 2). -/
def State.kvRound (s : State) (tag i layer : Nat) (isV : Bool) (pos e : Nat) : Rounding :=
  let h := s.hashOf tag i
  .stochastic (counterHash h.1 h.2.1 h.2.2 (BitVec.ofNat 32 pos) (BitVec.ofNat 16 layer) (BitVec.ofNat 32 e) (if isV then 2 else 1))

/-- A row of bfloat16 elements in its stored form; none where an element is not finite (R129). -/
def State.packRow (s : State) (tag i layer : Nat) (isV : Bool) (pos fmt : Nat) (xs : List Nat) : Option (List Byte) :=
  if allFinite xs then some (encodeVector fmt (xs.map bf16Ex) (s.kvRound tag i layer isV pos)) else none

/-- A fresh row of bfloat16 in the deck. -/
def State.freshRow (s : State) (g : GroveId) (line n : Nat) : List Nat :=
  (chunks 2 (n + 1) (s.lineBytes g line (2 * n))).map fromLE

/-- Exact values of the blocks of one head of a stored row. -/
def headValues (fmt blocks head dim : Nat) (bs : List Byte) : Option (List Ex) :=
  (((mxParse fmt blocks bs).drop (head * dim)).take dim).mapM (fun p => mxUnpack fmt p.1 p.2) |>.map List.flatten

/-- The KV head that a query head reads: heads of an item spread evenly over the layer's KV heads (PRESUMED, log 56). -/
def kvHeadOf (heads kvHeads h : Nat) : Nat := if heads ≤ kvHeads then h else h * kvHeads / heads

/-! ## Score items (R179 to R181) -/

/-- The grid of z: 10 fraction bits, clamped to ±(2^21 − 2^−10), and whether it was clamped (R180). -/
def scoreZ (d c : Ex) : Int × Bool :=
  let k := (d.mul c).roundGrid (-10) .nearestEven
  let m : Int := 2 ^ 31 - 1
  if m < k then (m, true) else if k < -m then (-m, true) else (k, false)

/-- M, L, O and the clipped items of one query and head over its unmasked positions: (z, values of V) (R180). -/
def scoreHead (gExp : Int) (dims : Nat) (zs : List ((Int × Bool) × List Ex)) : Int × Nat × List Int × Nat :=
  match zs with
  | [] => (-(2 ^ 31), 0, List.replicate dims 0, 0)
  | _ =>
    let ceil (k : Int) : Int := -((-k) / 1024)
    let top := (zs.map (fun z => ceil z.1.1)).foldl max (ceil (zs.headD ((0, false), [])).1.1)
    let ps := zs.map (fun z => (pow2Near (z.1.1 - 1024 * top + 24 * 1024), z.2))
    (top, (ps.map (fun p => p.1)).sum,
     (upTo dims).map (fun d => (ps.map (fun p => ((Ex.ofInt p.1).mul (p.2.getD d (Ex.ofInt 0))).floorGrid gExp)).sum),
     (zs.filter (fun z => z.1.2)).length)

/-- A stat line: M as 32 bits, 4 zeros, L as 64 bits, zeros (R181). -/
def statLine (m : Int) (l : Nat) : List Byte := bytesLE 4 (unsigned 32 m) ++ bytesLE 4 0 ++ bytesLE 8 l ++ List.replicate 48 0

/-- K and V rows of the positions of an item: below q_pos from the region, the rest fresh (R267). None at an invalid page or for a value
that is not finite, told apart by the flag of the answer. -/
def State.itemRows (s : State) (walker owner : GroveId) (d : Descriptor) (positions : List Nat) :
    Option (List (List Byte × List Byte)) × Bool × State :=
  let f := fieldOf d
  let i := descSeq d
  let l := s.layerRec d
  let n := l.kvHeads * l.dimBlocks * 32
  let rowL := linesOf (2 * n)
  let fresh := f 128 145 + scoreQueries d * queryLines (f 243 246) (scoreHeads d) (scoreDim d)
  positions.foldl (fun (a : Option (List (List Byte × List Byte)) × Bool × State) p =>
    match a.1 with
    | none => a
    | some rows =>
      let s := a.2.2
      if p < f 184 203 then
        let k := s.walkRow walker i (descLayer d) false p
        match k.1 with
        | none => (none, false, k.2)
        | some kb =>
          let v := k.2.walkRow walker i (descLayer d) true p
          match v.1 with
          | none => (none, false, v.2)
          | some vb => (some (rows ++ [(kb, vb)]), false, v.2)
      else
        let at_ := fresh + 2 * (p - f 184 203) * rowL
        match s.packRow (descTag d) i (descLayer d) false p (f 247 250) (s.freshRow owner at_ n),
            s.packRow (descTag d) i (descLayer d) true p (f 247 250) (s.freshRow owner (at_ + rowL) n) with
        | some kb, some vb => (some (rows ++ [(kb, vb)]), false, s)
        | _, _ => (none, true, s)) (some [], false, s)

/-- Is a position unmasked for query `j` (R179)? -/
def State.unmasked (s : State) (g : GroveId) (d : Descriptor) (maskLine j p : Nat) : Bool :=
  let q := fieldOf d 184 203
  match fieldOf d 217 218 with
  | 0 => decide (p ≤ q + j)
  | 1 => decide (p < q) || bit (fromLE (s.deckRead g (64 * maskLine + 8 * j) 8)) (p - q)
  | _ => true

/-- A score item of `owner`'s queue on an engine of `walker` (R179 to R181, R198): the record goes to the owner's deck. -/
def State.score (s : State) (walker owner : GroveId) (q : QItem) : State :=
  let d := q.desc
  let f := fieldOf d
  let nq := scoreQueries d
  let nh := scoreHeads d
  let nd := scoreDim d
  let budget := 8000 + ceilDiv (2465 * nq * nh * nd) 4
  let l := s.layerRec d
  let first := f 164 183
  let last := min (first + 255) (f 184 203 + nq - 1)
  let positions := (upTo 256).filterMap (fun k => if first + k ≤ last then some (first + k) else none)
  let r := s.itemRows walker owner d positions
  let s := r.2.2
  match r.1 with
  | none => if r.2.1 then (s.complete owner q budget).numericFault owner d else (s.complete owner q budget).pageInvalid walker d
  | some rows =>
    let kvf := f 247 250
    let kvBlocks := l.kvHeads * l.dimBlocks
    let maskLine := f 128 145 + nq * queryLines (f 243 246) nh nd + 2 * nq * linesOf (64 * l.kvHeads * l.dimBlocks)
    let c := bf16Ex (f 227 242)
    let qs := (upTo nq).map (fun j =>
      s.lineBytes owner (f 128 145 + j * queryLines (f 243 246) nh nd) (64 * queryLines (f 243 246) nh nd))
    let cell (j h : Nat) : Option (Int × Nat × List Int × Nat) := do
      let qv ← headValues (f 243 246) (nh * nd) h nd (qs.getD j [])
      let zs ← ((positions.zip rows).filter (fun p => s.unmasked owner d maskLine j p.1)).mapM (fun p => do
        let kv ← headValues kvf kvBlocks (kvHeadOf nh l.kvHeads h) nd p.2.1
        let vv ← headValues kvf kvBlocks (kvHeadOf nh l.kvHeads h) nd p.2.2
        return (scoreZ (Ex.sum ((qv.zip kv).map (fun e => e.1.mul e.2))) c, vv))
      return scoreHead (signed 8 (f 219 226)) (32 * nd) zs
    match ((upTo nq).flatMap (fun j => (upTo nh).map (fun h => (j, h)))).mapM (fun p => cell p.1 p.2) with
    | none => (s.complete owner q budget).numericFault owner d
    | some cs =>
      let s := s.numCount walker 2 ((cs.map (fun c => c.2.2.2)).sum)
      let bs := cs.flatMap (fun c => statLine c.1 c.2.1 ++ c.2.2.1.flatMap (fun o => bytesLE 16 (unsigned 128 o)))
      (s.setLineBytes owner (f 146 163) bs).complete owner q budget

/-- SCORE_ITEM (R180): an engine of the grove takes the item at the head of its own queue. -/
def execScoreItem (g : GroveId) (_engine : Fin 32) (s : State) : Host.Outcome State Fault Refusal :=
  .next (s.runStage g stScore 0 costEngine (fun q s => s.score g g q))

/-- The groves of a stand in the order in which a thief probes them (R198). -/
def probeOrder (g : GroveId) : List GroveId := (upTo 15).map (fun k => ⟨g.stand, Fin.ofNat 16 (g.grove.val + 1 + k)⟩)

/-- SCORE_ITEM_STEAL (R198, R200): an idle engine takes the last item of the first queue of its stand that holds more than steal_min
items of its image. -/
def execScoreItemSteal (g : GroveId) (_engine : Fin 32) (s : State) : Host.Outcome State Fault Refusal :=
  .next (
    let tag := s.get gvStatus_imageTag g.num
    if s.lockstep || !s.on gvCtrl_attnStealEn g.num || !s.groveOn g || s.heldOn g.stand.val
        || s.on pwStandStatus_elecThin g.stand.val || !((s.grove g).queue stScore).isEmpty then s else
    match (probeOrder g).find? (fun v => decide (s.get gvCtrl_stealMin g.num <
        (((s.grove v).queue stScore).filter (fun q => descTag q.desc = tag)).length)) with
    | none => s
    | some v =>
      let queue := (s.grove v).queue stScore
      match queue.reverse.find? (fun q => descTag q.desc = tag) with
      | none => s
      | some q =>
        if !s.mayStart v q || !s.meterAllows g.stand.val costEngine then s else
        let t := s.setQueue v stScore (queue.reverse.erase q).reverse
        let t := (t.wrapUp gvStealCount_itemsIn g.num).wrapUp gvStealCount_itemsOut v.num
        if s.isFelled g q.desc then t.cancelDrop v q 0
        else if !descOk q.desc then t.descError v q
        else t.score g v q)

/-! ## Softmax unit (R182) -/

/-- One chunk's record of a query and head: M, L and the O values. -/
def State.readRecord (s : State) (g : GroveId) (line dim : Nat) : Int × Nat × List Int :=
  let bs := s.lineBytes g line (64 * (1 + 8 * dim))
  (signed 32 (fromLE (bs.take 4)), fromLE ((bs.drop 8).take 8),
   (upTo (32 * dim)).map (fun k => signed 128 (fromLE ((bs.drop (64 + 16 * k)).take 16))))

/-- The combination of the records of one query and head: M, L and O (R182). -/
def combine (dims : Nat) (rs : List (Int × Nat × List Int)) : Int × Nat × List Int :=
  let live := rs.filter (fun r => r.2.1 ≠ 0)
  match live with
  | [] => (-(2 ^ 31), 0, List.replicate dims 0)
  | r :: _ =>
    let m := (live.map (fun r => r.1)).foldl max r.1
    (m, (live.map (fun r => r.2.1 / 2 ^ (m - r.1).toNat)).sum,
     (upTo dims).map (fun d => (live.map (fun r => r.2.2.getD d 0 / (2 : Int) ^ (m - r.1).toNat)).sum))

/-- A softmax descriptor (R182). -/
def State.softmax (s : State) (g : GroveId) (q : QItem) : State :=
  let d := q.desc
  let f := fieldOf d
  let nc := f 146 157 + 1
  let nq := softQueries d
  let nh := softHeads d
  let nd := softDim d
  let fmt := f 176 179
  let gExp := signed 8 (f 212 219)
  let one := 1 + 8 * nd
  let cell (j h : Nat) : Int × Nat × List Int :=
    combine (32 * nd) ((upTo nc).map (fun c =>
      s.readRecord g (f 128 145 + c * recordLines nq nh nd + (j * nh + h) * one) nd))
  let cells := (upTo nq).map (fun j => (upTo nh).map (fun h => cell j h))
  let t := s.each cells.zipIdx (fun s p =>
    let vs := p.1.flatMap (fun c => c.2.2.map (fun o =>
      if c.2.1 = 0 then Ex.ofInt 0 else ((Ex.ofInt o).mul (Ex.dy 1 gExp)).divNat c.2.1))
    let n := queryLines fmt nh nd
    s.setLineBytes g (f 158 175 + p.2 * n) (padTo (64 * n) (encodeVector fmt vs (fun _ => .nearestEven))))
  let t := if bit d.toNat 198 then
      t.setLineBytes g (f 180 197) (cells.flatMap (fun r => r.flatMap (fun c => statLine c.1 c.2.1)))
    else t
  t.complete g q (600 + 120 * nc * nq * nh * nd)

/-- SOFTMAX (R182). -/
def execSoftmax (g : GroveId) (s : State) : Host.Outcome State Fault Refusal :=
  .next (s.runStage g stSoftmax 0 costStage (fun q s => s.softmax g q))

/-! ## Skidder (R183, R268, R294) -/

/-- Store a row of a position through the page list and the grove's translation cache; none at an invalid page. -/
def State.storeRow (s : State) (g : GroveId) (i layer : Nat) (isV : Bool) (pos : Nat) (bs : List Byte) : Option State :=
  let w := s.walkRow g i layer isV pos
  w.1.map (fun _ => w.2.setKvRow i layer isV pos bs)

/-- Append positions from new rows in the deck, K then V for each position (R183; log 62). -/
def State.appendKv (s : State) (g : GroveId) (q : QItem) : State :=
  let d := q.desc
  let f := fieldOf d
  let n := f 166 172 + 1
  let heads := f 177 180 + 1
  let nd := f 181 183 + 1
  let elems := heads * nd * 32
  let rowL := linesOf (2 * elems)
  let i := descSeq d
  let budget := 8000 + 200 * n * heads * nd
  if !linesIn (f 128 145) (2 * n * rowL) then s.descError g q else
  let r := (upTo n).foldl (fun (a : State × Nat) k =>
    if a.2 ≠ 0 then a else
    let s := a.1
    let pos := f 146 165 + k
    let at_ := f 128 145 + 2 * k * rowL
    match s.packRow (descTag d) i (descLayer d) false pos (f 173 176) (s.freshRow g at_ elems),
        s.packRow (descTag d) i (descLayer d) true pos (f 173 176) (s.freshRow g (at_ + rowL) elems) with
    | some kb, some vb =>
      match s.storeRow g i (descLayer d) false pos kb with
      | none => (s, 2)
      | some s =>
        match s.storeRow g i (descLayer d) true pos vb with
        | none => (s, 2)
        | some s => (s, 0)
    | _, _ => (s, 1)) (s, 0)
  let s := r.1.complete g q budget
  match r.2 with
  | 0 => s
  | 1 => s.numericFault g d
  | _ => s.pageInvalid g d

/-- KV_APPEND (R183). -/
def execKvAppend (g : GroveId) (s : State) : Host.Outcome State Fault Refusal :=
  .next (s.runStage g stSkidder 0 costStage (fun q s => s.appendKv g q))

/-- Move the rows of accepted candidates to consecutive positions, in ascending depth (R294): candidate `c` lies at storage position
pos − 1 + c. -/
def State.movePath (s : State) (g : GroveId) (q : QItem) : State :=
  let d := q.desc
  let f := fieldOf d
  let n := f 202 207 + 1
  let i := descSeq d
  let pos := f 146 165
  let path := (s.lineBytes g (f 184 201) n).map (fun b => b.toNat)
  let budget := 8000 + 200 * n * (f 177 180 + 1) * (f 181 183 + 1)
  let r := path.zipIdx.foldl (fun (a : State × Bool) c =>
    if !a.2 then a else
    [false, true].foldl (fun (a : State × Bool) isV =>
      if !a.2 then a else
      let w := a.1.walkRow g i (descLayer d) isV (pos - 1 + c.1)
      match w.1 with
      | none => (w.2, false)
      | some bs =>
        match w.2.storeRow g i (descLayer d) isV (pos + c.2) bs with
        | some s => (s, true)
        | none => (w.2, false)) a) (s, true)
  let s := r.1.complete g q budget
  if r.2 then s else s.pageInvalid g d

/-- KV_PATH_MOVE (R294). -/
def execKvPathMove (g : GroveId) (s : State) : Host.Outcome State Fault Refusal :=
  .next (s.runStage g stSkidder 1 costStage (fun q s => s.movePath g q))

end Sys2Proof.Machine
end

