-- ==== Sys2Proof/Machine/Fabric.lean ====
section
/-! DEFINITION. Commands of the links: flits that arrive, transmission and credits, retry, lane diagnosis, lane sparing, and
link injections (R30 to R43, R175, R193, R195, R474). A flit of another type than its row's does not occur as that row and
has no effect (log 8). -/

namespace Sys2Proof.Machine

/-- DECK_WRITE_FLIT (R193): types 0x1 and 0x3 at their destination, and in TEST the flits of type 0x0 that stand for data and are checked like
it (R473; log 121). -/
def execDeckWriteFlit (p : PortId) (x : Flit) (s : State) : Host.Outcome State Fault Refusal :=
  .next (if x.type = 1 ∨ x.type = 3 ∨ (x.type = 0 ∧ s.service = .test) then s.arrive p x .plain else s)

/-- PARTIAL_SUM_FLIT (R175): type 0x2. -/
def execPartialSumFlit (p : PortId) (x : Flit) (s : State) : Host.Outcome State Fault Refusal :=
  .next (if x.type = 2 then s.arrive p x .plain else s)

/-- RELAY_FLIT (R41, R42): a flit with hops left. -/
def execRelayFlit (p : PortId) (x : Flit) (s : State) : Host.Outcome State Fault Refusal :=
  .next (if x.hopsLeft ≠ 0 then s.arrive p x .plain else s)

/-- HBM_READ_REQUEST (R30): `addr` is the byte address, `line` the requester's deck line, `lines` the lines asked for. -/
def execHbmReadRequest (l : Fin 8) (p : Fin 3) (x : Flit) (addr : Nat) (line : BitVec 18) (lines : Nat) (s : State) :
    Host.Outcome State Fault Refusal :=
  if hbmBytes < addr + 64 * lines then .fault (.hbmAddress addr)
  else .next (if x.type = 4 then s.arrive (.landing l p) x (.hbmRequest addr line.toNat lines) else s)

/-- HBM_READ_DATA (R195): the lines go to the deck line that the request named. -/
def execHbmReadData (p : PortId) (x : Flit) (line : BitVec 18) (bytes : List Byte) (s : State) :
    Host.Outcome State Fault Refusal :=
  .next (if x.type = 5 then s.arrive p x (.hbmData line.toNat bytes) else s)

/-- HBM_WRITE (R195). -/
def execHbmWrite (l : Fin 8) (p : Fin 3) (x : Flit) (addr : Nat) (bytes : List Byte) (s : State) :
    Host.Outcome State Fault Refusal :=
  if hbmBytes < addr + bytes.length then .fault (.hbmAddress addr)
  else .next (if x.type = 6 then s.arrive (.landing l p) x (.hbmWrite addr bytes) else s)

/-- FLIT_TRANSMIT (R35). -/
def execFlitTransmit (p : PortId) (ch : Fin 3) (s : State) : Host.Outcome State Fault Refusal :=
  .next (s.transmit p ch)

/-- CREDIT_RETURN (R35): the transmitter holds one credit more, up to the buffer's depth, and the relay share of the flit that
left is free again (R42). -/
def execCreditReturn (p : PortId) (ch : Fin 3) (s : State) : Host.Outcome State Fault Refusal :=
  let c := (s.port p).chan ch
  let s := s.setChan p ch { c with out := c.out.drop 1 }
  .next (s.put (creditField ch) p.num (min (creditMax ch) (s.get (creditField ch) p.num + 1)))

/-- NAK (R34): the transmitter resends from the failed flit. -/
def execNak (p : PortId) (x : Flit) (ch : Fin 3) (failed : BitVec 8) (s : State) : Host.Outcome State Fault Refusal :=
  .next (if x.type = 8 then s.arrive p x (.nak ch failed.toNat) else s)

/-- DIAGNOSIS_REQUEST (R34): the transmitter sends 1,024 flits of the known pattern. -/
def execDiagnosisRequest (p : PortId) (x : Flit) (s : State) : Host.Outcome State Fault Refusal :=
  .next (if x.type = 8 then s.arrive p x .diagnosis else s)

/-- Logical lanes of a link end: 256 on a skid link, 512 on a landing link (R30, R31). -/
def lanesOf : PortId → Nat
  | .stand _ q => if q.val < 6 then 256 else 512
  | .landing _ _ => 512

/-- Start sparing of a lane at its receiver (R38 step 1): the lowest free spare of that direction is named to the
transmitter. With none free the link goes down when the lane has failed (R40). -/
def State.startSpare (s : State) (p : PortId) (lane : Fin 512) (failed : Bool) : State :=
  if !s.linkUp p || (s.port p).spareRx.isSome || decide (lanesOf p ≤ lane.val) then s else
  match s.freeSpares p .skSpareMapRx with
  | [] => if failed then s.linkDown p else s
  | k :: _ =>
    let spare : Fin 32 := Fin.ofNat 32 k
    let s := s.setPort p { s.port p with spareRx := some (lane, spare) }
    (s.put skStatus_sparingActive p.num 1).sendLink p (.sparing lane spare)

/-- LANE_DIAGNOSIS_DONE (R34): a faulty lane with a free spare is spared and the link resends from the failed flit; otherwise,
with no faulty lane or no free spare, the link goes down. -/
def execLaneDiagnosisDone (p : PortId) (faulty : List (Fin 512)) (s : State) : Host.Outcome State Fault Refusal :=
  .next (
    if !(s.port p).diagnosis then s else
    let s := s.setPort p { s.port p with diagnosis := false }
    match faulty with
    | [] => s.linkDown p
    | k :: rest =>
      if (s.freeSpares p .skSpareMapRx).length ≤ rest.length then s.linkDown p else
      let s := (s.setPort p { s.port p with sparesDue := rest }).startSpare p k true
      s.each (List.finRange 3) (fun s c =>
        if ((s.port p).chan c).discards then s.sendLink p (.nak c ((s.port p).chan c).rxSeq) else s))

/-- LANE_SPARE_START (R38, R40): the threshold is reached and automatic sparing is on. -/
def execLaneSpareStart (p : PortId) (lane : Fin 512) (s : State) : Host.Outcome State Fault Refusal :=
  .next (if s.on skSpareCtrl_autoSpareEn p.num then s.startSpare p lane true else s)

/-- SPARING_FLIT (R38 step 2): the transmitter drives the lane's bits on the spare as well. -/
def execSparingFlit (p : PortId) (lane : Fin 512) (spare : Fin 32) (s : State) : Host.Outcome State Fault Refusal :=
  .next (
    if !s.linkUp p then s else
    (s.setPort p { s.port p with spareTx := some (lane, spare) }).put skStatus_sparingActive p.num 1)

/-- SPARE_COMPARE_DONE (R38 step 4, R39): a retry in progress restarts the comparison; a mismatch on another lane abandons the
sparing and starts a diagnosis; otherwise the receiver switches and confirms. -/
def execSpareCompareDone (p : PortId) (mismatch : List (Fin 512)) (s : State) : Host.Outcome State Fault Refusal :=
  .next (
    match (s.port p).spareRx with
    | none => s
    | some (lane, spare) =>
      if s.on skStatus_retryActive p.num then s
      else
        let s := (s.setPort p { s.port p with spareRx := none }).put skStatus_sparingActive p.num 0
        if mismatch.any (fun k => k ≠ lane) then
          (s.setPort p { s.port p with diagnosis := true }).sendLink p .diagnosis
        else
          let s := (s.recordSpare p .skSpareMapRx skStatus_sparesUsedRx lane spare).sendLink p (.confirm lane spare)
          match (s.port p).sparesDue with
          | [] => s
          | k :: rest => (s.setPort p { s.port p with sparesDue := rest }).startSpare p k true)

/-- SPARE_CONFIRM (R38 step 5): the transmitter records the pair and sets lane_spared. -/
def execSpareConfirm (p : PortId) (lane : Fin 512) (spare : Fin 32) (s : State) : Host.Outcome State Fault Refusal :=
  .next (
    if (s.port p).spareTx ≠ some (lane, spare) then s else
    let s := (s.setPort p { s.port p with spareTx := none }).put skStatus_sparingActive p.num 0
    (s.recordSpare p .skSpareMapTx skStatus_sparesUsedTx lane spare).skEv skEvent_laneSpared p.num)

/-- Forced sparing (SK_SPARE_FORCE): dir 1 spares a lane that this port receives, dir 0 one that it transmits, at the far end. -/
def State.forceSpare (s : State) (p : PortId) (dir lane : Nat) : State :=
  if dir = 1 then s.startSpare p (Fin.ofNat 512 lane) false
  else match p.peer with
    | some q => s.startSpare q (Fin.ofNat 512 lane) false
    | none => s

/-- SK_SPARE_FORCE (R38): a write with go. -/
def execSkSpareForce (n : Fin 42) (p : Fin 8) (v : BitVec 32) (s : State) : Host.Outcome State Fault Refusal :=
  .next (if bit v.toNat 31 then s.forceSpare (.stand n p) (bits v.toNat 9 1) (bits v.toNat 0 9) else s)

/-- A write of a port's injection register: it starts anew (R474); outside TEST it is ignored and logged as INJECT (R338). -/
def State.writeInject (s : State) (n : Fin 42) (p : Fin 8) (v : Nat) : State :=
  let q : PortId := .stand n p
  if s.service = .test then
    (s.setReg ⟨.skFaultInj, q.num, 0, 0⟩ (BitVec.ofNat 128 (v % 2 ^ 32))).setPort q
      { s.port q with injected := 0, seen := 0 }
  else s.foresterViolation n.val 10 none 0 (0x40000000 + n.val * 0x100000 + 0x80000 + p.val * 0x1000 + 0x28) 0

/-- SK_FAULT_INJ_WRITE (R474). -/
def execSkFaultInjWrite (n : Fin 42) (p : Fin 8) (v : BitVec 32) (s : State) : Host.Outcome State Fault Refusal :=
  .next (s.writeInject n p v.toNat)

end Sys2Proof.Machine
end

