-- ==== Sys2Proof/Machine/MailOps.lean ====
section
/-! DEFINITION. A Daush request from its post to its response: parsing, the checks of R345, violations, operations (R323, R326 to R331,
R342 to R348). -/

namespace Sys2Proof.Machine

/-- A copied request (R342). -/
structure Request where
  fn      : Fin 256
  code    : Nat
  tenant  : Nat
  bodyLen : Nat
  body    : List Byte
  posted  : Nat
deriving DecidableEq, Repr

/-- Status, detail and body of a response (R343, R344). -/
structure Reply where
  status : Nat
  detail : Nat
  body   : List Byte
deriving DecidableEq, Repr

/-- The request that a function's copied bytes spell. -/
def parseRequest (f : Fin 256) (bs : List Byte) : Request :=
  let at_ (off n : Nat) : Nat := fromLE ((bs.drop off).take n)
  ⟨f, at_ 0 2, at_ 4 2, at_ 6 2, bs.drop 16, bs.length⟩

/-- A little-endian field of a request body. -/
def Request.field (r : Request) (off n : Nat) : Nat := fromLE ((r.body.drop off).take n)

/-- The first body byte offset of a list of checked fields that fails (BAD_FIELD's detail). -/
def firstBad (cs : List (Nat × Bool)) : Option Nat := (cs.find? (fun c => !c.2)).map (fun c => c.1)

/-- Are `n` bytes from an offset of the body zero? -/
def Request.zero (r : Request) (off n : Nat) : Nat × Bool := (off, decide (r.field off n = 0))

/-- Status codes of R344 beside OK and ABORTED. -/
def stBadCommand : Nat := 0x0100
def stBadLength : Nat := 0x0101
def stBadField : Nat := 0x0102
def stBadState : Nat := 0x0103
def stViolation : Nat := 0x0104
def stStale : Nat := 0x0105
def stBusy : Nat := 0x0106
def stNoResource : Nat := 0x0107
def stHostAccess : Nat := 0x0108
def stDetConflict : Nat := 0x0109
def stLimitConflict : Nat := 0x010A
def stUnknownOp : Nat := 0x010B

/-- Replies. -/
def replyOk (body : List Byte) : Reply := ⟨stOk, 0, body⟩
def replyErr (status detail : Nat) : Reply := ⟨status, detail, []⟩

/-- Body length of each command code (R349 to R360); none for an unknown code. -/
def commandLen (code : Nat) : Option Nat :=
  match code with
  | 0x0101 => some 0 | 0x0102 => some 12 | 0x0103 => some 4 | 0x0104 => some 8 | 0x0105 => some 4 | 0x0106 => some 4
  | 0x0201 => some 0 | 0x0202 => some 8 | 0x0203 => some 40 | 0x0204 => some 8 | 0x0205 => some 8
  | 0x0301 => some 16 | 0x0302 => some 32 | 0x0303 => some 8 | 0x0304 => some 4 | 0x0305 => some 4 | 0x0306 => some 24
  | 0x0307 => some 12 | 0x0308 => some 4
  | 0x0401 => some 64 | 0x0402 => some 4 | 0x0403 => some 4 | 0x0404 => some 4 | 0x0405 => some 4 | 0x0406 => some 4
  | 0x0407 => some 4
  | 0x0501 => some 32 | 0x0502 => some 4 | 0x0503 => some 8 | 0x0504 => some 8
  | 0x0601 => some 12 | 0x0602 => some 0 | 0x0603 => some 4 | 0x0604 => some 40
  | 0x0701 => some 12 | 0x0702 => some 4 | 0x0703 => some 0 | 0x0704 => some 0
  | 0x0801 => some 0 | 0x0802 => some 4 | 0x0803 => some 0 | 0x0804 => some 4
  | 0x0901 => some 20 | 0x0902 => some 4 | 0x0903 => some 0 | 0x0904 => some 48 | 0x0905 => some 16
  | 0x0A01 => some 8 | 0x0A02 => some 8 | 0x0A03 => some 0 | 0x0A04 => some 4 | 0x0A05 => some 8
  | _ => none

/-- Commands that landing logic handles (R346). -/
def landingHandled (code : Nat) : Bool := code == 0x0401 || code == 0x0402 || code == 0x0406 || code == 0x0205

/-- Commands marked A (R349 to R360). -/
def adminOnly (code : Nat) : Bool :=
  code == 0x0102 || code == 0x0103 || code == 0x0104
  || code == 0x0301 || code == 0x0302 || code == 0x0303 || code == 0x0304 || code == 0x0306
  || code / 256 == 5 || code == 0x0601 || code == 0x0603 || code / 256 == 7 || code == 0x0802 || code == 0x0804
  || code == 0x0901 || code == 0x0902 || code / 256 == 10

/-- Rights of a function (CP_FUNC_RIGHTS). -/
def State.allTenants (s : State) (f : Fin 256) : Bool := bit (s.reg ⟨.cpFuncRights, f.val, 0, s.protBank⟩).toNat 10
def State.groupRight (s : State) (f : Fin 256) (group : Nat) : Bool :=
  bit (s.reg ⟨.cpFuncRights, f.val, 0, s.protBank⟩).toNat (group - 1)

/-- The tenant a request acts for (R342). -/
def State.actsFor (s : State) (r : Request) : Nat := if r.tenant = 0xFFFF then (s.tenantOf r.fn).getD 0xFFFF else r.tenant

/-- A violation that a request commits, logged by the landing that handles it or by the active Forester (R338, R339). -/
def State.requestViolation (s : State) (r : Request) (kind tag : Nat) : State :=
  if landingHandled r.code then
    let l := portLanding r.fn.val
    s.violation l (48 + l) kind (some r.fn) tag 0 r.code
  else s.foresterViolation s.foresterSource kind (some r.fn) tag 0 r.code

/-- A reply of VIOLATION with its kind, logged. -/
def State.violate (s : State) (r : Request) (kind tag : Nat) : Reply × State :=
  (replyErr stViolation kind, s.requestViolation r kind tag)

/-- Checks 1 to 7 of R345; none when all hold. -/
def State.headerChecks (s : State) (r : Request) : Option (Reply × State) :=
  if 16 + r.bodyLen ≠ r.posted then some (replyErr stBadLength ((commandLen r.code).getD 0), s) else
  match commandLen r.code with
  | none => some (replyErr stBadCommand 0, s)
  | some len =>
    if !s.groupRight r.fn (r.code / 256) then some (s.violate r 1 0)
    else if r.code / 256 = 10 ∧ s.service ≠ .test then some (s.violate r 5 0)
    else if adminOnly r.code && !s.allTenants r.fn then some (s.violate r 1 0)
    else if r.tenant ≠ 0xFFFF ∧ s.tenantOf r.fn ≠ some r.tenant ∧ !s.allTenants r.fn then some (s.violate r 2 0)
    else if r.bodyLen ≠ len then some (replyErr stBadLength len, s)
    else none

/-- MB_STATUS states. -/
def mbIdle : Nat := 0
def mbBusy : Nat := 1
def mbDone : Nat := 2

/-- The request of a code that is ready to run on a function: one whose function was reset after it was taken (R340), or the copied
request of a busy mailbox, which Forester firmware must have taken unless landing logic handles it. -/
def State.runnable (s : State) (f : Fin 256) (code : Nat) : Option (Request × Bool) :=
  let x := s.func f
  match x.orphans.find? (fun bs => decide ((parseRequest f bs).code = code)) with
  | some bs => some (parseRequest f bs, true)
  | none =>
    let r := parseRequest f x.copied
    if s.get mbStatus_state f.val = mbBusy && x.ready.isNone && x.awaits.isNone && decide (r.code = code)
        && (landingHandled code || s.on mbStatus_taken f.val) then some (r, false)
    else none

/-- Run a Daush command: nothing where no request of that code is ready; otherwise the checks, the command's own work, and the
formed response, unless the command leaves it for later. A request that fails a check has no other effect (R345). -/
def State.daushLate (s : State) (f : Fin 256) (code : Nat) (run : Request → State → Option Reply × State) : State :=
  match s.runnable f code with
  | none => s
  | some (r, orphan) =>
    let a : Option Reply × State := match s.headerChecks r with
      | some a => (some a.1, a.2)
      | none => run r s
    if orphan then
      let x := a.2.func f
      a.2.setFunc f { x with orphans := x.orphans.eraseP (fun bs => decide ((parseRequest f bs).code = code)) }
    else match a.1 with
      | some y => a.2.answer f y.status y.detail y.body
      | none => a.2

/-- A Daush command that answers at once. -/
def State.daush (s : State) (f : Fin 256) (code : Nat) (run : Request → State → Reply × State) : State :=
  s.daushLate f code (fun r s => (some (run r s).1, (run r s).2))

/-- Check 8 of R345: the first bad field, or the rest. -/
def checked (cs : List (Nat × Bool)) (s : State) (rest : Reply × State) : Reply × State :=
  match firstBad cs with
  | some off => (replyErr stBadField off, s)
  | none => rest

/-- Is an image within a tenant's image rights (R350)? -/
def State.imageRight (s : State) (tenant tag : Nat) : Bool :=
  ((s.prot.tenants.find? (fun t => t.tenant = tenant)).map (fun t => bit t.images.toNat tag)).getD false

/-- A tenant's KV window in pages. -/
def State.kvWindow (s : State) (tenant : Nat) : Nat :=
  ((s.prot.tenants.find? (fun t => t.tenant = tenant)).map (fun t => t.kvWindow)).getD 0

/-- A handle whose generation is not current is refused, and stale_handle sets at the landing that holds the entry (R252). -/
def State.staleHandle (s : State) (h : Nat) : State := s.sqEv sqEvent_staleHandle (seqLanding (h % 32768))

/-- Check 9 of R345: the target entry that a request's handle names; a mirror of the partner's counts as stale (R407). -/
def State.withHandle (s : State) (r : Request) (h : Nat) (rest : Nat → Reply × State) : Reply × State :=
  match s.ofHandle h with
  | none => (replyErr stStale 0, s.staleHandle h)
  | some i =>
    if (s.seq i).entry.partner then (replyErr stStale 0, s.staleHandle h)
    else if s.tenantOf r.fn ≠ some (s.seq i).entry.tenant ∧ !s.allTenants r.fn then s.violate r 2 (s.seq i).entry.imageTag
    else if s.isSapling i then (replyErr stBadField 0, s)
    else rest i

/-! ## Operations (R348) -/

/-- Operations that can run at once. -/
def maxOps : Nat := 64

/-- Start an operation; none when 64 run. -/
def State.startOp (s : State) (r : Request) : Option (Nat × State) :=
  if maxOps ≤ (s.ops.filter (fun o => o.2.state = 0)).length then none
  else some (s.nextOp, { s with
    nextOp := s.nextOp + 1
    ops := tblSet s.ops s.nextOp { command := r.code, func := r.fn.val } })

/-- Reply with an operation id, or NO_RESOURCE. -/
def State.asOp (s : State) (r : Request) (rest : Nat → State → Reply × State) : Reply × State :=
  match s.startOp r with
  | none => (replyErr stNoResource 0, s)
  | some (op, s) => rest op s

end Sys2Proof.Machine
end

