-- ==== Sys2Proof/Machine/Mailbox.lean ====
section
/-! DEFINITION. The mailboxes, MSI-X vectors and resets of the control ports (R318 to R340). -/

namespace Sys2Proof.Machine

/-- A post is refused: post_refused sets, and nothing else changes (R326). -/
def State.refusePost (s : State) (f : Fin 256) : State := s.cpEv cpEventStatus_postRefused f

/-- The landing's journal record of a mailbox (R246): 0x0002 a request posted, 0x0003 a response written, with the function and the command
that the slot's header names. -/
def State.mailRecord (s : State) (f : Fin 256) (kind : Nat) (slot : List Byte) : State :=
  s.journalRec (48 + portLanding f.val) kind 0 ((s.tenantOf f).getD 0xFFFF) 0xFFFF (f.val + fromLE (slot.take 2) * 2 ^ 16)

/-- A write of MB_POST (R246, R320, R321, R326). -/
def State.post (s : State) (f : Fin 256) (v : Nat) : State :=
  let x := s.func f
  let len := bits v 0 13
  if !x.exists_ || s.service == .off then s
  else if !s.protLocked then s.refusePost f
  else if (s.tenantOf f).isNone then
    (s.violation (portLanding f.val) (48 + portLanding f.val) 6 (some f) 0 0x40 0).refusePost f
  else if len % 4 ≠ 0 ∨ len < 16 ∨ 4096 < len ∨ s.get mbStatus_state f.val = mbBusy then s.refusePost f
  else
    let s := s.setFunc f { x with copied := x.request.readN 0 len, response := [], ready := none, awaits := none }
    let s := (s.put mbStatus_state f.val mbBusy).put mbStatus_taken f.val 0
    let s := (s.put mbStatus_respLen f.val 0).put mbStatus_lastPost f.val (bits v 16 16)
    s.mailRecord f 0x0002 (s.func f).copied

/-- MB_POST (R326). -/
def execMbPost (f : Fin 256) (v : BitVec 32) (s : State) : Host.Outcome State Fault Refusal :=
  .next (s.post f v.toNat)

/-- Abort a BUSY request that Forester firmware has not taken (R329): the response carries ABORTED. -/
def State.abortPost (s : State) (f : Fin 256) : State :=
  if s.get mbStatus_state f.val = mbBusy && !s.on mbStatus_taken f.val && (s.func f).ready.isNone then
    s.answer f stAborted 0 []
  else s

/-- MB_ABORT (R329). -/
def execMbAbort (f : Fin 256) (s : State) : Host.Outcome State Fault Refusal :=
  .next (s.abortPost f)

/-- MAILBOX_TAKE (R331, R346): Forester firmware takes a copied request; one whose code it does not know is answered at once
(checks 1 and 2 of R345). -/
def execMailboxTake (f : Fin 256) (s : State) : Host.Outcome State Fault Refusal :=
  .next (
    let x := s.func f
    let r := parseRequest f x.copied
    if s.get mbStatus_state f.val ≠ mbBusy ∨ s.on mbStatus_taken f.val ∨ x.ready.isSome ∨ landingHandled r.code then s
    else
      let s := s.put mbStatus_taken f.val 1
      if (commandLen r.code).isSome then s
      else if 16 + r.bodyLen ≠ r.posted then s.answer f stBadLength 0 []
      else s.answer f stBadCommand 0 [])

/-- RESPONSE_READY (R246, R328): the response slot, MB_STATUS, response_ready, and a record of kind 0x0001, in this order. -/
def execResponseReady (f : Fin 256) (s : State) : Host.Outcome State Fault Refusal :=
  .next (
    let x := s.func f
    match x.ready with
    | none => s
    | some bs =>
      let s := (s.setFunc f { x with response := bs, ready := none }).mailRecord f 0x0003 bs
      let s := (s.put mbStatus_state f.val mbDone).put mbStatus_respLen f.val bs.length
      let s := s.cpEv cpEventStatus_responseReady f
      s.eventRecord f 1 ((s.tenantOf f).getD 0xFFFF) noHandle
        (bytesLE 2 (s.get mbStatus_lastPost f.val) ++ (bs.drop 2).take 2 ++ bytesLE 2 bs.length))

/-! ## MSI-X (R335) -/

/-- MSIX_HOLDOFF_END (R335): the combined message goes out. -/
def execMsixHoldoffEnd (f : Fin 256) (vec : Fin 16) (s : State) : Host.Outcome State Fault Refusal :=
  .next (
    let x := s.func f
    if vec.val ∉ x.waitMsg then s else
    (s.setFunc f { x with
      waitMsg := x.waitMsg.filter (fun v => v ≠ vec.val), lastMsg := tblErase x.lastMsg vec.val }).msixRequest f vec.val)

/-- Pending vectors of a function that are unmasked send their messages once the function may (R335). (DEDUCED: log 166.) -/
def State.sendPending (s : State) (f : Fin 256) : State :=
  let x := s.func f
  if x.busMaster && !x.d3hot then
    s.each (x.msixPending.filter (fun v => !x.masked v)) (fun s v =>
      let y := s.func f
      (s.setFunc f { y with msixPending := y.msixPending.filter (fun u => u ≠ v) }).msixRequest f v)
  else s

/-- MSIX_UNMASK (R335). -/
def execMsixUnmask (f : Fin 256) (vec : Fin 16) (s : State) : Host.Outcome State Fault Refusal :=
  .next (
    let x := s.func f
    if !x.exists_ then s else
    let e := tblGet x.msixTable vec.val (BitVec.ofNat 128 (2 ^ 96))
    (s.setFunc f { x with
      msixTable := tblSet x.msixTable vec.val (BitVec.ofNat 128 (putBits e.toNat 96 1 0)) }).sendPending f)

/-! ## Resets (R322, R340, R341) -/

/-- Registers that a function reset returns to their reset values (R341); CP_FUNC_RIGHTS is locked (R451). -/
def funcRegs : List Reg :=
  [.cpEventStatus, .cpEventCount, .mbPost, .mbStatus, .mbCtrl, .mbEventPage, .mbEventHead, .cpIntMap, .cpIntCtrl, .cpViolLast]

/-- A reset of a function: an untaken request is discarded, a taken one completes without a response, registers take their reset
values, record numbering restarts, and the Command register and MSI-X table are as after reset (PRESUMED of PCIe, log 43). -/
def State.resetFunc (s : State) (f : Fin 256) : State :=
  let x := s.func f
  if !x.exists_ then s else
  let running := s.get mbStatus_state f.val = mbBusy && s.on mbStatus_taken f.val && x.ready.isNone && x.awaits.isNone
  let s := s.setFunc f { exists_ := true, orphans := if running then x.orphans ++ [x.copied] else x.orphans, transfer := x.transfer }
  { s with regs := s.regs.filter (fun p => ¬ (p.1.reg ∈ funcRegs ∧ p.1.unit = f.val)) }

/-- Virtual functions of a port from `n + 1` on disappear, each as under an FLR (R322). -/
def State.dropVfs (s : State) (port n : Nat) : State :=
  s.each ((List.finRange 256).filter (fun f => decide (f.val / 64 = port ∧ n < f.val % 64))) (fun s f =>
    let s := s.resetFunc f
    s.setFunc f { s.func f with exists_ := false })

/-- FLR (R340); an FLR of a PF also takes its VFs away (PRESUMED of PCIe, log 43). -/
def execFunctionReset (f : Fin 256) (s : State) : Host.Outcome State Fault Refusal :=
  .next (
    let s := s.resetFunc f
    if f.val % 64 = 0 then s.dropVfs (f.val / 64) 0 else s)

/-- PCIE_RESET (R340): every function of the port. -/
def execPcieReset (port : Fin 4) (s : State) : Host.Outcome State Fault Refusal :=
  .next ((s.resetFunc (Fin.ofNat 256 (64 * port.val))).dropVfs port.val 0)

/-- VF_ENABLE (R322): NumVFs at most the TotalVFs of the protection record; newly enabled functions take reset values. -/
def execVfEnable (port : Fin 4) (numVfs : Fin 64) (s : State) : Host.Outcome State Fault Refusal :=
  .next (
    let pf : Fin 256 := Fin.ofNat 256 (64 * port.val)
    if bits (s.reg ⟨.cpFuncRights, pf.val, 0, s.protBank⟩).toNat 32 6 < numVfs.val then s else
    let s := s.dropVfs port.val numVfs.val
    s.each ((List.finRange 256).filter (fun f => decide (f.val / 64 = port.val ∧ 0 < f.val % 64 ∧ f.val % 64 ≤ numVfs.val)))
      (fun s f => if (s.func f).exists_ then s else (s.setFunc f { s.func f with exists_ := true }).resetFunc f))

/-- D3HOT_ENTRY (R340). -/
def execD3hotEntry (f : Fin 256) (s : State) : Host.Outcome State Fault Refusal :=
  .next (if (s.func f).exists_ then s.setFunc f { s.func f with d3hot := true } else s)

/-- D0_ENTRY (R340): messages that waited go out. -/
def execD0Entry (f : Fin 256) (s : State) : Host.Outcome State Fault Refusal :=
  .next (if (s.func f).exists_ then (s.setFunc f { s.func f with d3hot := false }).sendPending f else s)

/-- BAR2_REQUEST_WRITE (R324): bytes for the request slot are stored; bytes for the response slot are ignored and logged. -/
def execBar2RequestWrite (f : Fin 256) (offset : Fin 8192) (bytes : List Byte) (s : State) :
    Host.Outcome State Fault Refusal :=
  .next (
    let x := s.func f
    if !x.exists_ then s else
    let mine := bytes.take (4096 - offset.val)
    let s := s.setFunc f { x with request := x.request.writeN offset.val mine }
    if mine.length < bytes.length then
      s.violation (portLanding f.val) (48 + portLanding f.val) 7 (some f) 0 (offset.val + mine.length) 0
    else s)

/-- HOST_TRANSFER_COMPLETE (R347): the operation whose transfer began first ends, unless it was aborted. -/
def execHostTransferComplete (f : Fin 256) (ok : Bool) (s : State) : Host.Outcome State Fault Refusal :=
  .next (
    let x := s.func f
    match x.transfer with
    | [] => s
    | op :: rest =>
      let s := s.setFunc f { x with transfer := rest }
      let result := ((tblFind s.ops op).map (fun o => o.result)).getD 0
      s.endOp op (if ok then stOk else stHostAccess) 0 result)

end Sys2Proof.Machine
end

