-- ==== Sys2Proof/Machine/PowerFaults.lean ====
section
/-! DEFINITION. Feeds, bus converters, segment switches, VLOG, phases and breakers (R409 to R417, R420 to R424, R484). -/

namespace Sys2Proof.Machine

/-- Is a feed valid (PW_FEED)? -/
def State.feedOk (s : State) (feed : Fin 2) : Bool :=
  if feed = 0 then s.on pwFeed_feedAOk 0 else s.on pwFeed_feedBOk 0

/-- The voltage that PW_FEED shows, in 10 mV, with the PLDM event of a crossing of 40 V or 59 V (R478). -/
def State.showFeed (s : State) (feed : Fin 2) (mv : Nat) : State :=
  let fld := if feed = 0 then pwFeed_feedA else pwFeed_feedB
  let old := s.get fld 0
  let new := mv / 10
  let side (v : Nat) : Bool × Bool := (decide (v < 4000), decide (5900 < v))
  let s := s.put fld 0 new
  if side old = side new then s else s.platformEvent (0x0200 + feed.val) new

/-- A feed's switch opens (R410). -/
def State.dropFeed (s : State) (feed : Fin 2) : State :=
  if !s.feedOk feed then s
  else if feed = 0 then (s.put pwFeed_feedAOk 0 0).pwModEv pwModEvent_feedALost
  else (s.put pwFeed_feedBOk 0 0).pwModEv pwModEvent_feedBLost

/-- FEED_LOST (R410): below 38 V or above 60 V for its filter time. -/
def execFeedLost (feed : Fin 2) (mv : Nat) (s : State) : Host.Outcome State Fault Refusal :=
  .next (if mv < 38000 ∨ 60000 < mv then (s.showFeed feed mv).dropFeed feed else s)

/-- FEED_RESTORED (R410): within 40 V to 59 V for 1 s. -/
def execFeedRestored (feed : Fin 2) (mv : Nat) (s : State) : Host.Outcome State Fault Refusal :=
  .next (
    if mv < 40000 ∨ 59000 < mv ∨ s.feedOk feed then s else
    let s := s.showFeed feed mv
    (s.put (if feed = 0 then pwFeed_feedAOk else pwFeed_feedBOk) 0 1).pwModEv pwModEvent_feedRestored)

/-- BLADE_UNSEATED (R484): both feeds count as lost at once. -/
def execBladeUnseated (s : State) : Host.Outcome State Fault Refusal :=
  .next ((s.dropFeed 0).dropFeed 1)

/-- RIDE_THROUGH_END (R410, R412): with both feeds lost the module enters OFF; the drift snapshot stays stale. -/
def execRideThroughEnd (s : State) : Host.Outcome State Fault Refusal :=
  .next (if s.feedOk 0 || s.feedOk 1 || s.service == .off then s else s.powerOff)

/-- CONVERTER_LOST (R411). -/
def execConverterLost (n : Fin 18) (s : State) : Host.Outcome State Fault Refusal :=
  .next (
    let ok := s.get pwConverters_ok 0
    if !bit ok n.val then s else
    let s := s.put pwConverters_ok 0 (ok - 2 ^ n.val)
    let s := (s.put pwConverters_working 0 (s.get pwConverters_working 0 - 1)).pwModEv pwModEvent_converterLost
    let old := s.get pwModuleLimit_inForce 0
    let s := s.newModuleLimit
    let s := if s.get pwModuleLimit_inForce 0 < old then s.pwModEv pwModEvent_limitLowered else s
    let s := s.follow
    if s.get pwConverters_working 0 < 9 ∧
        (s.service = .streaming ∨ s.service = .serving ∨ s.service = .degraded ∨ s.service = .twinSole
          ∨ s.service = .draining) then
      s.startDrain (some 100000000) true 0
    else s)

/-- SEGMENT_OPEN (R413): the switch stays open; every stand of the row goes dark, and none of them can wake. -/
def execSegmentOpen (b : Fin 7) (s : State) : Host.Outcome State Fault Refusal :=
  .next (
    if s.getAt pwBand_segmentOpen 0 b.val = 1 then s else
    let ns := bandStands b.val
    let s := (s.putAt pwBand_segmentOpen 0 b.val 1).pwModEv pwModEvent_bandSegmentOpen
    let s := s.each ns (fun s n => s.put pwStandStatus_segmentOpen n 1)
    let s := { s with wakeWant := s.wakeWant.filter (fun n => n ∉ ns) }
    s.each ns State.goDark)

/-- Does a loaded image with a grove on the stand have an open sequence (R416)? -/
def State.standServes (s : State) (n : Nat) : Bool :=
  s.images.any (fun p => p.2.hasStand n && !(s.seqsOf p.1).isEmpty)

/-- The floor of a stand's VLOG in force: at least 750 mV while DET_LOCKSTEP is 1 (R230, R416). -/
def State.vlogFloor (s : State) (n : Nat) : Nat :=
  if s.lockstep then max 750 (s.get pwVlogCtrl_floor n) else s.get pwVlogCtrl_floor n

/-- The VLOG that a stand moves to (R416): `up` is the direction that its delay monitors ask for in mode 1. -/
def State.vlogTarget (s : State) (n : Nat) (up : Int) : Nat :=
  let clamp (v : Nat) : Nat := min (s.get pwVlogCtrl_ceiling n) (max (s.vlogFloor n) v)
  let v := s.get pwStandStatus_vlogMv n
  match s.get pwVlogCtrl_mode n with
  | 1 => clamp (if 0 < up then v + 1 else if up < 0 then v - 1 else v)
  | 2 => if s.standServes n then clamp (s.get pwVlogCtrl_set n) else s.vlogFloor n
  | _ => clamp (s.get pwVlogCtrl_set n)

/-- VLOG_ADJUST (R416): one step of 1 mV toward the target; speed-hold that reaches the ceiling sets vlog_limit. -/
def execVlogAdjust (n : Fin 42) (monitorUp : Int) (s : State) : Host.Outcome State Fault Refusal :=
  .next (
    if s.get pwStandStatus_standPower n.val = 0 then s else
    let v := s.get pwStandStatus_vlogMv n.val
    let t := s.vlogTarget n.val monitorUp
    let w := if v < t then v + 1 else if t < v then v - 1 else v
    let s := (s.put pwStandStatus_vlogMv n.val w).newEffective n.val
    if s.get pwVlogCtrl_mode n.val = 1 ∧ v < w ∧ w = s.get pwVlogCtrl_ceiling n.val then s.pwEv pwEvent_vlogLimit n.val
    else s)

/-- ELEC_THIN (R417): asserted above 95 % of 45 A for each working phase or below 80 % of the rail, released below 85 % with the
input recovered. `vlogTenthsA` is the VLOG current in 0.1 A, `inputPermille` the band input in 1/1000 of the rail. -/
def execElecThin (n : Fin 42) (vlogTenthsA inputPermille : Nat) (s : State) : Host.Outcome State Fault Refusal :=
  .next (
    if s.get pwStandStatus_standPower n.val = 0 then s else
    let s := s.put pwCurrent_vlog n.val vlogTenthsA
    let cap := 450 * s.get pwStandStatus_phasesOk n.val
    if 95 * cap < 100 * vlogTenthsA ∨ inputPermille < 800 then
      if s.on pwStandStatus_elecThin n.val then s
      else (s.put pwStandStatus_elecThin n.val 1).pwEv pwEvent_elecThin n.val
    else if 100 * vlogTenthsA < 85 * cap then s.put pwStandStatus_elecThin n.val 0
    else s)

/-! ## Phases and breakers -/

/-- A stand's input breaker opens (R422): a trip is a firebreak; firmware opens it with cause 4. -/
def State.openBreaker (s : State) (n cause : Nat) : State :=
  if s.on pwStandStatus_breakerOpen n then s else
  let s := (s.put pwStandStatus_breakerOpen n 1).put pwBreaker_cause n cause
  let s := s.setPower n { s.power n with retested := false, checkOk := false, returning := false }
  let s := if cause = 4 then s else s.pwEv pwEvent_breakerTrip n
  { s with wakeWant := s.wakeWant.filter (fun m => m ≠ n) }.goDark n

/-- A phase leaves service (R420): the stand limit follows the working phases, and fewer than 10 take the stand out. -/
def State.losePhase (s : State) (n p code : Nat) : State :=
  let s := s.put (pwPhaseStatus_phase p) n code
  let k := s.get pwStandStatus_phasesOk n - 1
  let s := s.put pwStandStatus_phasesOk n k
  if k < 10 then s.openBreaker n 4 else
  let old := s.get pwStandLimit_limit n
  let new := if 16 ≤ k then 400 else 25 * k
  if new = old then s else
  let s := ((s.put pwStandLimit_limit n new).put pwStandStatus_derated n (b2n (decide (new < 400)))).newEffective n
  (s.pwEv pwEvent_derate n).follow

/-- PHASE_LOST (R420): open or off, by its controller's report or by the current test. -/
def execPhaseLost (n : Fin 42) (p : Fin 18) (_reported : Bool) (s : State) : Host.Outcome State Fault Refusal :=
  .next (
    if s.get (pwPhaseStatus_phase p.val) n.val ≠ 0 then s else
    (s.pwEv pwEvent_phaseLost n.val).losePhase n.val p.val 1)

/-- PHASE_SHORT (R421): an input current above 70 A; the input switch is commanded open. -/
def execPhaseShort (n : Fin 42) (p : Fin 18) (amps : Nat) (s : State) : Host.Outcome State Fault Refusal :=
  .next (
    let x := s.power n.val
    if amps ≤ 70 ∨ p.val ∈ x.shorting ∨ s.get (pwPhaseStatus_phase p.val) n.val ≠ 0 then s
    else s.setPower n.val { x with shorting := x.shorting ++ [p.val] })

/-- ISOLATION_CHECK (R421): 1.0 µs after the fault phase_shorted sets; below 5 A the short is isolated and counts as a lost phase,
otherwise the breaker trips on the isolation failure (R422). -/
def execIsolationCheck (n : Fin 42) (p : Fin 18) (amps : Nat) (s : State) : Host.Outcome State Fault Refusal :=
  .next (
    let x := s.power n.val
    if p.val ∉ x.shorting then s else
    let s := s.setPower n.val { x with shorting := x.shorting.filter (fun q => q ≠ p.val) }
    let s := s.pwEv pwEvent_phaseShorted n.val
    if amps < 5 then s.losePhase n.val p.val 2 else s.openBreaker n.val 3)

/-- Code of a trip cause (PW_BREAKER.cause). -/
def tripCode : TripCause → Nat
  | .overcurrent => 1 | .railShort => 2 | .isolation => 3 | .firmware => 4

/-- BREAKER_TRIP (R422). -/
def execBreakerTrip (n : Fin 42) (cause : TripCause) (s : State) : Host.Outcome State Fault Refusal :=
  .next (s.openBreaker n.val (tripCode cause))

/-- BREAKER_RETEST (R422): once after a trip of causes 1 to 3, or when PWR_STAND_SERVICE returns a stand that firmware took out;
`percent` is the input voltage reached, in % of the band voltage. -/
def execBreakerRetest (n : Fin 42) (percent : Nat) (s : State) : Host.Outcome State Fault Refusal :=
  .next (
    let x := s.power n.val
    if !s.on pwStandStatus_breakerOpen n.val then s
    else if s.get pwBreaker_cause n.val = 4 then
      if !x.returning then s
      else if 90 ≤ percent then s.setPower n.val { x with checkOk := true }
      else (s.setPower n.val { x with returning := false }).endService n.val 0x0103
    else if x.retested then s
    else s.setPower n.val { x with retested := true, checkOk := decide (90 ≤ percent) })

/-- A write of PW_BREAKER (R422): trip_current is written; close acts after a passed check only, and the stand then wakes and
returns under R119 in the reserve role. -/
def State.writeBreaker (s : State) (n v : Nat) : State :=
  let s := s.put pwBreaker_tripCurrent n (bits v 0 8)
  let x := s.power n
  if bit v 31 && s.on pwStandStatus_breakerOpen n && x.checkOk then
    let s := (s.put pwStandStatus_breakerOpen n 0).put pwBreaker_cause n 0
    let s := s.setPower n { x with checkOk := false, returning := true, service := false }
    if s.on pwStandStatus_segmentOpen n then s else s.wantWake n
  else s

/-- PW_BREAKER_CLOSE (R422). -/
def execPwBreakerClose (n : Fin 42) (v : BitVec 32) (s : State) : Host.Outcome State Fault Refusal :=
  .next (s.writeBreaker n.val v.toNat)

/-- HEADER_STUCK_CLOSED (R424): a grove that was commanded off stays powered and in service. -/
def execHeaderStuckClosed (g : GroveId) (s : State) : Host.Outcome State Fault Refusal :=
  .next (
    let n := g.stand.val
    let k := g.grove.val
    if s.get (pwGroveHdr_cluster k) n ≠ 0 ∨ bit (s.get pwGroveFault_stuckClosed n) k
        ∨ s.get pwStandStatus_standPower n = 0 then s else
    let s := (s.put (pwGroveHdr_cluster k) n 3).put pwGroveFault_stuckClosed n (s.get pwGroveFault_stuckClosed n + 2 ^ k)
    (s.put gvStatus_power g.num 2).pwEv pwEvent_headerStuck n)

end Sys2Proof.Machine
end

