-- ==== Sys2Proof/Machine/Rotation.lean ====
section
/-! DEFINITION. Tier rotations: their start, slices, verification, and the landing of swaps (R86 to R95). -/

namespace Sys2Proof.Machine

/-- A write to TL_ROTATE of a kind (R88): without go, or with another kind, it starts nothing of that kind. A tile that has a
rotation in progress or no rotation tier ignores it with rotate_busy (R94, R95); beyond max_rotations it waits in Forester
firmware (R110). -/
def State.rotateWrite (s : State) (t : TileId) (v : Nat) (kind : RotKind) : Host.Outcome State Fault Refusal :=
  let code := match kind with
    | .copy => 0
    | .load => 1
    | .update => 2
  let src := bits v 0 48
  if !bit v 63 || bits v 60 3 != code || !s.groveOn t.groveId then .next s
  else if kind ≠ .copy ∧ hbmBytes < 256 * src + 262656 then .fault (.hbmAddress (256 * src))
  else if !s.canRotate t (bits v 56 4) then .next (s.tlEv tlEvent_rotateBusy t.groveId.num)
  else
    let k := bits v 56 4
    let r : RotRequest := { tile := t, kind := kind, logical := k, src := src
                            gen := if kind = .copy then s.get tlGen_currentGen t.num else bits v 48 8 }
    if s.get tlUpkeepCtrl_maxRotations t.groveId.num ≤ s.rotationsIn t.groveId then
      .next { s with rotWait := s.rotWait ++ [r] }
    else .next (s.startRotation r)

/-- TL_ROTATE_COPY (R88). -/
def execTlRotateCopy (t : TileId) (v : BitVec 64) (s : State) : Host.Outcome State Fault Refusal :=
  s.rotateWrite t v.toNat .copy

/-- TL_ROTATE_LOAD (R88). -/
def execTlRotateLoad (t : TileId) (v : BitVec 64) (s : State) : Host.Outcome State Fault Refusal :=
  s.rotateWrite t v.toNat .load

/-- TL_ROTATE_UPDATE (R88). -/
def execTlRotateUpdate (t : TileId) (v : BitVec 64) (s : State) : Host.Outcome State Fault Refusal :=
  s.rotateWrite t v.toNat .update

/-- Does an upkeep slice of a tile start (R210, R417): its grove on, no electrical thinning, the meter at or below 90 % after it? -/
def State.sliceStarts (s : State) (t : TileId) (cost : Nat) : Bool :=
  s.groveOn t.groveId && !s.on pwStandStatus_elecThin t.stand.val && s.meterAllowsUpkeep t.stand.val cost

/-- The state with a tile's rotation replaced. -/
def State.setRotation (s : State) (t : TileId) (r : Rotation) : State :=
  s.setTile t { s.tile t with rotation := some r }

/-- The model layer of the tier record (R61): the source's for a COPY, the image's otherwise; a bare HBM tier image names none, and
the record then holds a free value. -/
def State.rotLayer (s : State) (t : TileId) (r : Rotation) : Nat × State :=
  match r.kind, r.image with
  | .copy, _ => ((s.tier t (s.physOf t r.logical)).layer, s)
  | _, some x => (x.layer, s)
  | _, none => let f := s.free 16; (f.1.toNat, f.2)

/-- A row of the rotation tier has verified (R86): after the last one the header cells are written and the verify read begins. -/
def State.rowWritten (s : State) (t : TileId) (r : Rotation) : State :=
  let p := s.get tlTileStatus_rotationPhys t.num
  let x := s.tier t p
  let s := s.setTier t p { x with rows := tblSet x.rows r.row (s.rotRow t r r.row) }
  if r.row + 1 < 1024 then s.setRotation t { r with row := r.row + 1, rowRead := false, pairs := 0 }
  else
    let a := s.rotLayer t r
    let s := a.2
    let y := s.tier t p
    let s := s.setTier t p { y with latch := s.rotLatch t r, layer := a.1 }
    (s.setRotation t { r with row := 0, rowRead := false, pairs := 0 }).put tlTileStatus_rotationState t.num rsVerifying

/-- The rotation tier fails verify: the rotation is abandoned and the physical tier is retired (R86, R94, R112). -/
def State.verifyFailed (s : State) (t : TileId) : State :=
  let p := s.get tlTileStatus_rotationPhys t.num
  (s.tlEv tlEvent_verifyFail t.groveId.num).retireTier t p

/-- Program-verify pairs that a row may take (R86). -/
def maxPairs : Nat := 24

/-- WRITE_SLICE (R86): up to slice_pairs pairs, 8 at most, on the row being written, which verifies after `needed` pairs. -/
def execWriteSlice (t : TileId) (needed : Nat) (s : State) : Host.Outcome State Fault Refusal :=
  .next (
    match (s.tile t).rotation with
    | none => s
    | some r =>
      if s.get tlTileStatus_rotationState t.num ≠ rsWriting ∨ (r.kind = .copy ∧ !r.rowRead) ∨ !s.sliceStarts t costWrite then s
      else
        let n := r.pairs + min 8 (s.get tlCtrl_slicePairs t.groveId.num)
        if needed ≤ min n maxPairs then s.rowWritten t r
        else if maxPairs ≤ n then s.verifyFailed t
        else s.setRotation t { r with pairs := n })

/-- COPY_READ_SLICE (R88, R89): the next source row is read one-hot; a row whose identity does not hold abandons the COPY. -/
def execCopyReadSlice (t : TileId) (identityHolds : Bool) (s : State) : Host.Outcome State Fault Refusal :=
  .next (
    match (s.tile t).rotation with
    | none => s
    | some r =>
      if r.kind ≠ .copy ∨ s.get tlTileStatus_rotationState t.num ≠ rsWriting ∨ r.rowRead ∨ !s.sliceStarts t costCruise then s
      else if identityHolds then s.setRotation t { r with rowRead := true }
      else ((s.abandonRotation t).tlEv tlEvent_copyFailed t.groveId.num).askGolden t r.logical)

/-- VERIFY_SLICE (R90): 64 rows of the rotation tier are read; after the sixteenth slice the swap is pending, or armed for new
contents, and a failure retires the physical tier. A LOAD of a tile on which no image serves lands at once: no MVM could bring its
generation (DEDUCED, log 55). -/
def execVerifySlice (t : TileId) (pass : Bool) (s : State) : Host.Outcome State Fault Refusal :=
  .next (
    match (s.tile t).rotation with
    | none => s
    | some r =>
      if s.get tlTileStatus_rotationState t.num ≠ rsVerifying ∨ !s.sliceStarts t costCruise then s
      else if !pass then s.verifyFailed t
      else if r.row + 1 < 16 then s.setRotation t { r with row := r.row + 1 }
      else
        let s := s.setRotation t { r with row := 0 }
        if r.kind = .copy then s.put tlTileStatus_rotationState t.num rsPending
        else
          let s := ((s.put tlTileStatus_rotationState t.num rsArmed).put tlGen_armedGen t.num r.gen).put tlGen_armedValid t.num 1
          let switched := ((s.remapTo t r.logical).map (fun m => m.done)).getD true
          if r.kind = .load ∧ !s.inService (s.ownerOf t r.logical) ∧ switched then s.landSwap t else s)

/-- Is a COPY swap of a tile pending, and is its logical tier the active one? -/
def State.pendingSwap (s : State) (t : TileId) : Option Bool :=
  match (s.tile t).rotation with
  | some r =>
    if s.get tlTileStatus_rotationState t.num = rsPending then
      some (s.on tlTileStatus_activeValid t.num && s.get tlTileStatus_activeLogical t.num == r.logical)
    else none
  | none => none

/-- SWAP_LAND (R91): at an MVM boundary a pending swap of a tier that is not active lands. That of the active tier lands at its
next activation, which is part of FORWARD_MVM and REVERSE_READ, or as FORCED_SWAP. -/
def execSwapLand (t : TileId) (s : State) : Host.Outcome State Fault Refusal :=
  .next (if s.pendingSwap t = some false then s.landSwap t else s)

/-- FORCED_SWAP (R91): the active tier's pending swap lands at the MVM boundary, with one tier switch. -/
def execForcedSwap (t : TileId) (env : MvmEnv) (s : State) : Host.Outcome State Fault Refusal :=
  .next (
    if s.pendingSwap t = some true then ((s.landSwap t).activate t (s.get tlTileStatus_activeLogical t.num) env).1 else s)

end Sys2Proof.Machine
end

