-- ==== Sys2Proof/Machine/Thermal.lean ====
section
/-! DEFINITION. Sensors, heat thinning, heat switch-off and the hard shutdown (R430 to R438). Temperatures are in 1/16 °C. -/

namespace Sys2Proof.Machine

/-- The reading of a sensor; none while it is invalid or has not been sampled. -/
def State.sensor (s : State) (id : Nat) : Option Int := tblFind s.sensors id

/-- A reading is valid when no fault is reported and it is at least −20 °C (R432). -/
def validReading (r : Option Int) : Option Int := r.filter (fun t => decide (-320 ≤ t))

/-- The state with a reading recorded. -/
def State.setSensor (s : State) (id : Nat) (r : Option Int) : State :=
  match r with
  | some t => { s with sensors := tblSet s.sensors id t }
  | none => { s with sensors := tblErase s.sensors id }

/-- The valid junction readings of a stand. -/
def State.junctions (s : State) (n : Nat) : List Int := (upTo 4).filterMap (fun k => s.sensor (8 * n + k))

/-- The hottest junction of a stand; 105 °C while its four sensors are invalid (R432). -/
def State.hottest (s : State) (n : Nat) : Int :=
  match s.junctions n with
  | [] => 1680
  | t :: r => r.foldl max t

/-- The coolant inlet temperature: the higher valid one of sensors 368 and 369; above 45 °C while both are invalid. -/
def State.inlet (s : State) : Int :=
  match s.sensor 368, s.sensor 369 with
  | some a, some b => max a b
  | some a, none => a
  | none, some b => b
  | none, none => 721

/-- A record of kind 0x0008 to every function with the rights of group 0x08 (R334). -/
def State.thermalRecord (s : State) (sensor threshold : Nat) (value : Int) : State :=
  s.each (s.functions.filter (fun f => bit (s.reg ⟨.cpFuncRights, f.val, 0, s.protBank⟩).toNat 7)) (fun s f =>
    s.eventRecord f 8 ((s.tenantOf f).getD 0xFFFF) noHandle
      (bytesLE 2 sensor ++ bytesLE 1 threshold ++ bytesLE 2 (unsigned 16 value)))

/-- PLDM thresholds of a sensor (R478), in 1/16 °C. -/
def sensorThresholds (id : Nat) : List Int := if id < 336 then [1520, 1680, 1760] else [1760]

/-- A sampled reading is recorded; a crossing of a PLDM threshold is an event (R478), and 95 °C reached is a record with threshold 1 (R433). -/
def State.takeReading (s : State) (id : Nat) (r : Option Int) : State :=
  let oldT := (s.sensor id).getD 0
  let newT := r.getD 0
  let s := s.setSensor id r
  let s := if r.isSome && (sensorThresholds id).any (fun t => decide (t ≤ oldT) != decide (t ≤ newT)) then
      s.platformEvent (1 + id) (unsigned 16 newT) else s
  if r.isSome && decide (oldT < 1520) && decide (1520 ≤ newT) then s.thermalRecord id 1 newT else s

/-- SENSOR_SAMPLE (R431 to R434): the reading is recorded, and warning, peak and heat thinning follow. -/
def execSensorSample (id : Fin 390) (reading : Option Int) (s : State) : Host.Outcome State Fault Refusal :=
  .next (
    if s.service = .off then s else
    let n := id.val / 8
    let r := validReading reading
    let old := s.sensor id.val
    let wasHot := decide (1600 ≤ s.hottest n) && decide (s.get thStandStatus_heatFactor n < 100)
    let newT := r.getD 0
    let s := s.takeReading id.val r
    if 336 ≤ id.val then s else
    let k := id.val % 8
    let s := (s.putAt thSensor_valid n k (b2n r.isSome)).putAt thSensor_temp n k (unsigned 16 newT)
    let all := (upTo 8).map (fun j => s.sensor (8 * n + j))
    let s := if r.isNone && (old.isSome || !s.on thStandStatus_sensorFault n) then s.thEv thEvent_sensorFault n else s
    let s := s.put thStandStatus_sensorFault n
      (b2n (decide (r.isNone = true) || (s.on thStandStatus_sensorFault n && all.any (fun t => t.isNone))))
    let warm := all.any (fun t => match t with
      | some t => decide (1520 ≤ t)
      | none => false)
    let s := if warm && !s.on thStandStatus_warning n then s.thEv thEvent_warning n else s
    let s := s.put thStandStatus_warning n (b2n warm)
    if 4 ≤ k then s else
    let hot := s.hottest n
    let s := s.put thStandStatus_hottest n (hot / 16).toNat
    let s := if r.isSome && decide (signed 16 (s.get thPeak_peak n) < newT) then s.put thPeak_peak n (unsigned 16 newT) else s
    if wasHot || decide (hot < 1600) then s else
    let f := s.get thStandStatus_heatFactor n
    let s := if f = 100 then (s.thEv thEvent_thinStart n).thermalRecord id.val 2 newT else s
    ((s.put thStandStatus_heatFactor n (min 75 f)).put thStandStatus_thinning n 1).newEffective n)

/-- HEAT_FACTOR_STEP (R434): down by 5 % to 25 % while the hottest junction is at or above 100 °C, up by 5 % to 100 % below 97 °C. -/
def execHeatFactorStep (n : Fin 42) (s : State) : Host.Outcome State Fault Refusal :=
  .next (
    let f := s.get thStandStatus_heatFactor n.val
    if f = 100 then s else
    let hot := s.hottest n.val
    let g := if 1600 ≤ hot then max 25 (f - 5) else if hot < 1552 then min 100 (f + 5) else f
    ((s.put thStandStatus_heatFactor n.val g).put thStandStatus_thinning n.val (b2n (decide (g < 100)))).newEffective n.val)

/-- COOLANT_SAMPLE (R430 to R433): `flow` is in 0.1 L/min. (DEDUCED: log 170.) -/
def execCoolantSample (inletA inletB : Option Int) (outlet : Int) (flow : Nat) (s : State) :
    Host.Outcome State Fault Refusal :=
  .next (
    if s.service = .off then s else
    let s := (s.takeReading 368 (validReading inletA)).takeReading 369 (validReading inletB)
    let s := s.put thCoolant_inletA 0 (unsigned 16 ((s.sensor 368).getD 0))
    let s := s.put thCoolant_inletB 0 (unsigned 16 ((s.sensor 369).getD 0))
    let oldFlow := s.get thCoolant_flow 0
    let s := (s.put thCoolant_outlet 0 (unsigned 16 outlet)).put thCoolant_flow 0 flow
    let s := if decide (oldFlow < 300) != decide (flow < 300) then s.platformEvent 0x0203 flow else s
    let t := s.inlet
    let warn (s : State) (sensor : Nat) (v : Int) : State := s.thermalRecord sensor 4 v
    let s := if 640 < t ∧ !s.on thModStatus_inletHigh 0 then
        warn (s.put thModStatus_inletHigh 0 1 |>.thModEv thModEvent_inletHigh) 368 t
      else if t ≤ 640 then s.put thModStatus_inletHigh 0 0 else s
    let s := if 720 < t ∧ !s.on thModStatus_inletTimer 0 then
        (s.put thModStatus_inletTimer 0 1).thModEv thModEvent_inletTimer
      else if t ≤ 720 then s.put thModStatus_inletTimer 0 0 else s
    if 300 ≤ flow then { s with flowLow := 0 }.put thModStatus_flowLow 0 0 else
    let s := { s with flowLow := min 100 (s.flowLow + 1) }
    if s.flowLow = 100 ∧ !s.on thModStatus_flowLow 0 then
      warn ((s.put thModStatus_flowLow 0 1).thModEv thModEvent_flowLow) 0x0203 flow
    else s)

/-- HEAT_SWITCH_OFF (R432, R435): starts are held, the images with groves on the stand are held, and the stand goes dark. -/
def execHeatSwitchOff (n : Fin 42) (s : State) : Host.Outcome State Fault Refusal :=
  .next (
    if s.hottest n.val < 1680 ∨ s.get pwStandStatus_standPower n.val = 0 then s else
    let s := (s.put thStandStatus_heatOff n.val 1).thEv thEvent_heatOff n.val
    let s := s.thermalRecord (8 * n.val) 3 (s.hottest n.val)
    s.goDark n.val)

/-- Code of a cause of a hard shutdown (TH_MOD_STATUS.last_cause). -/
def hardCode : HardCause → Nat
  | .sensor => 1 | .inlet => 2

/-- HARD_SHUTDOWN (R437): the cause and its tally go to flash, every converter enable is removed, and the module stays in OFF until
both feeds have been removed. -/
def execHardShutdown (cause : HardCause) (s : State) : Host.Outcome State Fault Refusal :=
  .next (
    let meets := match cause with
      | .sensor => s.sensors.any (fun p => decide (1760 ≤ p.2))
      | .inlet => decide (720 < s.inlet) && s.on thModStatus_inletTimer 0
    if s.service = .off || !meets then s else
    let s := { s with latched := true, flash := { s.flash with cause := hardCode cause, causeAt := s.tally, orderly := false } }
    (s.emit (.pin pinThermTrip 0)).powerOff)

/-- HEAT_RETURN (R438): the four junctions read below 85 °C and the inlet at most 40 °C, so the stand wakes from dark. -/
def execHeatReturn (n : Fin 42) (s : State) : Host.Outcome State Fault Refusal :=
  .next (
    let cool := (upTo 4).all (fun k => match s.sensor (8 * n.val + k) with
      | some t => decide (t < 1360)
      | none => false)
    if !s.on thStandStatus_heatOff n.val || !cool || decide (640 < s.inlet) || s.on pwStandStatus_breakerOpen n.val
        || s.on pwStandStatus_segmentOpen n.val then s else
    let s := (s.put thStandStatus_heatOff n.val 0).thEv thEvent_returnReady n.val
    (s.setPower n.val { s.power n.val with returning := true }).wantWake n.val)

end Sys2Proof.Machine
end

