-- ==== Sys2Proof/Machine/Upkeep.lean ====
section
/-! DEFINITION. Array upkeep: cruises, drift clocks, output monitoring, the dispatch of rotations, remapping, stand handover and the
drift snapshot (R97 to R119). -/

namespace Sys2Proof.Machine

/-! ## Cruise (R99 to R105, R108, R109) -/

/-- TL_CRUISE (R99): go starts a cruise of a service tier; a tile whose cruise runs ignores it with cruise_busy (R111), and cruise_en 0
ignores it without. -/
def execTlCruise (t : TileId) (v : BitVec 32) (s : State) : Host.Outcome State Fault Refusal :=
  .next (
    let p := bits v.toNat 0 5
    let g := t.groveId.num
    if !bit v.toNat 31 || !s.on tlUpkeepCtrl_cruiseEn g || !s.groveOn t.groveId then s
    else if (s.tile t).cruise.isSome then s.upkeepEv tlUpkeepEvent_cruiseBusy g
    else if 17 ≤ p ∨ (s.logicalOf t p).isNone then s
    else s.setTile t { s.tile t with cruise := some { phys := p, priority := bit v.toNat 30 } })

/-- Columns with stuck cells are kept for the next rotation into that physical tier; a fifth one retires it (R109, R112). -/
def State.noteStuck (s : State) (t : TileId) (p : Nat) (cols : List Nat) : State :=
  let x := s.tier t p
  let all := x.stuckCols ++ (cols.eraseDups).filter (fun c => c ∉ x.stuckCols)
  let s := s.setTier t p { x with stuckCols := all }
  if 4 < all.length then s.retireTier t p else s

/-- Drift-clock time, in units of 0.05 s × 2^−16, below which two coppice findings in a row retire a tier: 14,400 s (R112). -/
def earlyFinding : Nat := 14400 * 20 * 65536

/-- A cruise meets R108: the coppice is asked for, and counted toward the retirement of R112. -/
def State.scheduleCoppice (s : State) (t : TileId) (k p maxRes : Nat) : State :=
  let d := s.drift t p
  let n := if d.sinceProg < earlyFinding then d.early + 1 else 0
  let s := s.setDrift t p { d with early := n, coppice := true }
  if 2 ≤ n then s.retireTier t p
  else s.askRotation { tile := t, kind := .copy, logical := k, gen := s.get tlGen_currentGen t.num, maxRes := maxRes }

/-- A tier's cruise of SURVEY is over (R118, R463): the next one of its tile starts, and SURVEY ends after the last. -/
def State.surveyNext (s : State) (t : TileId) (p : Nat) : State :=
  if s.service ≠ .survey then s else
  let s := { s with surveyLeft := s.surveyLeft.filter (fun e => e ≠ (t, p)) }
  match s.surveyLeft.find? (fun e => decide (e.1 = t)) with
  | some e => s.setTile t { s.tile t with cruise := some { phys := e.2, priority := true } }
  | none => s.surveyCheck

/-- The last slice of a cruise (R99, R101, R102, R108): the result register, the drift record, and what Forester firmware does with the
finding. -/
def State.endCruise (s : State) (t : TileId) (k : Nat) (c : Cruise) : State :=
  let g := t.groveId.num
  let due := decide (4 < c.maxRes ∨ 6 < c.maxE)
  let s := s.setReg ⟨.tlCruiseResult, t.num, 0, 0⟩ 0
  let s := (s.put tlCruiseResult_tallyLow t.num s.tally).put tlCruiseResult_phys t.num c.phys
  let s := (s.put tlCruiseResult_logical t.num k).put tlCruiseResult_rowIdentityFail t.num (b2n c.badRow)
  let s := (s.put tlCruiseResult_coppiceDue t.num (b2n due)).put tlCruiseResult_maxResidual t.num (min 255 c.maxRes)
  let s := (s.put tlCruiseResult_cellsOver t.num (min 1023 c.overs)).put tlCruiseResult_maxExcursion t.num (min 255 c.maxE)
  let s := s.put tlCruiseResult_stuck t.num (min 7 c.stuck.eraseDups.length)
  let s := s.setTile t { s.tile t with cruise := none }
  let d := s.drift t c.phys
  let s := s.setDrift t c.phys { d with clock := 0, lastCruise := s.tally, finding := c.maxRes, firstLong := false, due := d.due && (due || c.badRow) }
  let s := s.upkeepEv tlUpkeepEvent_cruiseDone g
  let s := if c.stuck.isEmpty then s else s.upkeepEv tlUpkeepEvent_stuckCell g
  let s := if c.badRow then ((s.upkeepEv tlUpkeepEvent_rowIdentityFail g).markSuspect t k).askGolden t k else s
  let s := s.noteStuck t c.phys c.stuck
  let s := if due then (s.upkeepEv tlUpkeepEvent_coppiceDue g).scheduleCoppice t k c.phys c.maxRes
    else if c.badRow then s else s.clearTier t k
  s.surveyNext t c.phys

/-- One cruise read slice of 64 rows with what it finds (R99). -/
def State.cruiseSlice (s : State) (t : TileId) (found : SliceFinding) : State :=
  match (s.tile t).cruise with
  | none => s
  | some c =>
    match s.logicalOf t c.phys with
    | none => (s.setTile t { s.tile t with cruise := none }).surveyNext t c.phys
    | some k =>
      let c := { c with
        slice := c.slice + 1, mvms := 0
        maxRes := max c.maxRes found.maxResidual
        overs := c.overs + found.cellsOver
        maxE := max c.maxE found.maxExcursion
        stuck := c.stuck ++ found.stuck.map (fun x => x.val)
        badRow := c.badRow || found.identityFail }
      if c.slice < 16 then s.setTile t { s.tile t with cruise := some c } else s.endCruise t k c

/-- CRUISE_SLICE (R99): in a gap between MVMs. -/
def execCruiseSlice (t : TileId) (found : SliceFinding) (s : State) : Host.Outcome State Fault Refusal :=
  .next (if s.sliceStarts t costCruise then s.cruiseSlice t found else s)

/-- FORCED_SLICE (R105): a priority cruise that has waited forced_slice_gap MVMs, outside lockstep mode. -/
def execForcedSlice (t : TileId) (found : SliceFinding) (s : State) : Host.Outcome State Fault Refusal :=
  .next (
    let g := t.groveId.num
    match (s.tile t).cruise with
    | none => s
    | some c =>
      if c.priority ∧ s.on tlUpkeepCtrl_forcedSliceEn g ∧ max 1 (s.get tlUpkeepCtrl_forcedSliceGap g) ≤ c.mvms ∧ !s.lockstep ∧
          s.sliceStarts t costCruise then
        (s.upkeepEv tlUpkeepEvent_forcedSlice g).cruiseSlice t found
      else s)

/-! ## Drift clocks (R102, R103) -/

/-- Does a loaded image that uses a tile read it in overdrive or unchecked read (R103, factor u)? -/
def State.loosely (s : State) (t : TileId) : Bool :=
  s.images.any (fun p => bits (p.2.file.hdr 9 1) 1 2 != 0 && p.2.file.tiers.any (fun x =>
    p.2.place.getD x.stand 99 == t.stand.val && x.grove == t.grove.val && x.tile == t.tile.val))

/-- The budget B of a tier in 0.05 s × 2^−16 (R102, R103). -/
def State.budget (s : State) (t : TileId) (p : Nat) : Nat :=
  let d := s.drift t p
  let m := if (s.tier t p).latch.wide then 2 else 1
  let a := if 4 < d.finding ∨ d.suspect ∨ d.firstLong then 4 else if d.finding = 4 then 2 else 1
  let u := if s.loosely t then 2 else 1
  36000 * 65536 / (m * a * u)

/-- A due cruise starts (R102, R105): with priority once its clock is 10 % beyond the budget. One of a tier with a rotation asked for or
in progress is skipped (R111). -/
def State.dueCruise (s : State) (t : TileId) (p : Nat) : State :=
  let d := s.drift t p
  let b := s.budget t p
  if d.clock < b ∧ s.tally < d.lastCruise + 14400000000000 then s
  else if !s.on tlUpkeepCtrl_cruiseEn t.groveId.num then s
  else s.startCruise t p (decide (11 * b < 10 * d.clock))

/-- DRIFT_CLOCK_TICK (R102): every 10 ms, for the programmed service tiers of a stand; a dark stand's clocks advance at its return (R119). -/
def execDriftClockTick (st : Fin 42) (s : State) : Host.Outcome State Fault Refusal :=
  .next (
    if s.get pwStandStatus_standPower st.val = 0 then s else
    let step := driftStep (s.hottest st.val)
    s.each (s.tiles.filter (fun p => p.1.stand = st)) (fun s e =>
      let t := e.1
      s.each (upTo 17) (fun s p =>
        if s.tierState t p ≠ 1 ∨ !(s.tier t p).programmed then s else
        let d := s.drift t p
        let s := s.setDrift t p { d with clock := d.clock + step, sinceProg := d.sinceProg + step }
        if s.groveOn t.groveId then s.dueCruise t p else s)))

/-- EARLY_CRUISE (R104): a priority cruise of a tier after cal_drift, suspect_set, a monitor deviation or a stand's return; cal_drift
asks for one only while the tier is the active one. -/
def execEarlyCruise (t : TileId) (phys : Fin 17) (cause : EarlyCause) (s : State) : Host.Outcome State Fault Refusal :=
  .next (
    let active := s.on tlTileStatus_activeValid t.num && s.get tlTileStatus_activePhys t.num == phys.val
    if !s.groveOn t.groveId || !s.on tlUpkeepCtrl_cruiseEn t.groveId.num || (cause == .calDrift && !active) then s
    else s.startCruise t phys.val true)

/-! ## Output monitoring (R106, R107) -/

/-- MON_START (R106): a write to TL_MON_CTRL; go starts a window and discards a running one. (DEDUCED: log 130.) -/
def execMonStart (g : GroveId) (v : BitVec 32) (s : State) : Host.Outcome State Fault Refusal :=
  .next (
    let n := v.toNat
    let s := ((s.put tlMonCtrl_logical g.num (bits n 24 4)).put tlMonCtrl_tile g.num (bits n 13 11)).put tlMonCtrl_window g.num (bits n 8 5)
    if !bit n 0 || !s.on tlUpkeepCtrl_monEn g.num then s else
    let w := bits n 8 5
    let w := if w < 8 ∨ 16 < w then 12 else w
    let m : Monitor := { tile := bits n 13 11, logical := bits n 24 4, left := 2 ^ w }
    s.setGrove g { s.grove g with monitor := some m })

/-- The bytes of a monitor record: 144 for each data column. -/
def monitorBytes (m : Monitor) : List Byte :=
  (upTo 512).flatMap (fun c =>
    let x := tblGet m.columns c {}
    bytesLE 2 x.min ++ bytesLE 2 x.max ++ bytesLE 4 x.sum ++ bytesLE 4 x.count ++ bytesLE 4 0
      ++ (upTo 64).flatMap (fun b => bytesLE 2 (tblGet x.hist b 0)))

/-- The tests of R107 that a record fails against the calibration record: 0 mean, 1 range, 2 histogram. -/
def deviations (m : Monitor) (r : CalRec) : List Nat :=
  let col (c : Nat) : MonColumn := tblGet m.columns c {}
  let ref (c : Nat) : Nat × Nat × Nat := r.columns.getD c (0, 0, 0)
  let mean := (upTo 512).any (fun c =>
    let x := col c
    decide (r.meanTol * x.count < ((16 * x.sum : Nat) - ((ref c).2.2 * x.count : Nat) : Int).natAbs))
  let range := (upTo 512).any (fun c =>
    let x := col c
    decide (x.min + r.rangeTol < (ref c).1) || decide ((ref c).2.1 + r.rangeTol < x.max))
  let pooled := (upTo 64).map (fun b => ((upTo 512).map (fun c => tblGet (col c).hist b 0)).sum)
  let total := pooled.sum
  let l1 := (pooled.zipIdx.map (fun p => ((65536 * p.1 : Nat) - (r.hist.getD p.2 0 * total : Nat) : Int).natAbs)).sum
  (if mean then [0] else []) ++ (if range then [1] else []) ++ (if r.histTol * total < l1 then [2] else [])

/-- The calibration record of a logical tier in the loaded images (R220). -/
def State.calRecord (s : State) (g : GroveId) (tile k : Nat) : Option CalRec :=
  s.images.findSome? (fun p => p.2.file.calibration.find? (fun r =>
    p.2.place.getD r.stand 99 = g.stand.val ∧ r.grove = g.grove.val ∧ r.tile = tile ∧ r.logical = k))

/-- MON_WINDOW_END (R106, R107): the record goes to HBM and mon_done sets; each test that fails is logged in the journal. The early
cruise that follows is EARLY_CRUISE. -/
def execMonWindowEnd (g : GroveId) (s : State) : Host.Outcome State Fault Refusal :=
  match (s.grove g).monitor with
  | none => .next s
  | some m =>
    let a := 256 * s.get tlMonDest_addr g.num
    if m.left ≠ 0 then .next s
    else if hbmBytes < a + 73728 then .fault (.hbmAddress a)
    else
      let s := s.hbmWrite a (monitorBytes m)
      let s := (s.setGrove g { s.grove g with monitor := none }).upkeepEv tlUpkeepEvent_monDone g.num
      match s.calRecord g m.tile m.logical with
      | none => .next s
      | some r => .next (s.each (deviations m r) (fun s test =>
          s.journalRec s.foresterSource 0x0034 (s.get gvStatus_imageTag g.num) 0xFFFF 0xFFFF
            (g.stand.val + g.grove.val * 2 ^ 8 + m.tile * 2 ^ 16 + m.logical * 2 ^ 32 + test * 2 ^ 40)))

/-! ## Dispatch of rotations (R109, R110, R118) -/

/-- The place of a request among those that wait: LOAD and UPDATE as they came, then coppices, in STREAMING by image, largest residual
first. -/
def State.rotRank (s : State) (r : RotRequest) : Nat × Nat :=
  if r.kind ≠ .copy then (0, 0) else
  let image := if s.service = .streaming then
      ((s.imageTags.find? (fun tag => ((s.image tag).map (fun x => decide (r.tile ∈ x.uncleared.map (fun e => e.1)))).getD false)).map
        (fun tag => tag + 1)).getD 256
    else 0
  (1 + image, 255 - min 255 r.maxRes)

/-- The request that starts next: the first of the lowest rank whose tile can rotate. -/
def State.nextRotation (s : State) (g : GroveId) : Option RotRequest :=
  (s.rotWait.filter (fun r => decide (r.tile.groveId = g) && s.canRotate r.tile r.logical)).foldl (fun (b : Option RotRequest) r =>
    match b with
    | none => some r
    | some x =>
      let a := s.rotRank r
      let c := s.rotRank x
      if a.1 < c.1 ∨ (a.1 = c.1 ∧ a.2 < c.2) then some r else b) none

/-- Forester firmware writes the stuck columns of the rotation tier into TL_REPAIR_LIST (R90, R109). -/
def State.writeRepairList (s : State) (t : TileId) : State :=
  let cols := (s.tier t (s.get tlTileStatus_rotationPhys t.num)).stuckCols
  s.each (upTo 4) (fun s i =>
    (s.put (tlRepairList_valid i) t.num (b2n (decide (i < cols.length)))).put (tlRepairList_column i) t.num (cols.getD i 0))

/-- ROTATION_DISPATCH (R110): a waiting rotation starts while its grove runs fewer than max_rotations; 0 stops new rotations. -/
def execRotationDispatch (g : GroveId) (s : State) : Host.Outcome State Fault Refusal :=
  .next (
    if !s.groveOn g || decide (s.get tlUpkeepCtrl_maxRotations g.num ≤ s.rotationsIn g) then s else
    match s.nextRotation g with
    | none => s
    | some r => ({ s with rotWait := s.rotWait.erase r }.writeRepairList r.tile).startRotation r)

/-! ## Remapping and handover (R113 to R115) -/

/-- REMAP_SWITCH (R113 steps 3 to 5): once the destination is armed, the new entry lands through a shadow slot and the source tier is
released. -/
def execRemapSwitch (g : GroveId) (entry : Fin 32768) (s : State) : Host.Outcome State Fault Refusal :=
  .next (
    match s.remaps.find? (fun r => decide (r.owner.groveId = g) && r.entry == entry.val && !r.done) with
    | none => s
    | some r =>
      if s.get tlTileStatus_rotationState r.dst.num ≠ rsArmed then s else
      let s := s.landSwap r.dst
      let e := s.remapEntry r
      let n := ((upTo 16).find? (fun n => s.getAt gvShadow_arm g.num n == 0)).getD 0
      let s := (s.putAt gvShadow_entry g.num n entry.val).putAt gvShadow_value g.num n e.toNat
      let s := ((s.putAt gvShadow_arm g.num n 0).putAt gvShadow_applied g.num n 1).gvEv gvEvent_shadowApplied g.num
      let s := s.setDispatch g entry.val e
      let s := s.journalRec s.foresterSource 0x0031 (s.get gvStatus_imageTag g.num) 0xFFFF 0xFFFF
        (r.dst.stand.val + r.dst.grove.val * 2 ^ 8 + r.dst.tile.val * 2 ^ 16 + r.logical * 2 ^ 32)
      { s with remaps := s.remaps.erase r ++ [{ r with done := true }] }.releaseTier r.src r.logical)

/-- Retired tiles of a stand, those of its stuck-open groves included (R114, R425). -/
def State.retiredTiles (s : State) (n : Nat) : Nat :=
  (s.tiles.filter (fun p => decide (p.1.stand.val = n) && s.get tlTileStatus_tileState p.1.num == 2)).length
  + ((upTo 16).map (fun k => if bit (s.get pwGroveFault_stuckOpen n) k then 2048 else 0)).sum

/-- An image whose stand hands over switches to the plan for that reserve stand at a barrier (R114): its relay images and patch records
are written, its groves there are loaded, and its steps restart. -/
def State.handImage (s : State) (tag n r : Nat) : State :=
  match s.image tag with
  | none => s
  | some x =>
    match x.file.plans.find? (fun p => p.placement = x.placement ∧ p.faults = [.stand n] ∧ p.reserve = some r ∧ p.number ∉ x.disabled) with
    | none => s
    | some p =>
      let y := { x with plan := p.number, place := x.place.map (fun k => if k = n then r else k) }
      let s := s.each p.relay (fun s e => s.patchWrite (.relay (standOf e.1) e.2.1) e.2.2.toNat)
      let s := s.loadGroves y (x.place.idxOf n) r
      let s := (s.applyRelocs y tag p.patches).1.setImage tag y
      let s := s.journalRec s.foresterSource 0x0032 tag 0xFFFF 0xFFFF p.number
      s.restartSteps tag

/-- Images that have a stand in their set. -/
def State.imagesOn (s : State) (n : Nat) : List Nat :=
  s.imageTags.filter (fun t => ((s.image t).map (fun x => x.hasStand n)).getD false)

/-- The loads that program a reserve stand for the layers of the stand it replaces. -/
def State.handLoads (s : State) (n r : Nat) : List RotRequest :=
  (s.imagesOn n).flatMap (fun t =>
    match s.image t with
    | none => []
    | some x => ({ x with place := x.place.map (fun k => if k = n then r else k) } : Image).loadsOf (x.place.idxOf n))

/-- STAND_HANDOVER (R114, R115): a stand with more than 983 retired tiles hands its layers to a reserve stand, which is first woken and
programmed; the switch follows once it is programmed. The stand then takes the reserve role when its remaining tiles are `fit`, and goes
dark otherwise. With no reserve stand left it keeps serving. -/
def execStandHandover (st : Fin 42) (fit : Bool) (s : State) : Host.Outcome State Fault Refusal :=
  .next (
    let n := st.val
    match s.handover with
    | none =>
      if s.retiredTiles n ≤ 983 ∨ n ∈ s.reserve then s else
      match s.reserve with
      | [] => s.follow
      | r :: rest =>
        ({ s.queueLoads (s.handLoads n r) with handover := some (n, r), reserve := rest }.wantWake r).follow
    | some (m, r) =>
      let loading := s.rotWait.any (fun q => q.tile.stand.val == r) || s.tiles.any (fun p => p.1.stand.val == r && p.2.rotation.isSome
        && s.get tlTileStatus_rotationState p.1.num != rsArmed)
      let moving := s.remaps.any (fun m => m.owner.stand.val == r && !m.done)
      if m ≠ n ∨ loading ∨ moving ∨ s.get pwStandStatus_standPower r ≠ 2 then s else
      let s := s.each (s.tiles.filter (fun p => p.1.stand.val = r)) (fun s p =>
        if s.get tlTileStatus_rotationState p.1.num = rsArmed then s.landSwap p.1 else s)
      let s := s.each (s.imagesOn n) (fun s t => s.handImage t n r)
      let s := { s.dropRemaps n with handover := none }
      let s := if s.lockstep then s.newGrid (s.tally + 240) else s
      (if fit then s.toReserve n else s.goDark n).follow)

/-! ## Drift snapshot (R116) -/

/-- The drift snapshot of every physical tier that a table entry describes: clock in 0.05 s, saturating at 3,276 s, the tally of its
last cruise as its hold time (log 54), and whether it is retired. -/
def State.snapshot (s : State) : State :=
  { s with flash := { s.flash with
      snap := s.tiles.flatMap (fun e => (upTo 17).map (fun p =>
        let d := s.drift e.1 p
        ((e.1, p), ({ clock := min (d.clock / 65536) 65520, hold := d.lastCruise
                      retired := decide (s.tierState e.1 p = 2) } : SnapTier))))
      snapAt := s.tally
      orderly := false } }

/-- DRIFT_SNAPSHOT (R116): every 600 s. -/
def execDriftSnapshot (s : State) : Host.Outcome State Fault Refusal :=
  .next (if s.service = .off ∨ s.service = .stump then s else s.snapshot)

end Sys2Proof.Machine
end

