-- ==== Sys2Proof/Machine/Flags.lean ====
section
/-! DEFINITION. The register map: where each block stands in the Forester address space and in BAR0, what a read of a register shows
and what a write does, by access code (R8, R9, R56, R96, R202, R281, R324, R325, R387, R408, R428, R440, R464). -/

namespace Sys2Proof.Machine

/-- A place inside a block: the block, the unit its registers are numbered by, and the byte offset from the block's start. -/
structure RegPlace where
  block : Block
  unit  : Nat
  off   : Nat
deriving DecidableEq, Repr

/-! ## Addresses -/

/-- Blocks of a stand window (R56, R96, R202, R428, R440). -/
def standPlace (n off : Nat) : Option RegPlace :=
  if 0x40000 ≤ off ∧ off < 0x50000 then some ⟨.tl, n * 16 + (off - 0x40000) / 0x1000, off % 0x1000⟩
  else if 0x50000 ≤ off ∧ off < 0x60000 then some ⟨.gv, n * 16 + (off - 0x50000) / 0x1000, off % 0x1000⟩
  else if 0x80000 ≤ off ∧ off < 0x88000 then some ⟨.sk, n * 8 + (off - 0x80000) / 0x1000, off % 0x1000⟩
  else if 0x90000 ≤ off ∧ off < 0xA0000 then some ⟨.hr, n, off % 0x10000⟩
  else if 0xA0000 ≤ off ∧ off < 0xB0000 then some ⟨.relay, n, off⟩
  else if 0xB0000 ≤ off ∧ off < 0xC0000 then some ⟨.pwStand, n, off % 0x10000⟩
  else if 0xC0000 ≤ off ∧ off < 0xD0000 then some ⟨.thStand, n, off % 0x10000⟩
  else none

/-- Blocks of a landing window (R281, R387, R408, R428, R440, R464); the module blocks of L3 and L7 are one set of registers. -/
def landingPlace (l off : Nat) : Option RegPlace :=
  let o := off % 0x10000
  match off / 0x10000 with
  | 2 => some ⟨.sq, l, o⟩
  | 3 => some ⟨.ld, l, o⟩
  | 4 => if l = 1 ∨ l = 5 then some ⟨.tw, l, o⟩ else none
  | 5 => if l = 3 ∨ l = 7 then some ⟨.pwModule, 0, o⟩ else none
  | 6 => if l = 3 ∨ l = 7 then some ⟨.thModule, 0, o⟩ else none
  | 7 => if l = 3 ∨ l = 7 then some ⟨.bt, l, o⟩ else none
  | _ => none

/-- A window of the Forester address space: the stand or the landing, and the offset in it. -/
inductive RegWindow where
  | stand (n off : Nat)
  | landing (l off : Nat)
deriving DecidableEq, Repr

/-- The window of a Forester address (R56, R281). -/
def windowOf (addr : Nat) : Option RegWindow :=
  if 0x40000000 ≤ addr ∧ addr < 0x40000000 + 42 * 0x100000 then
    some (.stand ((addr - 0x40000000) / 0x100000) ((addr - 0x40000000) % 0x100000))
  else if 0x60000000 ≤ addr ∧ addr < 0x60000000 + 8 * 0x100000 then
    some (.landing ((addr - 0x60000000) / 0x100000) ((addr - 0x60000000) % 0x100000))
  else none

/-- The block and offset of a window place. -/
def RegWindow.place : RegWindow → Option RegPlace
  | .stand n off => standPlace n off
  | .landing l off => landingPlace l off

/-- Pair-wide TW registers are one set in L1 and L5 (R408). -/
def Reg.pairWide : Reg → Bool
  | .twPairStatus | .twPartnerId | .twCtrl | .twOffset | .twMirrorStats | .twMirrorPool => true
  | _ => false

/-- The byte distance of the entries of a register; a single register counts as one entry of its own size. -/
def Reg.step (r : Reg) : Nat := if r.stride = 0 then r.width / 8 else r.stride

/-- Entries of a register that `n` bytes from an offset of its block touch. -/
def Reg.touched (r : Reg) (off n : Nat) : List Nat :=
  if n = 0 then [] else
  let last := if off + n ≤ r.offset then 0 else min r.count ((off + n - 1 - r.offset) / r.step + 1)
  let first := if off < r.offset then 0 else (off - r.offset) / r.step
  (upTo (last - first)).filterMap (fun k =>
    let i := first + k
    if r.offset + i * r.step < off + n ∧ off < r.offset + i * r.step + r.width / 8 then some i else none)

/-- Registers and entries of a block that an access touches. -/
def Block.touched (b : Block) (off n : Nat) : List (Reg × Nat) :=
  b.regs.flatMap (fun r => (r.touched off n).map (fun i => (r, i)))

/-- The key of a register of a place's block: per-tile registers are those of the tile in TL_SELECT (R96), RO/L ones those of the bank
in force (R451). -/
def State.regKey (s : State) (p : RegPlace) (r : Reg) (idx : Nat) : RegKey :=
  let unit := if r.perTile then p.unit * 2048 + s.get tlSelect_tile p.unit else if r.pairWide then 0 else p.unit
  let bank := match r with
    | .skClosure | .sqListArea | .cpFuncRights | .twMirrorPool => s.protBank
    | _ => 0
  ⟨r, unit, idx, bank⟩

/-! ## Reads -/

/-- The 128 bits of SQ_COUNTS: entries that the landing holds, by state. -/
def State.seqCounts (s : State) (l : Nat) : Nat :=
  let n (st : Nat) : Nat := (s.seqs.filter (fun p => seqLanding p.1 = l ∧ p.2.entry.state = st)).length
  n 1 + n 2 * 2 ^ 16 + n 3 * 2 ^ 32 + n 4 * 2 ^ 48 + n 5 * 2 ^ 64 + (4096 - (n 1 + n 2 + n 3 + n 4 + n 5)) * 2 ^ 80

/-- A grove's number from its unit. -/
def groveOfUnit (u : Nat) : GroveId := ⟨Fin.ofNat 42 (u / 16), Fin.ofNat 16 u⟩

/-- The lengths of a grove's stage queues from `lo` on, in 8 bits each. -/
def State.queueBytes (s : State) (g : GroveId) (stages : List Nat) : Nat :=
  fromLE (stages.map (fun k => BitVec.ofNat 8 ((s.grove g).queue k).length))

/-- The firmware record of the active Forester. -/
def State.activeFirmware (s : State) : BitVec 16 × BitVec 16 :=
  match (tblFind s.running_ (s.activeForester, 0)).map (fun (r : SignedRecord) => r.body) with
  | some (.firmware build daush) => (build, daush)
  | _ => (0, 0)

/-- What a register holds or shows: registers that show other state are computed from it. (DEDUCED: log 144.) -/
def State.viewReg (s : State) (k : RegKey) : Nat :=
  match k.reg with
  | .hrStepNow => if s.lockstep then s.stepNumber (s.road' (standOf k.unit)).tally else 0
  | .gvQueueLevel => s.queueBytes (groveOfUnit k.unit) [0, 1, 2, 3, 5, 6, 7, 8]
  | .gvQueueLevel2 =>
    let g := groveOfUnit k.unit
    ((s.grove g).queue 4).length % 512 + ((s.grove g).queue 9).length % 64 * 512
  | .gvDispatchData => (s.dispatchEntry (groveOfUnit k.unit) (s.get gvDispatchIndex_entry k.unit)).toNat
  | .sqEntry =>
    let i := s.get sqSelect_entry k.unit
    if seqLanding i = k.unit then
      match tblFind s.seqs i with
      | some x => fromLE (((entryBytes x.entry i).drop (8 * k.idx)).take 8)
      | none => 0
    else 0
  | .sqCounts => s.seqCounts k.unit
  | .sqPool => s.poolPages k.unit % 2 ^ 24 + s.freeIn k.unit % 2 ^ 24 * 2 ^ 24
  | .cpVersion => s.activeFirmware.2.toNat + s.activeFirmware.1.toNat * 2 ^ 16
  | .cpModuleId => Config.serial.toNat
  | .cpStatus =>
    s.service.code + s.activeForester * 16 + b2n (decide (s.get twPairStatus_state 0 = 2)) * 32 + b2n s.ptp.locked * 64
      + b2n s.lockstep * 128 + b2n s.exact * 256 + b2n (s.tenantOf (Fin.ofNat 256 k.unit)).isSome * 512
  | .cpTally => s.tally % 2 ^ 64
  | _ => (s.reg k).toNat

/-- Bits that a read shows as 0 although the register holds them: WO fields (R8). -/
def Reg.hidden (r : Reg) (v : Nat) : Nat :=
  r.rows.foldl (fun v f => if f.acc = .wo ∨ f.acc = .rsv then putBits v f.lo f.len 0 else v) v

/-- A read of a register. -/
def State.readKey (s : State) (k : RegKey) : Nat := k.reg.hidden (s.viewReg k)

/-- A byte of a block: 0 where no register stands (R356). -/
def State.readByte (s : State) (p : RegPlace) (off : Nat) : Byte :=
  match p.block.touched off 1 with
  | (r, i) :: _ => BitVec.ofNat 8 (s.readKey (s.regKey p r i) / 256 ^ (off - (r.offset + i * r.step)))
  | [] => 0

/-- `n` bytes of the Forester address space, 0 where no register stands; none outside every window. -/
def State.readForester (s : State) (addr n : Nat) : Option (List Byte) :=
  (windowOf addr).map (fun w => (upTo n).map (fun k =>
    match (match w with
      | .stand m off => standPlace m (off + k)
      | .landing l off => landingPlace l (off + k)) with
    | some p => s.readByte p p.off
    | none => 0))

/-! ## Writes -/

/-- The register that counts the events of a W1C register (R9). -/
def Reg.counts : Reg → Option Reg
  | .skEvent => some .skEventCount
  | .hrEvent => some .hrEventCount
  | .tlEvent => some .tlEventCount
  | .tlUpkeepEvent => some .tlUpkeepEventCount
  | .gvEvent => some .gvEventCount
  | .hrSlipEvent => some .hrSlipEventCount
  | .sqEvent => some .sqEventCount
  | .sqFellEvent => some .sqFellEventCount
  | .cpEventStatus => some .cpEventCount
  | .ldEvent => some .ldEventCount
  | .twEvent => some .twEventCount
  | .pwEvent => some .pwEventCount
  | .pwModEvent => some .pwModEventCount
  | .thEvent => some .thEventCount
  | .thModEvent => some .thModEventCount
  | .btEvent => some .btEventCount
  | _ => none

/-- One field of a write: an RW field takes the written bits, W1C and W1S bits clear and set, the others keep theirs (R8); registers with WO
fields act at once (`writeActs`).
`mask` marks the bits of the bytes that the access carries. -/
def FieldRow.written (f : FieldRow) (old v mask : Nat) : Nat :=
  let x := bits v f.lo f.len
  let o := bits old f.lo f.len
  let m := bits mask f.lo f.len
  let n := match f.acc with
    | .rw => (o &&& (2 ^ f.len - 1 - m)) ||| (x &&& m)
    | .w1c => o &&& (2 ^ f.len - 1 - (x &&& m))
    | .w1s => o ||| (x &&& m)
    | _ => o
  putBits old f.lo f.len n

/-- A register after a write, by its fields. -/
def Reg.written (r : Reg) (old v mask : Nat) : Nat := r.rows.foldl (fun o f => f.written o v mask) old

/-- Would a write change an RO/L field (R8)? -/
def Reg.lockHit (r : Reg) (old v mask : Nat) : Bool :=
  r.rows.any (fun f => f.acc == .rol &&
    (bits v f.lo f.len &&& bits mask f.lo f.len) != (bits old f.lo f.len &&& bits mask f.lo f.len))

/-- RO/L fields of a register take a write of stump code before the lock (R451). -/
def Reg.writtenRol (r : Reg) (old v mask : Nat) : Nat :=
  r.rows.foldl (fun o f =>
    if f.acc = .rol then
      let m := bits mask f.lo f.len
      putBits o f.lo f.len ((bits o f.lo f.len &&& (2 ^ f.len - 1 - m)) ||| (bits v f.lo f.len &&& m))
    else o) old

/-- A hardware set of event bits beside a write (R9): the bits end set, and their counts advance. -/
def State.hwSet (s : State) (k : RegKey) (sets : Nat) : State :=
  match k.reg.counts with
  | none => s
  | some c =>
    s.each (k.reg.rows.filter (fun f => f.acc = .w1c ∧ bit sets f.lo)) (fun s f =>
      if k.reg = .cpEventStatus then s.cpEv ⟨.cpEventStatus, f.lo, 1⟩ (Fin.ofNat 256 k.unit)
      else s.raise ⟨k.reg, f.lo, 1⟩ c k.unit)

/-- A write of TW_FAULT_INJ: outside TEST it is ignored and logged as INJECT (R338). -/
def State.writeTwinInject (s : State) (l v : Nat) : State :=
  if s.service = .test then
    let s : State := { s with twin := { s.twin with injects := tblErase s.twin.injects (if l = 1 then 0 else 1) } }
    s.setReg ⟨.twFaultInj, l, 0, 0⟩ (BitVec.ofNat 128 (v % 2 ^ 32))
  else s.violation l (48 + l) 10 none 0 (0x60000000 + l * 0x100000 + 0x40048) 0

/-- The tile of a per-tile register's unit. -/
def tileOfUnit (u : Nat) : TileId := ⟨Fin.ofNat 42 (u / 32768), Fin.ofNat 16 (u / 2048), Fin.ofNat 2048 u⟩

/-- Writes of the registers whose write acts at once: the meanings of their rows. -/
def State.writeActs (s : State) (k : RegKey) (v : Nat) : Option (Host.Outcome State Fault Refusal) :=
  match k.reg with
  | .skSpareForce =>
    some (execSkSpareForce (Fin.ofNat 42 (k.unit / 8)) (Fin.ofNat 8 k.unit) (BitVec.ofNat 32 v) s)
  | .skFaultInj => some (execSkFaultInjWrite (Fin.ofNat 42 (k.unit / 8)) (Fin.ofNat 8 k.unit) (BitVec.ofNat 32 v) s)
  | .tlRotate =>
    some (match bits v 60 3 with
      | 0 => execTlRotateCopy (tileOfUnit k.unit) (BitVec.ofNat 64 v) s
      | 1 => execTlRotateLoad (tileOfUnit k.unit) (BitVec.ofNat 64 v) s
      | 2 => execTlRotateUpdate (tileOfUnit k.unit) (BitVec.ofNat 64 v) s
      | _ => .next s)
  | .tlCruise => some (execTlCruise (tileOfUnit k.unit) (BitVec.ofNat 32 v) s)
  | .tlMonCtrl => some (execMonStart (groveOfUnit k.unit) (BitVec.ofNat 32 v) s)
  | .pwBreaker => some (execPwBreakerClose (Fin.ofNat 42 k.unit) (BitVec.ofNat 32 v) s)
  | .mbPost => some (execMbPost (Fin.ofNat 256 k.unit) (BitVec.ofNat 32 v) s)
  | .mbCtrl => some (if bit v 0 then execMbAbort (Fin.ofNat 256 k.unit) s else .next s)
  | .twFaultInj => some (.next (s.writeTwinInject k.unit v))
  | .gvDispatchData =>
    some (.next (s.setDispatch (groveOfUnit k.unit) (s.get gvDispatchIndex_entry k.unit) (BitVec.ofNat 64 v)))
  | _ => none

/-- What follows the write of a plain register: a written arm clears `applied` (GV_SHADOW), a new set limit makes a new limit in
force (R411). -/
def State.writeFollows (s : State) (k : RegKey) (v mask : Nat) : State :=
  match k.reg with
  | .gvShadow => if bit (v &&& mask) 127 then s.putAt gvShadow_applied k.unit k.idx 0 else s
  | .pwModuleLimit => s.newModuleLimit
  | _ => s

/-- A write of one register: `v` and `mask` are its bits and the bits the access carries. -/
def State.writeKey (s : State) (k : RegKey) (v mask sets : Nat) (locked : State → State) (stump : Bool) :
    Host.Outcome State Fault Refusal :=
  let old := s.viewReg k
  let merged := (old &&& (2 ^ k.reg.width - 1 - mask)) ||| (v &&& mask)
  match s.writeActs k merged with
  | some o => o
  | none =>
    if stump && !s.protLocked && k.reg.rows.any (fun f => f.acc == .rol) then
      let j : RegKey := { k with bank := if k.reg = .pwModuleLimit then 0 else 1 - s.protBank }
      .next (s.setReg j (BitVec.ofNat 128 (k.reg.writtenRol (s.reg j).toNat v mask)))
    else
      let s := if k.reg.lockHit old v mask then locked s else s
      let s := if k.reg.rows.any (fun f => decide (f.acc = .rw ∨ f.acc = .w1c ∨ f.acc = .w1s)) then
          s.setReg k (BitVec.ofNat 128 (k.reg.written (s.reg k).toNat v mask))
        else s
      .next ((s.writeFollows k v mask).hwSet k sets)

/-- Writes of several registers, one after another; the first stop ends them. -/
def writeAll : List (State → Host.Outcome State Fault Refusal) → State → Host.Outcome State Fault Refusal
  | [], s => .next s
  | f :: r, s =>
    match f s with
    | .next s => writeAll r s
    | .fault e => .fault e
    | .refused e => .refused e

/-- A write of `n` bytes at a place of a block: to every register that it touches. Bytes where no register stands are ignored. -/
def State.writePlace (s : State) (p : RegPlace) (n v sets : Nat) (locked : State → State) (stump : Bool) :
    Host.Outcome State Fault Refusal :=
  writeAll ((p.block.touched p.off n).map (fun q s =>
    let base := q.1.offset + q.2 * q.1.step
    let shift (x : Nat) : Nat := (if p.off ≤ base then x / 256 ^ (base - p.off) else x * 256 ^ (p.off - base)) % 2 ^ q.1.width
    s.writeKey (s.regKey p q.1 q.2) (shift (v % 256 ^ n)) (shift (256 ^ n - 1)) sets locked stump)) s

/-- A write to the Forester address space. A violation of kind LOCKED is logged by the active Forester for a stand's register and by the
landing for its own (R338, R339); an address outside every window has no register. -/
def State.writeForester (s : State) (addr n v sets : Nat) (stump : Bool) : Host.Outcome State Fault Refusal :=
  match windowOf addr with
  | none => .fault (.noRegister addr)
  | some w =>
    match w.place with
    | none => .next s
    | some p =>
      let locked (s : State) : State := match w with
        | .stand m _ => s.foresterViolation m 8 none 0 addr 0
        | .landing l _ => s.violation l (48 + l) 8 none 0 addr 0
      s.writePlace p n v sets locked stump

/-- A write to a function's MSI-X table (R324, R335): the entry's bytes are replaced, and an unmasked vector that is pending sends. -/
def State.writeMsix (s : State) (f : Fin 256) (off n v : Nat) : State :=
  let x := s.func f
  let s := s.each (upTo n) (fun s k =>
    let y := s.func f
    let at_ := off + k
    let e := tblGet y.msixTable (at_ / 16) (BitVec.ofNat 128 (2 ^ 96))
    let e := BitVec.ofNat 128 (putBits e.toNat (8 * (at_ % 16)) 8 (bits v (8 * k) 8))
    s.setFunc f { y with msixTable := tblSet y.msixTable (at_ / 16) e })
  if x.exists_ then s.sendPending f else s

/-- A host write to BAR0 (R324, R325). -/
def State.writeBar0 (s : State) (f : Fin 256) (off n v sets : Nat) : Host.Outcome State Fault Refusal :=
  let l := portLanding f.val
  if !(s.func f).exists_ || s.service == .off then .next s
  else if off < 0x100 then
    if !(n = 4 ∨ n = 8) || off % n ≠ 0 then .next (s.violation l (48 + l) 7 (some f) 0 off 0)
    else s.writePlace ⟨.cp, f.val, off⟩ n v sets (fun s => s.violation l (48 + l) 8 (some f) 0 off 0) false
  else if 0x1000 ≤ off ∧ off + n ≤ 0x1100 then .next (s.writeMsix f (off - 0x1000) n v)
  else .next s

/-- A write to the Command register of a function (R319): bit 2 is Bus Master Enable; messages that waited go out. -/
def State.writeCommand (s : State) (f : Fin 256) (v : Nat) : State :=
  if !(s.func f).exists_ || s.service == .off then s
  else (s.setFunc f { s.func f with busMaster := bit v 2 }).sendPending f

end Sys2Proof.Machine
end

