-- ==== Sys2Proof/Machine/Sampler.lean ====
section
/-! DEFINITION. The sampler of the output head, and the acceptance rules of native and tree speculation (R282 to R293).
(DEDUCED: log 162.) -/

namespace Sys2Proof.Machine

/-- Tokens with their weights. -/
abbrev Weights := List (Nat × Nat)

/-- Sum of weights. -/
def Weights.total (k : Weights) : Nat := (k.map (fun p => p.2)).sum

/-- The weight of a token; 0 outside the set. -/
def Weights.of (k : Weights) (t : Nat) : Nat := ((k.find? (fun p => p.1 == t)).map (fun p => p.2)).getD 0

/-- Is a bfloat16 zero, of either sign? -/
def bf16Zero (v : BitVec 16) : Bool := v.toNat % 2 ^ 15 == 0

/-- Tokens by logit, largest first, the lower number first among ties (R282). -/
def byLogit (logits : List (BitVec 16)) : List Nat :=
  (sortBy ((logits.map (fun v => bf16Ex v.toNat)).zipIdx) (fun a b => !(a.1.lt b.1))).map (fun p => p.2)

/-- c: log2(e) / T rounded to bfloat16, at most the largest finite value (R283 step 1). -/
def sampleScale (temperature : BitVec 16) : Ex :=
  let t := bf16Ex temperature.toNat
  bf16Ex (FFmt.bf16.encodeSat ⟨fxOne, fxLn2.natAbs * t.num.natAbs, -t.exp⟩ .nearestEven)

/-- The tokens in order of weight: P descending, then number ascending (R283). -/
def sampleOrder (temperature : BitVec 16) (logits : List (BitVec 16)) : Weights :=
  let c := sampleScale temperature
  let zs := logits.map (fun v => (scoreZ (bf16Ex v.toNat) c).1)
  let ceil (k : Int) : Int := -((-k) / 1024)
  let top := (zs.map ceil).foldl max (ceil (zs.headD 0))
  (sortBy (zs.zipIdx.map (fun p => (p.2, pow2Near (p.1 - 1024 * top + 24 * 1024)))) (fun a b => decide (b.2 ≤ a.2)))

/-- The shortest prefix whose weight sum meets `top_p × total` (R283). -/
def topPrefix (p : Ex) (total : Nat) : Nat → Weights → Weights
  | _, [] => []
  | acc, k :: r =>
    if (Ex.ofInt ((acc + k.2 : Nat) : Int)).lt (p.mul (Ex.ofInt (total : Int))) then k :: topPrefix p total (acc + k.2) r else [k]

/-- The kept set with its weights, in sampler order (R282, R283). -/
def keptSet (e : SeqEntry) (logits : List (BitVec 16)) : Weights :=
  if bf16Zero e.temperature then ((byLogit logits).head?.map (fun t => [(t, 1)])).getD []
  else
    let o := sampleOrder e.temperature logits
    let o := if e.topK = 0 then o else o.take e.topK
    if bf16Zero e.topP then o else topPrefix (bf16Ex e.topP.toNat) (Weights.total o) 0 o

/-- The sapling's order for the ranks of a tree template: its kept set, or at temperature 0 its tokens by logit (R282, R292). -/
def rankOrder (e : SeqEntry) (logits : List (BitVec 16)) : List Nat :=
  if bf16Zero e.temperature then byLogit logits else (keptSet e logits).map (fun p => p.1)

/-- The first token, in ascending number, at which the running weight sum exceeds `t` (R284). -/
def runTo (t : Nat) : Nat → Weights → Option Nat
  | _, [] => none
  | acc, k :: r => if t < acc + k.2 then some k.1 else runTo t (acc + k.2) r

/-- A draw from weights with a draw index at a position (R284), with the hash inputs of an image and a sequence. -/
def State.draw (s : State) (tag i pos index : Nat) (k : Weights) : Nat :=
  let h := s.hashOf tag i
  let r (n : Nat) : Nat := counterHash h.1 h.2.1 h.2.2 (BitVec.ofNat 32 pos) 0xFFFF (BitVec.ofNat 32 n) 5
  let u := r (2 * index) * 2 ^ 24 + r (2 * index + 1)
  (runTo (u * Weights.total k / 2 ^ 48) 0 (sortBy k (fun a b => decide (a.1 ≤ b.1)))).getD 0

/-- The test of R289 for a candidate: target weights p, sapling weights q, position and candidate index. -/
def State.accepts (s : State) (tag i pos elem : Nat) (p q : Weights) (d : Nat) : Bool :=
  let h := s.hashOf tag i
  let r := counterHash h.1 h.2.1 h.2.2 (BitVec.ofNat 32 pos) 0xFFFE (BitVec.ofNat 32 elem) 6
  decide (r * Weights.of q d * Weights.total p < 2 ^ 24 * Weights.of p d * Weights.total q)

/-- Residual weights (R290). -/
def residual (p q : Weights) : Weights :=
  let w := p.map (fun k => (k.1, k.2 * Weights.total q - Weights.of q k.1 * Weights.total p))
  let top := (w.map (fun k => k.2)).foldl max 0
  w.map (fun k => (k.1, k.2 * 2 ^ 24 / top))

/-- The draft tokens of a native pass: d_1 to d_k, drawn by the sapling at positions length + 1 on (R286). -/
def State.drafts (s : State) (e : SeqEntry) (draft : List (List (BitVec 16))) : List Nat :=
  let q := (s.seq e.saplingSeq).entry
  draft.zipIdx.map (fun p => s.draw e.saplingTag e.saplingSeq (e.length + p.2 + 1) 0 (keptSet q p.1))

/-- The tokens that a native pass commits, each with the number of the vector that gave it (R286, R287, R289): `n` is the index of
the candidate tested. -/
def State.nativePass (s : State) (i : Nat) (e : SeqEntry) : Nat → List (Nat × List (BitVec 16) × List (BitVec 16)) → List (Nat × Nat)
  | _, [] => []
  | n, (d, target, draft) :: r =>
    let pos := e.length + n
    let p := keptSet e target
    if e.acceptance = 0 then
      let t := s.draw e.imageTag i pos 0 p
      if d = t then (d, n - 1) :: s.nativePass i e (n + 1) r else [(t, n - 1)]
    else
      let q := keptSet (s.seq e.saplingSeq).entry draft
      if s.accepts e.imageTag i pos n p q d then (d, n - 1) :: s.nativePass i e (n + 1) r
      else [(s.draw e.imageTag i pos 1 (residual p q), n - 1)]

/-! ## Tree mode (R292, R293) -/

/-- Depth of a node of a template, by `fuel` steps to the root. -/
def treeDepth (x : TreeTemplate) : Nat → Nat → Nat
  | 0, _ => 0
  | fuel + 1, v => if v = 0 then 0 else 1 + treeDepth x fuel (x.parents.getD v 0)

/-- The children of a node below `n`, in node order. (DEDUCED: log 131.) -/
def treeChildren (x : TreeTemplate) (n v : Nat) : List Nat :=
  (upTo n).filter (fun c => decide (0 < c) && decide (x.parents.getD c 0 = v))

/-- Test the children of a node in order (R293 step 3): the accepted child, or none with the weights left and whether a child was rejected. -/
def State.treeTest (s : State) (i : Nat) (e : SeqEntry) (x : TreeTemplate) (q : Weights) (order : List Nat) (pos : Nat) :
    Weights → Bool → List Nat → Option (Nat × Nat) × Weights × Bool
  | p, rej, [] => (none, p, rej)
  | p, rej, c :: r =>
    match order[x.ranks.getD c 0]? with
    | none => s.treeTest i e x q order pos p rej r
    | some d =>
      if e.acceptance = 0 then
        if d = s.draw e.imageTag i pos 0 p then (some (c, d), p, rej) else s.treeTest i e x q order pos p rej r
      else if s.accepts e.imageTag i pos c p q d then (some (c, d), p, rej)
      else s.treeTest i e x q order pos (residual p q) true r

/-- The walk of acceptance (R293): the accepted nodes with their tokens, then the final draw with the node it comes from. `n` nodes are
in the pass; `fuel` bounds the depth. -/
def State.treeWalk (s : State) (i : Nat) (e : SeqEntry) (x : TreeTemplate) (n : Nat) (out : HeadOutput) :
    Nat → Nat → Nat → List (Nat × Nat)
  | 0, _, _ => []
  | fuel + 1, v, depth =>
    let p := keptSet e (out.target.getD v [])
    let sap := (s.seq e.saplingSeq).entry
    let dl := out.draft.getD v []
    let pos := e.length + depth + 1
    match s.treeTest i e x (keptSet sap dl) (rankOrder sap dl) pos p false (treeChildren x n v) with
    | (some (c, d), _, _) => (d, v) :: s.treeWalk i e x n out fuel c (depth + 1)
    | (none, p', rej) => [(s.draw e.imageTag i pos (if rej then 1 else 0) p', v)]

/-- The template of a tree sequence: the one whose N equals its candidates (R292). -/
def State.template (s : State) (e : SeqEntry) : TreeTemplate :=
  (((s.image e.imageTag).bind (fun x => x.file.templates.find? (fun t => t.parents.length == e.candidates)))).getD ⟨[], []⟩

/-- The tokens that a step commits, each with the number of the verify vector whose logits gave it (R284, R286, R293). `count` vectors
ran. -/
def State.commitTokens (s : State) (i count : Nat) (prefill : Bool) (out : HeadOutput) : List (Nat × Nat) :=
  let e := (s.seq i).entry
  if prefill then [(s.draw e.imageTag i e.promptLen 0 (keptSet e (out.target.headD [])), 0)]
  else match e.specMode with
    | 1 =>
      let n := min count (min out.target.length out.draft.length)
      s.nativePass i e 1 ((s.drafts e (out.draft.take n)).zip ((out.target.take n).zip (out.draft.take n)))
    | 2 => s.treeWalk i e (s.template e) count out 65 0 0
    | _ => [(s.draw e.imageTag i (e.length + 1) 0 (keptSet e (out.target.headD [])), 0)]

end Sys2Proof.Machine
end

