-- ==== Sys2Proof/Machine/Admission.lean ====
section
/-! DEFINITION. Load, predicted latency and admission (R297 to R308), the variants that an admission needs (R274), and the mirror pool
(R396). Predictions are exact fractions. -/

namespace Sys2Proof.Machine

/-! ## Step times (R219, R300) -/

/-- The step-time entry of an image for a kind and a candidate count, under the plan in force, with the factor of R300: 1, or 1.25 where
the plan has no entry of the kind and the primary plan's is used. -/
def State.stepTime (s : State) (tag kind cand : Nat) : Option (StepTime × Rat) :=
  match s.image tag with
  | none => none
  | some x =>
    let find (plan : Nat) : Option StepTime := x.file.stepTimes.find? (fun t =>
      t.kind == kind && t.stepping == partStepping && t.lockstep == s.lockstep && t.plan == plan
      && (t.candidates == cand || !(kind == 2 || kind == 4)))
    match find x.plan with
    | some t => some (t, 1)
    | none => (find 0).map (fun t => (t, 5 / 4))

/-- t_base of a kind. -/
def State.tBase (s : State) (tag kind cand : Nat) : Rat :=
  match s.stepTime tag kind cand with
  | some (t, f) => f * t.tBase
  | none => 0

/-- t(kind, n) in ns (R301). -/
def State.tAt (s : State) (tag kind cand n : Nat) : Rat :=
  match s.stepTime tag kind cand with
  | some (t, f) => f * (t.tBase + t.tCtx * ceilDiv n 1024)
  | none => 0

/-- h: the slowdown of heat, from the hottest junction among the image's stands (R301). -/
def State.heatOf (s : State) (tag kind cand : Nat) : Rat :=
  let top := (((s.image tag).map (fun x => x.place)).getD []).foldl (fun m n => max m (s.hottest n)) 0
  match s.stepTime tag kind cand with
  | some (t, _) => 1 + ((t.hot : Rat) / 1024 - 1) * min 1 (max 0 (((top : Rat) / 16 - 70) / 25))
  | none => 1

/-- q_kind: the largest ratio of measured to predicted step time of the last 256 steps, or 1.25 until there are 256 (R301). -/
def State.ratioOf (s : State) (tag kind : Nat) : Rat :=
  let rs := ((s.image tag).map (fun x => tblGet x.ratios kind [])).getD []
  if rs.length < 256 then 5 / 4 else (rs.map (fun r => (r.1 : Rat) / r.2)).foldl max 0

/-- The kind of a decode step: 0, or 2 and 4 with native and tree speculation. -/
def decodeKind (spec : Nat) : Nat := match spec with | 1 => 2 | 2 => 4 | _ => 0

/-! ## Load (R300) -/

/-- The weight of prefill, and of decode with a speculation mode and its candidates. -/
def State.prefillWeight (s : State) (tag : Nat) : Rat := s.tBase tag 1 1 / s.tBase tag 0 1
def State.decodeWeight (s : State) (tag spec cand : Nat) : Rat :=
  if spec = 0 then 1 else s.tBase tag (decodeKind spec) cand / s.tBase tag 0 1

/-- The weight of an open sequence in PREFILL or DECODE. -/
def State.weightOf (s : State) (i : Nat) : Rat :=
  let e := (s.seq i).entry
  if e.state = seqPrefill then s.prefillWeight e.imageTag else s.decodeWeight e.imageTag e.specMode e.candidates

/-- Sequences of an image that run: in PREFILL or DECODE, and no mirrors of the partner's. -/
def State.running (s : State) (tag : Nat) : List Nat :=
  (s.seqsOf tag).filter (fun i =>
    let e := (s.seq i).entry
    !e.partner && (e.state == seqPrefill || e.state == seqDecode))

/-- U of an image. -/
def State.loadU (s : State) (tag : Nat) : Rat := ((s.running tag).map s.weightOf).foldl (· + ·) 0

/-- s(U): the slowdown at a load; the capacity is layers × smallest replication factor. -/
def State.slowdown (s : State) (tag : Nat) (u : Rat) : Rat :=
  let ls := s.layers tag
  let rep := (ls.map (fun l => l.replication)).foldl min ((ls.map (fun l => l.replication)).headD 1)
  max 1 (u / ((ls.length * rep : Nat) : Rat))

/-! ## Open requests (R354) -/

/-- An open request. -/
structure OpenReq where
  tenant : Nat
  tag : Nat
  cls : Nat
  flags : Nat
  spec : Nat
  variant : Nat
  cand : Nat
  acceptance : Nat
  promptLen : Nat
  maxLen : Nat
  expect : Nat
  ttft : Nat
  itl : Nat
  tokensLeft : Nat
  key : Nat
  temperature : Nat
  topP : Nat
  topK : Nat
  sapling : Nat
  stop : Nat
  logitsN : Nat
deriving DecidableEq, Repr

/-- The request that a SEQ_OPEN body spells; `at_` reads a field of the body in its byte order. -/
def openOf (tenant : Nat) (at_ : Nat → Nat → Nat) (logitsN : Nat) : OpenReq :=
  ⟨tenant, at_ 0 1, at_ 1 1, at_ 2 1, at_ 3 1, at_ 4 2, at_ 6 1, at_ 7 1, at_ 8 4, at_ 12 4, at_ 16 4, at_ 20 4, at_ 24 4, at_ 28 4,
    at_ 32 8, at_ 40 2, at_ 42 2, at_ 44 2, at_ 46 1, at_ 48 4, logitsN⟩

def OpenReq.overcommit (r : OpenReq) : Bool := bit r.flags 0
def OpenReq.adapt (r : OpenReq) : Bool := bit r.flags 1

/-- Is a bfloat16 code finite, and not below 0? −0 counts as 0. -/
def notNegative (v : Nat) : Bool := (FFmt.bf16.decode v).finite && (decide (v < 2 ^ 15) || decide (v % 2 ^ 15 = 0))

/-- The field checks of a request: body offset and verdict (R354). (DEDUCED: log 132.) -/
def State.openFields (s : State) (r : OpenReq) : List (Nat × Bool) :=
  let templates := ((s.image r.tag).map (fun x => x.file.templates)).getD []
  [(1, decide (r.cls < 8)), (2, decide (r.flags < 4)), (3, decide (r.spec < 3)),
   (4, decide (r.variant = 0) || (match s.image r.tag with
      | some x => (tblFind x.variants r.variant).isSome
      | none => true)),
   (6, match r.spec with
      | 0 => decide (r.cand = 1)
      | 1 => decide (1 ≤ r.cand ∧ r.cand ≤ 16)
      | _ => (s.image r.tag).isNone || templates.any (fun t => t.parents.length == r.cand)),
   (7, decide (r.acceptance < 2)),
   (40, notNegative r.temperature),
   (42, notNegative r.topP && !(Ex.ofInt 1).lt (bf16Ex r.topP)),
   (46, decide (r.spec = 0) == decide (r.sapling = 0))]

/-- Expected output tokens: the request's, or the class value (R298). -/
def State.expectOf (s : State) (r : OpenReq) : Nat := if r.expect = 0 then (s.classRec r.cls).expect else r.expect

/-- The length that a reservation covers (R298). -/
def State.reserveLen (s : State) (r : OpenReq) : Nat :=
  if r.overcommit then min r.maxLen (r.promptLen + s.expectOf r) else r.maxLen

/-- KV pages of the target, and of its sapling (R298). -/
def State.pagesTarget (s : State) (r : OpenReq) : Nat := pagesFor (s.layers r.tag) (s.reserveLen r)
def State.pagesSapling (s : State) (r : OpenReq) : Nat := if r.spec = 0 then 0 else pagesFor (s.layers r.sapling) (s.reserveLen r)

/-- Page-list units of an entry (R261, R298). -/
def unitsFor (ls : List LayerRec) (maxLen : Nat) : Nat := ceilDiv (4 * pagesFor ls maxLen) 4096

/-- The lowest place of `n` free units in the page-list area. -/
def State.unitsAt (s : State) (n : Nat) : Option Nat :=
  let base := s.prot.listBase
  let fits (a : Nat) : Bool := decide (base ≤ a ∧ a + n ≤ base + s.prot.listUnits)
    && s.usedUnits.all (fun u => decide (a + n ≤ u.1 ∨ u.1 + u.2 ≤ a))
  (sortBy (base :: s.usedUnits.map (fun u => u.1 + u.2)) (fun a b => decide (a ≤ b))).find? fits

/-! ## Predictions (R301) -/

/-- Targets: the request's, or the class defaults, in ns; 0 for none. -/
def State.ttftTarget (s : State) (r : OpenReq) : Nat := 1000 * (if r.ttft = 0 then (s.classRec r.cls).ttft else r.ttft)
def State.itlTarget (s : State) (r : OpenReq) : Nat := if r.itl = 0 then (s.classRec r.cls).itl else r.itl

/-- Rotation time of R90 on B0 typ and A1 typ, in ns, by which Forester firmware reports t_var (R274). -/
def roundTime : Nat := if partStepping = 0xB0 then 2800000 else 3300000

/-- Programming rounds of a variant on its pool tiers, as (stand, grove, tile, logical) (R274). -/
def State.variantRounds (s : State) (pool : List (Nat × Nat × Nat × Nat)) : Nat :=
  ((pool.map (fun q => (q.1, q.2.1))).eraseDups.map (fun g =>
    let here := pool.filter (fun q => q.1 = g.1 ∧ q.2.1 = g.2)
    let byTile := ((here.map (fun q => q.2.2.1)).map (fun t => (here.filter (fun q => q.2.2.1 = t)).length)).foldl max 0
    max (ceilDiv here.length (max 1 (s.get tlUpkeepCtrl_maxRotations (groveOf g.1 g.2).num))) byTile)).foldl max 0

/-- Predicted time to first token at a slowdown (R301). -/
def State.predictTtft (s : State) (r : OpenReq) (slow tVar : Rat) : Rat :=
  let m := ceilDiv r.promptLen 512
  let layers := (s.layers r.tag).length
  s.ratioOf r.tag 1 * s.heatOf r.tag 1 1 * slow * (s.tAt r.tag 1 1 (512 * (m - 1)) * (1 + ((m - 1 : Nat) : Rat) / layers)) + tVar

/-- Predicted interval at a slowdown, for an image, a speculation mode with candidates and sapling, and a length (R301). -/
def State.predictItl (s : State) (tag spec cand sapling n : Nat) (slow : Rat) : Rat :=
  let kind := decodeKind spec
  let f := s.ratioOf tag kind * s.heatOf tag kind cand * slow
  if spec = 0 then f * s.tAt tag 0 1 n
  else
    let ps := ((s.image tag).map (fun x => x.passes)).getD []
    let a : Rat := if ps.length < 256 then 1 else ((ps.sum : Nat) : Rat) / 256
    f * (cand * s.tAt sapling 3 1 n + s.tAt tag kind cand n) / a

/-- The length at which a sequence's interval is predicted (R301). -/
def lengthFor (overcommit : Bool) (promptLen expect maxLen : Nat) : Nat := if overcommit then promptLen + expect else maxLen

/-- The predicted interval of an open sequence at a slowdown. -/
def State.intervalOf (s : State) (i : Nat) (slow : Rat) : Rat :=
  let x := s.seq i
  let e := x.entry
  s.predictItl e.imageTag e.specMode e.candidates e.saplingTag (lengthFor e.overcommit e.promptLen x.expect e.maxLen) slow

/-- Does a slowdown factor keep every running sequence of an image in a set of classes within its target (H of R302)? A suspended
sequence does not count. (DEDUCED: log 163.) -/
def State.headroom (s : State) (tag : Nat) (classes : Nat → Bool) (factor : Rat) : Bool :=
  let slow := s.slowdown tag (s.loadU tag)
  (s.running tag).all (fun i =>
    let e := (s.seq i).entry
    !classes e.cls || decide (e.itlTarget = 0) || decide (factor * s.intervalOf i slow ≤ e.itlTarget))

/-! ## Variants (R274) -/

/-- The variant of an image. -/
def State.variant (s : State) (tag v : Nat) : Option Variant := (s.image tag).bind (fun x => tblFind x.variants v)

/-- The state with a variant replaced. -/
def State.setVariant (s : State) (tag v : Nat) (y : Variant) : State :=
  s.modImage tag (fun x => { x with variants := tblSet x.variants v y })

/-- Does a sequence of a variant stand open: in OPENING, PREFILL, DECODE or SUSPENDED? -/
def State.variantUsed (s : State) (tag v : Nat) : Bool :=
  (s.seqsOf tag).any (fun i => (s.seq i).entry.variant == v && (s.seq i).entry.state != seqFelling)

/-- Does a variant serve new sequences: hot and not marked? -/
def Variant.servesNew (y : Variant) : Bool := y.hot && !y.marked

/-- Pool tiers of a layer that have their place in their tiles, and that no hot or loading variant holds, or an image variant in a set frees. -/
def State.freePool (s : State) (tag : Nat) (freed : List Nat) (layer : Nat) : List (Nat × Nat × Nat × Nat) :=
  match s.image tag with
  | none => []
  | some x =>
    let held := x.variants.flatMap (fun p => if p.1 ∈ freed ∨ p.2.marked then [] else p.2.pool)
    let wanted := x.variants.flatMap (fun p => if p.2.loading then p.2.pool else [])
    (((x.file.layerTable)[layer]?.map (fun l => l.poolTiers)).getD []).filter (fun q => q ∉ held ∧ q ∉ wanted ∧ s.hasPlace (poolTile q) q.2.2.2)

/-- Pool tiers for every staged tier of a variant, in order; none where a layer has too few. -/
def assignPool (free : Nat → List (Nat × Nat × Nat × Nat)) : List VariantTier → List (Nat × Nat × Nat × Nat) →
    Option (List (Nat × Nat × Nat × Nat))
  | [], acc => some acc
  | v :: r, acc =>
    match (free v.layer).find? (fun q => decide (q ∉ acc)) with
    | some q => assignPool free r (acc ++ [q])
    | none => none

/-- The tiers of a cold variant and the variants to mark for it: free tiers, else those of the hot variants used least recently that
have no open sequence and no mark (R274); `fuel` bounds the marks. None when none can be evicted. -/
def State.planVariant (s : State) (tag : Nat) (y : Variant) : Nat → List Nat → Option (List (Nat × Nat × Nat × Nat) × List Nat)
  | fuel, marks =>
    match assignPool (s.freePool tag marks) y.staged [] with
    | some ps => some (ps, marks)
    | none =>
      match fuel with
      | 0 => none
      | fuel + 1 =>
        let vs := ((s.image tag).map (fun x => x.variants)).getD []
        let cand := vs.filter (fun p => p.2.hot && !p.2.marked && !s.variantUsed tag p.1 && decide (p.1 ∉ marks))
        match (sortBy cand (fun a b => decide (a.2.lastUsed ≤ b.2.lastUsed))).head? with
        | some p => s.planVariant tag y fuel (marks ++ [p.1])
        | none => none

/-- What an admission needs for its variant: nothing, or its tiers with the variants to mark; none where the admission must wait. -/
def State.variantNeed (s : State) (r : OpenReq) : Option (Option (List (Nat × Nat × Nat × Nat) × List Nat)) :=
  if r.variant = 0 then some none else
  match s.variant r.tag r.variant with
  | none => some none
  | some y =>
    if y.servesNew || y.loading then some none
    else (s.planVariant r.tag y (((s.image r.tag).map (fun x => x.variants.length)).getD 0) []).map some

/-- t_var of a request (R274, R301). -/
def State.tVar (s : State) (r : OpenReq) : Rat :=
  match s.variantNeed r, s.variant r.tag r.variant with
  | some (some (ps, _)), _ => roundTime * s.variantRounds ps
  | _, some y => if y.hot then 0 else roundTime * s.variantRounds y.pool
  | _, none => 0

/-! ## Mirror pool (R394, R396, R406) -/

/-- The partner's tag for an image that is mirrorable: byte-identical on both modules (R391). -/
def State.partnerTag (s : State) (tag : Nat) : Option Nat :=
  match s.image tag, s.twin.partner with
  | some x, some p => (p.images.find? (fun q => q.2 == x.file.digest)).map (fun q => q.1)
  | _, _ => none

/-- Does a new reservation of a mirrorable image fit the ledger of the partner's mirror pool? -/
def State.mirrorFits (s : State) (pages entries : Nat) : Bool × Bool :=
  match s.twin.partner with
  | none => (true, true)
  | some p =>
    let own := s.openSeqs.filter (fun i => (s.seq i).mirrored)
    (decide (p.heldPages + (own.map (fun i => (s.seq i).entry.pagesReserved)).sum + pages ≤ p.mirrorPages),
     decide (p.heldEntries + own.length + entries ≤ p.mirrorEntries))

/-- Pages that the module's own sequences may reserve: the pool without its mirror pages (R396). -/
def State.ownPool (s : State) : Nat := s.poolTotal - s.prot.mirrorPages

/-- Entries that the mirror pool counts: partner entries, and restored ones until they close. -/
def State.mirrorHeld (s : State) : List Nat := s.openSeqs.filter (fun i => (s.seq i).entry.partner || decide (i ∈ s.twin.restored))

/-- Pages reserved by the module's own sequences. -/
def State.ownReserved (s : State) : Nat :=
  ((s.openSeqs.filter (fun i => decide (i ∉ s.mirrorHeld))).map (fun i => (s.seq i).entry.pagesReserved)).sum

/-! ## The decision (R303, R304) -/

/-- Reasons of R304. -/
def rsLoad : Nat := 0x10
def rsPages : Nat := 0x11
def rsEntries : Nat := 0x12
def rsVariant : Nat := 0x13
def rsQuota : Nat := 0x14
def rsNotCleared : Nat := 0x15
def rsNotServing : Nat := 0x20
def rsLength : Nat := 0x21
def rsTarget : Nat := 0x22
def rsTooLarge : Nat := 0x23
def rsDraining : Nat := 0x24
def rsShed : Nat := 0x25
def rsClass : Nat := 0x26

/-- Never (R304). -/
def never : Nat := 0xFFFFFFFF

/-- The CLOSED entries that can be opened now, lowest first (R314; log 73). -/
def State.openable (s : State) : Nat → Nat → List Nat
  | _, 0 => []
  | from_, n + 1 =>
    match ((upTo (32768 - from_)).find? (fun k =>
        let x := s.seq (from_ + k)
        x.entry.state == seqClosed && decide (x.reuseAt ≤ s.tally))).map (fun k => from_ + k) with
    | some i => i :: s.openable (i + 1) n
    | none => []

/-- The entries that a request opens: its own, then its sapling's; none where the table has too few. -/
def State.entriesFor (s : State) (r : OpenReq) : Option (List Nat) :=
  let n := if r.spec = 0 then 1 else 2
  let own := s.openSeqs.filter (fun i => decide (i ∉ s.mirrorHeld))
  if 32768 < own.length + n + s.prot.mirrorEntries then none else
  let is := s.openable 0 n
  if is.length = n then some is else none

/-- t_free in µs: the first predicted end among open sequences whose end would release what is missing, clamped to the class's retry
range (R304; log 74). -/
def State.tFree (s : State) (r : OpenReq) : Nat :=
  let c := s.classRec r.cls
  let ends := (s.openSeqs.filter (fun i => !(s.seq i).entry.partner)).map (fun i =>
    let e := (s.seq i).entry
    (((e.tokensLeft : Rat) * s.intervalOf i (s.slowdown e.imageTag (s.loadU e.imageTag))) / 1000).ceil.toNat)
  let t := (sortBy ends (fun a b => decide (a ≤ b))).headD 0
  max (1000 * c.retryMin) (min (1000 * c.retryMax) t)

/-- A shed hold that covers a request: its end (R311). -/
def State.holdFor (s : State) (r : OpenReq) : Option Nat :=
  ((s.sheds.filter (fun h => decide (h.tenant = r.tenant ∧ (h.image = 0 ∨ h.image = r.tag) ∧ h.cls ≤ r.cls ∧ s.tally < h.until_))).map
    (fun h => h.until_)).max?

/-- Is an image loaded and able to take sequences (R303, R466)? -/
def State.admits (s : State) (tag : Nat) : Bool :=
  match s.image tag with
  | some x => x.state == 1 || x.state == 2
  | none => false

/-- DEDUCED: log 171. (DEDUCED: log 171.) -/
def State.clearedImage (s : State) (tag : Nat) : Bool := ((s.image tag).map (fun x => x.cleared)).getD false

/-- Predictions and headroom of a request at a load, with an added delay (R303, R306). -/
def State.loadOk (s : State) (r : OpenReq) (u extra : Rat) : Bool :=
  let wp := s.prefillWeight r.tag
  let slow := s.slowdown r.tag (u + wp)
  let tt := s.ttftTarget r
  let it := s.itlTarget r
  let n := lengthFor r.overcommit r.promptLen (s.expectOf r) r.maxLen
  (decide (tt = 0) || decide (s.predictTtft r slow (s.tVar r) + extra ≤ tt))
  && (decide (it = 0) || decide (s.predictItl r.tag r.spec r.cand r.sapling n
      (s.slowdown r.tag (u + s.decodeWeight r.tag r.spec r.cand)) ≤ it))
  && s.headroom r.tag (fun c => decide (c ≤ r.cls)) (slow / s.slowdown r.tag u)

/-- Victims of R306 in their order: lowest priority first, then the most recently opened. -/
def State.victimOrder (s : State) (r : OpenReq) : List Nat :=
  sortBy ((s.running r.tag).filter (fun i =>
    let e := (s.seq i).entry
    decide (r.cls < e.cls) && (s.classRec e.cls).suspendable && decide ((s.seq i).protected_ ≤ s.tally))) (fun a b =>
      let x := (s.seq a).entry
      let y := (s.seq b).entry
      decide (y.cls < x.cls ∨ (x.cls = y.cls ∧ y.openTally ≤ x.openTally)))

/-- The shortest run of victims whose removal makes the load fit; none when all do not. -/
def State.victims (s : State) (r : OpenReq) : Option (List Nat) :=
  let vs := s.victimOrder r
  ((upTo (vs.length + 1)).map (fun n => vs.take n)).find? (fun v =>
    let u := s.loadU r.tag - (v.map s.weightOf).foldl (· + ·) 0
    let step := (v.map (fun i => s.intervalOf i (s.slowdown r.tag (s.loadU r.tag)))).foldl max 0
    s.loadOk r u step)

/-- What R303 decides: refuse or defer with a reason and a retry time, or grant with the victims to suspend. -/
inductive Decision where
  | refuse (reason retry : Nat)
  | defer (reason retry : Nat)
  | grant (victims entries : List Nat) (variant : Option (List (Nat × Nat × Nat × Nat) × List Nat))
deriving DecidableEq, Repr

/-- Is a tenant at its quota (TEN_SET_QUOTA)? -/
def State.overQuota (s : State) (r : OpenReq) (pages : Nat) : Bool :=
  let t := s.tenant r.tenant
  let own := s.openSeqs.filter (fun i => (s.seq i).entry.tenant == r.tenant && !(s.seq i).entry.partner)
  (match t.maxSeqs with
    | some n => decide (n ≤ own.length)
    | none => false)
  || (match t.maxPages with
    | some n => decide (n < (own.map (fun i => (s.seq i).entry.pagesReserved)).sum + pages)
    | none => false)

/-- Do the page-list units of a request's entries fit? -/
def State.unitsFit (s : State) (r : OpenReq) : Bool :=
  match s.unitsAt (unitsFor (s.layers r.tag) r.maxLen) with
  | none => false
  | some a =>
    if r.spec = 0 then true else
    let n := unitsFor (s.layers r.tag) r.maxLen
    (State.unitsAt { s with usedUnits := s.usedUnits ++ [(a, n)] } (unitsFor (s.layers r.sapling) r.maxLen)).isSome

/-- The admission procedure (R303); in TEST there is no tenant traffic (R11; DEDUCED, log 93). The drain estimate, the clear estimate and t_free are the model's (log 74). -/
def State.decide_ (s : State) (r : OpenReq) : Decision :=
  let pages := s.pagesTarget r + s.pagesSapling r
  let tt := s.ttftTarget r
  let it := s.itlTarget r
  let n := lengthFor r.overcommit r.promptLen (s.expectOf r) r.maxLen
  let maxPos := ((s.image r.tag).map (fun x => x.file.hdr 32 4)).getD 0
  let mirrors := s.paired && (s.partnerTag r.tag).isSome
  let fits := if mirrors then s.mirrorFits pages (if r.spec = 0 then 1 else 2) else (true, true)
  if s.service = .draining then .refuse rsDraining (s.tFree r)
  else if s.service = .test then .refuse rsNotServing never
  else if !s.admits r.tag || (r.spec ≠ 0 && !s.admits r.sapling) then .refuse rsNotServing never
  else if maxPos < r.maxLen ∨ r.maxLen ≤ r.promptLen ∨ r.promptLen = 0 then .refuse rsLength never
  else match s.holdFor r with
  | some e => .refuse rsShed ((e - s.tally) / 1000)
  | none =>
    if r.overcommit && !(s.classRec r.cls).overcommitOk then .refuse rsClass never
    else if s.poolTotal < pages then .refuse rsTooLarge never
    else if (tt ≠ 0 && decide (tt < s.predictTtft r 1 (s.tVar r)))
        || (it ≠ 0 && decide (it < s.predictItl r.tag r.spec r.cand r.sapling n 1)) then .refuse rsTarget never
    else if !s.clearedImage r.tag || (r.spec ≠ 0 && !s.clearedImage r.sapling) then .defer rsNotCleared (s.tFree r)
    else if s.overQuota r pages then .defer rsQuota (s.tFree r)
    else match s.entriesFor r with
    | none => .defer rsEntries (s.tFree r)
    | some es =>
      if !s.unitsFit r || !fits.2 then .defer rsEntries (s.tFree r)
      else if s.ownPool < s.ownReserved + pages || !fits.1 then .defer rsPages (s.tFree r)
      else match s.variantNeed r with
      | none => .defer rsVariant (s.tFree r)
      | some v =>
        if s.loadOk r (s.loadU r.tag) 0 then .grant [] es v
        else if !(s.classRec r.cls).mayPreempt then .defer rsLoad (s.tFree r)
        else match s.victims r with
        | some vs => .grant vs es v
        | none => .defer rsLoad (s.tFree r)

/-! ## Opening (R252 to R255, R261, R303, R305) -/

/-- Suspend a running sequence and its sapling at the next step boundary (R256, R285). -/
def State.askSuspend (s : State) (i : Nat) (c : SuspendCause) : State :=
  s.each (s.withSapling i) (fun s j =>
    if (s.seq j).inFlight.isSome then s.modSeq j (fun x => { x with asked := some c }) else s.suspendNow j c)

/-- Open one entry: generation, key, page-list units with the head page mapped and every norm record invalid (R259, R261), OPENING. -/
def State.openEntry (s : State) (i : Nat) (r : OpenReq) (tag : Nat) (isSapling : Bool) (saplingSeq : Nat) (key : Option Nat)
    (pages : Nat) : State :=
  let old := (s.seq i).entry
  let ls := s.layers tag
  let units := unitsFor ls r.maxLen
  let base := (s.unitsAt units).getD 0
  let setKey := (r.tenant * 2 ^ 56 + s.tally % 2 ^ 40 * 2 ^ 15 + i) % 2 ^ 64
  let tt := s.ttftTarget r
  let e : SeqEntry :=
    { state := seqClosed, overcommit := r.overcommit, deckKv := (s.classRec r.cls).deckKv, adapt := r.adapt, partner := false
      pageWait := false, hostKey := decide (r.key ≠ 0), resumePrefill := false, cls := r.cls, imageTag := tag, tenant := r.tenant
      variant := if isSapling then 0 else r.variant, gen := old.gen + 1, step := 0, key := BitVec.ofNat 64 (key.getD setKey)
      length := 0, maxLen := r.maxLen, promptLen := r.promptLen, pagesReserved := pages, pageList := 4096 * base, pagesMapped := 0
      tokensLeft := if r.tokensLeft = 0 then r.maxLen - r.promptLen else r.tokensLeft
      temperature := BitVec.ofNat 16 r.temperature, topP := BitVec.ofNat 16 r.topP, topK := r.topK
      stopToken := BitVec.ofNat 32 r.stop, lastToken := 0
      firstDue := s.tally + tt, nextDue := 0, itlTarget := s.itlTarget r, misses := 0
      specMode := if isSapling then 0 else r.spec, candidates := if isSapling then 1 else r.cand
      acceptance := if isSapling then 0 else r.acceptance
      saplingTag := if isSapling then 0 else r.sapling, saplingSeq := if isSapling then 0 else saplingSeq
      openTally := s.tally, commitTally := 0
      update := if isSapling then 0 else ((s.variant tag r.variant).map (fun y => y.update)).getD 0, filled := 0 }
  let s := { s with usedUnits := s.usedUnits ++ [(base, units)] }
  let s := s.setSeq i { entry := e, expect := s.expectOf r, ttft := tt, logitsN := r.logitsN }
  let s := s.hbmWrite (4096 * base) (List.replicate (4 * pagesFor ls r.maxLen) 0)
  let s := (s.mapPages i [0]).1
  let s := s.each (upTo ls.length) (fun s l => match s.placeOf (s.pageEntry i 0) with
    | some p => s.placeWrite p (4 * l) (bytesLE 4 0)
    | none => s)
  (s.seqState i seqOpening).clearFelled i

/-- A variant is being made hot in pool tiers, and other variants are marked for eviction (R274). -/
def State.heatVariant (s : State) (tag v : Nat) (pool : List (Nat × Nat × Nat × Nat)) (marks : List Nat) : State :=
  let s := s.each marks (fun s m => match s.variant tag m with
    | some y => s.setVariant tag m { y with marked := true }
    | none => s)
  match s.variant tag v with
  | some y => s.setVariant tag v { y with loading := true, pool := pool }
  | none => s

/-- Carry out an admission: suspend the victims, mark evictions, open the entries, and mirror them (R274, R303, R394). -/
def State.grant (s : State) (r : OpenReq) (victims entries : List Nat) (v : Option (List (Nat × Nat × Nat × Nat) × List Nat)) : State :=
  let s := s.each victims (fun s i =>
    (s.askSuspend i .preempted).wrapUp sqAdmitCount_suspends (seqLanding i))
  let s := match v with
    | none => s
    | some (pool, marks) => s.heatVariant r.tag r.variant pool marks
  let i := entries.headD 0
  let j := entries.getD 1 0
  let s := s.openEntry i r r.tag false j (if r.key = 0 then none else some r.key) (s.pagesTarget r)
  let s := if r.spec = 0 then s else
    s.openEntry j r r.sapling true 0 (some ((s.seq i).entry.key.toNat ^^^ 2 ^ 63)) (s.pagesSapling r)
  let s := if r.adapt then match s.variant r.tag r.variant with
      | some y => s.setVariant r.tag r.variant { y with eta := (s.tenant r.tenant).adaptEta, interval := (s.tenant r.tenant).adaptInterval }
      | none => s
    else s
  if s.paired && (s.partnerTag r.tag).isSome then
    s.each entries (fun s k => s.modSeq k (fun x => { x with mirrored := true }))
  else s

/-- The OPEN mirror record of a mirrored sequence (R394). -/
def State.mirrorOpen (s : State) (i : Nat) : State :=
  let x := s.seq i
  s.mirror i 1 x.entry.step (entryBytes x.entry i ++ bytesLE 1 ((s.partnerTag x.entry.imageTag).getD 0)
    ++ bytesLE 16 x.addr.toNat ++ bytesLE 2 x.udp.toNat ++ bytesLE 1 x.source ++ bytesLE 4 x.reqTag.toNat)

end Sys2Proof.Machine
end

