-- ==== Sys2Proof/Machine/SeqSteps.lean ====
section
/-! DEFINITION. The steps of sequences: what a step needs to enter layer 0, mapping ahead, the move to PREFILL, commits with their
frames, deadlines, measurements and mirror records, resumption, and generation handover (R255 to R262, R275, R286, R305 to R307, R395). -/

namespace Sys2Proof.Machine

/-! ## Targets and saplings (R285) -/

/-- The target of a sapling entry. -/
def State.targetOf (s : State) (i : Nat) : Option Nat :=
  s.openSeqs.find? (fun j => j ≠ i && (s.seq j).entry.specMode ≠ 0 && (s.seq j).entry.saplingSeq == i)

/-- A sequence with its sapling, or a sapling with its target, the target first: they are suspended, resumed and ended together. -/
def State.together (s : State) (i : Nat) : List Nat := s.withSapling ((s.targetOf i).getD i)

/-! ## The next step (R262) -/

/-- The step that would enter layer 0 next: a prefill chunk, a decode step, or a pass of every candidate; none outside PREFILL and
DECODE. A last chunk whose first token did not commit runs again; an adaptation batch and a sapling end with their filled prompt.
`prefill` is the state it runs in. -/
def State.stepFor (s : State) (i : Nat) (prefill : Bool) : Option InFlight :=
  let e := (s.seq i).entry
  if prefill then
    if e.filled < e.promptLen then
      some { pos := e.filled, count := min 512 (e.promptLen - e.filled), prefill := true, entered := s.tally }
    else if e.length = 0 ∧ !e.adapt ∧ (s.targetOf i).isNone ∧ e.promptLen ≠ 0 then
      let p := 512 * ((e.promptLen - 1) / 512)
      some { pos := p, count := e.promptLen - p, prefill := true, entered := s.tally }
    else none
  else
    let n := match s.targetOf i with
      | some t => (s.seq t).entry.candidates
      | none => if e.specMode = 0 then 1 else e.candidates
    some { pos := e.length, count := min n (e.maxLen - e.length), prefill := false, entered := s.tally }

/-- The next step of a sequence in its present state. (DEDUCED: log 137.) -/
def State.nextStep (s : State) (i : Nat) : Option InFlight :=
  let e := (s.seq i).entry
  if e.state = seqPrefill ∨ e.state = seqOpening then s.stepFor i true
  else if e.state = seqDecode then s.stepFor i false
  else none

/-- Are all region pages that positions below `n` use mapped? -/
def State.covers (s : State) (i n : Nat) : Bool :=
  let e := (s.seq i).entry
  (pagesCovering (s.layers e.imageTag) e.maxLen n).all (fun p => decide (bits (s.pageEntry i p) 30 2 ≠ 0))

/-- Positions mapped beyond a step's last position (SQ_CTRL.map_ahead). -/
def State.mapAhead (s : State) (i : Nat) : Nat := s.get sqCtrl_mapAhead (seqLanding i)

/-- Does a sequence run passes of several candidates: a target that speculates, or its sapling? -/
def State.speculates (s : State) (i : Nat) : Bool := (s.seq i).entry.specMode ≠ 0 || (s.targetOf i).isSome

/-- The positions of a step that may run: all where they and those mapped ahead are mapped; of a speculative pass as many candidates as
have mapped positions (R280); 0 where the page wait applies. -/
def State.runnableCount (s : State) (i : Nat) (f : InFlight) : Nat :=
  if s.covers i (f.pos + f.count + s.mapAhead i) then f.count
  else if f.prefill || !s.speculates i then 0
  else (((upTo f.count).map (fun k => f.count - k)).find? (fun n => s.covers i (f.pos + n))).getD 0

/-! ## Prompts (R375) -/

/-- Bytes of a position's embedding vector in a format. -/
def State.embedBytes (s : State) (tag fmt : Nat) : Nat :=
  vectorBytes fmt (((s.image tag).map (fun x => x.file.modelDim)).getD 0)

/-- Has a prompt position arrived: as a token, or as a whole embedding vector? A sapling's prompt is its target's. -/
def State.arrivedAt (s : State) (i pos : Nat) : Bool :=
  let x := s.seq ((s.targetOf i).getD i)
  (tblFind x.tokens pos).isSome || (match tblFind x.embeds pos with
    | some v => (upTo (s.embedBytes x.entry.imageTag v.1)).all (fun k => (tblFind v.2 k).isSome)
    | none => false)

/-- Have the positions of a range arrived? -/
def State.arrived (s : State) (i pos n : Nat) : Bool := (upTo n).all (fun k => s.arrivedAt i (pos + k))

/-- OPENING → PREFILL (R255, R375): the variant is hot, the pages of the first chunk are mapped, and its positions have arrived. -/
def State.tryPrefill (s : State) (i : Nat) : State :=
  s.each (s.together i) (fun s j =>
    let e := (s.seq j).entry
    let n := min 512 e.promptLen
    let hot := e.variant = 0 || ((s.variant e.imageTag e.variant).map (fun y => y.hot)).getD false
    if e.state = seqOpening && !e.partner && hot && s.covers j n && s.arrived j 0 n then s.seqState j seqPrefill else s)

/-! ## Generations of a variant (R275) -/

/-- Is the new generation of a variant armed on every copy of its tiers? -/
def State.genReady (s : State) (tag v : Nat) : Bool :=
  match s.variant tag v with
  | none => false
  | some y => match y.armed with
    | none => false
    | some g => y.pool.all (fun q =>
        let t : TileId := ⟨standOf q.1, Fin.ofNat 16 q.2.1, Fin.ofNat 2048 q.2.2.1⟩
        s.on tlGen_armedValid t.num && s.get tlGen_armedGen t.num == g % 256)

/-! ## Entering layer 0 (R262, R395) -/

/-- Does an image run steps: loaded, not faulted and not held? -/
def State.imageRuns (s : State) (tag : Nat) : Bool :=
  match s.image tag with
  | some x => (x.state == 1 || x.state == 2) && !x.held
  | none => false

/-- Is the sapling of a speculating target ready to draft: in DECODE at the target's length? -/
def State.saplingReady (s : State) (e : SeqEntry) : Bool :=
  e.specMode = 0 || e.state ≠ seqDecode ||
    ((s.seq e.saplingSeq).entry.state == seqDecode && (s.seq e.saplingSeq).entry.length == e.length)

/-- A step enters layer 0, and the re-entry counter of its layer-0 descriptors takes 1: the positions have arrived and are mapped, the last
step has committed and its path has moved, and all commits but the latest are mirrored. -/
def State.enterLayer0 (s : State) (i : Nat) (g : GroveId) (ctr : Nat) : State :=
  let x := s.seq i
  let e := x.entry
  if e.state ≠ seqPrefill ∧ e.state ≠ seqDecode then s else
  match s.nextStep i with
  | none => s
  | some f =>
    let n := s.runnableCount i f
    if x.moving && x.inFlight.isNone && x.mirrorOut.isEmpty && s.safe i then s.moveOut i
    else if x.moving || (e.variant ≠ 0 && !((s.variant e.imageTag e.variant).map (fun y => y.hot)).getD true) || x.inFlight.isSome || x.asked.isSome || x.closing.isSome || !x.pathLeft.isEmpty || e.partner || !s.imageRuns e.imageTag
        || n == 0 || (f.prefill && !s.arrived i f.pos f.count) || !s.saplingReady e || s.genReady e.imageTag e.variant then s
    else if s.mirrors && x.mirrored && !x.copying && decide (1 < x.mirrorOut.length) then s.wrapUp twMirrorStats_held 0
    else
      let s := match s.variant e.imageTag e.variant with
        | some y => s.setVariant e.imageTag e.variant { y with lastUsed := s.tally }
        | none => s
      (s.modSeq i (fun x => { x with inFlight := some { f with count := n } })).addCounter g ctr 1

/-! ## Mapping ahead (R262) -/

/-- Map the pages that a step needs, with those ahead; answers whether the step can run. -/
def State.mapFor (s : State) (i : Nat) (f : InFlight) : State × Bool :=
  let e := (s.seq i).entry
  let a := s.mapPages i (pagesCovering (s.layers e.imageTag) e.maxLen (f.pos + f.count + s.mapAhead i))
  (a.1, a.2 || decide (0 < a.1.runnableCount i f))

/-- A sequence enters a page wait with its sapling or target (R262). A sequence in OPENING waits there. -/
def State.enterPageWait (s : State) (i : Nat) : State :=
  let e := (s.seq i).entry
  if e.state ≠ seqPrefill ∧ e.state ≠ seqDecode then s else
  (s.askSuspend ((s.targetOf i).getD i) .pageWait).sqEv sqEvent_pageWait (seqLanding i)

/-! ## Resumption (R255, R275, R307) -/

/-- A suspended sequence resumes with its sapling, and takes the generation of its variant. -/
def State.resumeTogether (s : State) (i : Nat) : State :=
  s.each (s.together i) (fun s j =>
    let e := (s.seq j).entry
    let s := match s.variant e.imageTag e.variant with
      | some y => if e.state = seqSuspended ∧ e.variant ≠ 0 then s.modEntry j (fun e => { e with update := y.update }) else s
      | none => s
    (s.resumeNow j).modSeq j (fun x => { x with rejoin := false }))

/-- Suspended sequences of an image that wait for load, in the order of R307: by class, then by suspension tally. -/
def State.resumeOrder (s : State) (tag : Nat) : List Nat :=
  sortBy ((s.seqsOf tag).filter (fun i =>
    let x := s.seq i
    decide (x.entry.state = seqSuspended) && !x.entry.partner && (s.targetOf i).isNone
    && (decide (x.cause = some .preempted) || (decide (x.cause = some .host) && x.rejoin)))) (fun a b =>
      let x := s.seq a
      let y := s.seq b
      decide (x.entry.cls < y.entry.cls ∨ (x.entry.cls = y.entry.cls ∧ x.suspendAt ≤ y.suspendAt)))

/-- The weight that a suspended sequence adds when it resumes (R300). -/
def State.resumeWeight (s : State) (i : Nat) : Rat :=
  let e := (s.seq i).entry
  if e.resumePrefill then s.prefillWeight e.imageTag else s.decodeWeight e.imageTag e.specMode e.candidates

/-- Does the load with a suspended sequence's weight keep every open sequence of higher priority within its target (R303, R307)? -/
def State.resumeFits (s : State) (i : Nat) : Bool :=
  let e := (s.seq i).entry
  let u := s.loadU e.imageTag
  s.headroom e.imageTag (fun c => decide (c < e.cls))
    (s.slowdown e.imageTag (u + s.resumeWeight i) / s.slowdown e.imageTag u)

/-! ## Measurements (R301) -/

/-- The last 256 entries of a list with one more. -/
def push256 {α : Type} (xs : List α) (x : α) : List α := (xs ++ [x]).drop (xs.length + 1 - 256)

/-- A committed step's measured time against its prediction; nothing is kept where the image has no step time of the kind. -/
def State.measure (s : State) (i : Nat) (f : InFlight) : State :=
  let e := (s.seq i).entry
  let kind := if f.prefill then 1 else if (s.targetOf i).isSome then 3 else decodeKind e.specMode
  let cand := if kind = 2 ∨ kind = 4 then e.candidates else 1
  let p : Rat := s.heatOf e.imageTag kind cand * s.slowdown e.imageTag (s.loadU e.imageTag) * s.tAt e.imageTag kind cand f.pos
  if p ≤ 0 then s else
  s.modImage e.imageTag (fun x => { x with
    ratios := tblSet x.ratios kind (push256 (tblGet x.ratios kind []) ((s.tally - f.entered) * p.den, p.num.natAbs)) })

/-! ## Mirror records of commits (R394) -/

/-- The 32 bytes of a journal record (R245). -/
def journalBytes (r : JournalRec) : List Byte :=
  let b := bytesLE 8 r.tally ++ bytesLE 2 r.kind ++ bytesLE 1 r.source ++ bytesLE 1 r.tag ++ bytesLE 2 r.tenant ++ bytesLE 2 r.seq
    ++ bytesLE 4 r.count ++ bytesLE 8 r.detail.toNat
  b ++ bytesLE 4 (crc32c b).toNat

/-- The journal records of a sequence, oldest first. -/
def State.seqJournal (s : State) (i : Nat) : List JournalRec := (s.journal.map (fun p => p.2)).filter (fun r => r.seq = i)

/-- The STEP record of a commit: the entry, the tokens, the K and V rows of each committed position from the storage position that holds
them, the valid norm records, and the sequence's journal records since the last STEP (log 75). -/
def State.mirrorStepRec (s : State) (i : Nat) (tokens : List Nat) (rows : List (Nat × Nat)) : State :=
  let x := s.seq i
  if !s.mirrors || !x.mirrored then s else
  let e := x.entry
  let ls := s.layers e.imageTag
  let row (l : Nat) (isV : Bool) (p : Nat × Nat) : List Byte :=
    bytesLE 2 l ++ bytesLE 1 (b2n isV) ++ bytesLE 4 p.1 ++ (s.kvRow i l isV p.2).getD []
  let kv := (upTo ls.length).flatMap (fun l => rows.flatMap (fun p => row l false p ++ row l true p))
  let norms := (upTo ls.length).flatMap (fun l => match s.normRecord i l with
    | some (m, true) => bytesLE 2 l ++ bytesLE 4 (unsigned 16 m + 2 ^ 16)
    | _ => [])
  let js := s.seqJournal i
  let s := s.mirror i 3 e.step (entryBytes e i ++ tokens.flatMap (bytesLE 4) ++ kv ++ norms ++ (js.drop x.stepSeen).flatMap journalBytes)
  s.modSeq i (fun x => { x with mirrorOut := x.mirrorOut ++ [(e.step, s.tally)], stepSeen := js.length })

/-! ## Commits (R257, R286, R305, R378) -/

/-- The tokens of a pass that the sequence takes: up to the first stop token, and no more than its tokens left and its maximum length
permit (R255). (DEDUCED: log 134.) -/
def cutTokens (stop : Nat) : Nat → List (Nat × Nat) → List (Nat × Nat)
  | 0, _ => []
  | _, [] => []
  | n + 1, t :: r => if t.1 = stop ∧ stop ≠ 0xFFFFFFFF then [t] else t :: cutTokens stop n r

/-- A deadline: the misses and the new due tallies at a commit (R305). A target of 0 never counts a miss. -/
def deadlines (x : Seq) (now : Nat) : SeqEntry :=
  let e := x.entry
  let late := if e.step = 0 then decide (x.ttft ≠ 0 ∧ e.firstDue < now) else decide (e.itlTarget ≠ 0 ∧ e.nextDue < now)
  { e with misses := if late then satInc 32 e.misses else e.misses, firstDue := 0, nextDue := now + e.itlTarget }

/-- The TOKEN frame of a commit and its LOGITS frames (R369, R378). -/
def State.tokenFrames (s : State) (i step pos : Nat) (prov : BitVec 8) (tokens : List (Nat × Nat)) (logits : List (List (BitVec 16))) :
    State :=
  let x := s.seq i
  let flags := if x.dupNext then 2 else 0
  let s := s.seqFrame i pttToken flags prov step
    (bytesBE 2 tokens.length ++ bytesBE 2 0 ++ bytesBE 4 pos ++ tokens.flatMap (fun t => bytesBE 4 t.1))
  if x.logitsN = 0 then s else
  s.each tokens.zipIdx (fun s t =>
    let ls := logits.getD t.1.2 []
    let top := (byLogit ls).take x.logitsN
    s.seqFrame i pttLogits flags prov (step + t.2)
      (bytesBE 4 (pos + t.2) ++ bytesBE 2 top.length ++ bytesBE 2 0
        ++ top.flatMap (fun k => bytesBE 4 k ++ bytesBE 2 (ls.getD k 0).toNat ++ bytesBE 2 0)))

/-- Is a sequence's felled-map bit set at the lead grove of its image's last layer (R249, R314)? -/
def State.felledAtLead (s : State) (i : Nat) : Bool :=
  let tag := (s.seq i).entry.imageTag
  match s.leadOf tag ((s.layers tag).length - 1) with
  | some g => decide (i ∈ (s.grove g).felled)
  | none => false

/-- The sapling follows its target's commit (R286 step 5): its length becomes the target's. -/
def State.syncSapling (s : State) (i : Nat) : State :=
  let e := (s.seq i).entry
  if e.specMode = 0 then s else
  let j := e.saplingSeq
  let y := (s.seq j).entry
  if y.state ≠ seqPrefill ∧ y.state ≠ seqDecode then s
  else if y.filled < y.promptLen then s
  else
    let s := if y.state = seqPrefill then s.seqState j seqDecode else s
    s.modSeq j (fun z => { z with
      inFlight := none
      entry := { z.entry with length := e.length, step := e.step, lastToken := e.lastToken, commitTally := e.commitTally } })

/-- A token step commits `toks` (each with the vector that gave it) at the output head. (DEDUCED: log 140.) -/
def State.commitTokensOf (s : State) (i : Nat) (f : InFlight) (toks : List (Nat × Nat)) (logits : List (List (BitVec 16))) : State :=
  let x := s.seq i
  let e := x.entry
  let c := toks.length
  let base := if f.prefill then e.promptLen else e.length
  let newLen := if f.prefill then e.promptLen else e.length + c
  let first := e.promptLen + e.step
  let prov := x.provAcc ||| (if s.lockstep then 0 else 4)
  let d := deadlines x s.tally
  let new : SeqEntry := { d with
    step := e.step + c, length := newLen, filled := if f.prefill then e.promptLen else e.filled
    tokensLeft := e.tokensLeft - c, lastToken := BitVec.ofNat 32 ((toks.getLast?.map (fun t => t.1)).getD 0), commitTally := s.tally }
  let s := s.measure i f
  let s := if e.specMode = 0 ∨ f.prefill then s else
    s.modImage e.imageTag (fun y => { y with passes := push256 y.passes c })
  let kept : List SentToken := toks.zipIdx.map (fun t => ⟨e.step + 1 + t.2, BitVec.ofNat 32 t.1.1, prov⟩)
  let s := s.modSeq i (fun x => { x with
    entry := new, inFlight := none, provAcc := 0
    sent := (x.sent ++ kept).drop (x.sent.length + c - 64)
    pathLeft := if e.specMode = 2 && !f.prefill && decide (1 < c) then upTo (s.layers e.imageTag).length else [] })
  let s := s.journalRec (48 + seqLanding i) 0x0011 e.imageTag e.tenant i (new.step + (e.promptLen + new.step - 1) * 2 ^ 32)
  let s := if e.state = seqPrefill then s.seqState i seqDecode else s
  let s := s.tokenFrames i (e.step + 1) first prov toks logits
  let s := (s.modSeq i (fun x => { x with dupNext := false })).syncSapling i
  let ids := toks.map (fun t => t.1)
  let rows := if f.prefill then (upTo f.count).map (fun k => (f.pos + k, f.pos + k))
    else toks.zipIdx.map (fun t => (base + t.2, base + t.1.2))
  let s := s.each (s.withSapling i) (fun s j => s.mirrorStepRec j ids rows)
  if (s.seq i).entry.state ≠ seqDecode then s
  else if new.lastToken = new.stopToken ∧ new.stopToken ≠ 0xFFFFFFFF ∨ new.tokensLeft = 0 ∨ new.maxLen ≤ newLen then
    s.endClosed i 0 0
  else match x.closing with
    | some code => s.endClosed i code 0
    | none => s

end Sys2Proof.Machine
end

