-- ==== Sys2Proof/Machine/TwinOps.lean ====
section
/-! DEFINITION. What twin commands and events share: frames to the partner, copies of sequences, takeover and reunion, the twin barrier
(R388 to R407). -/

namespace Sys2Proof.Machine

/-! ## Frames (log 94) -/

/-- Kinds of what goes out on a twin port beside the mirror records 1 to 6: MOVE, pair control, heartbeat, mirror ack, barrier arrival
and release, bulk copy. -/
def twMove : Nat := 7
def twControl : Nat := 8
def twBeat : Nat := 9
def twAck : Nat := 10
def twArrival : Nat := 11
def twRelease : Nat := 12
def twBulk : Nat := 13

/-- The pair state (TW_PAIR_STATUS.state). -/
def State.pairState (s : State) : Nat := s.get twPairStatus_state 0

/-- Twin ports that are up. -/
def State.twinUp (s : State) : List Nat := [0, 1].filter (fun p => s.on twPortStatus_linkUp (twinLanding p))

/-- An event of the pair, shown by both twin ports (log 94). -/
def State.pairEv (s : State) (f : Fld) : State := s.each [0, 1] (fun s p => s.twEv f (twinLanding p))

/-- A frame on every twin port that is up. -/
def State.twinAll (s : State) (kind : Nat) (payload : List Byte) : State :=
  s.each s.twinUp (fun s p => s.emit (.twin p kind 0 0 payload))

/-- The version of a record kind that a Forester runs, 0 for none. -/
def State.versionOf (s : State) (forester kind : Nat) : Nat :=
  ((tblFind s.running_ (forester, kind)).map (fun (r : SignedRecord) => r.version)).getD 0

/-- The module's own pair-control content (R391, R396, R406). -/
def State.ownControl (s : State) : List Byte :=
  bytesLE 8 Config.serial.toNat ++ bytesLE 1 partStepping ++ bytesLE 4 (s.versionOf s.activeForester 1)
    ++ s.images.flatMap (fun p => bytesLE 1 p.1 ++ bytesLE 48 p.2.file.digest.toNat)
    ++ bytesLE 4 ((s.mirrorHeld.map (fun i => (s.seq i).entry.pagesReserved)).sum) ++ bytesLE 4 s.mirrorHeld.length
    ++ bytesLE 4 s.prot.mirrorPages ++ bytesLE 4 s.prot.mirrorEntries ++ bytesLE 2 s.period

/-- Send the pair-control frame while a twin port is up. -/
def State.sendControl (s : State) : State :=
  if s.twinUp = [] then s else s.emit (.twin s.twinPort twControl 0 0 s.ownControl)

/-! ## Copies (R394, R405 step 5) -/

/-- Send a full copy of a sequence: OPEN, the accepted prompt, and a STEP record with every committed row. -/
def State.copyOut (s : State) (i : Nat) : State :=
  let s := s.modSeq i (fun x => { x with mirrored := true, copying := true, mirrorOut := [], stepSeen := 0 })
  let s := s.mirrorOpen i
  let x := s.seq i
  let s := s.mirror i 2 x.entry.step (x.tokens.flatMap (fun t => bytesLE 4 t.1 ++ bytesLE 4 t.2.toNat))
  s.mirrorStepRec i [] ((upTo x.entry.length).map (fun p => (p, p)))

/-- Mirroring follows what is mirrorable now (R391, R394): sequences that have become so are copied, the others stop. -/
def State.resync (s : State) : State :=
  if !s.mirrors then s else
  s.each s.ownOpen (fun s i =>
    let t := (s.targetOf i).getD i
    let ok := (s.partnerTag (s.seq t).entry.imageTag).isSome && (s.seq i).entry.state ≠ seqFelling
    if ok && !(s.seq i).mirrored then s.copyOut i
    else if !ok && (s.seq i).mirrored then s.modSeq i (fun x => { x with mirrored := false, copying := false, mirrorOut := [] })
    else s)

/-- No own sequence counts as mirrored any more. -/
def State.unmirror (s : State) : State :=
  { s with seqs := s.seqs.map (fun p => (p.1, { p.2 with mirrored := false, copying := false, moving := false, mirrorOut := [] })) }

/-- A load or an unload updates the map between the partners' tags (R391). -/
def State.imagesChanged (s : State) : State := if s.pairState = 0 then s else s.sendControl.resync

/-- The partner mirrors that the module holds are discarded (R472). -/
def State.dropMirrors (s : State) : State :=
  s.each (s.openSeqs.filter (fun i => (s.seq i).entry.partner)) State.closeEntry

/-! ## Takeover (R248, R381, R399 to R401) -/

/-- The address of a network port (R362): IPv6, or IPv4-mapped for a client that is IPv4-mapped. -/
def State.portAddress (s : State) (l : Nat) (client : BitVec 128) : Nat :=
  if client.toNat / 2 ^ 32 = 0xFFFF then 0xFFFF * 2 ^ 32 + (s.config.ipv4.getD l 0).toNat else (s.config.ipv6.getD l 0).toNat

/-- A TAKEOVER notice of a resumed sequence (R381). -/
def State.takeoverNotice (s : State) (i : Nat) : State :=
  let x := s.seq i
  let port := (s.egress x.landing).getD x.landing
  s.pttSend x.landing x.entry.tenant x.addr x.udp pttTakeover 0 0 x.partnerHandle.toNat x.takeoverStep
    (bytesBE 4 (s.handle i) ++ bytesBE 4 0 ++ bytesBE 8 (s.get twPartnerId_serial 0) ++ bytesBE 8 Config.serial.toNat
      ++ bytesBE 16 (s.portAddress port x.addr))

/-- A resumed sequence as a request, for the choice of victims (R401). -/
def Seq.asRequest (x : Seq) : OpenReq :=
  let e := x.entry
  ⟨e.tenant, e.imageTag, e.cls, b2n e.overcommit, e.specMode, e.variant, e.candidates, e.acceptance, e.promptLen, e.maxLen, x.expect,
    x.ttft / 1000, e.itlTarget, e.tokensLeft, e.key.toNat, e.temperature.toNat, e.topP.toNat, e.topK, e.saplingTag,
    e.stopToken.toNat, x.logitsN⟩

/-- Restore a partner entry (R248, R399 steps 3 to 5, R402 step 4): one whose felling was recorded ends FELLED; the others run from the
last mirrored step. `takeover` tells a takeover, whose next commit is sent with dup, from a move. -/
def State.restoreEntry (s : State) (i : Nat) (takeover : Bool) : State :=
  let x := s.seq i
  let victims := if (s.classRec x.entry.cls).mayPreempt && !s.isSapling i && !x.fellSeen then (s.victims x.asRequest).getD [] else []
  let need := s.variantNeed x.asRequest
  let s := s.each victims (fun s v => s.askSuspend v .preempted)
  let s := match need with
    | some (some (pool, marks)) => s.heatVariant x.entry.imageTag x.entry.variant pool marks
    | _ => s
  let s := s.modSeq i (fun x => { x with
    entry := { x.entry with partner := false }
    dupNext := takeover, takeoverStep := x.entry.step + 1
    repeats := s.get ldPttCtrl_takeoverRepeats x.landing })
  let s := { s with twin := { s.twin with restored := s.twin.restored ++ [i] } }
  if s.isSapling i then s
  else if x.fellSeen then s.endClosed i 2 x.endCode
  else
    let s := s.takeoverNotice i
    s.tenantRecord x.entry.tenant 6 (s.handle i) (bytesLE 1 1 ++ bytesLE 4 1)

/-- Partner entries in class order, then by entry. -/
def State.partnerEntries (s : State) : List Nat :=
  sortBy (s.openSeqs.filter (fun i => (s.seq i).entry.partner)) (fun a b =>
    decide ((s.seq a).entry.cls < (s.seq b).entry.cls ∨ ((s.seq a).entry.cls = (s.seq b).entry.cls ∧ a ≤ b)))

/-- The pair state becomes sole (R399, R472). -/
def State.toSole (s : State) : State := (s.put twPairStatus_state 0 3).follow

/-- A replacement in progress ends (R361, R405, R407). -/
def State.endReplace (s : State) (status : Nat) : State :=
  let op := s.twin.op
  let s := { s with twin := { s.twin with op := 0, replacing := false, ownHere := false, peerHere := false, window := [] } }
  if op = 0 then s else s.endOp op status (if status = 0x0103 then s.pairState else 0) 0

/-- The partner is declared lost (R399): TWIN_SOLE, and every partner entry is restored. (DEDUCED: log 148.) -/
def State.losePartner (s : State) : State :=
  let s := s.pairEv twEvent_partnerLost
  let s := s.each [1, 5] (fun s l => s.put twPortStatus_heartbeatOk l 0)
  let s := (s.endReplace 0x0103).put twPairStatus_partitioned 0 (b2n (decide (s.twinUp = [])))
  let s := s.toSole.journalRec s.foresterSource 0x0051 0 0xFFFF 0xFFFF 0
  let es := s.partnerEntries
  let s := s.each es (fun s i => s.restoreEntry i true)
  if es = [] then s else s.pairEv twEvent_takeover

/-- Heartbeats return after a takeover (R403): of a sequence held on both modules the copy made by takeover survives, and the pair
resynchronizes. `both` tells that the partner took over too. -/
def State.reunite (s : State) (both : Bool) : State :=
  let s := s.put twPairStatus_partitioned 0 0
  let s := if both then
      s.each (s.ownOpen.filter (fun i => (s.seq i).mirrored && !(s.seq i).copying)) State.closeEntry
    else s
  ((s.unmirror.put twPairStatus_state 0 2).resync).follow

/-! ## The twin barrier (R241, R404) -/

/-- The pair is paired: the operation that paired it ends, and mirroring starts. -/
def State.pairDone (s : State) (replaced : Bool) : State :=
  let op := s.twin.op
  let s := { s with twin := { s.twin with op := 0, replacing := false, wasSole := s.twin.wasSole && !replaced } }
  let s := s.put twPairStatus_state 0 2
  let s := if op = 0 then s else s.endOp op stOk 0 0
  s.resync.follow

/-- The barrier releases at a tally of this module: what needed it ends, and partners in lockstep take a common grid from it. -/
def State.released (s : State) (t : Nat) : State :=
  let s := { s with twin := { s.twin with ownHere := false, peerHere := false, release := some t } }
  let peer := (s.twin.partner.map (fun (p : PairControl) => p.period)).getD 0
  let s := if s.lockstep ∧ peer ≠ 0 then { s with twin := { s.twin with period := max peer s.imagePeriod } }.newGrid t else s
  if s.pairState = 1 then s.pairDone false else if s.pairState = 4 || s.twin.replacing then s.pairDone true else s

/-- The leader that holds both arrivals sends the release, 5 µs ahead. -/
def State.tryRelease (s : State) : State :=
  if s.on twPairStatus_leader 0 && s.twin.ownHere && s.twin.peerHere then
    let t := s.tally + 5000
    (s.twinAll twRelease (bytesLE 8 t)).released t
  else s

/-- The module arrives at the twin barrier. -/
def State.arriveTwin (s : State) : State :=
  if s.twin.ownHere then s else
  ({ s with twin := { s.twin with ownHere := true, arrivedAt := s.tally, release := none } }.twinAll twArrival []).tryRelease

end Sys2Proof.Machine
end

