-- ==== Sys2Proof/Machine/Variants.lean ====
section
/-! DEFINITION. Variants: making one hot, the handover of a new generation, and the update of master weights (R272 to R279). -/

namespace Sys2Proof.Machine

/-- A tier image as it is programmed into a pool tier: its rows and latch go into the rotation tier, which takes the logical tier's place (R88 to R92). -/
def State.programTier (s : State) (t : TileId) (k gen : Nat) (x : TierImage) : State :=
  let s := s.startRotation { tile := t, kind := .load, logical := k, gen := gen, image := some x }
  match (s.tile t).rotation with
  | none => s
  | some r =>
    let p := s.get tlTileStatus_rotationPhys t.num
    let y := s.tier t p
    (s.setTier t p { y with rows := x.rows, latch := s.rotLatch t r, layer := x.layer }).landSwap t

/-- Landings that hold a sequence of a variant in one of some states; the active Forester's landing where there is none (log 76). -/
def State.variantLandings (s : State) (tag v : Nat) (ok : Nat → Bool) : List Nat :=
  let ls := (((s.seqsOf tag).filter (fun i => (s.seq i).entry.variant == v && ok (s.seq i).entry.state)).map seqLanding).eraseDups
  if ls.isEmpty then [journalSegment s.foresterSource] else ls

/-- VARIANT_LOAD (R274): the marked variants whose tiers it takes are evicted, its tiers are programmed, and it is hot; sequences that
waited for it in OPENING may go on. It waits while a tile of it cannot rotate. -/
def execVariantLoad (tag : Fin 256) (v : Fin 65536) (s : State) : Host.Outcome State Fault Refusal :=
  .next (
    match s.variant tag.val v.val with
    | none => s
    | some y =>
      let tiers := y.pool.zip y.staged
      if !y.loading || !tiers.all (fun p => s.canRotate (poolTile p.1) p.1.2.2.2) then s else
      let s := s.modImage tag.val (fun x => { x with variants := x.variants.map (fun p =>
        if p.2.marked && p.2.pool.any (fun q => decide (q ∈ y.pool)) then
          (p.1, { p.2 with hot := false, marked := false, pool := [] })
        else p) })
      let s := s.each tiers (fun s p => s.programTier (poolTile p.1) p.1.2.2.2 y.gen p.2.image)
      let s := s.setVariant tag.val v.val { y with hot := true, loading := false, marked := false, lastUsed := s.tally }
      let s := s.each (s.variantLandings tag.val v.val (fun st => st == seqOpening)) (fun s l => s.sqEv sqEvent_variantLoad l)
      s.each ((s.seqsOf tag.val).filter (fun i => (s.seq i).entry.variant == v.val)) State.tryPrefill)

/-- GEN_HANDOVER (R275, R398): with the new generation armed on every copy, no step of the variant in flight and, when paired, every commit
mirrored, its running sequences take the generation and a new update number. Suspended ones take it when they resume.
(PRESUMED: log 136.) -/
def execGenHandover (tag : Fin 256) (v : Fin 65536) (s : State) : Host.Outcome State Fault Refusal :=
  .next (
    match s.variant tag.val v.val with
    | none => s
    | some y =>
      let own := (s.seqsOf tag.val).filter (fun i => (s.seq i).entry.variant == v.val && !(s.seq i).entry.partner)
      if !s.genReady tag.val v.val || own.any (fun i => (s.seq i).inFlight.isSome)
        || (s.paired && own.any (fun i => !(s.seq i).mirrorOut.isEmpty)) then s else
      let g := (y.armed.getD 0) % 256
      let u := y.update + 1
      let s := s.setVariant tag.val v.val { y with gen := g, armed := none, update := u }
      let s := s.each (own.filter (fun i => (s.seq i).entry.state ≠ seqSuspended)) (fun s i =>
        let e := (s.seq i).entry
        let s := s.modEntry i (fun e => { e with update := u })
        let s := s.journalRec (48 + seqLanding i) 0x0030 tag.val e.tenant i (e.step + g * 2 ^ 32 + v.val * 2 ^ 40)
        s.mirror i 5 e.step (bytesLE 2 v.val ++ bytesLE 1 g ++ bytesLE 4 e.step))
      s.each (s.variantLandings tag.val v.val (fun st => decide (st ≠ seqClosed ∧ st ≠ seqFelling))) (fun s l =>
        s.sqEv sqEvent_genHandover l))

/-! ## Master weights (R279) -/

/-- The latch that a tier image gives, for its weights and offsets. -/
def tierLatch (x : TierImage) : Latch := { expo := x.expo, codebook := x.codebook, mode := x.mode }

/-- Weights of a tier: 1,024 rows of 512 columns. -/
def tierWeights : Nat := 1024 * 512

/-- A master weight of a variant by its index in image order; before its first update it is the weight of the tier staged by
VAR_STAGE (log 77). -/
def State.masterWeight (s : State) (tag : Nat) (y : Variant) (elem : Nat) : BitVec 16 :=
  match y.origin[elem / tierWeights]? with
  | none => 0
  | some t => tblGet y.master (t.layer, elem) (
      let l := tierLatch t.image
      let row := elem % tierWeights / 512
      let col := elem % 512
      let code := bits (tblGet t.image.rows row 0).toNat (4 * col) 4
      let b := ((s.layers tag)[t.layer]?.map (fun r => r.baseExp)).getD 0
      BitVec.ofNat 16 (toBf16 (Ex.dy (l.weight code) (b + l.expOf col))))

/-- One master weight updated: w + (−η × g) under stochastic rounding use 4; where an input is not finite the manual gives no result, and
the weight is a free value (log 77). -/
def State.updateMaster (s : State) (tag v : Nat) (m : MasterGrad) : State :=
  match s.variant tag v with
  | none => s
  | some y =>
    let w := s.masterWeight tag y m.elem
    let h := s.hashOf tag 0
    let r := counterHash h.1 h.2.1 0 (BitVec.ofNat 32 y.update) (BitVec.ofNat 16 m.layer) (BitVec.ofNat 32 m.elem) 4
    let a : BitVec 16 × State :=
      if allFinite [w.toNat, y.eta.toNat, m.grad.toNat] then
        (BitVec.ofNat 16 (FFmt.bf16.encodeSat ((bf16Ex w.toNat).add ((bf16Ex y.eta.toNat).mul (bf16Ex m.grad.toNat)).neg) (.stochastic r)), s)
      else s.free 16
    let layer := ((y.staged[m.elem / tierWeights]?).map (fun t => t.layer)).getD m.layer
    a.2.setVariant tag v { y with master := tblSet y.master (layer, m.elem) a.1 }

/-- The values of a tier's codes: −8 to 7, or the codebook's. -/
def codeValues (l : Latch) : List Int := (upTo 16).map l.weight

/-- Is a weight in the codes' range at an offset: w / 2^(B + o), rounded to nearest even in normal-level mode, within −8 to +7, or within the
codebook's range? -/
def inRange (l : Latch) (w : Ex) (grid : Int) : Bool :=
  let vs := codeValues l
  let lo := vs.foldl min 0
  let hi := vs.foldl max 0
  if l.wide then !w.lt (Ex.dy lo grid) && !(Ex.dy hi grid).lt w
  else decide (lo ≤ w.roundGrid grid .nearestEven ∧ w.roundGrid grid .nearestEven ≤ hi)

/-- The code of a weight at an offset: the clamped rounded value in normal-level mode, the nearest codebook value, lower code first, in
wide-level mode. -/
def codeFor (l : Latch) (w : Ex) (grid : Int) : Nat :=
  if l.wide then
    ((upTo 16).foldl (fun (b : Nat × Ex) k =>
      let d := (w.add (Ex.dy (-(l.weight k)) grid)).abs
      if d.lt b.2 then (k, d) else b) (0, (w.add (Ex.dy (-(l.weight 0)) grid)).abs)).1
  else (max 0 (min 15 (w.roundGrid grid .nearestEven + 8))).toNat

/-- The offset of a column: the smallest that holds every weight, else 15. -/
def columnOffset (l : Latch) (b : Int) (ws : List Ex) : Nat :=
  ((upTo 16).find? (fun (o : Nat) => ws.all (fun w => inRange l w (b + o)))).getD 15

/-- The tier image of a variant's staged tier `k` built from its master weights, with the clipped weights (R279). -/
def State.rebuildTier (s : State) (tag : Nat) (y : Variant) (k : Nat) (t : VariantTier) : TierImage × Nat :=
  let l := tierLatch t.image
  let b := ((s.layers tag)[t.layer]?.map (fun r => r.baseExp)).getD 0
  let cols : List (Nat × List Nat × Nat) := (upTo 512).map (fun c =>
    let ws := (upTo 1024).map (fun r => bf16Ex (s.masterWeight tag y (k * tierWeights + 512 * r + c)).toNat)
    let o := columnOffset l b ws
    (o, ws.map (fun w => codeFor l w (b + o)), (ws.filter (fun w => !inRange l w (b + o))).length))
  ({ t.image with
      rows := (upTo 1024).map (fun r => (r, BitVec.ofNat 2048 (packDigits 4 (cols.map (fun c => c.2.1.getD r 0)))))
      expo := BitVec.ofNat 2048 (packDigits 4 (cols.map (fun c => c.1))) },
   (cols.map (fun c => c.2.2)).sum)

/-- MASTER_WEIGHT_UPDATE (R277 steps 6 and 7, R279): after an update interval the gradients change the master weights of a hot variant, the
tiers are rebuilt, and UPDATE rotations with the next generation are asked for. -/
def execMasterWeightUpdate (tag : Fin 256) (v : Fin 65536) (grads : List MasterGrad) (s : State) : Host.Outcome State Fault Refusal :=
  .next (
    match s.variant tag.val v.val with
    | none => s
    | some y =>
      if !y.hot || y.armed.isSome || decide (y.tokens < max 1 y.interval) then s else
      let s := s.each grads (fun s m => s.updateMaster tag.val v.val m)
      match s.variant tag.val v.val with
      | none => s
      | some y =>
        let g := (y.gen + 1) % 256
        let new := y.staged.zipIdx.map (fun p => s.rebuildTier tag.val y p.2 p.1)
        let s := s.setVariant tag.val v.val { y with
          staged := (y.staged.zip new).map (fun p => { p.1 with image := p.2.1 }), tokens := 0, armed := some g }
        s.each (y.pool.zip new) (fun s p =>
          let t := poolTile p.1
          let s := s.numCount t.groveId 2 p.2.2
          s.askRotation { tile := t, kind := .update, logical := p.1.2.2.2, gen := g, image := some p.2.1 }))

end Sys2Proof.Machine
end

