-- ==== Sys2Proof/Machine/ImageOps.lean ====
section
/-! DEFINITION. Staging areas, and the loading, clearing and unloading of images (R205, R217, R218, R224, R240, R351, R352, R384, R448,
R458, R459). -/

namespace Sys2Proof.Machine

/-! ## HBM space (R351; log 97) -/

/-- HBM ranges (base, bytes) that Forester firmware has given away: journal segments, KV pool shares, the page-list area, staging areas,
image regions, and the stacks of lost landings. -/
def State.hbmTaken (s : State) : List (Nat × Nat) :=
  (upTo 8).map (fun l => (3 * l * 2 ^ 36, 128 * 2 ^ 20))
  ++ (upTo 8).map (fun l => (65536 * s.poolBase l, 65536 * s.poolPages l))
  ++ [(4096 * s.prot.listBase, 4096 * s.prot.listUnits)]
  ++ s.stagings.map (fun p => (p.2.base, p.2.length))
  ++ s.images.flatMap (fun p => p.2.stream :: p.2.regions.zip p.2.file.regions)
  ++ s.landingsLost.map (fun l => (3 * l * 2 ^ 36, 3 * 2 ^ 36))

/-- The lowest 64 KiB-aligned free range of `n` bytes of HBM, beside some more ranges that are taken. -/
def State.freeHbm (s : State) (n : Nat) (more : List (Nat × Nat)) : Option Nat :=
  let taken := (s.hbmTaken ++ more).filter (fun r => decide (0 < r.2))
  let starts := sortBy (0 :: taken.map (fun r => 65536 * ceilDiv (r.1 + r.2) 65536)) (fun a b => decide (a ≤ b))
  starts.find? (fun a => decide (a + n ≤ hbmBytes) && taken.all (fun r => decide (a + n ≤ r.1 ∨ r.1 + r.2 ≤ a)))

/-- Ranges for several regions, in order; none where one finds no room. -/
def State.freeRegions (s : State) : List Nat → List (Nat × Nat) → Option (List Nat)
  | [], acc => some (acc.map (fun r => r.1))
  | n :: r, acc =>
    match s.freeHbm n acc with
    | some a => s.freeRegions r (acc ++ [(a, n)])
    | none => none

/-- Have all bytes of a staging area been written? -/
def Staging.full (x : Staging) : Bool :=
  decide (x.length ≤ (sortBy x.got (fun a b => decide (a.1 ≤ b.1))).foldl
    (fun (n : Nat) (r : Nat × Nat) => if r.1 ≤ n then max n (r.1 + r.2) else n) 0)

/-- Bytes arrive in a staging area. -/
def State.stageBytes (s : State) (id : Nat) (x : Staging) (off : Nat) (bs : List Byte) : State :=
  let s := s.hbmWrite (x.base + off) bs
  { s with stagings := tblSet s.stagings id { x with got := x.got ++ [(off, bs.length)] } }

/-! ## Checks (R205 steps 1 to 6, R352) -/

/-- The landing whose BT block describes the active Forester (R464). -/
def State.btLanding (s : State) : Nat := if s.foresterB then 7 else 3

/-- Step 1: both signatures; the detail tells which failed. -/
def signatureFault (rsaOk slhOk : Bool) : Option Nat :=
  if rsaOk && slhOk then none else some (b2n (!rsaOk) + 2 * b2n (!slhOk))

/-- Step 2, in the order of R205: status and detail of the first check that fails (log 101). -/
def State.headerFault (s : State) (img : ImageFile) : Option (Nat × Nat) :=
  let mode := b2n s.lockstep + 2 * b2n s.exact
  if img.hdr 0 4 ≠ 0x4D49574B ∨ img.hdr 4 2 ≠ 1 then some (0x0201, 0xFFFF)
  else if img.hdr 6 2 ≠ 1 then some (0x0202, img.hdr 6 2)
  else if !bit (img.hdr 8 1) (if partStepping = 0xB0 then 1 else 0) then some (0x0203, partStepping)
  else if 4 ≤ img.hdr 8 1 ∨ 64 ≤ img.hdr 9 1 ∨ img.hdr 10 2 = 0 ∨ 40 < img.hdr 10 2 ∨ img.hdr 32 4 = 0 ∨ 1048576 < img.hdr 32 4
      ∨ img.hdr 36 28 ≠ 0 then some (0x0201, 0xFFFF)
  else match img.badSection with
  | some k => some (0x0201, k)
  | none =>
    let lock := s.lockstep && !bit (img.hdr 9 1) 0
    let reads := (s.lockstep || s.exact) && bits (img.hdr 9 1) 1 2 != 0
    if lock || reads then some (0x0204, mode) else none

/-- Can a stand take part in a new image's placement: in service, no reserve, and in no other image's set (log 102)? -/
def State.standFree (s : State) (n : Nat) : Bool :=
  decide (n < 42) && s.standOn n && decide (n ∉ s.reserve) && s.images.all (fun p => !p.2.hasStand n)

/-- Step 3: the first placement, or the one named, whose stands are free. -/
def State.pickPlacement (s : State) (img : ImageFile) (named : Option Nat) : Option (Nat × List Nat) :=
  let n := img.hdr 10 2
  ((img.placements.filter (fun p => named.isNone || named == some p.1)).find? (fun p =>
    decide ((p.2.take n).length = n) && (p.2.take n).all s.standFree && decide ((p.2.take n).Nodup))).map
    (fun p => (p.1, p.2.take n))

/-- Resident entries whose images are still awaited in boot staging areas (R458). -/
def State.awaited (s : State) : List Resident :=
  s.flash.resident.filter (fun r => (s.image r.tag).isNone && s.stagings.any (fun p => p.2.boot == some r.tag))

/-- The lowest image tag that is free; an awaited resident image keeps its own. -/
def State.freeTag (s : State) : Option Nat :=
  ((upTo 256).drop 1).find? (fun t => (s.image t).isNone && !s.awaited.any (fun r => r.tag == t))

/-- Step 4: does the closure map of the port at the far end permit the image (R43)? -/
def State.pairPermitted (s : State) (tag : Nat) (q : Nat × Nat) : Bool :=
  match (standPort q.1 q.2).peer with
  | some p => s.closurePermits p tag
  | none => false

/-- Step 5, power tokens (R207, R209): 1 a stand's limit, 2 a band's, 3 the module's. -/
def State.tokenFault (s : State) (tag : Nat) (place : List Nat) (phases : List (List Nat)) : Option Nat :=
  let peaks := tokenPeaks place phases
  let all (n : Nat) : Nat := ((peaks.filter (fun q => q.1 = n)).map (fun q => q.2)).sum + s.tokensOn tag n
  if !phases.all (fun ph => ph.all (fun t => decide (t ≤ 400))) then some 1
  else if !(upTo 7).all (fun b => decide (((bandStands b).map all).sum ≤ 350 * (bandStands b).length)) then some 2
  else if s.get pwModuleLimit_inForce 0 < ((upTo 42).map all).sum then some 3 else none

/-- Step 5, limits: 1 partials, 2 relay entries, 3 slice windows, 4 copies that differ. -/
def limitFault (img : ImageFile) (placement : Nat) : Option Nat :=
  if 262144 < img.maxPartials then some 1
  else if img.relay.any (fun r => decide (r.1 = placement ∧ 128 ≤ r.2.2.1)) then some 2
  else if bit (img.hdr 9 1) 0 && !img.windowsOk then some 3
  else if !img.copiesSame then some 4 else none

/-- Step 6: the first relocation record whose value does not fit. -/
def State.relocFault (s : State) (x : Image) (tag : Nat) : Option Nat :=
  (x.file.relocs.zipIdx.find? (fun r => !s.relocsFit x tag [r.1])).map (fun r => min 0xFFFF r.2)

/-! ## Writing the device (R205 step 7) -/

/-- Bytes of a grove's staging table, and of a tier image. -/
def tableBytes : Nat := 262144
def tierImageBytes : Nat := 262656

/-- The 262,656 bytes of a tier image (R88): the rows, then the latch image. -/
def tierBytes (x : TierImage) : List Byte :=
  (upTo 1024).flatMap (fun r => bytesLE 256 (tblGet x.rows r 0).toNat) ++ bytesLE 256 x.expo.toNat ++ bytesLE 10 x.codebook.toNat
    ++ bytesLE 1 x.mode.toNat ++ List.replicate 245 0

/-- The tier images that the staging map of a file names. -/
def stagedTiers (img : ImageFile) : List Nat := ((img.staging.map (fun e => e.2.2)).eraseDups).filter (fun k => decide (k < img.tiers.length))

/-- Room for an image's staging tables with all its tier images, so that it can stream, or with the ones of its staging map alone
(R459, R460; log 98): base, bytes, and the tier images in their order. -/
def State.streamRoom (s : State) (img : ImageFile) (more : List (Nat × Nat)) : Option (Nat × Nat × List Nat) :=
  let tables := tableBytes * 16 * img.hdr 10 2
  let all := upTo img.tiers.length
  let few := stagedTiers img
  match s.freeHbm (tables + tierImageBytes * all.length) more with
  | some a => some (a, tables + tierImageBytes * all.length, all)
  | none => (s.freeHbm (tables + tierImageBytes * few.length) more).map (fun a => (a, tables + tierImageBytes * few.length, few))

/-- The tier image that a dispatch entry's target holds. -/
def Image.tierOf (x : Image) (g : GroveId) (e : Nat) : Option Nat :=
  let t := if bits e 61 2 = 0 then (g.stand.val, g.grove.val) else (bits e 55 6, bits e 51 4)
  let here (y : TierImage) : Bool := decide (x.place.getD y.stand 99 = t.1 ∧ y.grove = t.2 ∧ y.tile = bits e 40 11 ∧ y.logical = bits e 36 4)
  (x.file.tiers.zipIdx.find? (fun y => here y.1)).map (fun y => y.2)

/-- Write the tier images and the staging tables of an image (R172): the entries of its staging map, and while it streams the image of
every dispatch entry, whose kind becomes 2 (R459). -/
def State.writeStaging (s : State) (x : Image) (tiers : List Nat) : State :=
  let n := x.file.hdr 10 2
  let base := x.stream.1
  let imageAt (k : Nat) : Nat := base + tableBytes * 16 * n + tierImageBytes * tiers.idxOf k
  let s := s.each tiers (fun s k => match x.file.tiers[k]? with
    | some t => s.hbmWrite (imageAt k) (tierBytes t)
    | none => s)
  let entry (s : State) (g e k : Nat) : State := s.hbmWrite (base + tableBytes * g + 8 * e) (bytesLE 8 (imageAt k / 256))
  let s := s.each (upTo (16 * n)) (fun s g =>
    (s.hbmWrite (base + tableBytes * g) (List.replicate tableBytes 0)).put gvStagingBase_addr
      (groveOf (x.physical (g / 16)) g).num ((base + tableBytes * g) / 256))
  let s := s.each x.file.staging (fun s e => if e.2.2 ∈ tiers then entry s e.1 e.2.1 e.2.2 else s)
  if tiers.length < x.file.tiers.length then s else
  s.each x.file.dispatch (fun s d =>
    let g := groveOf (x.physical (d.1 / 16)) d.1
    let e := (s.dispatchEntry g d.2.1).toNat
    match x.tierOf g e with
    | some k => (entry s d.1 d.2.1 k).setDispatch g d.2.1 (BitVec.ofNat 64 (putBits e 61 2 2))
    | none => s)

/-- The dispatch tables take their compiled kinds (R459); a tier that a remap has moved is named at its new place (R113, R115). -/
def State.compiledKinds (s : State) (x : Image) : State :=
  let s := s.each x.file.dispatch (fun s d =>
    let g := groveOf (x.physical (d.1 / 16)) d.1
    s.setDispatch g d.2.1 (BitVec.ofNat 64 (putBits (s.dispatchEntry g d.2.1).toNat 61 2 (bits d.2.2.toNat 61 2))))
  s.each (s.remaps.filter (fun r => r.done && x.hasStand r.owner.stand.val)) (fun s r =>
    s.setDispatch r.owner.groveId r.entry (s.remapEntry r))

/-- Relay tables, dispatch tables, instruction stores, counters and deck contents of an image on its placement (R205 step 7). -/
def State.writeSections (s : State) (x : Image) : State :=
  let s := s.each (x.file.relay.filter (fun r => r.1 = x.placement)) (fun s r =>
    s.patchWrite (.relay (standOf (x.physical r.2.1)) (r.2.2.1 % 128)) r.2.2.2.toNat)
  s.each x.place.zipIdx (fun s p => s.loadGroves x p.2 p.1)

/-- Does a tier already hold what an image gives it: its tier record names image tag, generation, layer and logical tier (R61, R458)? -/
def State.tierMatches (s : State) (x : Image) (tag : Nat) (r : RotRequest) : Bool :=
  let y := s.tier r.tile (s.physOf r.tile r.logical)
  y.programmed && decide (y.latch.imageTag = tag ∧ y.latch.gen = x.gen ∧ some y.layer = r.image.map (fun t => t.layer) ∧ y.latch.logical = r.logical)

/-- The generation that a load assigns: that of the tier records of a matching resident image, else one beyond those of the loaded images
(log 97). -/
def State.loadGen (s : State) (img : ImageFile) (place : List Nat) (tag : Nat) (resident : Bool) : Nat :=
  let fresh := ((s.images.map (fun p => p.2.gen)).foldl max 0 + 1) % 256
  if !resident then fresh else
  (img.tiers.findSome? (fun t =>
    let id : TileId := ⟨standOf (place.getD t.stand 0), Fin.ofNat 16 t.grove, Fin.ofNat 2048 t.tile⟩
    let y := s.tier id (s.physOf id t.logical)
    if y.programmed && y.latch.imageTag == tag then some y.latch.gen else none)).getD fresh

/-! ## The resident list (R448) -/

/-- The place of an image in the boot order (R118, R452). -/
def State.bootRank (s : State) (tag : Nat) : Nat := s.config.bootOrder.idxOf tag * 256 + tag

/-- Rewrite the resident list: up to 64 images in boot order, those loaded and those still awaited. -/
def State.writeResidents (s : State) : State :=
  let loaded := s.images.map (fun p =>
    ({ digest := p.2.file.digest, length := p.2.file.length, tag := p.1, placement := p.2.placement } : Resident))
  let list := sortBy (loaded ++ s.awaited) (fun a b => decide (s.bootRank a.tag ≤ s.bootRank b.tag))
  { s with flash := { s.flash with resident := list.take 64 } }

/-! ## Loading (R205) -/

/-- How an image is loaded: the tag and the placement where they are given, the staging area, whether tiers that match are kept (R458),
and the bytes. -/
structure LoadReq where
  tag       : Option Nat
  placement : Option Nat
  staging   : Nat
  resident  : Bool
  source    : List Byte

/-- The end of a load: a failure, or the tag and the number of disabled plans. -/
inductive LoadResult where
  | failed (status detail : Nat) (s : State)
  | loaded (tag disabled : Nat) (s : State)

/-- Steps 6 to 8 of R205 for an image whose place, tag and regions are chosen. -/
def State.loadOnto (s : State) (x : Image) (tag : Nat) (tiers : List Nat) (resident : Bool) : LoadResult :=
  let written := (s.setImage tag x).writeSections x
  match written.relocFault x tag with
  | some k => .failed 0x020B k s
  | none =>
    let t := (written.applyRelocs x tag x.file.relocs).1
    let fits (p : PlanRec) : Bool :=
      let place := match lostStand x p.faults, p.reserve with
        | some n, some r => x.place.map (fun k => if k = n then r else k)
        | _, _ => x.place
      t.relocsFit { x with place := place } tag p.patches && p.ports.all (t.pairPermitted tag)
    let disabled := (x.file.plans.filter (fun p => decide (p.placement = x.placement) && !fits p)).map (fun p => p.number)
    let t := t.writeStaging x tiers
    let t := t.each x.place (fun t n => t.each (upTo 16) (fun t k => t.put gvStatus_imageTag (groveOf n k).num tag))
    let loads := (upTo x.place.length).flatMap (fun l => x.loadsOf l)
    let t := t.each loads (fun t r => t.makeRoom r.tile)
    let kept (r : RotRequest) : Bool := resident && t.hasPlace r.tile r.logical && t.tierMatches x tag r
    let uncleared := (loads.filter (fun r => !kept r || (t.drift r.tile (t.physOf r.tile r.logical)).due
      || t.rotationAsked r.tile r.logical)).map (fun r => (r.tile, r.logical))
    let t : State := { t with
      groves := t.groves.map (fun (p : GroveId × Grove) => (p.1, { p.2 with history := p.2.history.filter (fun h => h.1.1 ≠ tag) })) }
    let t := (t.setImage tag { x with disabled := disabled, uncleared := uncleared, state := 1 }).queueLoads (loads.filter (fun r => !kept r))
    .loaded tag disabled.length (t.periodCheck.writeResidents.imagesChanged.follow)

/-- Load an image (R205): it stops at the first check that fails, and nothing has changed then but verify_fail. -/
def State.loadImage (s : State) (img : ImageFile) (q : LoadReq) : LoadResult :=
  match signatureFault img.rsaOk img.slhOk with
  | some d => .failed 0x0200 d (s.btEv btEvent_verifyFail s.btLanding)
  | none =>
  match s.headerFault img with
  | some e => .failed e.1 e.2 s
  | none =>
  match s.pickPlacement img q.placement with
  | none => .failed 0x0205 0 s
  | some (number, place) =>
  match (match q.tag with
    | some t => some t
    | none => s.freeTag) with
  | none => .failed 0x0206 0 s
  | some tag =>
  match s.freeRegions img.regions [] with
  | none => .failed 0x0207 0 s
  | some regions =>
  match s.streamRoom img (regions.zip img.regions) with
  | none => .failed 0x0207 0 s
  | some (base, size, tiers) =>
  match img.routePorts.find? (fun p => !s.pairPermitted tag p) with
  | some p => .failed 0x0208 (8 * p.1 + p.2) s
  | none =>
  match s.tokenFault tag place img.tokens with
  | some d => .failed 0x0209 d s
  | none =>
  match limitFault img number with
  | some d => .failed 0x020A d s
  | none =>
    s.loadOnto { file := img, place := place, placement := number, regions := regions, stream := (base, size), source := q.source
                 stagingId := q.staging, gen := s.loadGen img place tag q.resident } tag tiers q.resident

/-! ## Clearing and unloading -/

/-- An image is cleared (R459): held, its dispatch tables take their compiled kinds, and released at a barrier. -/
def State.clearImage (s : State) (tag : Nat) (x : Image) : State :=
  let s := (s.compiledKinds x).setImage tag { x with cleared := true, state := 2 }
  let s := (s.restartSteps tag).imageRecord tag 0
  let s := if s.lockstep then s.newGrid (s.tally + 240) else s
  s.streamCheck

/-- An image is unloaded (R240, R351): its groves drop what they hold of it, and its tag, regions, golden image and waiting rotations are
freed. -/
def State.unloadImage (s : State) (tag : Nat) (x : Image) : State :=
  let s := (s.restartSteps tag).imageRecord tag 2
  let mine (r : RotRequest) : Bool := r.kind != .copy && x.hasStand r.tile.stand.val
  let kept := match tblFind s.goldens tag with
    | some g => if g.source = 0 then some g.staging else none
    | none => none
  let s : State := { s with
    images := tblErase s.images tag
    goldens := tblErase s.goldens tag
    stagings := s.stagings.filter (fun p => some p.1 ≠ kept)
    rotWait := s.rotWait.filter (fun r => !mine r)
    remaps := s.remaps.filter (fun r => !x.hasStand r.owner.stand.val)
    groves := s.groves.map (fun (p : GroveId × Grove) => (p.1, { p.2 with history := p.2.history.filter (fun h => h.1.1 ≠ tag) })) }
  let s := s.each x.place (fun s n => s.each (upTo 16) (fun s k => s.put gvStatus_imageTag (groveOf n k).num 0))
  (s.periodCheck.writeResidents.imagesChanged.streamCheck).follow

/-- The fellings that reach entries of a list complete (R313): an image that is held runs no descriptor of theirs (log 100). -/
def State.finishFells (s : State) (idx : List Nat) : State :=
  s.each (s.fellings.filter (fun p => p.2.entries.any (fun i => decide (i ∈ idx)))) (fun s p => s.fellDone p.1 p.2)

end Sys2Proof.Machine
end

