-- ==== Sys2Proof/Machine/BootOps.lean ====
section
/-! DEFINITION. What starts, swaps and firmware commands share: signed records and their slots, the protection and configuration records
in force, the Foresters, and what a start restores of the arrays (R44, R52, R61, R116, R117, R441 to R454, R461, R462, R468). -/

namespace Sys2Proof.Machine

/-! ## Records (R441 to R447) -/

/-- The record kinds: 0 firmware, 1 configuration, 2 protection, 3 key manifest. -/
def recordKinds : List Nat := [0, 1, 2, 3]

/-- The bit of the module's stepping in a steppings byte. -/
def steppingBit : Nat := if partStepping = 0xB0 then 1 else 0

end Sys2Proof.Machine

namespace Sys2Proof

/-- Does a record carry the body of its kind? -/
def SignedRecord.fits (r : SignedRecord) (kind : Nat) : Bool :=
  r.kind == kind && (match r.body with
    | .firmware _ _ => kind == 0
    | .configuration _ => kind == 1
    | .protection _ => kind == 2
    | .manifest _ _ => kind == 3)

/-- Which signatures of a record fail for a kind: 1 RSA, 2 SLH-DSA, 3 both; one of another kind or for another stepping verifies under
neither (R444, R445; log 104). -/
def SignedRecord.fault (r : SignedRecord) (kind : Nat) : Option Nat :=
  if !r.fits kind || !Machine.bit r.steppings.toNat Machine.steppingBit then some 3 else Machine.signatureFault r.rsaOk r.slhOk

end Sys2Proof

namespace Sys2Proof.Machine

/-- The rollback counter of a kind. -/
def State.rollback (s : State) (kind : Nat) : Nat := tblGet s.flash.counters kind 0

/-- The record in a flash slot, if it verifies (R444 to R447). -/
def State.slotRecord (s : State) (kind slot : Nat) : Option SignedRecord :=
  (tblFind s.flash.slots (kind, slot)).filter (fun r => (r.fault kind).isNone && decide (s.rollback kind ≤ r.version))

/-- The slot that boots: the highest version that verifies (R447). -/
def State.bestSlot (s : State) (kind : Nat) : Option (Nat × SignedRecord) :=
  match s.slotRecord kind 0, s.slotRecord kind 1 with
  | some a, some b => if a.version < b.version then some (1, b) else some (0, a)
  | some a, none => some (0, a)
  | none, some b => some (1, b)
  | none, none => none

/-- The BT_STATUS field that shows the slot in use of a kind. -/
def slotField (kind : Nat) : Fld :=
  match kind with
  | 0 => btStatus_fwSlot | 1 => btStatus_cfgSlot | 2 => btStatus_protSlot | _ => btStatus_manifestSlot

/-- The landing of a Forester: L3 for FA (0), L7 for FB (1) (R44, R464). -/
def foresterLanding (f : Nat) : Nat := if f = 0 then 3 else 7

/-- The Forester that is not active. -/
def State.otherForester (s : State) : Nat := 1 - s.activeForester

/-- The record of a kind that a Forester runs. -/
def State.runs (s : State) (f kind : Nat) : Option SignedRecord := tblFind s.running_ (f, kind)

/-- A Forester runs a record from a slot: BT_STATUS, BT_VERSION, BT_COUNTER, and the events of slots that did not verify. -/
def State.runRecord (s : State) (f kind slot : Nat) (r : SignedRecord) : State :=
  let l := foresterLanding f
  let s := ({ s with running_ := tblSet s.running_ (f, kind) r } : State).put (slotField kind) l slot
  let s := (s.putAt btVersion_version l kind r.version).putAt btCounter_counter l kind (s.rollback kind)
  let s := match r.body with
    | .manifest revoked _ => s.put btStatus_rootsRevoked l revoked.toNat
    | _ => s
  let other := tblFind s.flash.slots (kind, 1 - slot)
  let bad := (other.map (fun o => (o.fault kind).isSome)).getD false
  let higher := (other.map (fun o => decide (r.version < o.version))).getD false
  let s := if bad then s.btEv btEvent_verifyFail l else s
  if bad && higher then s.btEv btEvent_slotFallback l else s

/-- The identity registers of a Forester (R454, BT_IDENTITY). -/
def State.showIdentity (s : State) (f : Nat) : State :=
  let l := foresterLanding f
  (s.put btIdentity_rsaFp l (Config.sha384 Config.rsaIdentity).toNat).put btIdentity_slhFp l (Config.sha384 Config.slhIdentity).toNat

/-- A Forester's failure code over its ROM, flash and PUF (BT_STATUS.fail_code): 0 none, 1 ROM, 2 manifest, 4 firmware, 5 configuration,
6 protection, 7 PUF, 8 no record of a kind for the stepping. -/
def State.bootFault (s : State) (romOk pufOk : Bool) : Nat :=
  let missing (kind : Nat) : Bool := (s.bestSlot kind).isNone
  let stepping (kind : Nat) : Bool := (upTo 2).any (fun k => ((tblFind s.flash.slots (kind, k)).map (fun r =>
    r.fits kind && r.rsaOk && r.slhOk && !bit r.steppings.toNat steppingBit)).getD false)
  let code (kind n : Nat) : Nat := if stepping kind then 8 else n
  if !romOk then 1 else if missing 3 then code 3 2 else if missing 0 then code 0 4 else if missing 1 then code 1 5
  else if missing 2 then code 2 6 else if !pufOk then 7 else 0

/-- A Forester that completed steps 2 to 4 runs the best slots. -/
def State.runBest (s : State) (f : Nat) : State :=
  (s.each recordKinds (fun s k => match s.bestSlot k with
    | some (slot, r) => s.runRecord f k slot r
    | none => s)).showIdentity f

/-! ## Records in force -/

/-- Registers whose RO/L fields the protection record fills, in two banks (R451). -/
def bankedRegs : List Reg := [.skClosure, .sqListArea, .cpFuncRights, .twMirrorPool]

/-- Stump code writes a protection record into a bank (R451): closure entries as (port, word, bits), rights by function, TotalVFs by
control port, the page-list area and the mirror pool. -/
def State.writeBank (s : State) (bank : Nat) (p : ProtectionRecord) : State :=
  let s : State := { s with regs := s.regs.filter (fun e => ¬ (e.1.reg ∈ bankedRegs ∧ e.1.bank = bank)) }
  let s := s.each p.closure (fun s c => s.setReg ⟨.skClosure, c.1, c.2.1, bank⟩ (BitVec.ofNat 128 (c.2.2 % 2 ^ 32)))
  let rights (f : Nat) : Nat :=
    let base := match p.funcs.find? (fun r => r.fn = f) with
      | some r => r.groups.toNat + 2 ^ 10 * b2n r.allTenants + (match r.tenant with
          | some t => 2 ^ 24 + t % 256 * 2 ^ 16
          | none => 0)
      | none => 0
    base + (if f % 64 = 0 then p.totalVfs.getD (f / 64) 0 % 64 * 2 ^ 32 else 0)
  let s := s.each (upTo 256) (fun s f => if rights f = 0 then s else s.setReg ⟨.cpFuncRights, f, 0, bank⟩ (BitVec.ofNat 128 (rights f)))
  let s := s.each (upTo 8) (fun s l =>
    s.setReg ⟨.sqListArea, l, 0, bank⟩ (BitVec.ofNat 128 (p.listBase % 2 ^ 40 + p.listUnits % 2 ^ 24 * 2 ^ 40)))
  s.setReg ⟨.twMirrorPool, 0, 0, bank⟩ (BitVec.ofNat 128 (p.mirrorPages % 2 ^ 24 + p.mirrorEntries % 2 ^ 16 * 2 ^ 40))

/-- The other bank comes into force with the protection record that fills it (R451, R461). -/
def State.flipBank (s : State) (p : ProtectionRecord) : State :=
  let s : State := { s with bankB := !s.bankB, prot := p, protLocked := true }
  let s := s.put pwModuleLimit_configuredMax 0 p.configuredMax
  s.each [3, 7] (fun s l => s.put btProtBank_bank l (b2n s.bankB))

/-- The configuration record in force (R452): its fields, and the RW registers that Forester firmware writes from it. A limit of 0 is one
left out. -/
def State.applyConfig (s : State) (c : ConfigRecord) : State :=
  let s : State := { s with config := c }
  let s := if c.tokenLimit = 0 then s else (s.put pwModuleLimit_set 0 c.tokenLimit).newModuleLimit
  let s := s.each (upTo 8) (fun s l =>
    (s.put ldPtpStatus_domain l c.ptpDomain).put ldPortStatus_ptpSelected l (b2n (decide (l = c.ptpPort))))
  s.each c.writes (fun s w => match s.writeForester w.1.toNat w.2.1 w.2.2.toNat 0 false with
    | .next t => t
    | _ => s)

/-- The protection record that a Forester runs. -/
def State.protOf (s : State) (f : Nat) : ProtectionRecord :=
  match (s.runs f 2).map (fun (r : SignedRecord) => r.body) with
  | some (.protection p) => p
  | _ => s.prot

/-- The configuration record that a Forester runs. -/
def State.configOf (s : State) (f : Nat) : ConfigRecord :=
  match (s.runs f 1).map (fun (r : SignedRecord) => r.body) with
  | some (.configuration c) => c
  | _ => s.config

/-! ## Foresters (R450, R461, R468) -/

/-- BT_STATUS shows which Forester is active and whether the other is a ready standby. -/
def State.showForesters (s : State) (ready : Bool) : State :=
  let a := foresterLanding s.activeForester
  let b := foresterLanding s.otherForester
  let s := (s.put btStatus_active a 1).put btStatus_standbyReady a 0
  (s.put btStatus_active b 0).put btStatus_standbyReady b (b2n ready)

/-- Is the other Forester a ready standby? -/
def State.standbyReady (s : State) : Bool := s.on btStatus_standbyReady (foresterLanding s.otherForester)

/-- The standby becomes active at a haul-road frame boundary (R52, R461 step 4): sequencing moves to its landing, and the tally runs on. -/
def State.handOver (s : State) : State := ({ s with foresterB := !s.foresterB } : State).showForesters false

/-- A swap ends early with a status. -/
def State.endSwap (s : State) (status detail : Nat) : State :=
  match s.swap with
  | none => s
  | some w => ({ s with swap := none } : State).endOp w.op status detail 0

/-! ## What a start restores of the arrays (R57, R61, R116 to R118) -/

/-- The newest tier record of a logical tier among the physical tiers of a tile that are not retired. -/
def State.newestTier (s : State) (t : TileId) (k : Nat) : Option Nat :=
  ((upTo 17).filter (fun p =>
    (s.tier t p).programmed && (s.tier t p).latch.logical == k && !(tblGet s.flash.snap (t, p) {}).retired)).foldl
    (fun (b : Option Nat) p => match b with
      | none => some p
      | some q => if (s.tier t q).programTally < (s.tier t p).programTally then some p else b) none

/-- Physical tiers for the logical tiers 0 to 15: those that the tier records name, and the free ones in order for the rest (log 80). -/
def tierMap (free : List Nat) : List (Option Nat) → List Nat
  | [] => []
  | some p :: r => p :: tierMap free r
  | none :: r => free.headD 16 :: tierMap free.tail r

/-- Forester firmware forms a tile's map again from its tier records, with the retirement of the drift snapshot. -/
def State.restoreTile (s : State) (t : TileId) : State :=
  let named := (upTo 16).map (s.newestTier t)
  let dead := (upTo 17).filter (fun p => (tblGet s.flash.snap (t, p) {}).retired)
  let free := (upTo 17).filter (fun p => decide (some p ∉ named) && decide (p ∉ dead))
  let map := tierMap free named
  let s := s.each map.zipIdx (fun s m =>
    let l := (s.tier t m.1).latch
    let q := m.2 / 4
    let k := m.2 % 4
    let s := (s.putAt (tlCellLayerMap_phys k) t.num q m.1).putAt (tlCellLayerMap_wide k) t.num q (b2n l.wide)
    s.putAt (tlCellLayerMap_reverseOk k) t.num q (b2n l.reverseOk))
  let s := s.setTile t { s.tile t with gone := [] }
  let s := s.each (upTo 17) (fun s p => s.setTierState t p (if p ∈ dead then 2 else if p ∈ map then 1 else 0))
  let spare := ((upTo 17).find? (fun p => decide (p ∉ map) && decide (p ∉ dead)))
  let s := match spare with
    | some p => s.put tlTileStatus_rotationPhys t.num p
    | none => s.put tlTileStatus_rotationState t.num 5
  let newest := (upTo 17).foldl (fun b p => if (s.tier t b).programTally < (s.tier t p).programTally then p else b) 0
  let s := s.put tlGen_currentGen t.num (s.tier t newest).latch.gen
  let s := s.put tlTileStatus_retiredCount t.num (min 2 dead.length)
  if 2 ≤ dead.length then s.put tlTileStatus_tileState t.num 2 else s

/-- The off-time in s and the storage temperature in °C (R117). -/
def State.offTime (s : State) : Nat × Int :=
  let last := max s.flash.lastDown s.flash.snapAt
  match s.offHistory with
  | some (n, temp) => (n, temp.getD 55)
  | none => if s.ptp.locked ∧ last ≤ s.tally then ((s.tally - last) / 1000000000, 55) else (31536000, 55)

/-- Drift-clock time of 86,400 s (R103). -/
def longOff : Nat := 86400 * 20 * 65536

/-- The drift clocks of a tile at SURVEY (R116, R117): those of the snapshot, at least the budget when it is stale, with the off-time added. -/
def State.restoreDrift (s : State) (t : TileId) (stale : Bool) (add : Nat) : State :=
  s.each (upTo 17) (fun s p =>
    let z := tblGet s.flash.snap (t, p) {}
    let d : Drift := { clock := z.clock * 65536, lastCruise := z.hold, firstLong := decide (longOff < add) }
    let s := s.setDrift t p d
    let base := if stale then max d.clock (s.budget t p) else d.clock
    s.setDrift t p { d with clock := base + add, due := decide (s.tierState t p = 1) && (s.tier t p).programmed })

end Sys2Proof.Machine
end

