-- ==== Sys2Proof/Machine/Boot.lean ====
section
/-! DEFINITION. Power-up into STUMP, SURVEY, and the resident images (R117, R118, R243, R426, R437, R448 to R452, R458, R463, R488). -/

namespace Sys2Proof.Machine

/-- Every end of a link. -/
def allPorts : List PortId :=
  (List.finRange 42).flatMap (fun n => (List.finRange 8).map (fun p => PortId.stand n p))
  ++ (List.finRange 8).flatMap (fun l => (List.finRange 3).map (fun p => PortId.landing l p))

/-- Lanes that an end receives and that the lane test fails take spares, lowest first (R38). -/
def State.spareLanes (s : State) (p q : PortId) (bad : List (Fin 512)) : State :=
  s.each bad (fun s k =>
    match (s.freeSpares p .skSpareMapRx).head? with
    | some n =>
      (s.recordSpare p .skSpareMapRx skStatus_sparesUsedRx k (Fin.ofNat 32 n)).recordSpare q .skSpareMapTx skStatus_sparesUsedTx k (Fin.ofNat 32 n)
    | none => s)

/-- The lane test (R38, R449 step 7): a link with spares for all its failing lanes comes up. -/
def State.laneTest (s : State) (bad : List (PortId × Fin 512)) : State :=
  let of_ (p : PortId) : List (Fin 512) := (bad.filter (fun b => decide (b.1 = p))).map (fun b => b.2)
  s.each allPorts (fun s p =>
    match p.peer with
    | none => s
    | some q =>
      if p.spares < (of_ p).length ∨ q.spares < (of_ q).length then s
      else (s.spareLanes p q (of_ p)).put skStatus_linkUp p.num 1)

/-- The Foresters at a start (R450): FA is active when its steps succeed, else FB; the other one is the standby when its steps succeed.
When neither does, the module stays in STUMP and refuses posts. -/
def State.bootForesters (s : State) (env : BootEnv) : State × Bool :=
  let fa := s.bootFault env.romOk.1 env.pufOk.1
  let fb := s.bootFault env.romOk.2 env.pufOk.2
  let s := (s.put btStatus_failCode 3 fa).put btStatus_failCode 7 fb
  let s := if fa = 0 then (s.runBest 0).put btStatus_step 3 4 else s
  let s := if fb = 0 then (s.runBest 1).put btStatus_step 7 4 else s
  if fa ≠ 0 ∧ fb ≠ 0 then (s, false) else
  (({ s with foresterB := decide (fa ≠ 0), standbyIn := decide (fa = 0 ∧ fb = 0) } : State).showForesters (decide (fa = 0 ∧ fb = 0)), true)

/-- A start from OFF (R426, R449 steps 1 to 8): into STUMP, with the tally from the later of the last-shutdown tally and the snapshot's
(R243), the Foresters, stand rails with gated groves, links, haul-road delays, and the protection and configuration records. A part that
never started holds what manufacture put into flash (R117; log 80). -/
def State.startUp (s : State) (env : BootEnv) : State :=
  let s := if s.flash.slots.isEmpty then
      { s with flash := { s.flash with slots := env.factory.map (fun r => ((r.kind, 0), r)), lastDown := env.tested, orderly := true } }
    else s
  let s := { s with tally := max s.flash.lastDown s.flash.snapAt }
  let s := ((s.emit (.pin pinPwrGood 1)).emit (.pin pinThermTrip 1)).setService .stump
  let s := s.put thModStatus_lastCause 0 s.flash.cause
  match s.bootForesters env with
  | (s, false) => s
  | (s, true) =>
    let s := s.each (upTo 42) (fun s n => (s.standState n 3).put pwStandStatus_vlogMv n (s.get pwVlogCtrl_set n))
    let s := (s.laneTest env.badLanes).each env.delays (fun s d =>
      (s.put hrDelay_primary d.1.val d.2.1.toNat).put hrDelay_secondary d.1.val d.2.2.toNat)
    let p := s.protOf s.activeForester
    let s := (s.writeBank (1 - s.protBank) p).flipBank p
    let c := s.configOf s.activeForester
    let s := { s with reserve := c.reserves.filter (fun n => decide (n < 42)) }.applyConfig c
    s.bootStep 8

/-- A start needs an input feed of 40 V to 59 V and neither request pin low, and after a hard shutdown the feeds removed (R426, R437, R491,
R492). -/
def State.mayStart' (s : State) (env : BootEnv) : Bool :=
  s.service == .off && !s.latched && s.pinsLow.isEmpty && decide (4000 ≤ env.tenMv ∧ env.tenMv ≤ 5900)

/-- A feed that a start finds valid (PW_FEED). -/
def State.feedUp (s : State) (feed : Fin 2) (tenMv : Nat) : State :=
  if feed = 0 then (s.put pwFeed_feedA 0 tenMv).put pwFeed_feedAOk 0 1 else (s.put pwFeed_feedB 0 tenMv).put pwFeed_feedBOk 0 1

/-- POWER_UP (R426). -/
def execPowerUp (feed : Fin 2) (env : BootEnv) (s : State) : Host.Outcome State Fault Refusal :=
  .next (if s.mayStart' env then (s.feedUp feed env.tenMv).startUp env else s)

/-- The first cruise of each tile that SURVEY still has to cruise. -/
def State.surveyCruises (s : State) : State :=
  s.each ((s.surveyLeft.map (fun e => e.1)).eraseDups) (fun s t =>
    match s.surveyLeft.find? (fun e => decide (e.1 = t)) with
    | some e => s.setTile t { s.tile t with cruise := some { phys := e.2, priority := true } }
    | none => s)

/-- Boot staging areas, one for each resident entry (R458): entry k has id 0xFFFFFF00 + k. -/
def State.openBootAreas (s : State) : State :=
  s.each s.flash.resident.zipIdx (fun s e =>
    match s.freeHbm e.1.length [] with
    | none => s
    | some base =>
      let x : Staging := { length := e.1.length, source := 1, base := base, key := s.config.bootKey, boot := some e.1.tag }
      { s with stagings := tblSet s.stagings (0xFFFFFF00 + e.2) x })

/-- SURVEY_START (R116 to R118, R449 step 10): the tiles' maps and drift clocks are restored, the off-time is added, every programmed service
tier is due for a priority cruise, the stands that are no reserves are asked to wake, and the boot staging areas open. -/
def execSurveyStart (s : State) : Host.Outcome State Fault Refusal :=
  .next (
    if s.service ≠ .stump ∨ !s.protLocked then s else
    let off := s.offTime
    let add := driftStep (16 * off.2) * (100 * off.1)
    let stale := !s.flash.orderly
    let ts := s.tiles.map (fun p => p.1)
    let s := s.each ts (fun s t => (s.restoreTile t).restoreDrift t stale add)
    let s := { s with flash := { s.flash with orderly := false } }
    let s := s.each [3, 7] (fun s l => s.put btBootTally_tally l s.tally)
    let s := (s.bootStep 9).setService .survey
    let s := { s with
      surveyLeft := ts.flatMap (fun t => ((upTo 17).filter (fun p => (s.drift t p).due)).map (fun p => (t, p)))
      wakeWant := (upTo 42).filter (fun n => decide (n ∉ s.reserve) && s.get pwStandStatus_standPower n == 3) }
    (s.surveyCruises.openBootAreas).surveyCheck)

/-- A resident image that fails is dropped (R463): its area is discarded, its entry leaves the list, and it is reported as unloaded. -/
def State.dropResident (s : State) (id tag : Nat) : State :=
  let s := { s with
    stagings := tblErase s.stagings id
    flash := { s.flash with resident := s.flash.resident.filter (fun r => r.tag ≠ tag) } }
  ((s.btEv btEvent_residentDropped s.btLanding).imageRecord tag 2).streamCheck

/-- BOOT_IMAGE_COMPLETE (R458, R463): the image is loaded with its entry's tag and placement, and tiers that match are kept; one with
another digest is loaded as a new image. (DEDUCED: log 103.) -/
def execBootImageComplete (k : Nat) (img : ImageFile) (s : State) : Host.Outcome State Fault Refusal :=
  .next (
    let id := 0xFFFFFF00 + k
    match tblFind s.stagings id with
    | none => s
    | some x =>
      match x.boot.bind (fun tag => s.flash.resident.find? (fun r => decide (r.tag = tag))) with
      | none => s
      | some r =>
        if !x.full then s else
        let bytes := s.hbmRead x.base x.length
        let same := decide (img.digest = r.digest)
        let t : State := { s with stagings := tblErase s.stagings id }
        let t := if same then t else { t with flash := { t.flash with resident := t.flash.resident.filter (fun q => q.tag ≠ r.tag) } }
        match t.loadImage img ⟨if same then some r.tag else none, if same then some r.placement else none, id, same, bytes⟩ with
        | .failed _ _ t => t.dropResident id r.tag
        | .loaded _ _ t => t.bootStep 12)

end Sys2Proof.Machine
end

