-- ==== Sys2Proof/Machine/Commits.lean ====
section
/-! DEFINITION. Commits of token steps and of prefill chunks (R249, R257, R270, R277, R286, R314). -/

namespace Sys2Proof.Machine

/-- A step that its lead grove finds felled is abandoned (R314). -/
def State.abandonStep (s : State) (i : Nat) : State := s.modSeq i (fun x => { x with inFlight := none })

/-- TOKEN_COMMIT (R257): the step at the output head commits its tokens. A prefill chunk reaches the output head only as the last chunk of
a prompt (R270), and never in an adaptation batch (R277). A sapling's drafting step ends; its draws come with its target's commit. -/
def execTokenCommit (i : Fin 32768) (out : HeadOutput) (s : State) : Host.Outcome State Fault Refusal :=
  .next (
    let x := s.seq i.val
    let e := x.entry
    match x.inFlight with
    | none => s
    | some f =>
      if f.prefill && (e.adapt || decide (f.pos + f.count < e.promptLen) || (s.targetOf i.val).isSome) then s
      else if s.felledAtLead i.val then s.abandonStep i.val
      else if (s.targetOf i.val).isSome then (s.measure i.val f).abandonStep i.val
      else
        let toks := s.commitTokens i.val f.count f.prefill out
        let room := if f.prefill then 1 else e.maxLen - e.length
        let toks := cutTokens e.stopToken.toNat (min e.tokensLeft room) toks
        if toks.isEmpty then s else s.commitTokensOf i.val f toks out.target)

/-- PREFILL_CHUNK_COMMIT (R257): filled advances to the end of the chunk. The last chunk of a prompt stays in flight for the output head,
except in an adaptation batch and on a sapling. Once an adaptation batch is filled, the command stands for the end of its backward pass, and
the batch closes with OK (R255, R277). (DEDUCED: log 135.) -/
def execPrefillChunkCommit (i : Fin 32768) (s : State) : Host.Outcome State Fault Refusal :=
  .next (
    let x := s.seq i.val
    let e := x.entry
    match x.inFlight with
    | none =>
      if e.state = seqPrefill ∧ e.adapt = true ∧ e.filled = e.promptLen ∧ !s.felledAtLead i.val then s.endClosed i.val 0 0 else s
    | some f =>
      if !f.prefill then s
      else if s.felledAtLead i.val then s.abandonStep i.val
      else
        let done := f.pos + f.count
        let last := decide (e.promptLen ≤ done) && !e.adapt && (s.targetOf i.val).isNone
        if last then s.modEntry i.val (fun e => { e with filled := done }) else
        let s := s.measure i.val f
        let s := s.modSeq i.val (fun x => { x with inFlight := none, entry := { x.entry with filled := done } })
        let s := if e.adapt then match s.variant e.imageTag e.variant with
            | some y => s.setVariant e.imageTag e.variant { y with tokens := y.tokens + f.count }
            | none => s
          else s
        s.mirrorStepRec i.val [] ((upTo f.count).map (fun k => (f.pos + k, f.pos + k))))

end Sys2Proof.Machine
end

