-- ==== Sys2Proof/Machine/DaushDevice.lean ====
section
/-! DEFINITION. The device and tenant commands of Daush, groups 0x01 and 0x02 (R229, R230, R348 to R350, R469, R472, R476). -/

namespace Sys2Proof.Machine

/-- Stands as a bit map. -/
def standBits (ns : List Nat) : Nat := (ns.map (fun n => 2 ^ n)).sum

/-- DEV_GET_INFO (R349). (DEDUCED: log 146.) -/
def execDevGetInfo (f : Fin 256) (s : State) : Host.Outcome State Fault Refusal :=
  .next (s.daush f 0x0101 (fun _ s =>
    let power (v : Nat) : List Nat := (upTo 42).filter (fun n => s.get pwStandStatus_standPower n = v)
    let flags := b2n s.lockstep + 2 * b2n s.exact + 4 * b2n s.ptp.locked + 8 * b2n s.paired + 16 * s.activeForester
    let fw := ((tblFind s.running_ (s.activeForester, 0)).map (fun (r : SignedRecord) => r.body))
    let ids : Nat × Nat := match fw with
      | some (.firmware build daush) => (daush.toNat, build.toNat)
      | _ => (0, 0)
    (replyOk (bytesLE 1 partStepping ++ bytesLE 1 s.service.code ++ bytesLE 1 flags ++ bytesLE 1 0 ++ bytesLE 2 ids.1 ++ bytesLE 2 ids.2
      ++ bytesLE 8 Config.serial.toNat ++ bytesLE 8 (standBits ((power 2).filter (fun n => decide (n ∉ s.reserve))))
      ++ bytesLE 8 (standBits s.reserve) ++ bytesLE 8 (standBits (power 0)) ++ bytesLE 2 (s.get pwModuleLimit_inForce 0)
      ++ bytesLE 2 (s.get pwModuleLimit_configuredMax 0) ++ bytesLE 1 s.images.length ++ bytesLE 19 0), s)))

/-- DEV_SET_OFF_HISTORY (R117, R349). -/
def execDevSetOffHistory (f : Fin 256) (s : State) : Host.Outcome State Fault Refusal :=
  .next (s.daush f 0x0102 (fun r s =>
    checked [(10, decide (r.field 10 1 < 2)), r.zero 11 1] s (
      if s.service ≠ .stump then (replyErr stBadState s.service.code, s)
      else
        let temp := if r.field 10 1 = 1 then some (signed 16 (r.field 8 2)) else none
        (replyOk [], { s with offHistory := some (r.field 0 8, temp) }))))

/-! ## Determinism modes (R229 to R231) -/

/-- Does an image forbid a mode word (R229)? -/
def Image.forbids (x : Image) (lockstep exact : Bool) : Bool :=
  let flags := x.file.hdr 9 1
  (lockstep && !bit flags 0) || ((lockstep || exact) && (bit flags 1 || bit flags 2))

/-- DEV_SET_DET_MODE (R229, R230): the change lands at the release of a barrier over all stands, with a new grid. -/
def execDevSetDetMode (f : Fin 256) (s : State) : Host.Outcome State Fault Refusal :=
  .next (s.daush f 0x0103 (fun r s =>
    checked [(0, decide (r.field 0 1 < 4)), r.zero 1 3] s (
      let lockstep := bit (r.field 0 1) 0
      let exact := bit (r.field 0 1) 1
      if s.service = .stump ∨ s.service = .survey then (replyErr stBadState s.service.code, s) else
      match s.images.find? (fun p => p.2.forbids (lockstep && !s.lockstep) ((exact && !s.exact) || (lockstep && !s.lockstep))) with
      | some p => (replyErr stDetConflict p.1, s)
      | none =>
        let release := s.tally + 240
        let s : State := { s with lockstep := lockstep, exact := exact, images := s.images.map (fun (p : Nat × Image) => (p.1, { p.2 with ratios := [] })) }
        let s := s.newGrid release
        let s := s.journalRec s.foresterSource 0x0040 0 0xFFFF 0xFFFF (b2n lockstep + 2 * b2n exact)
        (replyOk (bytesLE 8 release ++ bytesLE 2 s.period ++ bytesLE 1 s.epoch ++ bytesLE 1 0), s))))

/-! ## TEST (R360, R472, R474, R476) -/

/-- Link registers that leaving TEST returns to their values; spare maps stay (R360). -/
def linkRegs : List Reg := [.skEvent, .skEventCount, .skErrors, .skSpareCtrl, .twEvent, .twEventCount, .twErrors]

/-- Every injection mode is set to off. -/
def State.clearInjections (s : State) : State :=
  { s with regs := s.regs.map (fun (p : RegKey × RegVal) =>
      if p.1.reg = .skFaultInj ∨ p.1.reg = .twFaultInj then (p.1, BitVec.ofNat 128 (putBits p.2.toNat 0 2 0)) else p) }

/-- Enter TEST (R472): the partner's mirrors are discarded. (DEDUCED: log 147.) -/
def State.enterTest (s : State) : State :=
  let s := s.dropMirrors
  let saved := s.regs.filter (fun p => decide (p.1.reg ∈ linkRegs ∨ p.1.reg = Reg.twPortStatus))
  ({ s with testSave := some saved, drain := none } : State).setService .test

/-- A link that went down in TEST trains again. -/
def State.retrain (s : State) (p : PortId) : State :=
  if (s.port p).downInTest then (s.put skStatus_linkUp p.num 1).setPort p { s.port p with downInTest := false } else s

/-- Leave TEST (R360, R476): injections off, link registers as before, links and ports that went down trained, and images on a link detour
back on their primary plans. -/
def State.leaveTest (s : State) : State :=
  let saved : Tbl RegKey RegVal := s.testSave.getD []
  let s := s.clearInjections
  let kept := s.regs.filter (fun p => decide (p.1.reg ∉ linkRegs))
  let s : State := { s with testSave := none, regs := kept ++ saved.filter (fun p => p.1.reg ≠ Reg.twPortStatus) }
  let s := s.each (s.ports.map (fun p => p.1)) State.retrain
  let s := s.each [0, 1] (fun s p =>
    let l := twinLanding p
    let was := (saved.find? (fun q => q.1 == ⟨.twPortStatus, l, 0, 0⟩)).map (fun q => bit q.2.toNat 0)
    if was = some true ∧ !s.on twPortStatus_linkUp l then (s.put twPortStatus_linkUp l 1).put twPortStatus_fecLocked l 1 else s)
  let detoured := s.images.filter (fun (p : Nat × Image) => p.2.plan ≠ 0 && !p.2.faults.isEmpty && p.2.faults.all (fun f => match f with
    | .link n q => s.linkUp (standPort n q)
    | .stand _ => false))
  let s := s.each (detoured.map (fun p => p.1)) State.returnPrimary
  s.setService s.steady

/-- DEV_SET_STATE (R349, R469, R472). -/
def execDevSetState (f : Fin 256) (s : State) : Host.Outcome State Fault Refusal :=
  .next (s.daush f 0x0104 (fun r s =>
    checked [(1, decide (r.field 1 1 < 2)), r.zero 2 2] s (
      let bad : Reply × State := (replyErr stBadState s.service.code, s)
      match r.field 0 1 with
      | 4 =>
        if s.service = .test then (replyOk (bytesLE 4 0), s.leaveTest)
        else if s.service = .draining ∧ s.landingsLost = [] ∧ 9 ≤ s.get pwConverters_working 0 then
          let op := (s.drain.map (fun d => d.op)).getD 0
          let s : State := { s with drain := none, seqs := s.seqs.map (fun (p : Nat × Seq) => (p.1, { p.2 with moving := false })) }
          let s := if op = 0 then s else s.endOp op stAborted 0 0
          (replyOk (bytesLE 4 0), s.setService s.steady)
        else bad
      | 7 =>
        if s.service = .streaming ∨ s.service = .serving ∨ s.service = .degraded ∨ s.service = .twinSole then
          s.asOp r (fun op s =>
            let ms := r.field 4 4
            let deadline := if ms = 0 then none else some (ms * 1000000)
            (replyOk (bytesLE 4 op), (s.startDrain deadline (decide (r.field 1 1 = 1)) op).drainCheck))
        else bad
      | 8 =>
        if s.service = .draining ∧ s.prot.testPermitted ∧ s.ownOpen = [] then (replyOk (bytesLE 4 0), s.enterTest) else bad
      | _ => bad)))

/-- DRAIN_DEADLINE (R349, R402, R411): sequences still open move to the partner at their next step boundary, or are felled. -/
def execDrainDeadline (s : State) : Host.Outcome State Fault Refusal :=
  .next (
    match s.drain with
    | none => s
    | some d =>
      if s.service ≠ .draining ∨ d.deadline.isNone then s else
      let s : State := { s with drain := some { d with deadline := none } }
      s.each (s.ownOpen.filter (fun i => !s.isSapling i)) (fun s i =>
        let x := s.seq i
        if x.entry.state = 0 then s
        else if d.move && s.safe i && x.entry.state ≠ seqFelling then
          if x.inFlight.isNone && x.mirrorOut.isEmpty then s.moveOut i else s.modSeq i (fun x => { x with moving := true })
        else s.fell (landingOf (seqLanding i)) [i] 0 2 0 false))

/-! ## Operations (R348) -/

/-- The operation that a request names, where its function may see it. -/
def State.opOf (s : State) (r : Request) : Option Operation :=
  (tblFind s.ops (r.field 0 4)).filter (fun o => decide (o.func = r.fn.val) || s.allTenants r.fn)

/-- DEV_GET_OPERATION (R348, R349). -/
def execDevGetOperation (f : Fin 256) (s : State) : Host.Outcome State Fault Refusal :=
  .next (s.daush f 0x0105 (fun r s =>
    match s.opOf r with
    | none => (replyErr stUnknownOp 0, s)
    | some o =>
      (replyOk (bytesLE 4 (r.field 0 4) ++ bytesLE 2 o.command ++ bytesLE 1 o.state ++ bytesLE 1 o.progress ++ bytesLE 2 o.status
        ++ bytesLE 2 o.detail ++ bytesLE 4 o.result), s)))

/-- DEV_ABORT_OPERATION (R349): transfer operations at any point; a load has written the device by the time its command is done here
(log 92). -/
def execDevAbortOperation (f : Fin 256) (s : State) : Host.Outcome State Fault Refusal :=
  .next (s.daush f 0x0106 (fun r s =>
    match s.opOf r with
    | none => (replyErr stUnknownOp 0, s)
    | some o =>
      if o.state = 0 ∧ o.command = 0x0604 then (replyOk [], s.endOp (r.field 0 4) stAborted 0 o.result)
      else (replyErr stBadState o.state, s)))

/-- OPERATION_RECORD_EXPIRY (R348): 60 s after its end. -/
def execOperationRecordExpiry (op : Nat) (s : State) : Host.Outcome State Fault Refusal :=
  .next (
    match tblFind s.ops op with
    | some o => if o.state = 0 then s else { s with ops := tblErase s.ops op }
    | none => s)

/-! ## Tenants (R350) -/

/-- TEN_GET_INFO (R350). -/
def execTenGetInfo (f : Fin 256) (s : State) : Host.Outcome State Fault Refusal :=
  .next (s.daush f 0x0201 (fun r s =>
    if s.service = .off ∨ s.service = .stump then (replyErr stBadState s.service.code, s) else
    let t := s.actsFor r
    let x := s.tenant t
    let rights := ((s.prot.tenants.find? (fun q => q.tenant = t)).map (fun q => q.images.toNat)).getD 0
    let own := s.ownOpen.filter (fun i => (s.seq i).entry.tenant == t)
    let set (k : Nat) : Nat := b2n (tblFind x.slots k).isSome
    (replyOk (bytesLE 32 rights ++ bytesLE 4 (s.kvWindow t) ++ bytesLE 2 (x.maxSeqs.getD 0) ++ bytesLE 2 own.length
      ++ bytesLE 4 (x.maxPages.getD (s.kvWindow t)) ++ bytesLE 4 ((own.map (fun i => (s.seq i).entry.pagesReserved)).sum)
      ++ bytesLE 1 (b2n x.adaptOn + 2 * set 0 + 4 * set 1) ++ bytesLE 1 x.active ++ bytesLE 14 0), s)))

/-- TEN_SET_QUOTA (R350, check K of R345). (DEDUCED: log 169.) -/
def execTenSetQuota (f : Fin 256) (s : State) : Host.Outcome State Fault Refusal :=
  .next (s.daush f 0x0202 (fun r s =>
    checked [r.zero 2 2] s (
      let t := s.actsFor r
      let seqs := r.field 0 2
      let pages := r.field 4 4
      if s.kvWindow t < pages then s.violate r 4 0
      else
        let x := { s.tenant t with
          maxSeqs := if seqs = 0 then none else some seqs, maxPages := if pages = 0 then none else some pages }
        (replyOk [], s.setTenant t x))))

/-- TEN_SET_KEY (R350, R361, R370): the counters of the written slot start again. -/
def execTenSetKey (f : Fin 256) (s : State) : Host.Outcome State Fault Refusal :=
  .next (s.daush f 0x0203 (fun r s =>
    checked [(0, decide (r.field 0 1 < 2)), (1, decide (r.field 1 1 < 2)), r.zero 2 2] s (
      let t := s.actsFor r
      let x := s.tenant t
      let slot := r.field 0 1
      let k : KeySlot := { key := BitVec.ofNat 256 (r.field 8 32), written := x.keyOrder + 1 }
      (replyOk [], s.setTenant t { x with
        slots := tblSet x.slots slot k, keyOrder := x.keyOrder + 1, active := if r.field 1 1 = 1 then slot else x.active }))))

/-- TEN_SET_ADAPT (R276, R350). -/
def execTenSetAdapt (f : Fin 256) (s : State) : Host.Outcome State Fault Refusal :=
  .next (s.daush f 0x0204 (fun r s =>
    checked [(0, decide (r.field 0 1 < 2)), r.zero 1 1, (4, decide (1 ≤ r.field 4 4 ∧ r.field 4 4 ≤ 1048576))] s (
      let t := s.actsFor r
      (replyOk [], s.setTenant t { s.tenant t with
        adaptOn := decide (r.field 0 1 = 1), adaptEta := BitVec.ofNat 16 (r.field 2 2), adaptInterval := r.field 4 4 }))))

end Sys2Proof.Machine
end

