-- ==== Sys2Proof/Machine/DaushPolicy.lean ====
section
/-! DEFINITION. The serving-policy and telemetry commands of Daush, groups 0x05 and 0x06 (R245, R247, R295, R339, R355, R356). -/

namespace Sys2Proof.Machine

/-! ## Policy (R295, R355) -/

/-- POL_SET_CLASS (R295, R355). -/
def execPolSetClass (f : Fin 256) (s : State) : Host.Outcome State Fault Refusal :=
  .next (s.daush f 0x0501 (fun r s =>
    let g := r.field 1 1
    checked [(0, decide (r.field 0 1 < 8)), (1, decide (g < 16)), r.zero 2 2, (24, decide (r.field 24 2 ≤ r.field 26 2)), r.zero 28 4] s (
      let c : ClassRec :=
        { mayPreempt := bit g 0, suspendable := bit g 1, overcommitOk := bit g 2, deckKv := bit g 3, ttft := r.field 4 4
          itl := r.field 8 4, expect := r.field 12 4, pageWait := r.field 16 4, suspendLimit := r.field 20 4
          retryMin := r.field 24 2, retryMax := r.field 26 2 }
      (replyOk [], { s with classes := tblSet s.classes (r.field 0 1) c }))))

/-- The 32 bytes of a class record (R295). -/
def classBytes (n : Nat) (c : ClassRec) : List Byte :=
  bytesLE 1 n ++ bytesLE 1 (b2n c.mayPreempt + 2 * b2n c.suspendable + 4 * b2n c.overcommitOk + 8 * b2n c.deckKv) ++ bytesLE 2 0
    ++ bytesLE 4 c.ttft ++ bytesLE 4 c.itl ++ bytesLE 4 c.expect ++ bytesLE 4 c.pageWait ++ bytesLE 4 c.suspendLimit
    ++ bytesLE 2 c.retryMin ++ bytesLE 2 c.retryMax ++ bytesLE 4 0

/-- POL_GET_CLASS (R355). -/
def execPolGetClass (f : Fin 256) (s : State) : Host.Outcome State Fault Refusal :=
  .next (s.daush f 0x0502 (fun r s =>
    checked [(0, decide (r.field 0 1 < 8)), r.zero 1 3] s
      (replyOk (classBytes (r.field 0 1) (s.classRec (r.field 0 1))), s)))

/-- POL_SET_LANDING (R355): SQ_CTRL and SQ_FELL_CTRL of all eight landings. -/
def execPolSetLanding (f : Fin 256) (s : State) : Host.Outcome State Fault Refusal :=
  .next (s.daush f 0x0503 (fun r s =>
    checked [(1, decide (r.field 1 1 < 4)), r.zero 6 2] s (
      (replyOk [], s.each (upTo 8) (fun s l =>
        let s := (s.put sqCtrl_mapAhead l (r.field 0 1)).put sqCtrl_allocEn l (bits (r.field 1 1) 0 1)
        let s := s.put sqCtrl_deckKvEn l (bits (r.field 1 1) 1 1)
        (s.put sqFellCtrl_reuseGuard l (r.field 2 2)).put sqFellCtrl_fellTimeout l (r.field 4 2))))))

/-- POL_SET_GROVE (R355): GV_CTRL of every grove. -/
def execPolSetGrove (f : Fin 256) (s : State) : Host.Outcome State Fault Refusal :=
  .next (s.daush f 0x0504 (fun r s =>
    checked [(3, decide (r.field 3 1 < 4)), r.zero 4 4] s (
      (replyOk [], s.each (upTo 672) (fun s g =>
        let s := ((s.put gvCtrl_stealMin g (r.field 0 1)).put gvCtrl_stealWait g (r.field 1 1)).put gvCtrl_commitTimeout g (r.field 2 1)
        (s.put gvCtrl_attnStealEn g (bits (r.field 3 1) 0 1)).put gvCtrl_taskStealEn g (bits (r.field 3 1) 1 1))))))

/-! ## Telemetry (R356) -/

/-- TEL_READ_REG (R356): the select register is written for the length of the read only. (DEDUCED: log 145.) -/
def execTelReadReg (f : Fin 256) (s : State) : Host.Outcome State Fault Refusal :=
  .next (s.daush f 0x0601 (fun r s =>
    let space := r.field 0 1
    let n := r.field 1 1
    let off := r.field 4 4
    checked [(0, decide (space < 2)), (1, decide (n < if space = 0 then 42 else 8)), (2, decide (r.field 2 1 ≠ 0)), r.zero 3 1,
      (4, decide (off % 8 = 0 ∧ off < 0x100000)), (10, decide (r.field 10 1 < 2)), r.zero 11 1] s (
      let base := if space = 0 then 0x40000000 + n * 0x100000 else 0x60000000 + n * 0x100000
      let t := if r.field 10 1 = 0 then s else
        match if space = 0 then standPlace n off else landingPlace n off with
        | some p =>
          match p.block with
          | .tl => s.put tlSelect_tile p.unit (r.field 8 2)
          | .gv => s.put gvDispatchIndex_entry p.unit (r.field 8 2)
          | .sq => s.put sqSelect_entry p.unit (r.field 8 2)
          | _ => s
        | none => s
      (replyOk ((t.readForester (base + off) (8 * r.field 2 1)).getD []), s))))

/-- A temperature in whole °C as a byte, from 1/16 °C. -/
def celsius (t : Int) : Nat := unsigned 8 (t / 16)

/-- The 16 bytes of a stand in TEL_GET_HEALTH. -/
def State.standHealth (s : State) (n : Nat) : List Byte :=
  let p := s.get pwStandStatus_standPower n
  let code := match p with
    | 0 => 3
    | 1 => 1
    | 2 => 2
    | _ => 0
  let spares := ((upTo 8).map (fun q => max (s.get skStatus_sparesUsedRx (8 * n + q)) (s.get skStatus_sparesUsedTx (8 * n + q)))).foldl max 0
  let thin := s.on thStandStatus_thinning n || s.on pwStandStatus_meterThin n || s.on pwStandStatus_elecThin n
  let errors := ((s.tiles.filter (fun t => t.1.stand.val = n)).map (fun t => s.get tlStats_tileErrors t.1.num)).sum
  bytesLE 1 code ++ bytesLE 1 (celsius (s.hottest n)) ++ bytesLE 2 (min 65535 (s.retiredTiles n)) ++ bytesLE 1 spares
    ++ bytesLE 1 (b2n (decide (n ∈ s.reserve)) + 2 * b2n (decide (p = 0)) + 4 * b2n thin)
    ++ bytesLE 2 (min 65535 (tblGet s.misses n 0)) ++ bytesLE 4 errors ++ bytesLE 4 0

/-- TEL_GET_HEALTH (R356). -/
def execTelGetHealth (f : Fin 256) (s : State) : Host.Outcome State Fault Refusal :=
  .next (s.daush f 0x0602 (fun _ s =>
    let hot := ((upTo 42).map s.hottest).foldl max (s.hottest 0)
    let retired := (s.tiles.map (fun t => s.get tlTileStatus_retiredCount t.1.num)).sum
    let slips := ((upTo 42).map (fun n => s.get hrSlipTotal_slips n)).sum
    (replyOk (bytesLE 1 s.service.code ++ bytesLE 1 (celsius hot) ++ bytesLE 2 (retired / 16) ++ bytesLE 4 slips
      ++ bytesLE 1 (b2n s.journalLow) ++ bytesLE 23 0 ++ (upTo 42).flatMap s.standHealth), s)))

/-- The 32 bytes of a violation log entry (R339). -/
def violationBytes (v : Violation) : List Byte :=
  let b := bytesLE 8 v.tally ++ bytesLE 2 v.tenant ++ bytesLE 1 v.source ++ bytesLE 1 v.kind ++ bytesLE 2 v.func ++ bytesLE 1 v.imageTag
    ++ bytesLE 1 v.repeats ++ bytesLE 8 v.addr ++ bytesLE 4 v.detail
  b ++ bytesLE 4 (crc32c b).toNat

/-- TEL_READ_VIOL_LOG (R339, R356): source 48 to 55 is a landing, 56 and 57 a Forester; entry k of the log is in slot k modulo 64.
(DEDUCED: log 152.) -/
def execTelReadViolLog (f : Fin 256) (s : State) : Host.Outcome State Fault Refusal :=
  .next (s.daush f 0x0603 (fun r s =>
    let src := r.field 0 1
    checked [(0, decide (48 ≤ src ∧ src ≤ 57)), r.zero 1 3] s (
      let log := tblGet s.violLog (src - 48) []
      let w := tblGet s.violCount (src - 48) 0
      let slot (k : Nat) : List Byte :=
        match (log.zipIdx.find? (fun p => decide ((w - log.length + p.2) % 64 = k))).map (fun p => p.1) with
        | some v => violationBytes v
        | none => bytesLE 32 0
      (replyOk (bytesLE 4 ((w + 63) % 64) ++ bytesLE 4 (min w 0xFFFFFFFF) ++ (upTo 64).flatMap slot), s))))

/-- Journal order: ascending tally, source, source_count (R247). -/
def journalLe (a b : JournalRec) : Bool :=
  decide (a.tally < b.tally) || (a.tally == b.tally && (decide (a.source < b.source) || (a.source == b.source && decide (a.count ≤ b.count))))

/-- A host buffer of 16 bytes at an offset of a body (R347): address and length, with its checks. -/
def Request.buffer (r : Request) (off : Nat) : List (Nat × Bool) :=
  [(off + 8, decide (r.field (off + 8) 4 ≤ 64 * 2 ^ 20)), r.zero (off + 12) 4]

/-- TEL_COPY_JOURNAL (R245, R247, R347, R356): an operation that copies the matching records; it ends when their transfer does. -/
def execTelCopyJournal (f : Fin 256) (s : State) : Host.Outcome State Fault Refusal :=
  .next (s.daush f 0x0604 (fun r s =>
    checked ([r.zero 22 2] ++ r.buffer 24) s (
      let all := s.allTenants f
      let tenant := if all then r.field 16 2 else (s.tenantOf f).getD 0xFFFF
      let pick (x : JournalRec) : Bool :=
        decide (r.field 0 8 ≤ x.tally ∧ x.tally ≤ r.field 8 8) && ((all && tenant == 0xFFFF) || x.tenant == tenant)
          && (r.field 18 2 == 0xFFFF || x.seq == r.field 18 2) && (r.field 20 2 == 0xFFFF || x.kind == r.field 20 2)
      let found := (sortBy ((s.journal.map (fun p => p.2)).filter pick) journalLe).take (r.field 32 4 / 32)
      if !(s.func f).busMaster || (s.func f).d3hot then (replyErr stHostAccess 0, s)
      else s.asOp r (fun op s =>
        let s : State := { s with ops := match tblFind s.ops op with
          | some o => tblSet s.ops op { o with result := found.length }
          | none => s.ops }
        let x := s.func f
        let s := s.setFunc f { x with transfer := x.transfer ++ [op] }
        (replyOk (bytesLE 4 op), s.emit (.host f.val (found.flatMap journalBytes)))))))

/-- JOURNAL_LOW_CLEAR (R245): the oldest record of every segment is at least 1 s old. -/
def execJournalLowClear (s : State) : Host.Outcome State Fault Refusal :=
  .next (if (upTo 8).any s.segmentYoung then s else { s with journalLow := false })

end Sys2Proof.Machine
end

