-- ==== Sys2Proof/Machine/FirmOps.lean ====
section
/-! DEFINITION. What the Forester swap, the failover and the attestation commands share (R443, R447, R454 to R456, R461, R462, R467,
R468). -/

namespace Sys2Proof.Machine

/-! ## Staged records and slots (R441, R359) -/

/-- The Forester that holds staged records: the standby, or the active one where it is alone in service (R359). -/
def State.stageHolder (s : State) : Nat := if s.standbyIn then s.otherForester else s.activeForester

/-- The first record kind of a list that is not staged. -/
def State.unstaged (s : State) (kinds : List Nat) : Option Nat := kinds.find? (fun k => (tblFind s.staged k).isNone)

/-- A Forester reboots: it runs no record, and the records staged in it are lost (R359). -/
def State.reboot (s : State) (f : Nat) : State :=
  let l := foresterLanding f
  let held := recordKinds.filter (fun k => s.getAt btStaged_version l k ≠ 0)
  let s : State := { s with
    running_ := s.running_.filter (fun p => p.1.1 ≠ f)
    staged := s.staged.filter (fun p => p.1 ∉ held) }
  let s := s.each recordKinds (fun s k => (s.putAt btStaged_version l k 0).putAt btVersion_version l k 0)
  (s.put btStatus_step l 0).put btStatus_standbyReady l 0

/-- The slot of a kind in use by the active Forester. -/
def State.slotInUse (s : State) (kind : Nat) : Nat := s.get (slotField kind) (foresterLanding s.activeForester)

/-- The staged records of a swap go to their free slots (R441, R461 step 1). -/
def State.writeSlots (s : State) (records : List (Nat × SignedRecord)) : State :=
  s.each records (fun s r =>
    { s with flash := { s.flash with slots := tblSet s.flash.slots (r.1, 1 - s.slotInUse r.1) r.2 } })

/-! ## The conditions of a swap (R462) -/

end Sys2Proof.Machine

namespace Sys2Proof

/-- Does a protection record's closure map permit an image on the link that a stand port sends on? -/
def ProtectionRecord.permitsPair (p : ProtectionRecord) (tag : Nat) (q : Nat × Nat) : Bool :=
  match (Machine.standPort q.1 q.2).peer with
  | none => true
  | some port =>
    tag == 0 || ((p.closure.reverse.find? (fun c => c.1 = port.num ∧ c.2.1 = tag / 32)).map (fun c => Machine.bit c.2.2 (tag % 32))).getD false

end Sys2Proof

namespace Sys2Proof.Machine

/-- NumVFs that a control port has enabled. -/
def State.enabledVfs (s : State) (port : Nat) : Nat :=
  (s.functions.filter (fun f => decide (f.val / 64 = port ∧ f.val % 64 ≠ 0))).length

/-- Does R462 let a new protection record come into force? -/
def State.protFits (s : State) (p : ProtectionRecord) : Bool :=
  s.images.all (fun x => x.2.pairsInForce.all (fun q => p.permitsPair x.1 q))
  && (upTo 4).all (fun n => decide (s.enabledVfs n ≤ p.totalVfs.getD n 0))
  && (s.openSeqs.isEmpty || decide (p.listBase = s.prot.listBase ∧ p.listUnits = s.prot.listUnits
      ∧ p.mirrorPages = s.prot.mirrorPages ∧ p.mirrorEntries = s.prot.mirrorEntries))
  && decide (s.get pwModuleLimit_inForce 0 ≤ p.configuredMax)

/-- Does R462 let a set of records be swapped in? -/
def State.swapFits (s : State) (records : List (Nat × SignedRecord)) : Bool :=
  s.standbyIn && records.all (fun r => match r.2.body with
    | .protection p => s.protFits p
    | .manifest _ permits => permits
    | _ => true)

/-- The status of a swap whose records no longer verify on the standby (R461 step 2): signature, or rollback counter. -/
def State.swapFault (s : State) (records : List (Nat × SignedRecord)) : Option (Nat × Nat) :=
  records.findSome? (fun r => match r.2.fault r.1 with
    | some d => some (0x0500, d)
    | none => if r.2.version < s.rollback r.1 then some (0x0501, 0) else none)

/-! ## Steps of a swap (R461) -/

/-- A rebooted Forester runs the records of a swap from their slots, and the best slot of every other kind (step 2 and step 5). -/
def State.runSwap (s : State) (f : Nat) (records : List (Nat × SignedRecord)) : State :=
  let s := s.runBest f
  s.each records (fun s r =>
    match (upTo 2).find? (fun k => tblFind s.flash.slots (r.1, k) == some r.2) with
    | some slot => s.runRecord f r.1 slot r.2
    | none => s)

/-- The standby has rebooted with the new records: a new protection record stands in the bank that is not selected (steps 2 and 3). -/
def State.swapReady (s : State) (w : Swap) : State :=
  let f := s.otherForester
  let s := (s.reboot f).runSwap f w.records
  let s := s.writeBank (1 - s.protBank) (s.protOf f)
  let s := s.put btStatus_step (foresterLanding f) 4
  ({ s with swap := some { w with stage := 1 } } : State).showForesters true

/-- The handover of a swap (step 4): sequencing moves, the banks flip at the same frame, and the new configuration takes effect. -/
def State.swapOver (s : State) (w : Swap) : State :=
  let p := s.protOf s.otherForester
  let c := s.configOf s.otherForester
  let s := s.handOver.flipBank p
  let s := if w.records.any (fun r => r.1 = 1) then s.applyConfig c else s
  ({ s with swap := some { w with stage := 2 } } : State)

/-- The rollback counters advance to the versions that a completed swap installed (R447). -/
def State.advanceCounters (s : State) (records : List (Nat × SignedRecord)) : State :=
  s.each records (fun s r =>
    if s.rollback r.1 < r.2.version then
      let s : State := { s with flash := { s.flash with counters := tblSet s.flash.counters r.1 r.2.version } }
      (s.each [3, 7] (fun s l => s.putAt btCounter_counter l r.1 r.2.version)).btEv btEvent_counterAdvanced s.btLanding
    else s)

/-! ## Attestation (R443, R455, R456) -/

/-- Bytes of a digest. -/
def digestBytes (d : BitVec 384) : List Byte := bytesLE 48 d.toNat

/-- D of a text of less than 64 MiB (R444): the digest of its one chunk's digest. -/
def digestOf (bs : List Byte) : BitVec 384 := Config.sha384 (digestBytes (Config.sha384 bs))

/-- A signature block under both identity keys over a kind and D (R443, R456). -/
def identityBlock (kind : Nat) (d : BitVec 384) : List Byte :=
  let m := bytesLE 1 kind ++ digestBytes d
  bytesLE 2 0xFFFE ++ bytesLE 2 0xFFFE ++ bytesLE 4 0 ++ padTo 384 (Config.rsaSign m) ++ padTo 16224 (Config.slhSign m)

/-- Tag and D of every loaded image, in tag order. -/
def State.imageList (s : State) : List (Nat × BitVec 384) :=
  s.imageTags.filterMap (fun t => (s.image t).map (fun x => (t, x.file.digest)))

/-- Version and D of the record of a kind that a Forester runs. -/
def State.recordMeasure (s : State) (f kind : Nat) : Nat × BitVec 384 :=
  match s.runs f kind with
  | some r => (r.version, r.digest)
  | none => (0, 0)

/-- The measurements 1 to 7 of a Forester (R455): version and D. -/
def State.measurements (s : State) (f : Nat) : List (Nat × BitVec 384) :=
  let fw := s.recordMeasure f 0
  [(0, Config.romDigest), (0, Config.loaderDigest fw.2), fw, s.recordMeasure f 1, s.recordMeasure f 2, s.recordMeasure f 3,
   (0, Config.sha384 (s.imageList.flatMap (fun p => bytesLE 1 p.1 ++ digestBytes p.2)))]

/-- One entry of a report. -/
def reportEntry (index tag version : Nat) (d : BitVec 384) : List Byte :=
  bytesLE 1 index ++ bytesLE 1 tag ++ bytesLE 2 0 ++ bytesLE 4 version ++ digestBytes d

/-- The report (R456) over a 32-byte nonce, before its signature block. -/
def State.report (s : State) (nonce : List Byte) : List Byte :=
  let images := s.imageList
  bytesLE 4 0x5054574B ++ bytesLE 2 1 ++ bytesLE 2 (7 + images.length) ++ bytesLE 8 s.tally ++ bytesLE 8 Config.serial.toNat
    ++ bytesLE 1 partStepping ++ bytesLE 1 s.service.code ++ bytesLE 1 s.activeForester ++ bytesLE 5 0 ++ padTo 32 nonce
    ++ (s.measurements s.activeForester).zipIdx.flatMap (fun m => reportEntry (m.2 + 1) 0 m.1.1 m.1.2)
    ++ images.flatMap (fun p => reportEntry 8 p.1 0 p.2)

/-! ## Failover and landing loss (R467, R468) -/

/-- The standby takes over (R468): outside a swap on its own records, during one that has rebooted it on the new ones. While it reboots for a
swap it takes over once it is ready (R463). -/
def State.failover (s : State) : State :=
  match s.swap with
  | some w =>
    if w.stage = 0 then { s with swap := some { w with stage := 3 } }
    else if w.stage = 1 ∧ s.standbyReady then
      let f := s.activeForester
      ({ (s.swapOver w).reboot f with standbyIn := false } : State).follow
    else s
  | none =>
    if s.standbyReady then
      let f := s.activeForester
      ({ s.handOver.reboot f with standbyIn := false } : State).follow
    else s

end Sys2Proof.Machine
end

