-- ==== Sys2Proof/Machine/DaushFirmware.lean ====
section
/-! DEFINITION. The firmware and attestation commands of Daush, group 0x09 (R347, R359, R456, R461, R462). -/

namespace Sys2Proof.Machine

/-- The kinds that a bit mask names. -/
def kindsOf (mask : Nat) : List Nat := recordKinds.filter (fun k => bit mask k)

/-- FW_STAGE (R359, R444, R445, R447). -/
def execFwStage (f : Fin 256) (host : HostRecord) (s : State) : Host.Outcome State Fault Refusal :=
  .next (s.daush f 0x0901 (fun r s =>
    let kind := r.field 0 1
    checked ([(0, decide (kind < 4)), r.zero 1 3] ++ r.buffer 4) s (
      match s.swap.filter (fun w => w.records.any (fun q => q.1 = kind)) with
      | some w => (replyErr stBusy (w.op % 65536), s)
      | none =>
        if !host.ok || !(s.func f).busMaster || (s.func f).d3hot then (replyErr stHostAccess 0, s) else
        let l := foresterLanding s.stageHolder
        match host.rec_.fault kind with
        | some d => (replyErr 0x0500 d, s.btEv btEvent_verifyFail l)
        | none =>
          if host.rec_.version < s.rollback kind then (replyErr 0x0501 0, s) else
          let s : State := { s with staged := tblSet s.staged kind host.rec_ }
          (replyOk (bytesLE 4 host.rec_.version ++ bytesLE 4 0), s.putAt btStaged_version l kind host.rec_.version))))

/-- FW_SWAP (R359, R461 step 1, R462): the staged records go to their free slots, and the standby reboots. -/
def execFwSwap (f : Fin 256) (s : State) : Host.Outcome State Fault Refusal :=
  .next (s.daush f 0x0902 (fun r s =>
    checked [(0, decide (r.field 0 1 < 16)), r.zero 1 3] s (
      match s.swap with
      | some w => (replyErr stBusy (w.op % 65536), s)
      | none =>
        let kinds := kindsOf (r.field 0 1)
        match s.unstaged kinds with
        | some k => (replyErr 0x0502 k, s)
        | none =>
          let records := kinds.filterMap (fun k => (tblFind s.staged k).map (fun x => (k, x)))
          if !s.swapFits records then (replyErr stBadState s.service.code, s)
          else s.asOp r (fun op s =>
            let s := s.writeSlots records
            (replyOk (bytesLE 4 op), ({ s with swap := some { op := op, records := records, stage := 0 } } : State).showForesters false)))))

/-- FW_GET_VERSIONS (R359). -/
def execFwGetVersions (f : Fin 256) (s : State) : Host.Outcome State Fault Refusal :=
  .next (s.daush f 0x0903 (fun _ s =>
    (replyOk (recordKinds.flatMap (fun k => bytesLE 4 (((s.runs s.activeForester k).map (fun (r : SignedRecord) => r.version)).getD 0))
      ++ recordKinds.flatMap (fun k => bytesLE 4 (((tblFind s.staged k).map (fun (r : SignedRecord) => r.version)).getD 0))), s)))

/-- Write bytes to a request's host buffer at an offset of its body, and answer with their count; one that is too short is a bad length
field (log 106). -/
def State.toHost (s : State) (r : Request) (off : Nat) (busOk : Bool) (bs : List Byte) : Reply × State :=
  if r.field (off + 8) 4 < bs.length then (replyErr stBadField (off + 8), s)
  else if !busOk || !(s.func r.fn).busMaster || (s.func r.fn).d3hot then (replyErr stHostAccess 0, s)
  else (replyOk (bytesLE 4 bs.length), s.emit (.host r.fn.val bs))

/-- ATT_GET_REPORT (R359, R456): the report with its signature block of kind 5. -/
def execAttGetReport (f : Fin 256) (busOk : Bool) (s : State) : Host.Outcome State Fault Refusal :=
  .next (s.daush f 0x0904 (fun r s =>
    checked (r.buffer 32) s (
      let bs := s.report (r.body.take 32)
      s.toHost r 32 busOk (bs ++ identityBlock 5 (digestOf bs)))))

/-- ATT_GET_IDENTITY (R359, R453). -/
def execAttGetIdentity (f : Fin 256) (busOk : Bool) (s : State) : Host.Outcome State Fault Refusal :=
  .next (s.daush f 0x0905 (fun r s =>
    checked (r.buffer 0) s (
      s.toHost r 0 busOk (Config.rsaIdentity ++ Config.slhIdentity ++ Config.rsaCertificate ++ Config.slhCertificate))))

end Sys2Proof.Machine
end

