-- ==== Sys2Proof/Machine/DaushImage.lean ====
section
/-! DEFINITION. The image and variant commands of Daush, group 0x03 (R205, R272, R274, R347, R351, R352), and the clearing of an image
(R459). A tag that names no loaded image is a field out of range (log 99). -/

namespace Sys2Proof.Machine

/-! ## Staging -/

/-- IMG_STAGE_OPEN (R351, R384): an area of HBM; the remote key of a RoCEv2 source is a free value (log 97). -/
def execImgStageOpen (f : Fin 256) (s : State) : Host.Outcome State Fault Refusal :=
  .next (s.daush f 0x0301 (fun r s =>
    checked [(8, decide (r.field 8 1 < 3)), r.zero 9 7] s (
      let n := r.field 0 8
      let src := r.field 8 1
      match s.freeHbm n [] with
      | none => (replyErr stNoResource 0, s)
      | some base =>
        let a : BitVec 32 × State := if src = 0 then (0, s) else s.free 32
        let id := a.2.nextStaging
        let x : Staging := { tenant := s.actsFor r, length := n, source := src, base := base, key := a.1 }
        (replyOk (bytesLE 4 id ++ bytesLE 4 a.1.toNat ++ bytesLE 8 base),
          { a.2 with nextStaging := id + 1, stagings := tblSet a.2.stagings id x }))))

/-- IMG_STAGE_WRITE (R347, R351, R361, R458): source 0, or a boot staging area; a range inside the area. -/
def execImgStageWrite (f : Fin 256) (host : HostData) (s : State) : Host.Outcome State Fault Refusal :=
  .next (s.daush f 0x0302 (fun r s =>
    let id := r.field 0 4
    let off := r.field 8 8
    let n := r.field 24 4
    let area := (tblFind s.stagings id).filter (fun x => x.source == 0 || x.boot.isSome)
    checked ([(0, area.isSome), r.zero 4 4, (8, (area.map (fun x => decide (off + n ≤ x.length))).getD true)] ++ r.buffer 16) s (
      match area with
      | none => (replyErr stBadField 0, s)
      | some x =>
        if !host.ok || !(s.func f).busMaster || (s.func f).d3hot then (replyErr stHostAccess 0, s)
        else (replyOk [], s.stageBytes id x off (padTo n host.bytes)))))

/-! ## Images -/

/-- IMG_LOAD (R205, R351, R352): the load runs within the command; the operation record holds how it ended (log 92). The area of a load
that succeeds is kept as the golden image, or given back (log 97). -/
def execImgLoad (f : Fin 256) (img : ImageFile) (s : State) : Host.Outcome State Fault Refusal :=
  .next (s.daush f 0x0303 (fun r s =>
    let id := r.field 0 4
    checked [(0, (tblFind s.stagings id).isSome), (5, decide (r.field 5 1 < 2)), r.zero 6 2] s (
      match tblFind s.stagings id with
      | none => (replyErr stBadField 0, s)
      | some x =>
        s.asOp r (fun op s =>
          let bytes := s.hbmRead x.base x.length
          let place := if r.field 4 1 = 0xFF then none else some (r.field 4 1)
          match s.loadImage img ⟨none, place, id, false, bytes⟩ with
          | .failed st d s => (replyOk (bytesLE 4 op ++ bytesLE 4 0), s.endOp op st d 0)
          | .loaded tag disabled s =>
            let s := s.modImage tag (fun y => { y with op := op })
            let s := if r.field 5 1 = 1 then
                { s with
                  goldens := tblSet s.goldens tag { source := 0, staging := id } }
              else { s with stagings := tblErase s.stagings id }
            (replyOk (bytesLE 4 op ++ bytesLE 1 tag ++ bytesLE 3 0), s.endOp op stOk 0 disabled)))))

/-- IMAGE_CLEARED (R118, R459): once no tier of an image is left to clear. -/
def execImageCleared (tag : Fin 256) (s : State) : Host.Outcome State Fault Refusal :=
  .next (
    match s.image tag.val with
    | none => s
    | some x => if x.cleared || x.state == 3 || !x.uncleared.isEmpty then s else s.clearImage tag.val x)

/-- Open sequences that hold an image back: its own, and those whose sapling it runs. -/
def State.usersOf (s : State) (tag : Nat) : List Nat := ((s.seqsOf tag).map (fun i => (s.targetOf i).getD i)).eraseDups

/-- IMG_UNLOAD (R240, R351): with fell_open, the image's sequences are felled with reason 0 first (log 100). -/
def execImgUnload (f : Fin 256) (s : State) : Host.Outcome State Fault Refusal :=
  .next (s.daush f 0x0304 (fun r s =>
    let tag := r.field 0 1
    checked [(0, (s.image tag).isSome), (1, decide (r.field 1 1 < 2)), r.zero 2 2] s (
      let users := s.usersOf tag
      if !users.isEmpty && r.field 1 1 == 0 then (replyErr stBusy 0, s)
      else
        let s := s.fell (landingOf (journalSegment s.foresterSource)) users 0 2 0 false
        let s := s.finishFells users
        match s.image tag with
        | none => (replyOk [], s)
        | some x => (replyOk [], s.unloadImage tag x))))

/-- The state code that IMG_GET shows. -/
def Image.code (x : Image) : Nat := if x.state = 3 then 3 else if x.held then 4 else x.state

/-- IMG_GET (R351). -/
def execImgGet (f : Fin 256) (s : State) : Host.Outcome State Fault Refusal :=
  .next (s.daush f 0x0305 (fun r s =>
    let tag := r.field 0 1
    checked [(0, (s.image tag).isSome), r.zero 1 3] s (
      match s.image tag with
      | none => (replyErr stBadField 0, s)
      | some x =>
        if !s.imageRight (s.actsFor r) tag then s.violate r 3 tag
        else if s.service = .off ∨ s.service = .stump then (replyErr stBadState s.service.code, s)
        else
          let hot := (x.variants.filter (fun p => p.2.hot)).length
          (replyOk (bytesLE 1 x.code ++ bytesLE 1 x.placement ++ bytesLE 2 x.plan ++ bytesLE 2 (x.file.hdr 26 2)
            ++ bytesLE 1 x.disabled.length ++ bytesLE 1 0 ++ bytesLE 8 ((x.place.map (fun n => 2 ^ n)).sum)
            ++ bytesLE 4 (s.seqsOf tag).length ++ bytesLE 4 hot ++ bytesLE 4 (s.loadU tag * 16).floor.toNat ++ bytesLE 36 0), s))))

/-- IMG_SET_GOLDEN (R351, R384): a staging area, or a remote image that a peer serves over a connection to an area of source 2. -/
def execImgSetGolden (f : Fin 256) (s : State) : Host.Outcome State Fault Refusal :=
  .next (s.daush f 0x0306 (fun r s =>
    let tag := r.field 0 1
    let src := r.field 1 1
    let id := r.field 4 4
    let area := (tblFind s.stagings id).filter (fun x => src == 0 || x.source == 2)
    checked [(0, (s.image tag).isSome), (1, decide (src < 2)), r.zero 2 2, (4, area.isSome), r.zero 20 4] s (
      let g : Golden := { source := src, staging := id, addr := r.field 8 8, key := BitVec.ofNat 32 (r.field 16 4) }
      (replyOk [], { s with goldens := tblSet s.goldens tag g }))))

/-! ## Variants -/

/-- VAR_STAGE (R272, R351): the number is bound to the tenant; a variant that is hot or being made hot is not staged again. -/
def execVarStage (f : Fin 256) (tiers : List VariantTier) (s : State) : Host.Outcome State Fault Refusal :=
  .next (s.daush f 0x0307 (fun r s =>
    let tag := r.field 0 1
    let v := r.field 2 2
    let area := tblFind s.stagings (r.field 4 4)
    checked [(0, (s.image tag).isSome), r.zero 1 1, (2, decide (v ≠ 0)), (4, area.isSome), r.zero 8 4] s (
      let t := s.actsFor r
      let bound := ((s.variant tag v).map (fun y => decide (y.tenant ≠ t))).getD false
      if (area.map (fun x => decide (x.tenant ≠ t))).getD false || bound then s.violate r 2 tag
      else if !s.imageRight t tag then s.violate r 3 tag
      else if ((s.variant tag v).map (fun y => y.hot || y.loading)).getD false then (replyErr stBusy 0, s)
      else (replyOk [], s.setVariant tag v { staged := tiers, origin := tiers, tenant := t }))))

/-- VAR_EVICT (R274, R351): the variant becomes cold, and its pool tiers are free. -/
def execVarEvict (f : Fin 256) (s : State) : Host.Outcome State Fault Refusal :=
  .next (s.daush f 0x0308 (fun r s =>
    let tag := r.field 0 1
    let v := r.field 2 2
    checked [(0, (s.image tag).isSome), r.zero 1 1, (2, (s.variant tag v).isSome || (s.image tag).isNone)] s (
      match s.variant tag v with
      | none => (replyErr stBadField 2, s)
      | some y =>
        let t := s.actsFor r
        if y.tenant ≠ t then s.violate r 2 tag
        else if !s.imageRight t tag then s.violate r 3 tag
        else if s.variantUsed tag v || y.loading then (replyErr stBusy 0, s)
        else (replyOk [], s.setVariant tag v { y with hot := false, marked := false, pool := [] }))))

end Sys2Proof.Machine
end

