-- ==== Sys2Proof/Machine/DaushPower.lean ====
section
/-! DEFINITION. The power and thermal commands of Daush, group 0x08 (R209, R224, R358, R411, R422, R431). -/

namespace Sys2Proof.Machine

/-- PWR_GET (R358); the waits are those of the last second. -/
def execPwrGet (f : Fin 256) (s : State) : Host.Outcome State Fault Refusal :=
  .next (s.daush f 0x0801 (fun _ s =>
    let waits := (s.thinWaits.filter (fun t => decide (s.tally ≤ t + 1000000000))).length
    (replyOk (bytesLE 2 (s.get pwFeed_feedA 0) ++ bytesLE 2 (s.get pwFeed_feedB 0) ++ bytesLE 2 (s.get pwFeed_inputPower 0)
      ++ bytesLE 2 (s.get pwModuleLimit_inForce 0) ++ bytesLE 2 (min 65535 (s.meterSum (upTo 42) / 1000)) ++ bytesLE 2 0
      ++ (upTo 7).flatMap (fun b => bytesLE 2 (s.getAt pwBand_meters 0 b)) ++ bytesLE 2 0 ++ bytesLE 4 waits ++ bytesLE 16 0), s)))

/-- Tokens that the loaded images need: each stand's largest phase over all images (R209). -/
def State.tokensNeeded (s : State) : Nat := ((upTo 42).map (s.tokensOn 0)).sum

/-- PWR_SET_LIMIT (R358, R411). -/
def execPwrSetLimit (f : Fin 256) (s : State) : Host.Outcome State Fault Refusal :=
  .next (s.daush f 0x0802 (fun r s =>
    let n := r.field 0 2
    checked [(0, decide (8000 ≤ n ∧ n ≤ s.get pwModuleLimit_configuredMax 0)), r.zero 2 2] s (
      if n < s.tokensNeeded then (replyErr stLimitConflict (min 65535 (s.tokensNeeded / 16)), s)
      else (replyOk [], (s.put pwModuleLimit_set 0 n).newModuleLimit))))

/-- THM_READ (R358, R431): every sensor in id order; an invalid one reads 0x8000. -/
def execThmRead (f : Fin 256) (s : State) : Host.Outcome State Fault Refusal :=
  .next (s.daush f 0x0803 (fun _ s =>
    (replyOk (bytesLE 2 390 ++ bytesLE 2 0 ++ (upTo 390).flatMap (fun k =>
      bytesLE 2 k ++ bytesLE 2 (((s.sensor k).map (unsigned 16)).getD 0x8000))), s)))

/-- PWR_STAND_SERVICE (R119, R224, R358, R361, R422): take out opens the breaker with cause 4; return asks for the precharge check, or, with the
breaker closed, for the wake. -/
def execPwrStandService (f : Fin 256) (s : State) : Host.Outcome State Fault Refusal :=
  .next (s.daush f 0x0804 (fun r s =>
    let n := r.field 0 1
    checked [(0, decide (n < 42)), (1, decide (r.field 1 1 < 2)), r.zero 2 2] s (
      let power := s.get pwStandStatus_standPower n
      let out := r.field 1 1 = 0
      let x := s.power n
      if out = (power = 0) ∨ (!out && x.returning) then (replyErr stBadState power, s)
      else if s.images.any (fun p => p.2.held && !p.2.uncovered && p.2.hasStand n) then (replyErr stBusy 0, s)
      else s.asOp r (fun op s =>
        let s := if out then
            let s := (s.setPower n { s.power n with service := true }).openBreaker n 4
            let s := s.setPower n { s.power n with op := op }
            if s.leaving n then s else s.endService n stOk
          else
            let s := s.setPower n { s.power n with returning := true, op := op }
            if s.on pwStandStatus_breakerOpen n || s.on thStandStatus_heatOff n then s else s.wantWake n
        (replyOk (bytesLE 4 op), s)))))

end Sys2Proof.Machine
end

