-- ==== Sys2Proof/Machine/DaushSequence.lean ====
section
/-! DEFINITION. The sequence commands of Daush, group 0x04, beside SEQ_FELL (R252 to R256, R303, R353, R354). -/

namespace Sys2Proof.Machine

/-- Decide a request at a landing and carry out an admission (R303): the entries opened, or the reason and the retry time with whether it
is deferred. -/
inductive OpenResult where
  | admitted (i : Nat)
  | turned (deferred : Bool) (reason retry : Nat)
deriving DecidableEq, Repr

/-- The admission at landing `l`, with its count (SQ_ADMIT_COUNT). -/
def State.openAt (s : State) (l : Nat) (r : OpenReq) : OpenResult × State :=
  match s.decide_ r with
  | .refuse reason retry => (.turned false reason retry, s.wrapUp sqAdmitCount_refuses l)
  | .defer reason retry => (.turned true reason retry, s.wrapUp sqAdmitCount_defers l)
  | .grant victims entries v =>
    (.admitted (entries.headD 0), (s.grant r victims entries v).wrapUp sqAdmitCount_admits l)

/-- Checks 8 to 11 of R345 for an open request: the first failing status with its detail and, for a violation, the image. -/
def State.openBad (s : State) (r : OpenReq) (more : List (Nat × Bool)) : Option (Nat × Nat × Nat) :=
  match firstBad (s.openFields r ++ more) with
  | some off => some (stBadField, off, 0)
  | none =>
    if !s.imageRight r.tenant r.tag then some (stViolation, 3, r.tag)
    else if r.spec ≠ 0 ∧ !s.imageRight r.tenant r.sapling then some (stViolation, 3, r.sapling)
    else
      let own := s.ownOpen.filter (fun i => (s.seq i).entry.tenant == r.tenant)
      let held := (own.map (fun i => (s.seq i).entry.pagesReserved)).sum
      if s.kvWindow r.tenant < held + s.pagesTarget r + s.pagesSapling r then some (stViolation, 4, r.tag)
      else if r.adapt && !(s.tenant r.tenant).adaptOn then some (stBadState, s.service.code, 0)
      else none

/-- What the first copy of an opened sequence's records need: where its client is, and the OPEN record to the partner. -/
def State.openedBy (s : State) (i : Nat) (f : Seq → Seq) : State :=
  let all := s.withSapling i
  let s := s.each all (fun s j => s.modSeq j f)
  s.each all State.mirrorOpen

/-- SEQ_OPEN (R303, R353, R354). -/
def execSeqOpen (f : Fin 256) (s : State) : Host.Outcome State Fault Refusal :=
  .next (s.daush f 0x0401 (fun q s =>
    let r := openOf (s.actsFor q) q.field 0
    match s.openBad r [q.zero 47 1, q.zero 52 12] with
    | some (st, detail, tag) =>
      if st = stViolation then s.violate q detail tag else (replyErr st detail, s)
    | none =>
      let l := portLanding f.val
      match s.openAt l r with
      | (.turned deferred reason retry, s) => (⟨if deferred then 0x0300 else 0x0301, reason, bytesLE 4 retry⟩, s)
      | (.admitted i, s) =>
        let s := s.openedBy i (fun x => { x with landing := l, fromHost := true })
        let e := (s.seq i).entry
        (replyOk (bytesLE 4 (s.handle i) ++ bytesLE 4 (if r.spec = 0 then 0 else s.handle e.saplingSeq) ++ bytesLE 8 e.firstDue), s)))

/-- SEQ_SUSPEND (R256, R353): the response waits until the suspension lands. -/
def execSeqSuspend (f : Fin 256) (s : State) : Host.Outcome State Fault Refusal :=
  .next (s.daushLate f 0x0403 (fun r s =>
    let a := s.withHandle r (r.field 0 4) (fun i =>
      let e := (s.seq i).entry
      if e.state ≠ seqPrefill ∧ e.state ≠ seqDecode then (replyErr stBadState e.state, s)
      else (replyOk [], s.askSuspend i .host))
    match s.ofHandle (r.field 0 4) with
    | some i =>
      if a.1.status = stOk ∧ (a.2.seq i).entry.state ≠ seqSuspended then
        (none, a.2.setFunc f { a.2.func f with awaits := some i })
      else (some a.1, a.2)
    | none => (some a.1, a.2)))

/-- SEQ_RESUME (R307, R353): a sequence that SEQ_SUSPEND suspended rejoins the resume order. -/
def execSeqResume (f : Fin 256) (s : State) : Host.Outcome State Fault Refusal :=
  .next (s.daush f 0x0404 (fun r s =>
    s.withHandle r (r.field 0 4) (fun i =>
      let x := s.seq i
      if x.entry.state ≠ seqSuspended ∨ x.cause ≠ some .host then (replyErr stBadState x.entry.state, s)
      else (replyOk [], s.each (s.together i) (fun s j => s.modSeq j (fun y => { y with rejoin := true }))))))

/-- SEQ_CLOSE (R255, R353): a sequence in DECODE closes at its next step boundary. -/
def execSeqClose (f : Fin 256) (s : State) : Host.Outcome State Fault Refusal :=
  .next (s.daush f 0x0405 (fun r s =>
    s.withHandle r (r.field 0 4) (fun i =>
      let x := s.seq i
      if x.entry.state ≠ seqDecode then (replyErr stBadState x.entry.state, s)
      else if x.inFlight.isSome then (replyOk [], s.modSeq i (fun x => { x with closing := some 0 }))
      else (replyOk [], s.endClosed i 0 0))))

/-- SEQ_GET (R253, R353). -/
def execSeqGet (f : Fin 256) (s : State) : Host.Outcome State Fault Refusal :=
  .next (s.daush f 0x0406 (fun r s =>
    s.withHandle r (r.field 0 4) (fun i => (replyOk (entryBytes (s.seq i).entry i), s))))

/-- SEQ_LIST (R353). (DEDUCED: log 153.) -/
def execSeqList (f : Fin 256) (s : State) : Host.Outcome State Fault Refusal :=
  .next (s.daush f 0x0407 (fun r s =>
    let first := r.field 0 4
    checked [(0, decide (first < 32768))] s (
      let t := s.actsFor r
      let all := s.openSeqs.filter (fun i => decide (first ≤ i) && (s.seq i).entry.tenant == t)
      let some_ := all.take 1016
      let next := (all.drop 1016).headD 0xFFFFFFFF
      (replyOk (bytesLE 4 some_.length ++ bytesLE 4 next ++ some_.flatMap (fun i => bytesLE 4 (s.handle i))), s))))

end Sys2Proof.Machine
end

