-- ==== Sys2Proof/Machine/DaushTest.lean ====
section
/-! DEFINITION. The test commands of Daush, group 0x0A (R360, R474). They run in TEST alone, which `headerChecks` tests. -/

namespace Sys2Proof.Machine

/-- The injection register that bytes 2 to 7 of a request spell: mode, by_rate, dir and value (SK_FAULT_INJ, TW_FAULT_INJ). -/
def Request.injection (r : Request) : Nat :=
  r.field 2 1 + 4 * bits (r.field 3 1) 1 1 + 8 * bits (r.field 3 1) 0 1 + 16 * r.field 4 4

/-- The checks of those bytes; a value that its 28-bit field does not hold is a bad one (DEDUCED, log 96). -/
def Request.injectionChecks (r : Request) : List (Nat × Bool) :=
  [(2, decide (r.field 2 1 < 4)), (3, decide (r.field 3 1 < 4)), (4, decide (r.field 4 4 < 2 ^ 28))]

/-- TST_LINK_INJECT (R360, R474). -/
def execTstLinkInject (f : Fin 256) (s : State) : Host.Outcome State Fault Refusal :=
  .next (s.daush f 0x0A01 (fun r s =>
    checked ([(0, decide (r.field 0 1 < 42)), (1, decide (r.field 1 1 < 8))] ++ r.injectionChecks) s (
      (replyOk [], s.writeInject (Fin.ofNat 42 (r.field 0 1)) (Fin.ofNat 8 (r.field 1 1)) r.injection))))

/-- TST_TWIN_INJECT (R360, R474). -/
def execTstTwinInject (f : Fin 256) (s : State) : Host.Outcome State Fault Refusal :=
  .next (s.daush f 0x0A02 (fun r s =>
    checked ([(0, decide (r.field 0 1 < 2)), r.zero 1 1] ++ r.injectionChecks) s (
      (replyOk [], s.writeTwinInject (twinLanding (r.field 0 1)) r.injection))))

/-- TST_INJECT_CLEAR (R360). -/
def execTstInjectClear (f : Fin 256) (s : State) : Host.Outcome State Fault Refusal :=
  .next (s.daush f 0x0A03 (fun _ s => (replyOk [], s.clearInjections)))

/-- TST_SPARE_FORCE (R38, R360). -/
def execTstSpareForce (f : Fin 256) (s : State) : Host.Outcome State Fault Refusal :=
  .next (s.daush f 0x0A04 (fun r s =>
    let v := r.field 2 2
    checked [(0, decide (r.field 0 1 < 42)), (1, decide (r.field 1 1 < 8)), (2, decide (v < 2 ^ 10))] s (
      (replyOk [], s.forceSpare (standPort (r.field 0 1) (r.field 1 1)) (bits v 9 1) (bits v 0 9)))))

/-- Read slices of one cruise (R99). -/
def cruiseSlices : Nat := 16

/-- TST_CRUISE (R99, R360): all slices of a priority cruise, with what they find (a slice with no finding finds nothing), and the result
register. On a tile whose cruise runs it answers BUSY (R111; log 96). -/
def execTstCruise (f : Fin 256) (found : List SliceFinding) (s : State) : Host.Outcome State Fault Refusal :=
  .next (s.daush f 0x0A05 (fun r s =>
    checked [(0, decide (r.field 0 1 < 42)), (1, decide (r.field 1 1 < 16)), (2, decide (r.field 2 2 < 2048)),
        (4, decide (r.field 4 1 < 17)), r.zero 5 3] s (
      let t : TileId := ⟨Fin.ofNat 42 (r.field 0 1), Fin.ofNat 16 (r.field 1 1), Fin.ofNat 2048 (r.field 2 2)⟩
      let p := r.field 4 1
      if (s.tile t).cruise.isSome then (replyErr stBusy 0, s.upkeepEv tlUpkeepEvent_cruiseBusy t.groveId.num) else
      let s := if (s.logicalOf t p).isNone then s else s.setTile t { s.tile t with cruise := some { phys := p, priority := true } }
      let s := s.each (upTo cruiseSlices) (fun s k => s.cruiseSlice t (found.getD k ⟨0, 0, 0, [], false⟩))
      (replyOk (bytesLE 8 (s.reg ⟨.tlCruiseResult, t.num, 0, 0⟩).toNat), s))))

end Sys2Proof.Machine
end

