-- ==== Sys2Proof/Machine/DaushTwin.lean ====
section
/-! DEFINITION. The twin commands of Daush, group 0x07 (R357, R391, R405, R406). -/

namespace Sys2Proof.Machine

/-- TWIN_PAIR (R357, R391): from the unpaired state, and from the sole state of a survivor that gets a new partner (R405 step 2); ports that
are up already exchange pair control at once. (DEDUCED: log 150.) -/
def execTwinPair (f : Fin 256) (s : State) : Host.Outcome State Fault Refusal :=
  .next (s.daush f 0x0701 (fun r s =>
    checked [(8, decide (r.field 8 1 < 4)), (9, decide (r.field 9 1 < 2)), r.zero 10 2] s (
      let st := s.pairState
      if st ≠ 0 ∧ st ≠ 3 then (replyErr stBadState st, s)
      else s.asOp r (fun op s =>
        let ports := [0, 1].filter (fun p => bit (r.field 8 1) p)
        let s := s.unmirror
        let s := { s with twin := { s.twin with
          op := op, ports := ports, inStep := decide (r.field 9 1 = 1), partner := none, lastBeat := none, beatAt := []
          ownHere := false, peerHere := false, release := none, peerTest := false, wasSole := decide (st = 3), replacing := false } }
        let s := (s.put twPairStatus_state 0 1).put twPartnerId_serial 0 (r.field 0 8)
        let s := if ports.any (fun p => decide (p ∈ s.twinUp)) then s.sendControl else s
        (replyOk (bytesLE 4 op), s.follow)))))

/-- TWIN_PAIR_TIMEOUT (R391): the pair is not paired within 10 s of the command. -/
def execTwinPairTimeout (s : State) : Host.Outcome State Fault Refusal :=
  .next (
    if s.pairState ≠ 1 then s else
    let s := s.put twPairStatus_state 0 (if s.twin.wasSole then 3 else 0)
    let s := if s.twin.wasSole then s else s.put twPartnerId_serial 0 0
    (s.endReplace stBadState).follow)

/-- TWIN_UNPAIR (R357, R361, R406). With force, partner sequences end FELLED with reason 0, and a replacement ends as aborted.
(DEDUCED: log 164.) -/
def execTwinUnpair (f : Fin 256) (s : State) : Host.Outcome State Fault Refusal :=
  .next (s.daush f 0x0702 (fun r s =>
    checked [(0, decide (r.field 0 1 < 2)), r.zero 1 3] s (
      let force := r.field 0 1 = 1
      let mirrors := s.partnerEntries
      if !force && (!mirrors.isEmpty || s.pairState == 4) then (replyErr stBusy (if s.pairState = 4 then s.twin.op % 65536 else 0), s) else
      let s := (upTo 8).foldl (fun s l =>
        let mine := mirrors.filter (fun i => seqLanding i = l)
        if mine = [] then s else s.fell (landingOf l) mine 0 2 0 false) s
      let s := (s.endReplace stAborted).unmirror
      let s := { s with twin := { s.twin with
        partner := none, lastBeat := none, beatAt := [], peerTest := false, wasSole := false, inStep := false, ports := [], period := 0 } }
      let s := ((s.put twPairStatus_state 0 0).put twPartnerId_serial 0 0).put twPairStatus_leader 0 0
      (replyOk [], ((s.put twPairStatus_partitioned 0 0).put twOffset_offset 0 0).follow))))

/-- TWIN_GET (R357, R397): only mirrored sequences count. -/
def execTwinGet (f : Fin 256) (s : State) : Host.Outcome State Fault Refusal :=
  .next (s.daush f 0x0703 (fun _ s =>
    let up := (s.twinUp.map (fun p => 2 ^ p)).sum
    (replyOk (bytesLE 1 s.pairState ++ bytesLE 1 up ++ bytesLE 2 0 ++ bytesLE 8 (s.get twPartnerId_serial 0)
      ++ bytesLE 4 (s.get twMirrorStats_lagMax 0) ++ bytesLE 4 s.twin.missed
      ++ bytesLE 4 (s.ownOpen.filter (fun i => (s.seq i).mirrored && s.mirrors)).length
      ++ bytesLE 4 s.partnerEntries.length ++ bytesLE 4 0), s)))

/-- TWIN_REPLACE (R357, R405): paired with a new partner, every loaded image is sent; with no image left to send the barrier follows. -/
def execTwinReplace (f : Fin 256) (s : State) : Host.Outcome State Fault Refusal :=
  .next (s.daush f 0x0704 (fun r s =>
    if s.pairState ≠ 2 ∨ !s.twin.wasSole then (replyErr stBadState s.pairState, s)
    else s.asOp r (fun op s =>
      let s : State := ({ s with twin := { s.twin with op := op } } : State).put twPairStatus_state 0 4
      let todo := s.images.filter (fun p => (s.partnerTag p.1).isNone)
      let s := s.each todo (fun s p => s.emit (.twin s.twinPort twBulk (BitVec.ofNat 32 p.1) 0 p.2.source))
      let s := if todo = [] then s.resync.arriveTwin else s
      (replyOk (bytesLE 4 op), s.follow))))

end Sys2Proof.Machine
end

