-- ==== Sys2Proof/Machine/NetOps.lean ====
section
/-! DEFINITION. What the network ports share beside PTT: addresses, and the frames that they send (R362 to R366, R383, R386). -/

namespace Sys2Proof.Machine

/-- Kinds of the frames that a network port sends (log 110): answers to ARP, neighbor solicitation and echo, RoCEv2 messages, and Delay_Req. -/
def frArp : Nat := 1
def frNeighbor : Nat := 2
def frEcho : Nat := 3
def frRep : Nat := 4
def frRej : Nat := 5
def frDrep : Nat := 6
def frAck : Nat := 7
def frNakAccess : Nat := 8
def frNakSequence : Nat := 9
def frNakRate : Nat := 10
def frRead : Nat := 11
def frDelayReq : Nat := 12

/-- Does a network port carry frames: powered, enabled, its link up? -/
def State.portCarries (s : State) (l : Nat) : Bool :=
  s.service != .off && s.on ldPortStatus_linkUp l && s.on ldPortCtrl_portEn l

/-- The MAC address of a port (R363). -/
def macOf (l : Nat) : Nat := (Config.baseMac.toNat + l) % 2 ^ 48

/-- The IPv4 address and the IPv6 addresses of a port (R363); the configuration record lists the first IPv6 addresses of all ports, then the
second ones. -/
def State.ipv4Of (s : State) (l : Nat) : Option (BitVec 32) := (s.config.ipv4[l]?).filter (fun a => a ≠ 0)
def State.ipv6Of (s : State) (l : Nat) : List (BitVec 128) :=
  ([l, l + 8].filterMap (fun k => s.config.ipv6[k]?)).filter (fun a => a ≠ 0)

end Sys2Proof.Machine
end

