-- ==== Sys2Proof/Machine/Ethernet.lean ====
section
/-! DEFINITION. Ethernet housekeeping, frames of no class, and the state of the network ports (R363 to R365, R380, R387, R485). -/

namespace Sys2Proof.Machine

/-- ARP: a request for the port's own address is answered to its sender (R363, R364). -/
def execArpRequest (l : Fin 8) (target : BitVec 32) (sender : BitVec 48) (s : State) : Host.Outcome State Fault Refusal :=
  .next (
    if s.portCarries l.val && s.ipv4Of l.val == some target then
      s.emit (.frame l.val frArp (sender.setWidth 128) (bytesBE 6 (macOf l.val) ++ bytesBE 4 target.toNat))
    else s)

/-- NEIGHBOR_SOLICITATION (R363, R364). -/
def execNeighborSolicitation (l : Fin 8) (target : BitVec 128) (sender : BitVec 48) (s : State) : Host.Outcome State Fault Refusal :=
  .next (
    if s.portCarries l.val && decide (target ∈ s.ipv6Of l.val) then
      s.emit (.frame l.val frNeighbor (sender.setWidth 128) (bytesBE 6 (macOf l.val) ++ bytesBE 16 target.toNat))
    else s)

/-- ICMP_ECHO: an echo request to one of the port's addresses gets its data back (R363, R364). -/
def execIcmpEcho (l : Fin 8) (dst : BitVec 128) (v6 : Bool) (sender : BitVec 48) (data : List Byte) (s : State) :
    Host.Outcome State Fault Refusal :=
  .next (
    let own := if v6 then decide (dst ∈ s.ipv6Of l.val) else s.ipv4Of l.val == some (dst.setWidth 32)
    if s.portCarries l.val && own then s.emit (.frame l.val frEcho (sender.setWidth 128) data) else s)

/-- UNCLASSIFIED_FRAME (R363, R365): an IP fragment is malformed; a frame to the control port with another DSCP than dscp_ctrl sets
wrong_port; every other frame is dropped without a sign. -/
def execUnclassifiedFrame (l : Fin 8) (fr : RawFrame) (s : State) : Host.Outcome State Fault Refusal :=
  .next (
    if !s.portCarries l.val then s
    else if fr.fragment then s.ldEv ldEvent_malformed l.val
    else if fr.udpDst = some 47111 ∧ fr.dscp.toNat ≠ s.get ldClass_dscpCtrl l.val then s.ldEv ldEvent_wrongPort l.val
    else s)

/-- EP_LINK_DOWN (R380, R387): from now on frames leave by the lowest-numbered port that is up. -/
def execEpLinkDown (l : Fin 8) (s : State) : Host.Outcome State Fault Refusal :=
  .next (
    if !s.on ldPortStatus_linkUp l.val then s else
    let s := (s.put ldPortStatus_linkUp l.val 0).put ldPortStatus_pcsAligned l.val 0
    ((s.put ldPortStatus_fecLocked l.val 0).put ldPortStatus_pfcActive l.val 0).ldEv ldEvent_linkDown l.val)

/-- EP_LINK_UP (R387): not on a port whose OSFP module is held in low-power mode (R485), nor on a lost landing. (DEDUCED: log 157.) -/
def execEpLinkUp (l : Fin 8) (s : State) : Host.Outcome State Fault Refusal :=
  .next (
    if s.service = .off ∨ l.val ∈ s.osfpHeld ∨ l.val ∈ s.landingsLost ∨ !s.on ldPortCtrl_portEn l.val then s else
    ((s.put ldPortStatus_linkUp l.val 1).put ldPortStatus_pcsAligned l.val 1).put ldPortStatus_fecLocked l.val 1)

/-- OSFP_MODULE_PRESENT (R485): above 25 W the module is held in low-power mode, and its port stays down. -/
def execOsfpModulePresent (l : Fin 8) (powerTenthsW : Nat) (s : State) : Host.Outcome State Fault Refusal :=
  .next (
    if s.service = .off then s else
    let s := s.put ldPortStatus_modulePresent l.val 1
    let rest := s.osfpHeld.filter (fun n => n ≠ l.val)
    { s with osfpHeld := if 250 < powerTenthsW then rest ++ [l.val] else rest })

end Sys2Proof.Machine
end

