-- ==== Sys2Proof/Machine/Operands.lean ====
section
/-! DEFINITION. Operand forms of the feller instructions: scalar, mask and vector registers, deck addresses, the program counter,
feller faults, and what starting and ending a task share (R184 to R190). -/

namespace Sys2Proof.Machine

/-! ## Registers of a feller (R185) -/

/-- A scalar register: s0 reads 0. -/
def Feller.scalar (x : Feller) (r : Fin 32) : BitVec 64 := if r = 0 then 0 else tblGet x.sregs r 0

/-- Write a scalar register: s0 ignores writes. -/
def Feller.setScalar (x : Feller) (r : Fin 32) (v : BitVec 64) : Feller :=
  if r = 0 then x else { x with sregs := tblSet x.sregs r v }

/-- A mask register: m0 reads as all ones. -/
def Feller.mask (x : Feller) (m : Fin 4) : MaskReg := if m = 0 then BitVec.allOnes 512 else tblGet x.masks m 0

/-- Write a mask register. -/
def Feller.setMask (x : Feller) (m : Fin 4) (v : MaskReg) : Feller := { x with masks := tblSet x.masks m v }

/-- A vector register. -/
def Feller.vector (x : Feller) (v : Fin 16) : VecReg := tblGet x.vregs v 0

/-- Write a vector register. -/
def Feller.setVector (x : Feller) (v : Fin 16) (w : VecReg) : Feller := { x with vregs := tblSet x.vregs v w }

/-- A scalar register of a feller. -/
def State.scalar (s : State) (f : FellerId) (r : Fin 32) : BitVec 64 := (s.feller f).scalar r

/-- The state with a scalar register written. -/
def State.setScalar (s : State) (f : FellerId) (r : Fin 32) (v : BitVec 64) : State := s.setFeller f ((s.feller f).setScalar r v)

/-! ## GV_CORE_STATUS -/

/-- State of a feller: 0 idle, 1 running, 2 waiting on a counter, 3 waiting on a queue, 4 faulted, 5 halted. -/
def State.coreState (s : State) (f : FellerId) : Nat := s.getAt gvCoreStatus_state f.groveId.num f.core.val

/-- The state with a feller's state replaced. -/
def State.setCore (s : State) (f : FellerId) (v : Nat) : State := s.putAt gvCoreStatus_state f.groveId.num f.core.val v

/-- Byte address of a feller's current instruction. -/
def State.pc (s : State) (f : FellerId) : Nat := s.getAt gvCoreStatus_pc f.groveId.num f.core.val

/-- The state with a feller's pc replaced. -/
def State.setPc (s : State) (f : FellerId) (a : Nat) : State := s.putAt gvCoreStatus_pc f.groveId.num f.core.val a

/-- The state with a feller's bit of cores_running replaced. -/
def State.setRunning (s : State) (f : FellerId) (b : Bool) : State :=
  s.put ⟨.gvStatus, 4 + f.core.val, 1⟩ f.groveId.num (b2n b)

/-! ## Starting and ending a task (R184, R190) -/

/-- A feller starts a task of its home grove. -/
def State.startTask (s : State) (f : FellerId) (home : GroveId) (q : QItem) : State :=
  let s := s.setFeller f { s.feller f with
    home := home, argLine := fieldOf q.desc 144 161, task := some q, wait := .running }
  let s := s.putAt gvCoreStatus_fault f.groveId.num f.core.val 0
  let s := s.putAt gvCoreStatus_task f.groveId.num f.core.val q.slot
  let s := (s.setPc f (fieldOf q.desc 128 143)).setCore f 1
  (s.setRunning f true).meterAdd f.stand.val costFeller

/-- A feller leaves its task and takes a new state. (DEDUCED: log 126.) -/
def State.leaveTask (s : State) (f : FellerId) (core : Nat) : State :=
  let s := s.setFeller f { s.feller f with task := none, wait := .running }
  let s := (s.putAt gvCoreStatus_task f.groveId.num f.core.val 0xFFFF).setCore f core
  (s.setRunning f false).meterSub f.stand.val costFeller

/-- The lockstep budget of a task in 0.1 ns: k periods, k in the word before its entry (R234). -/
def State.taskBudget (s : State) (home : GroveId) (d : Descriptor) : Nat :=
  let e := fieldOf d 128 143
  (if e < 4 then 0 else fromLE (s.istoreRead home (e - 4) 4)) * (s.period * 1280)

/-- A feller fault (R190): the feller stops with a code, core_fault sets, and the image is marked faulted (R216, R465). -/
def State.fellerFault (s : State) (f : FellerId) (code : Nat) : State :=
  let t := (s.feller f).task
  let s := s.leaveTask f 4
  let s := s.putAt gvCoreStatus_fault f.groveId.num f.core.val code
  let s := s.gvEv gvEvent_coreFault f.groveId.num
  match t with
  | some q => s.faultImage (descTag q.desc) false
  | none => s

/-! ## Running an instruction (R185) -/

/-- Does a feller run an instruction? (DEDUCED: log 63.) -/
def State.fellerRuns (s : State) (f : FellerId) : Bool := s.coreState f == 1

/-- Bytes of the instruction store. -/
def storeBytes : Nat := 65536

/-- Go to an instruction address; one beyond the store is a feller fault. -/
def State.jump (s : State) (f : FellerId) (a : Int) : State :=
  if 0 ≤ a ∧ a + 4 ≤ storeBytes then s.setPc f a.toNat else s.fellerFault f 2

/-- Go to the next instruction. -/
def State.advance (s : State) (f : FellerId) : State := s.jump f (s.pc f + 4)

/-- Run an instruction that goes on to the next one. -/
def State.plainOp (s : State) (f : FellerId) (op : State → State) : State :=
  if s.fellerRuns f then (op s).advance f else s

/-- Run an instruction that writes a scalar register. -/
def State.scalarOp (s : State) (f : FellerId) (rd : Fin 32) (v : State → BitVec 64) : State :=
  s.plainOp f (fun s => s.setScalar f rd (v s))

/-- The address of a branch by an offset in instructions (R186; log 11). -/
def State.branchTo (s : State) (f : FellerId) (off : Int) : Int :=
  (s.pc f : Int) + 4 * off + (if Config.branchFromSelf then 0 else 4)

/-- A branch, taken or not. -/
def State.branchOp (s : State) (f : FellerId) (off : BitVec 16) (taken : State → Bool) : State :=
  if s.fellerRuns f then (if taken s then s.jump f (s.branchTo f off.toInt) else s.advance f) else s

/-! ## Deck addresses (R187, R190) -/

/-- The fault of an access of `size` bytes, if any: beyond 16 MiB, or not aligned to its size. (DEDUCED: log 123.) -/
def deckFault (a size : Nat) : Option Nat :=
  if deckBytes < a + size then some 3 else if a % size ≠ 0 then some 4 else none

/-- The address of a load or store: `sa + imm`. -/
def State.deckAt (s : State) (f : FellerId) (sa : Fin 32) (imm : BitVec 16) : Nat :=
  (s.scalar f sa + imm.signExtend 64).toNat

/-- Do a feller's deck writes land? Those of a felled sequence's task do not (R168). -/
def State.storesLand (s : State) (f : FellerId) : Bool :=
  match (s.feller f).task with
  | some q => !s.isFelled (s.feller f).home q.desc
  | none => true

/-- Write bytes to the home grove's deck, where the writes land. -/
def State.fellerStore (s : State) (f : FellerId) (a : Nat) (bs : List Byte) : State :=
  if s.storesLand f then s.deckWrite (s.feller f).home a bs else s

/-- A scalar load of `size` bytes, zero-extending. -/
def State.loadOp (s : State) (f : FellerId) (sd sa : Fin 32) (imm : BitVec 16) (size : Nat) : State :=
  if !s.fellerRuns f then s else
  let a := s.deckAt f sa imm
  match deckFault a size with
  | some c => s.fellerFault f c
  | none => (s.setScalar f sd (BitVec.ofNat 64 (fromLE (s.deckRead (s.feller f).home a size)))).advance f

/-- A scalar store of the low `size` bytes of a register. -/
def State.storeOp (s : State) (f : FellerId) (sd sa : Fin 32) (imm : BitVec 16) (size : Nat) : State :=
  if !s.fellerRuns f then s else
  let a := s.deckAt f sa imm
  match deckFault a size with
  | some c => s.fellerFault f c
  | none => (s.fellerStore f a (bytesLE size (s.scalar f sd).toNat)).advance f

/-! ## Issuing descriptors (R163, R166) -/

/-- Put a descriptor into its stage queue of the home grove, or stall while the queue is full; a reserved stage is a descriptor error. -/
def State.issueOp (s : State) (f : FellerId) (d : Descriptor) : State :=
  let home := (s.feller f).home
  if 10 ≤ descStage d then (s.descError home { desc := d }).advance f
  else if queueDepth (descStage d) ≤ ((s.grove home).queue (descStage d)).length then
    (s.setFeller f { s.feller f with wait := .queue (descStage d) d }).setCore f 3
  else (s.enqueue home (descStage d) d).advance f

/-- The descriptor at a deck address of the home grove. -/
def State.descriptorAt (s : State) (f : FellerId) (a : Nat) : Descriptor :=
  BitVec.ofNat 256 (fromLE (s.deckRead (s.feller f).home a 32))

end Sys2Proof.Machine
end

