-- ==== Sys2Proof/Machine/Thinning.lean ====
section
/-! DEFINITION. The meters of bands and module, and starts after thinning (R210, R415). -/

namespace Sys2Proof.Machine

/-- ACTIVITY_START_AFTER_THIN (R210): completions have lowered the meter below the effective limit, so no start waits on it any
longer; the start itself is the command of its stage (log 42). -/
def execActivityStartAfterThin (n : Fin 42) (s : State) : Host.Outcome State Fault Refusal :=
  .next (if s.meterAllows n.val 1 then s.put pwStandStatus_meterThin n.val 0 else s)

/-- BAND_EVALUATION (R210): the sum of the band's meters and wake reservations lowers or restores its stands. -/
def execBandEvaluation (b : Fin 7) (s : State) : Host.Outcome State Fault Refusal :=
  .next (
    let ns := bandStands b.val
    let s := s.dropReserves ns
    let sum := s.meterSum ns
    let limit := s.getAt pwBand_limit 0 b.val
    let s :=
      if 1000 * limit < sum then
        s.each ns (fun s n =>
          (s.setPower n { s.power n with bandCap := some (loweredTo (s.get pwStandLimit_limit n) limit sum) }).newEffective n)
      else if sum < 900 * limit then
        s.each ns (fun s n => (s.setPower n { s.power n with bandCap := none }).newEffective n)
      else s
    s.showBand b.val)

/-- MODULE_EVALUATION (R415). -/
def execModuleEvaluation (s : State) : Host.Outcome State Fault Refusal :=
  .next (
    let ns := upTo 42
    let s := s.dropReserves ns
    let sum := s.meterSum ns
    let limit := s.get pwModuleLimit_inForce 0
    let before := ns.any (fun n => (s.power n).moduleCap.isSome)
    let s := s.put pwModuleMeter_sum 0 (sum / 1000)
    let s :=
      if 1000 * limit < sum then
        let s := s.each ns (fun s n =>
          (s.setPower n { s.power n with moduleCap := some (loweredTo (s.get pwStandLimit_limit n) limit sum) }).newEffective n)
        if before then s else s.pwModEv pwModEvent_moduleThin
      else if sum < 900 * limit then
        s.each ns (fun s n => (s.setPower n { s.power n with moduleCap := none }).newEffective n)
      else s
    s.each (upTo 7) State.showBand)

end Sys2Proof.Machine
end

