-- ==== Sys2Proof/Machine/Tasks.lean ====
section
/-! DEFINITION. Tasks of the fellers, and the instructions that reach beyond a feller: issue, counters, fences, CSRs, the end of a
task, halt and trap (R165, R166, R184, R187, R190, R199). -/

namespace Sys2Proof.Machine

/-- TASK_TAKE (R184): an idle feller takes the oldest task of its grove at the task queue's start boundary. -/
def execTaskTake (f : FellerId) (s : State) : Host.Outcome State Fault Refusal :=
  .next (if s.coreState f ≠ 0 then s else
    s.runStage f.groveId stTask 0 costFeller (fun q s => s.startTask f f.groveId q))

/-- TASK_STEAL (R199, R200): the probe order of R198, the last stealable task of the first queue that holds more than steal_min. -/
def execTaskSteal (f : FellerId) (s : State) : Host.Outcome State Fault Refusal :=
  .next (
    let g := f.groveId
    let stealable (q : QItem) : Bool := bit q.desc.toNat 162
    if s.coreState f ≠ 0 || s.lockstep || !s.on gvCtrl_taskStealEn g.num || !s.groveOn g || s.heldOn g.stand.val
        || s.on pwStandStatus_elecThin g.stand.val || !((s.grove g).queue stTask).isEmpty then s else
    match (probeOrder g).find? (fun v => decide (s.get gvCtrl_stealMin g.num < ((s.grove v).queue stTask).length)
        && ((s.grove v).queue stTask).any stealable) with
    | none => s
    | some v =>
      let queue := (s.grove v).queue stTask
      match queue.reverse.find? stealable with
      | none => s
      | some q =>
        if !s.mayStart v q then s
        else if !s.meterAllows g.stand.val costFeller then s.meterWait g.stand.val
        else
          let t := s.setQueue v stTask (queue.reverse.erase q).reverse
          let t := (t.wrapUp gvStealCount_tasksIn g.num).wrapUp gvStealCount_tasksOut v.num
          if s.isFelled v q.desc then t.cancelDrop v q 0
          else if !descOk q.desc then t.descError v q
          else t.startTask f v q)

/-- ISSUE (R187): the descriptor at deck address `sa`; with `sb` not s0 its step and sequence come from `sb`. -/
def execIssue (f : FellerId) (sa sb : Fin 32) (s : State) : Host.Outcome State Fault Refusal :=
  .next (
    if !s.fellerRuns f then s else
    let a := (s.scalar f sa).toNat
    match deckFault a 32 with
    | some c => s.fellerFault f c
    | none =>
      let d := (s.descriptorAt f a).toNat
      let v := (s.scalar f sb).toNat
      let d := if sb = 0 then d else putBits (putBits (putBits d 80 32 v) 48 15 (bits v 32 15)) 8 1 1
      s.issueOp f (BitVec.ofNat 256 d))

/-- ISSUE_STALL_RELEASE (R166): a slot of the queue is free, and the stalled feller issues. -/
def execIssueStallRelease (f : FellerId) (s : State) : Host.Outcome State Fault Refusal :=
  .next (
    let x := s.feller f
    if s.coreState f ≠ 3 then s else
    match x.wait with
    | .queue stage d =>
      if queueDepth stage ≤ ((s.grove x.home).queue stage).length then s else
      let s := (s.enqueue x.home stage d).setCore f 1
      (s.setFeller f { s.feller f with wait := .running }).advance f
    | _ => s)

/-- CTR_WAIT (R165, R187). -/
def execCtrWait (f : FellerId) (sa : Fin 32) (ctr : Fin 64) (s : State) : Host.Outcome State Fault Refusal :=
  .next (
    if !s.fellerRuns f then s else
    let v := (s.scalar f sa).toNat % 65536
    if ctrReached (s.counter (s.feller f).home ctr.val) v then s.advance f
    else (s.setFeller f { s.feller f with wait := .counter ctr v }).setCore f 2)

/-- CTR_WAIT_RELEASE (R165, R167): a waiting feller goes on; the head of a queue reads its counter at its start boundary. -/
def execCtrWaitRelease (w : Waiter) (s : State) : Host.Outcome State Fault Refusal :=
  .next (
    match w with
    | .queue _ _ => s
    | .feller f =>
      let x := s.feller f
      if s.coreState f ≠ 2 then s else
      match x.wait with
      | .counter c v =>
        if ctrReached (s.counter x.home c.val) v then
          ((s.setFeller f { x with wait := .running }).setCore f 1).advance f
        else s
      | _ => s)

/-- CTR_ADD (R165, R187): the immediate is two's complement, and the counter wraps. (DEDUCED: log 127.) -/
def execCtrAdd (f : FellerId) (ctr : Fin 64) (imm : BitVec 10) (s : State) : Host.Outcome State Fault Refusal :=
  .next (s.plainOp f (fun s => s.addCounter (s.feller f).home ctr.val (imm.signExtend 16).toNat))

/-- CTR_READ (R187): into `sa`. -/
def execCtrRead (f : FellerId) (sa : Fin 32) (ctr : Fin 64) (s : State) : Host.Outcome State Fault Refusal :=
  .next (s.scalarOp f sa (fun s => BitVec.ofNat 64 (s.counter (s.feller f).home ctr.val)))

/-- FENCE (R187): in the model each deck write and issue is accepted by the end of its own command, so the stall ends at once. -/
def execFence (f : FellerId) (s : State) : Host.Outcome State Fault Refusal := .next (s.plainOp f (fun s => s))

/-- TASK_PUSH (R184, R187): a task descriptor into the home grove's task queue; one of another stage is a descriptor error. -/
def execTaskPush (f : FellerId) (sa : Fin 32) (s : State) : Host.Outcome State Fault Refusal :=
  .next (
    if !s.fellerRuns f then s else
    let a := (s.scalar f sa).toNat
    match deckFault a 32 with
    | some c => s.fellerFault f c
    | none =>
      let d := s.descriptorAt f a
      if descStage d = stTask then s.issueOp f d else (s.descError (s.feller f).home { desc := d }).advance f)

/-- TASK_END (R168, R184): the descriptor's done action, and the feller is idle. -/
def execTaskEnd (f : FellerId) (s : State) : Host.Outcome State Fault Refusal :=
  .next (
    if !s.fellerRuns f then s else
    let x := s.feller f
    let s := s.leaveTask f 0
    match x.task with
    | none => s
    | some q =>
      let b := s.taskBudget x.home q.desc
      if s.isFelled x.home q.desc then s.cancelDrop x.home q b else s.complete x.home q b)

/-- HALT (R187): the feller is halted; the task's done action does not happen. -/
def execFellerHalt (f : FellerId) (s : State) : Host.Outcome State Fault Refusal :=
  .next (if s.fellerRuns f then s.leaveTask f 5 else s)

/-- TRAP (R187): the manual gives no effect beyond the name; the feller stops with a fault whose code is free (log 65). -/
def execFellerTrap (f : FellerId) (s : State) : Host.Outcome State Fault Refusal :=
  .next (
    if !s.fellerRuns f then s else
    let r := s.free 8
    r.2.fellerFault f r.1.toNat)

/-- CSR_READ (R187). CSRs 7 to 31 are not listed: an illegal instruction. (DEDUCED: log 124.) -/
def execCsrRead (f : FellerId) (sd csr : Fin 32) (s : State) : Host.Outcome State Fault Refusal :=
  .next (
    if !s.fellerRuns f then s
    else if 6 < csr.val then s.fellerFault f 1
    else s.scalarOp f sd (fun s => BitVec.ofNat 64 (match csr.val with
      | 0 => f.core.val
      | 1 => f.grove.val
      | 2 => f.stand.val
      | 3 => (s.road' f.stand).tally
      | 4 => (s.feller f).home.grove.val
      | 5 => (s.feller f).argLine
      | _ => b2n s.lockstep)))

/-- CSR_WRITE (R187, R190): every listed CSR is read-only, which is a feller fault; CSRs 7 to 31 are not listed. -/
def execCsrWrite (f : FellerId) (_sa csr : Fin 32) (s : State) : Host.Outcome State Fault Refusal :=
  .next (if s.fellerRuns f then s.fellerFault f (if 6 < csr.val then 1 else 5) else s)

/-- NOP (R187). -/
def execFellerNop (f : FellerId) (s : State) : Host.Outcome State Fault Refusal := .next (s.plainOp f (fun s => s))

end Sys2Proof.Machine
end

