-- ==== Sys2Proof/Machine/Feller.lean ====
section
/-! DEFINITION. The scalar instructions of the fellers (R186, R187): arithmetic, loads and stores of the home grove's deck, branches,
and illegal instructions. -/

namespace Sys2Proof.Machine

/-- A shift by 64 or more has a free result: the manual states none (log 66). -/
def State.shiftOp (s : State) (f : FellerId) (sd sa sb : Fin 32) (op : BitVec 64 → Nat → BitVec 64) : State :=
  s.plainOp f (fun s =>
    let n := (s.scalar f sb).toNat
    if n < 64 then s.setScalar f sd (op (s.scalar f sa) n)
    else
      let r := s.free 64
      r.2.setScalar f sd r.1)

/-- The high half of the signed product (log 67). -/
def mulHigh (a b : BitVec 64) : BitVec 64 := BitVec.ofInt 64 (a.toInt * b.toInt / 2 ^ 64)

/-- ADD (R187): 64 bits, wrapping (log 68). -/
def execFellerAdd (f : FellerId) (sd sa sb : Fin 32) (s : State) : Host.Outcome State Fault Refusal :=
  .next (s.scalarOp f sd (fun s => s.scalar f sa + s.scalar f sb))

/-- SUB (R187). -/
def execFellerSub (f : FellerId) (sd sa sb : Fin 32) (s : State) : Host.Outcome State Fault Refusal :=
  .next (s.scalarOp f sd (fun s => s.scalar f sa - s.scalar f sb))

/-- AND (R187). -/
def execFellerAnd (f : FellerId) (sd sa sb : Fin 32) (s : State) : Host.Outcome State Fault Refusal :=
  .next (s.scalarOp f sd (fun s => s.scalar f sa &&& s.scalar f sb))

/-- OR (R187). -/
def execFellerOr (f : FellerId) (sd sa sb : Fin 32) (s : State) : Host.Outcome State Fault Refusal :=
  .next (s.scalarOp f sd (fun s => s.scalar f sa ||| s.scalar f sb))

/-- XOR (R187). -/
def execFellerXor (f : FellerId) (sd sa sb : Fin 32) (s : State) : Host.Outcome State Fault Refusal :=
  .next (s.scalarOp f sd (fun s => s.scalar f sa ^^^ s.scalar f sb))

/-- SHL (R187). -/
def execFellerShl (f : FellerId) (sd sa sb : Fin 32) (s : State) : Host.Outcome State Fault Refusal :=
  .next (s.shiftOp f sd sa sb (fun x n => x <<< n))

/-- SHR (R187). -/
def execFellerShr (f : FellerId) (sd sa sb : Fin 32) (s : State) : Host.Outcome State Fault Refusal :=
  .next (s.shiftOp f sd sa sb (fun x n => x >>> n))

/-- SRA (R187). -/
def execFellerSra (f : FellerId) (sd sa sb : Fin 32) (s : State) : Host.Outcome State Fault Refusal :=
  .next (s.shiftOp f sd sa sb (fun x n => x.sshiftRight n))

/-- MUL (R187): the low half of the product. -/
def execFellerMul (f : FellerId) (sd sa sb : Fin 32) (s : State) : Host.Outcome State Fault Refusal :=
  .next (s.scalarOp f sd (fun s => s.scalar f sa * s.scalar f sb))

/-- MULH (R187). -/
def execFellerMulh (f : FellerId) (sd sa sb : Fin 32) (s : State) : Host.Outcome State Fault Refusal :=
  .next (s.scalarOp f sd (fun s => mulHigh (s.scalar f sa) (s.scalar f sb)))

/-- MIN (R187): signed. -/
def execFellerMin (f : FellerId) (sd sa sb : Fin 32) (s : State) : Host.Outcome State Fault Refusal :=
  .next (s.scalarOp f sd (fun s => if (s.scalar f sa).slt (s.scalar f sb) then s.scalar f sa else s.scalar f sb))

/-- MAX (R187): signed. -/
def execFellerMax (f : FellerId) (sd sa sb : Fin 32) (s : State) : Host.Outcome State Fault Refusal :=
  .next (s.scalarOp f sd (fun s => if (s.scalar f sa).slt (s.scalar f sb) then s.scalar f sb else s.scalar f sa))

/-- MINU (R187): unsigned. -/
def execFellerMinu (f : FellerId) (sd sa sb : Fin 32) (s : State) : Host.Outcome State Fault Refusal :=
  .next (s.scalarOp f sd (fun s => if (s.scalar f sa).ult (s.scalar f sb) then s.scalar f sa else s.scalar f sb))

/-- MAXU (R187): unsigned. -/
def execFellerMaxu (f : FellerId) (sd sa sb : Fin 32) (s : State) : Host.Outcome State Fault Refusal :=
  .next (s.scalarOp f sd (fun s => if (s.scalar f sa).ult (s.scalar f sb) then s.scalar f sb else s.scalar f sa))

/-- SLT (R187). -/
def execFellerSlt (f : FellerId) (sd sa sb : Fin 32) (s : State) : Host.Outcome State Fault Refusal :=
  .next (s.scalarOp f sd (fun s => BitVec.ofNat 64 (b2n ((s.scalar f sa).slt (s.scalar f sb)))))

/-- SLTU (R187). -/
def execFellerSltu (f : FellerId) (sd sa sb : Fin 32) (s : State) : Host.Outcome State Fault Refusal :=
  .next (s.scalarOp f sd (fun s => BitVec.ofNat 64 (b2n ((s.scalar f sa).ult (s.scalar f sb)))))

/-- ADDI (R186, R187). -/
def execFellerAddi (f : FellerId) (sd sa : Fin 32) (imm : BitVec 16) (s : State) : Host.Outcome State Fault Refusal :=
  .next (s.scalarOp f sd (fun s => s.scalar f sa + imm.signExtend 64))

/-- ANDI (R186, R187): the immediate is two's complement. -/
def execFellerAndi (f : FellerId) (sd sa : Fin 32) (imm : BitVec 16) (s : State) : Host.Outcome State Fault Refusal :=
  .next (s.scalarOp f sd (fun s => s.scalar f sa &&& imm.signExtend 64))

/-- ORI (R186, R187). -/
def execFellerOri (f : FellerId) (sd sa : Fin 32) (imm : BitVec 16) (s : State) : Host.Outcome State Fault Refusal :=
  .next (s.scalarOp f sd (fun s => s.scalar f sa ||| imm.signExtend 64))

/-- XORI (R186, R187). -/
def execFellerXori (f : FellerId) (sd sa : Fin 32) (imm : BitVec 16) (s : State) : Host.Outcome State Fault Refusal :=
  .next (s.scalarOp f sd (fun s => s.scalar f sa ^^^ imm.signExtend 64))

/-- LUI (R186, R187): `imm << 16`, the immediate in two's complement. -/
def execFellerLui (f : FellerId) (sd : Fin 32) (imm : BitVec 16) (s : State) : Host.Outcome State Fault Refusal :=
  .next (s.scalarOp f sd (fun _ => imm.signExtend 64 <<< 16))

/-- SLTI (R186, R187). -/
def execFellerSlti (f : FellerId) (sd sa : Fin 32) (imm : BitVec 16) (s : State) : Host.Outcome State Fault Refusal :=
  .next (s.scalarOp f sd (fun s => BitVec.ofNat 64 (b2n ((s.scalar f sa).slt (imm.signExtend 64)))))

/-- LD.B (R187). -/
def execFellerLdB (f : FellerId) (sd sa : Fin 32) (imm : BitVec 16) (s : State) : Host.Outcome State Fault Refusal :=
  .next (s.loadOp f sd sa imm 1)

/-- LD.H (R187). -/
def execFellerLdH (f : FellerId) (sd sa : Fin 32) (imm : BitVec 16) (s : State) : Host.Outcome State Fault Refusal :=
  .next (s.loadOp f sd sa imm 2)

/-- LD.W (R187). -/
def execFellerLdW (f : FellerId) (sd sa : Fin 32) (imm : BitVec 16) (s : State) : Host.Outcome State Fault Refusal :=
  .next (s.loadOp f sd sa imm 4)

/-- LD.D (R187). -/
def execFellerLdD (f : FellerId) (sd sa : Fin 32) (imm : BitVec 16) (s : State) : Host.Outcome State Fault Refusal :=
  .next (s.loadOp f sd sa imm 8)

/-- ST.B (R187). -/
def execFellerStB (f : FellerId) (sd sa : Fin 32) (imm : BitVec 16) (s : State) : Host.Outcome State Fault Refusal :=
  .next (s.storeOp f sd sa imm 1)

/-- ST.H (R187). -/
def execFellerStH (f : FellerId) (sd sa : Fin 32) (imm : BitVec 16) (s : State) : Host.Outcome State Fault Refusal :=
  .next (s.storeOp f sd sa imm 2)

/-- ST.W (R187). -/
def execFellerStW (f : FellerId) (sd sa : Fin 32) (imm : BitVec 16) (s : State) : Host.Outcome State Fault Refusal :=
  .next (s.storeOp f sd sa imm 4)

/-- ST.D (R187). -/
def execFellerStD (f : FellerId) (sd sa : Fin 32) (imm : BitVec 16) (s : State) : Host.Outcome State Fault Refusal :=
  .next (s.storeOp f sd sa imm 8)

/-- BEQ (R186, R187). -/
def execFellerBeq (f : FellerId) (sa sb : Fin 32) (off : BitVec 16) (s : State) : Host.Outcome State Fault Refusal :=
  .next (s.branchOp f off (fun s => decide (s.scalar f sa = s.scalar f sb)))

/-- BNE (R186, R187). -/
def execFellerBne (f : FellerId) (sa sb : Fin 32) (off : BitVec 16) (s : State) : Host.Outcome State Fault Refusal :=
  .next (s.branchOp f off (fun s => decide (s.scalar f sa ≠ s.scalar f sb)))

/-- BLT (R186, R187). -/
def execFellerBlt (f : FellerId) (sa sb : Fin 32) (off : BitVec 16) (s : State) : Host.Outcome State Fault Refusal :=
  .next (s.branchOp f off (fun s => (s.scalar f sa).slt (s.scalar f sb)))

/-- BLTU (R186, R187). -/
def execFellerBltu (f : FellerId) (sa sb : Fin 32) (off : BitVec 16) (s : State) : Host.Outcome State Fault Refusal :=
  .next (s.branchOp f off (fun s => (s.scalar f sa).ult (s.scalar f sb)))

/-- JAL (R187): s31 takes the address of the instruction after it. -/
def execFellerJal (f : FellerId) (off : BitVec 26) (s : State) : Host.Outcome State Fault Refusal :=
  .next (if s.fellerRuns f then
      (s.setScalar f 31 (BitVec.ofNat 64 (s.pc f + 4))).jump f (s.branchTo f off.toInt)
    else s)

/-- JR (R187). -/
def execFellerJr (f : FellerId) (sa : Fin 32) (s : State) : Host.Outcome State Fault Refusal :=
  .next (if s.fellerRuns f then s.jump f ((s.scalar f sa).toNat : Int) else s)

/-- ILLEGAL_INSTRUCTION (R187, R190): a word whose code is not listed. -/
def execIllegalInstruction (f : FellerId) (word : BitVec 32) (s : State) : Host.Outcome State Fault Refusal :=
  .next (if s.fellerRuns f ∧ decodeFeller f word = none then s.fellerFault f 1 else s)

end Sys2Proof.Machine
end

