-- ==== Sys2Proof/Machine/HaulRoad.lean ====
section
/-! DEFINITION. The haul road: submission, slots, reception on two trees, tally and step beacons, barriers, and the step tallies of
lockstep mode (R44 to R54, R231 to R236). Word kinds and the packing of the contents that the manual does not lay out are the
model's (log 35). -/

namespace Sys2Proof.Machine

/-- Word kinds (log 35). -/
def hwData : Nat := 0
def hwBeacon : Nat := 1
def hwFelling : Nat := 2
def hwBarrier : Nat := 3
def hwForester : Nat := 4
def hwLink : Nat := 5
def hwStep : Nat := 6

/-- HR_WORD_SUBMIT (R44, R45): the word waits at the sequencing root in the queue of its kind; the beacons are the root's own. -/
def execHrWordSubmit (w : HrWord) (s : State) : Host.Outcome State Fault Refusal :=
  .next (
    let r := s.road
    match w.kind with
    | 0 => { s with road := { r with data := r.data ++ [w] } }
    | 2 => if 48 ≤ w.source ∧ w.source < 56 then s.submitFelling (w.source - 48) w.content else s
    | 3 => { s with road := { r with barriers := r.barriers ++ [w] } }
    | 4 => { s with road := { r with forester := r.forester ++ [w] } }
    | 5 => { s with road := { r with linkMgmt := r.linkMgmt ++ [w] } }
    | _ => s)

/-- The content of a step-beacon word (R232): the next step tally at least 240 ns away, or zeros without a grid. -/
def State.stepContent (s : State) : BitVec 448 :=
  let at_ := if s.lockstep then s.stepAtOrAfter (s.tally + 240) else 0
  BitVec.ofNat 448 (s.origin + s.period * 2 ^ 64 + b2n s.lockstep * 2 ^ 80 + b2n s.exact * 2 ^ 81 + s.epoch * 2 ^ 88
    + at_ * 2 ^ 96 + (if s.lockstep then s.stepNumber at_ else 0) * 2 ^ 160)

/-- The word of a completed barrier (log 35): its number in bits 63 to 0; the root fills in the release tally at emission. -/
def releaseWord (b : Nat) (xmax : Int) : HrWord :=
  ⟨hwBarrier, 0, 0, 0, 0, true, BitVec.ofNat 448 (b % 2 ^ 64 + unsigned 64 xmax * 2 ^ 128 + 2 ^ 192)⟩

/-- A release word at its emission: its release tally lies 240 ns later (R47). -/
def State.stampBarrier (s : State) (w : HrWord) : HrWord × State :=
  let c := w.content.toNat
  if !bit c 192 then (w, s) else
  let t := s.tally + 240
  let b := bits c 0 64
  let s := match tblFind s.barriers b with
    | some x => { s with barriers := tblSet s.barriers b { x with release := some t } }
    | none => s
  ({ w with content := BitVec.ofNat 448 (c + t * 2 ^ 64) }, s)

/-- The word that the slot carries, taken from its queue (R45). -/
def State.slotWord (s : State) : Option HrWord × State :=
  let r := s.road
  let own (kind : Nat) (c : BitVec 448) : HrWord := ⟨kind, 56 + s.activeForester, 0, r.frame, r.slot, true, c⟩
  let k := r.slot
  if k = 0 then (some (own hwBeacon (BitVec.ofNat 448 s.tally)), s)
  else if k = 32 ∨ k = 288 then (some (own hwStep s.stepContent), s)
  else if k % 128 = 64 then
    match r.felling with
    | [] => (none, s)
    | w :: rest =>
      let s := { s with road := { r with felling := rest } }
      let l := w.source - 48
      (some w, s.put sqFellStatus_wordsWaiting l (s.get sqFellStatus_wordsWaiting l - 1))
  else if k % 128 = 96 then
    match r.barriers with
    | [] => (none, s)
    | w :: rest =>
      let a := { s with road := { r with barriers := rest } }.stampBarrier w
      (some a.1, a.2)
  else if k = 128 ∨ k = 256 ∨ k = 384 then
    match r.forester with
    | [] => (none, s)
    | w :: rest => (some w, { s with road := { r with forester := rest } })
  else if k = 160 ∨ k = 416 then
    match r.linkMgmt with
    | [] => (none, s)
    | w :: rest => (some w, { s with road := { r with linkMgmt := rest } })
  else
    match r.data with
    | [] => (none, s)
    | w :: rest => (some w, { s with road := { r with data := rest } })

/-- HR_SLOT_EMIT (R44, R45): the word of the slot goes out on the root's own tree and, re-emitted, on the other one; the next slot
follows, of the next frame after slot 511. -/
def execHrSlotEmit (s : State) : Host.Outcome State Fault Refusal :=
  .next (
    let r := s.road
    let a := s.slotWord
    let s := match a.1 with
      | none => a.2
      | some w =>
        let w := { w with frame := r.frame, slot := r.slot }
        (a.2.emit (.hrWord s.activeForester w)).emit (.hrWord (1 - s.activeForester) w)
    let next := (r.slot + 1) % 512
    { s with road := { s.road with slot := next, frame := if next = 0 then r.frame + 1 else r.frame } })

/-! ## Reception -/

/-- A stand receives a felling word (R313 step 1): felled maps, translations, and an acknowledgement to come. -/
def State.receiveFelling (s : State) (n : Fin 42) (content : BitVec 448) : State :=
  if s.get pwStandStatus_standPower n.val = 0 then s else
  match parseFell content with
  | none => s
  | some (id, idx) =>
    let s := s.setFelled n idx
    let l := tblGet s.standFells n []
    { s with standFells := tblSet s.standFells n (l.filter (fun p => p.1 ≠ id) ++ [(id, idx)]) }

/-- A stand takes the grid that a step-beacon word announces (R232). -/
def State.receiveStep (s : State) (n : Fin 42) (content : BitVec 448) : State :=
  let c := content.toNat
  let s := s.put hrStepOrigin_origin n.val (bits c 0 64)
  let s := s.put hrStepCtrl_period n.val (bits c 64 16)
  let s := s.put hrStepCtrl_lockstep n.val (bits c 80 1)
  let s := s.put hrStepCtrl_exact n.val (bits c 81 1)
  let s := s.put hrStepCtrl_epoch n.val (bits c 88 8)
  let s := s.put hrStatus_lockstepBeacon n.val (bits c 80 1)
  s.setRoad n { s.road' n with announced := bits c 96 64 }

/-- What a taken word does at a stand: a felling word fells, a Forester control word drops a sequence's translations (R197; log 35),
a step beacon announces. Each word is taken once. -/
def State.takeWord (s : State) (n : Fin 42) (w : HrWord) : State :=
  let x := s.road' n
  if (w.frame, w.slot) ∈ x.taken then s else
  let s := s.setRoad n { x with taken := x.taken.filter (fun p => w.frame ≤ p.1 + 2) ++ [(w.frame, w.slot)] }
  match w.kind with
  | 2 => s.receiveFelling n w.content
  | 4 =>
    let i := bits w.content.toNat 0 15
    s.each (List.finRange 16) (fun s k =>
      let g : GroveId := ⟨n, k⟩
      s.setGrove g { s.grove g with xlate := (s.grove g).xlate.filter (fun e => e.1 ≠ i) })
  | 6 => s.receiveStep n w.content
  | _ => s

/-- HR_WORD_RECEIVE (R50): the selected tree's word is taken, the other tree's copy is checked and kept for two frames. -/
def execHrWordReceive (n : Fin 42) (primary secondary : Option HrWord) (s : State) : Host.Outcome State Fault Refusal :=
  .next (
    if s.get pwStandStatus_standPower n.val = 0 then s else
    let s := (s.put hrStatus_primaryOk n.val (b2n primary.isSome)).put hrStatus_secondaryOk n.val (b2n secondary.isSome)
    let onSecond := s.on hrStatus_tree n.val
    let sel := if onSecond then secondary else primary
    let oth := if onSecond then primary else secondary
    let s := match oth with
      | none => s
      | some w =>
        if w.crcOk then
          let x := s.road' n
          s.setRoad n { x with kept := x.kept.filter (fun v => w.frame < v.frame + 2) ++ [w] }
        else s.hrEv hrEvent_wordCrcError n.val
    match sel with
    | none => s
    | some w =>
      let x := s.road' n
      let x := if x.frame = w.frame then x else { x with frame := w.frame, crcFails := 0 }
      if w.crcOk then (s.setRoad n x).takeWord n w
      else (s.setRoad n { x with crcFails := x.crcFails + 1 }).hrEv hrEvent_wordCrcError n.val)

/-- The tally that a stand shows (HR_TALLY). -/
def State.setLocal (s : State) (n : Fin 42) (t : Nat) : State :=
  (s.setRoad n { s.road' n with tally := t }).put hrTally_tally n.val t

/-- TALLY_BEACON (R46): the local tally becomes the root tally plus the measured delay of the selected tree, in 0.25 ns units. -/
def execTallyBeacon (n : Fin 42) (tree : Fin 2) (rootTally : BitVec 64) (s : State) : Host.Outcome State Fault Refusal :=
  .next (
    if s.get pwStandStatus_standPower n.val = 0 then s else
    let s := s.put (if tree = 0 then hrStatus_primaryOk else hrStatus_secondaryOk) n.val 1
    if s.get hrStatus_tree n.val ≠ tree.val then s else
    let delay := s.get (if tree = 0 then hrDelay_primary else hrDelay_secondary) n.val
    let s := s.setRoad n { s.road' n with missed := 0 }
    (s.setLocal n (rootTally.toNat + delay / 4)).put hrStatus_tallyLocked n.val 1)

/-- TALLY_BEACON_MISSED (R50): the beacon of the selected tree did not arrive. -/
def execTallyBeaconMissed (n : Fin 42) (s : State) : Host.Outcome State Fault Refusal :=
  .next (
    if s.get pwStandStatus_standPower n.val = 0 then s else
    let x := s.road' n
    let s := s.setRoad n { x with missed := x.missed + 1 }
    let s := s.put (if s.on hrStatus_tree n.val then hrStatus_secondaryOk else hrStatus_primaryOk) n.val 0
    s.hrEv hrEvent_beaconMissed n.val)

/-- TREE_SWITCH (R50): two missed beacons in a row or four words of a frame lost; the stand goes on with the kept frames from the
first slot it missed. -/
def execTreeSwitch (n : Fin 42) (s : State) : Host.Outcome State Fault Refusal :=
  .next (
    let x := s.road' n
    if x.missed < 2 ∧ x.crcFails < 4 then s else
    let s := s.put hrStatus_tree n.val (1 - s.get hrStatus_tree n.val)
    let s := s.setRoad n { x with missed := 0, crcFails := 0, kept := [] }
    let s := s.hrEv hrEvent_treeSwitch n.val
    s.each x.kept (fun s w => s.takeWord n w))

/-- BOTH_TREES_LOST (R51). -/
def execBothTreesLost (n : Fin 42) (s : State) : Host.Outcome State Fault Refusal :=
  .next (
    if s.on hrStatus_primaryOk n.val || s.on hrStatus_secondaryOk n.val || s.get pwStandStatus_standPower n.val == 0 then s
    else (s.hrEv hrEvent_bothTreesLost n.val).goDark n.val)

/-- HR_DELAY_REFRESH (R46). -/
def execHrDelayRefresh (n : Fin 42) (primary secondary : BitVec 16) (s : State) : Host.Outcome State Fault Refusal :=
  .next ((s.put hrDelay_primary n.val primary.toNat).put hrDelay_secondary n.val secondary.toNat)

/-- CARRIER_REFERENCE_BACKUP (R54). -/
def execCarrierReferenceBackup (s : State) : Host.Outcome State Fault Refusal :=
  .next { s with refBackup := true }

/-! ## Barriers (R47, R240) -/

/-- A barrier at the root; one that nothing has arrived at has all powered stands as participants (R240). -/
def State.barrier (s : State) (b : Nat) : Barrier :=
  tblGet s.barriers b { parts := s.poweredStands.map (fun n => .stand (standOf n)) }

/-- BARRIER_ARRIVAL (R47, R159): once every participant has arrived, the release word waits for a barrier slot. -/
def execBarrierArrival (b : Nat) (who : Participant) (xnat : Int) (s : State) : Host.Outcome State Fault Refusal :=
  .next (
    let x := s.barrier b
    if who ∉ x.parts ∨ who ∈ x.arrived then s else
    let top := match x.xmax with
      | some m => max m xnat
      | none => xnat
    let x := { x with arrived := x.arrived ++ [who], xmax := some top }
    let s := { s with barriers := tblSet s.barriers b x }
    if x.parts.all (fun p => decide (p ∈ x.arrived)) then
      { s with road := { s.road with barriers := s.road.barriers ++ [releaseWord b top] } }
    else s)

/-- BARRIER_RELEASE (R47): the participant's local tally has reached the release tally; the last one ends the barrier. -/
def execBarrierRelease (b : Nat) (who : Participant) (s : State) : Host.Outcome State Fault Refusal :=
  .next (
    let x := s.barrier b
    if x.release.isNone ∨ who ∉ x.parts ∨ who ∈ x.released then s else
    let x := { x with released := x.released ++ [who] }
    if x.parts.all (fun p => decide (p ∈ x.released)) then { s with barriers := tblErase s.barriers b }
    else { s with barriers := tblSet s.barriers b x })

/-- Does a participant lie on a stand? -/
def Participant_onStand (n : Fin 42) : Participant → Bool
  | .grove g => decide (g.stand = n)
  | .stand k => decide (k = n)
  | .landing _ => false

/-- BARRIER_TIMEOUT (R47): a stand that has arrived sees no release within HR_BARRIER_TIMEOUT. -/
def execBarrierTimeout (n : Fin 42) (b : Nat) (s : State) : Host.Outcome State Fault Refusal :=
  .next (
    let x := s.barrier b
    if x.arrived.any (fun p => Participant_onStand n p && decide (p ∉ x.released)) then s.hrEv hrEvent_barrierTimeout n.val
    else s)

/-! ## Lockstep (R232 to R236) -/

/-- STEP_BEACON (R232). -/
def execStepBeacon (n : Fin 42) (content : BitVec 448) (s : State) : Host.Outcome State Fault Refusal :=
  .next (if s.get pwStandStatus_standPower n.val = 0 then s else s.receiveStep n content)

/-- Stages with several units, which start the queue's items side by side: tile dispatch, score, yarder. -/
def sideBySide (stage : Nat) : Bool := stage == stDispatch || stage == stScore || stage == stYarder

/-- The items of a queue that a step tally lets start: the head, or every item, whose wait condition is met at the tally. -/
def State.letGo (s : State) (g : GroveId) (t stage : Nat) (q : List QItem) : List QItem :=
  let mark (it : QItem) : QItem := { it with goAt := if s.waitMet g it.desc then some t else none }
  if sideBySide stage then q.map mark
  else match q with
    | [] => []
    | it :: rest => mark it :: rest

/-- STEP_TALLY (R233, R236): the next step tally of the grid arrives at a stand; descriptors whose wait condition is met may start
at it, and completions that came late take effect. (DEDUCED: log 28.) -/
def execStepTally (n : Fin 42) (s : State) : Host.Outcome State Fault Refusal :=
  .next (
    if !s.lockstep || s.period == 0 || s.get pwStandStatus_standPower n.val == 0 then s else
    let x := s.road' n
    let t := if x.tally < x.announced then x.announced else s.stepAtOrAfter (x.tally + 1)
    let s := ({ s with tally := max s.tally t }.setLocal n t).put hrStepNow_step n.val (s.stepNumber t)
    s.each (List.finRange 16) (fun s k =>
      let g : GroveId := ⟨n, k⟩
      let late := (s.grove g).due.filter (fun a => a.late && decide (a.due ≤ t))
      let y := s.grove g
      let s := s.setGrove g { y with due := y.due.filter (fun a => !(a.late && decide (a.due ≤ t))) }
      let s := s.each late (fun s a => match a.ctr with
        | some c => s.addCounter g c 1
        | none => s)
      let y := s.grove g
      s.setGrove g { y with queues := y.queues.map (fun q => (q.1, s.letGo g t q.1 q.2)) }))

/-- DUE_TALLY (R233, R236): a completed activity becomes visible; one that has not completed is an overrun slip and takes effect at a
later step tally. -/
def execDueTally (g : GroveId) (act : Nat) (done : Bool) (s : State) : Host.Outcome State Fault Refusal :=
  .next (
    let y := s.grove g
    match y.due[act]? with
    | none => s
    | some a =>
      if a.late then s
      else if done then
        let s := s.setGrove g { y with due := y.due.eraseIdx act }
        match a.ctr with
        | some c => s.addCounter g c 1
        | none => s
      else
        let s := s.setGrove g { y with due := y.due.set act { a with due := a.due + s.period * 128, late := true } }
        s.slip g.stand g.grove.val 0 a.seq)

end Sys2Proof.Machine
end

