-- ==== Sys2Proof/Machine/Felling.lean ====
section
/-! DEFINITION. Felling at the stands and at the origin landing (R313 to R315). -/

namespace Sys2Proof.Machine

/-- FELLING_WORD_RECEIVE (R313). -/
def execFellingWordReceive (n : Fin 42) (content : BitVec 448) (s : State) : Host.Outcome State Fault Refusal :=
  .next (s.receiveFelling n content)

/-- FELLING_ACK_SEND (R313 step 3): no descriptor of the sequences is queued or running on the stand. -/
def execFellingAckSend (n : Fin 42) (id : FellId) (s : State) : Host.Outcome State Fault Refusal :=
  .next (
    let l := tblGet s.standFells n []
    match l.find? (fun p => decide (p.1 = id)) with
    | none => s
    | some p =>
      if s.standBusyWith n p.2 then s
      else { s with standFells := tblSet s.standFells n (l.filter (fun q => q.1 ≠ id)) }.sendAck n id n.val none)

/-- FELLING_ACK_FLIT (R313): an acknowledgement arrives at a stand, which forwards it, or at its origin landing. -/
def execFellingAckFlit (at_ : PortId) (x : Flit) (id : FellId) (fromStand : Fin 42) (s : State) :
    Host.Outcome State Fault Refusal :=
  .next (if x.type = 7 then s.arrive at_ x (.ack id fromStand.val) else s)

/-- FELL_TIMEOUT (R315): the responses are sent, and Forester firmware hears of the stands that are missing. -/
def execFellTimeout (id : FellId) (s : State) : Host.Outcome State Fault Refusal :=
  .next (
    match tblFind s.fellings id with
    | none => s
    | some x =>
      if x.timedOut then s else
      let s := s.each x.entries State.fellResponse
      let s := { s with fellings := tblSet s.fellings id { x with timedOut := true } }
      let s := s.fellEv sqFellEvent_fellTimeout id.origin.val
      s.each (s.poweredStands.filter (fun n => n ∉ x.acks)) (fun s n => s.emit (.firmware 1 id.origin.val n)))

/-- REUSE_GUARD_EXPIRY (R314): the entry can be reopened. -/
def execReuseGuardExpiry (i : Fin 32768) (s : State) : Host.Outcome State Fault Refusal :=
  .next (if (s.seq i.val).entry.state = 0 then s.modSeq i.val (fun x => { x with reuseAt := 0 }) else s)

/-! ## Requests (R309, R311, R316) -/

/-- A refused felling request sets fell_refused at the landing that refuses it. -/
def State.refuseFell (s : State) (l : Nat) : State := s.fellEv sqFellEvent_fellRefused l

/-- A tenant shed that landing `l` accepts: it fells the tenant's sequences on the image (0 for all) with class `c` or higher that opened
before it, in bitmap words, and holds admissions for `hold` ms. -/
def State.shed (s : State) (l tenant image c hold : Nat) : State :=
  let idx := s.ownOpen.filter (fun i =>
    let e := (s.seq i).entry
    e.tenant == tenant && (image == 0 || e.imageTag == image) && decide (c ≤ e.cls) && decide (e.openTally < s.tally)
      && !s.isSapling i)
  let s := s.fellEv sqFellEvent_shed l
  let s := s.fell (landingOf l) idx 1 2 1 true
  if hold = 0 then s else { s with sheds := s.sheds ++ [⟨tenant, image, c, s.tally + hold * 1000000⟩] }

/-- TEN_SHED (R311, R346, R350). -/
def execTenShed (f : Fin 256) (s : State) : Host.Outcome State Fault Refusal :=
  .next (s.daush f 0x0205 (fun r s =>
    checked [(1, decide (r.field 1 1 ≤ 7)), r.zero 2 2] s (
      let tag := r.field 0 1
      if tag ≠ 0 ∧ !s.imageRight (s.actsFor r) tag then s.violate r 3 tag
      else (replyOk [], s.shed (portLanding f.val) (s.actsFor r) tag (r.field 1 1) (r.field 4 4)))))

/-- SEQ_FELL (R309, R316, R330, R346): of a sequence already in FELLING or CLOSED it does nothing and answers OK. -/
def execSeqFell (f : Fin 256) (s : State) : Host.Outcome State Fault Refusal :=
  .next (s.daush f 0x0402 (fun r s =>
    let a := s.withHandle r (r.field 0 4) (fun i => (replyOk [], s.fell (landingOf (portLanding f.val)) [i] 0 2 0 false))
    if a.1.status = stOk then a else (a.1, a.2.refuseFell (portLanding f.val))))

end Sys2Proof.Machine
end

