-- ==== Sys2Proof/Machine/Foresters.lean ====
section
/-! DEFINITION. The Forester swap and failover, and the loss of landings and HBM stacks (R52, R461 to R463, R465, R467, R468). -/

namespace Sys2Proof.Machine

/-- STANDBY_READY: the rebooted Forester follows the shared state. In a swap it runs the new records, and takes over at once where the active
one failed meanwhile (R461 step 3, R463); records that fail to verify end the swap (R462). Outside one it returns as standby (R468). -/
def execStandbyReady (s : State) : Host.Outcome State Fault Refusal :=
  .next (
    match s.swap with
    | some w =>
      if w.stage ≠ 0 ∧ w.stage ≠ 3 then s else
      match s.swapFault w.records with
      | some (status, detail) =>
        let f := s.otherForester
        let t := (((s.reboot f).runBest f).endSwap status detail).showForesters true
        if w.stage = 3 then t.failover else t
      | none =>
        let t := s.swapReady w
        if w.stage = 0 then t else
        let f := t.activeForester
        ({ (t.swapOver w).reboot f with standbyIn := false } : State).follow
    | none =>
      if (s.standbyIn ∧ s.standbyReady) ∨ s.service = .off ∨ s.bootFault true true ≠ 0 ∨ !s.protLocked
          ∨ foresterLanding s.otherForester ∈ s.landingsLost then s else
      let f := s.otherForester
      let s := (s.reboot f).runBest f
      let s := (({ s with standbyIn := true } : State).showForesters true).follow
      if foresterLanding s.activeForester ∈ s.landingsLost then s.failover else s)

/-- FORESTER_HANDOVER (R52, R461 step 4). -/
def execForesterHandover (s : State) : Host.Outcome State Fault Refusal :=
  .next (
    match s.swap with
    | some w => if w.stage = 1 then s.swapOver w else s
    | none => s)

/-- SWAP_REBOOT_DONE (R461 step 5, R462): the old Forester is standby with the new records, and the counters advance; or it stays out of
service, and the previous slots remain a fallback (log 107). (DEDUCED: log 105.) -/
def execSwapRebootDone (ok : Bool) (s : State) : Host.Outcome State Fault Refusal :=
  .next (
    match s.swap with
    | none => s
    | some w =>
      if w.stage ≠ 2 then s else
      let f := s.otherForester
      if ok then
        let s := ((s.reboot f).runSwap f w.records).advanceCounters w.records
        let s := (s.btEv btEvent_swapDone s.btLanding).endSwap stOk 0
        (({ s with standbyIn := true } : State).showForesters true).follow
      else
        let s := (s.btEv btEvent_swapFallback s.btLanding).endSwap stBadState s.service.code
        ({ s.reboot f with standbyIn := false } : State).follow)

/-- FORESTER_FAILOVER (R463, R468). -/
def execForesterFailover (s : State) : Host.Outcome State Fault Refusal := .next s.failover

/-- Sequences of this module that a lost landing moves or ends (R467 steps 1 and 2). -/
def State.landingSeqs (s : State) (l : Nat) : State :=
  s.each (s.ownOpen.filter (fun i => !s.isSapling i)) (fun s i => s.endSeq i 0x0401 (48 + l) false)

/-- LANDING_LOST (R467, R480): the Forester of L3 or L7 is lost with it, a swap ends, sequences move or end, and the module drains for good.
(DEDUCED: log 156.) -/
def execLandingLost (l : Fin 8) (s : State) : Host.Outcome State Fault Refusal :=
  .next (
    if l.val ∈ s.landingsLost ∨ s.service = .off then s else
    let s : State := { s with landingsLost := s.landingsLost ++ [l.val] }
    let s := if l.val = foresterLanding s.activeForester then s.failover
      else if l.val = foresterLanding s.otherForester then
        (({ s.reboot s.otherForester with standbyIn := false } : State).showForesters false)
      else s
    let s := s.endSwap stBadState s.service.code
    let s := s.put ldPortStatus_linkUp l.val 0
    let s := if l.val = 1 ∨ l.val = 5 then s.put twPortStatus_linkUp l.val 0 else s
    let s := s.landingSeqs l.val
    s.startDrain none false 0)

/-- The open sequence whose page list maps a page of the KV pools (R260, R465). -/
def State.mapsPage (s : State) (i page : Nat) : Bool :=
  (upTo (s.regionPages i)).any (fun k =>
    match s.placeOf (s.pageEntry i k) with
    | some (.hbm p) => p == 65536 * page
    | _ => false)

/-- HBM_READ_ERROR (R465): an uncorrectable error in a mapped KV page. -/
def execHbmReadError (page : Fin 25165824) (s : State) : Host.Outcome State Fault Refusal :=
  .next (s.endSeqs ((s.ownOpen.filter (fun i => s.mapsPage i page.val)).map (fun i => (s.targetOf i).getD i))
    0x0401 (48 + pageLanding page.val) false)

/-- DATA_CREDIT_STARVED (R216, R466). -/
def execDataCreditStarved (_p : PortId) (tag : Fin 256) (s : State) : Host.Outcome State Fault Refusal :=
  .next (s.faultImage tag.val true)

end Sys2Proof.Machine
end

