-- ==== Sys2Proof/Machine/MgmtOps.lean ====
section
/-! DEFINITION. What the management commands share: transports, SPDM and PLDM messages, and the sensors of the PDR repository (R457, R477,
R478; log 112). -/

namespace Sys2Proof.Machine

/-- The number of an MCTP transport: 0 SMBus, 1 + p the PF of control port p. -/
def viaCode : MctpVia → Nat
  | .smbus => 0
  | .vdm p => 1 + p.val

/-- Does Forester firmware run (R450)? -/
def State.firmwareRuns (s : State) : Bool := s.service != .off && (s.runs s.activeForester 0).isSome

/-! ## SPDM (R457) -/

/-- SPDM response codes (SPDM 1.3). -/
def spdmDigests : Nat := 0x01
def spdmCertificate : Nat := 0x02
def spdmChallengeAuth : Nat := 0x03
def spdmVersion : Nat := 0x04
def spdmMeasurements : Nat := 0x60
def spdmCapabilities : Nat := 0x61
def spdmAlgorithms : Nat := 0x63
def spdmError : Nat := 0x7F

/-- SPDM error codes: an invalid request, and one out of order. -/
def spdmInvalid : Nat := 1
def spdmUnexpected : Nat := 4

/-- Send an SPDM message. -/
def State.spdmSend (s : State) (via : MctpVia) (code : Nat) (body : List Byte) : State :=
  s.emit (.mgmt (viaCode via) (bytesLE 1 0x13 ++ bytesLE 1 code ++ body))

/-- Answer an SPDM request that needs a phase of the connection: 0 nothing yet, 1 version, 2 capabilities, 3 algorithms. -/
def State.spdmAt (s : State) (via : MctpVia) (phase : Nat) (act : State → State) : State :=
  if !s.firmwareRuns then s
  else if tblGet s.spdm (viaCode via) 0 < phase then s.spdmSend via spdmError (bytesLE 1 spdmUnexpected)
  else act s

/-- The phase of an SPDM connection. -/
def State.setSpdm (s : State) (via : MctpVia) (phase : Nat) : State := { s with spdm := tblSet s.spdm (viaCode via) phase }

/-- A signature of the RSA identity key over a message. -/
def spdmSigned (bs : List Byte) : List Byte := bs ++ padTo 384 (Config.rsaSign bs)

/-- A 32-byte nonce of the responder: a free value. -/
def State.nonce (s : State) : List Byte × State :=
  let a := s.free 256
  (bytesLE 32 a.1.toNat, a.2)

/-- A measurement block in DMTF form: index, kind and digest. -/
def measurementBlock (m : (Nat × BitVec 384) × Nat) : List Byte :=
  bytesLE 1 (m.2 + 1) ++ bytesLE 1 1 ++ bytesLE 2 51 ++ bytesLE 1 1 ++ bytesLE 2 48 ++ digestBytes m.1.2

/-! ## PLDM (R477, R478) -/

/-- Completion codes: success, invalid data, and each command's own refusals. -/
def pldmOk : Nat := 0
def pldmInvalidData : Nat := 2
def pldmInvalidId : Nat := 0x80
def pldmUnsupported : Nat := 0x81
def pldmBadHandle : Nat := 0x82
def pldmBadType : Nat := 0x83

/-- Send a PLDM response: its type, command, completion code and data. -/
def State.pldmSend (s : State) (via : MctpVia) (type cmd cc : Nat) (body : List Byte) : State :=
  s.emit (.mgmt (viaCode via) (bytesLE 1 type ++ bytesLE 1 cmd ++ bytesLE 1 cc ++ body))

/-- Answer a PLDM request in every state from STUMP on; while no Forester firmware runs only sensor reads are answered (R450, R477). -/
def State.pldmAt (s : State) (sensorRead : Bool) (act : State → State) : State :=
  if s.service == .off || (!sensorRead && !s.firmwareRuns) then s else act s

/-- A numeric sensor's reading in its own resolution; none for an id that is no numeric sensor; an invalid one reads as none inside. -/
def State.numericSensor (s : State) (id : Nat) : Option (Option Int) :=
  if 1 ≤ id ∧ id ≤ 390 then some (s.sensor (id - 1))
  else match id with
  | 0x200 => some (some (s.get pwFeed_feedA 0))
  | 0x201 => some (some (s.get pwFeed_feedB 0))
  | 0x202 => some (some (s.get pwFeed_inputPower 0))
  | 0x203 => some (some (s.get thCoolant_flow 0))
  | _ => none

/-- A state sensor's state. -/
def State.stateSensor (s : State) (id : Nat) : Option Nat :=
  if id = 0x300 then some s.service.code
  else if id = 0x301 then some (s.get twPairStatus_state 0)
  else if 0x400 ≤ id ∧ id < 0x400 + 42 then some (s.get pwStandStatus_standPower (id - 0x400))
  else none

/-- The ids of the repository in record order, the effecter last: record k has handle k. -/
def pdrIds : List Nat :=
  (upTo 390).map (fun n => n + 1) ++ [0x200, 0x201, 0x202, 0x203, 0x300, 0x301] ++ (upTo 42).map (fun n => 0x400 + n) ++ [1]

/-- Thresholds of a numeric sensor as (kind, value in its resolution): 0 upper warning, 1 upper critical, 2 upper fatal, 3 lower warning,
4 lower critical (R478). -/
def pdrThresholds (id : Nat) : List (Nat × Nat) :=
  if id ≤ 336 then [(0, 1520), (1, 1680), (2, 1760)]
  else if id ≤ 390 then [(2, 1760)]
  else match id with
  | 0x200 | 0x201 => [(4, 4000), (1, 5900)]
  | 0x202 => [(0, 2600)]
  | 0x203 => [(3, 300)]
  | _ => []

/-- The record of a handle: the next handle, its type (2 numeric sensor, 4 state sensor, 11 state effecter), its id, and its thresholds or
its number of states. -/
def pdrRecord (handle : Nat) : List Byte :=
  let id := pdrIds.getD (handle - 1) 0
  let last := decide (handle = pdrIds.length)
  bytesLE 4 (if last then 0 else handle + 1) ++ bytesLE 4 handle ++ bytesLE 1 1
    ++ bytesLE 1 (if last then 11 else if id < 0x300 then 2 else 4) ++ bytesLE 2 id
    ++ (if last then bytesLE 1 3 else (pdrThresholds id).flatMap (fun t => bytesLE 1 t.1 ++ bytesLE 2 t.2))

/-! ## Power pins (R116, R491, R492) -/

/-- A start with a feed that PW_FEED shows as valid (R491, R492). -/
def State.feedValid (s : State) : Bool := s.feedOk 0 || s.feedOk 1

/-- The state with a request pin of J16 low or released. -/
def State.pinLow (s : State) (pin : Nat) : State := { s with pinsLow := pin :: s.pinsLow.filter (fun p => p ≠ pin) }
def State.pinHigh (s : State) (pin : Nat) : State := { s with pinsLow := s.pinsLow.filter (fun p => p ≠ pin) }

end Sys2Proof.Machine
end

