-- ==== Sys2Proof/Machine/Management.lean ====
section
/-! DEFINITION. The management connector: SMBus register reads, SPDM, PLDM, the power request pins and pps_out (R437, R450, R457, R477,
R478, R488 to R493). -/

namespace Sys2Proof.Machine

/-! ## SMBus (R490) -/

/-- A BT register that starts at an offset of the block: its contents. -/
def State.btRegister (s : State) (l off : Nat) : Option Nat :=
  (Block.bt.regs.findSome? (fun r => (upTo (max 1 r.count)).findSome? (fun i =>
    if r.offset + i * r.step = off then some (s.readKey ⟨r, l, i, 0⟩) else none)))

/-- SMBUS_BT_READ. -/
def execSmbusBtRead (landing : BitVec 8) (offset : BitVec 16) (s : State) : Host.Outcome State Fault Refusal :=
  .next (
    if s.service = .off then s else
    let l := landing.toNat
    let v := if l = 3 ∨ l = 7 then (s.btRegister l offset.toNat).getD 0 else 0
    s.emit (.mgmt (viaCode .smbus) (bytesLE 8 v)))

/-! ## SPDM (R457) -/

/-- GET_VERSION: the connection starts again. -/
def execSpdmGetVersion (via : MctpVia) (s : State) : Host.Outcome State Fault Refusal :=
  .next (s.spdmAt via 0 (fun s => (s.setSpdm via 1).spdmSend via spdmVersion (bytesLE 2 0x1300)))

/-- GET_CAPABILITIES: CERT_CAP, CHAL_CAP, and MEAS_CAP with signature. -/
def execSpdmGetCapabilities (via : MctpVia) (_flags : BitVec 32) (s : State) : Host.Outcome State Fault Refusal :=
  .next (s.spdmAt via 1 (fun s => (s.setSpdm via 2).spdmSend via spdmCapabilities (bytesLE 4 0x16)))

/-- NEGOTIATE_ALGORITHMS: RSAPSS-3072 (bit 3) and SHA-384 (bit 1), or an error where the request offers one of them not. -/
def execSpdmNegotiateAlgorithms (via : MctpVia) (asym hash : BitVec 32) (s : State) : Host.Outcome State Fault Refusal :=
  .next (s.spdmAt via 2 (fun s =>
    if bit asym.toNat 3 && bit hash.toNat 1 then (s.setSpdm via 3).spdmSend via spdmAlgorithms (bytesLE 4 8 ++ bytesLE 4 2)
    else s.spdmSend via spdmError (bytesLE 1 spdmInvalid)))

/-- GET_DIGESTS: slot 0. -/
def execSpdmGetDigests (via : MctpVia) (s : State) : Host.Outcome State Fault Refusal :=
  .next (s.spdmAt via 3 (fun s => s.spdmSend via spdmDigests (bytesLE 1 1 ++ digestBytes (Config.sha384 Config.certificateChain))))

/-- GET_CERTIFICATE: a portion of slot 0's chain and the bytes that remain. -/
def execSpdmGetCertificate (via : MctpVia) (slot : BitVec 4) (offset len : Nat) (s : State) : Host.Outcome State Fault Refusal :=
  .next (s.spdmAt via 3 (fun s =>
    let chain := Config.certificateChain
    if slot ≠ 0 ∨ chain.length < offset then s.spdmSend via spdmError (bytesLE 1 spdmInvalid) else
    let part := (chain.drop offset).take len
    s.spdmSend via spdmCertificate (bytesLE 1 0 ++ bytesLE 2 part.length ++ bytesLE 2 (chain.length - offset - part.length) ++ part)))

/-- CHALLENGE on slot 0, signed with the RSA identity key. -/
def execSpdmChallenge (via : MctpVia) (slot : BitVec 4) (nonce : BitVec 256) (s : State) : Host.Outcome State Fault Refusal :=
  .next (s.spdmAt via 3 (fun s =>
    if slot ≠ 0 then s.spdmSend via spdmError (bytesLE 1 spdmInvalid) else
    let a := s.nonce
    let body := digestBytes (Config.sha384 Config.certificateChain) ++ a.1
    a.2.spdmSend via spdmChallengeAuth (spdmSigned (body ++ bytesLE 32 nonce.toNat))))

/-- GET_MEASUREMENTS: index 0 asks for their number, 1 to 7 for one, 0xFF for all. -/
def execSpdmGetMeasurements (via : MctpVia) (index : BitVec 8) (nonce : BitVec 256) (sign : Bool) (s : State) :
    Host.Outcome State Fault Refusal :=
  .next (s.spdmAt via 3 (fun s =>
    let ms := (s.measurements s.activeForester).zipIdx
    let n := index.toNat
    if 8 ≤ n ∧ n ≠ 0xFF then s.spdmSend via spdmError (bytesLE 1 spdmInvalid) else
    let picked := if n = 0xFF then ms else ms.filter (fun m => m.2 + 1 = n)
    let body := bytesLE 1 (if n = 0 then 7 else picked.length) ++ picked.flatMap measurementBlock
    if sign then
      let a := s.nonce
      a.2.spdmSend via spdmMeasurements (spdmSigned (body ++ a.1 ++ bytesLE 32 nonce.toNat))
    else s.spdmSend via spdmMeasurements body))

/-! ## PLDM (R477, R478) -/

/-- GetTID. -/
def execPldmGetTid (via : MctpVia) (s : State) : Host.Outcome State Fault Refusal :=
  .next (s.pldmAt false (fun s => s.pldmSend via 0 2 pldmOk (bytesLE 1 s.events.tid)))

/-- GetPLDMVersion of the base type and of platform monitoring. -/
def execPldmGetPldmVersion (via : MctpVia) (type : BitVec 8) (s : State) : Host.Outcome State Fault Refusal :=
  .next (s.pldmAt false (fun s =>
    if type = 0 then s.pldmSend via 0 3 pldmOk (bytesLE 4 0xF1F1F000)
    else if type = 2 then s.pldmSend via 0 3 pldmOk (bytesLE 4 0xF1F2F200)
    else s.pldmSend via 0 3 pldmBadType []))

/-- GetPLDMTypes: 0 and 2. -/
def execPldmGetPldmTypes (via : MctpVia) (s : State) : Host.Outcome State Fault Refusal :=
  .next (s.pldmAt false (fun s => s.pldmSend via 0 4 pldmOk (bytesLE 8 5)))

/-- GetPLDMCommands of a type: one bit for each command supported. -/
def execPldmGetPldmCommands (via : MctpVia) (type : BitVec 8) (s : State) : Host.Outcome State Fault Refusal :=
  .next (s.pldmAt false (fun s =>
    let bits_ (cs : List Nat) : Nat := (cs.map (fun c => 2 ^ c)).sum
    if type = 0 then s.pldmSend via 0 5 pldmOk (bytesLE 32 (bits_ [2, 3, 4, 5]))
    else if type = 2 then s.pldmSend via 0 5 pldmOk (bytesLE 32 (bits_ [0x04, 0x11, 0x21, 0x39, 0x3A, 0x50, 0x51]))
    else s.pldmSend via 0 5 pldmBadType []))

/-- SetEventReceiver: events go to the address over the transport that it came by; 0 disables them. -/
def execPldmSetEventReceiver (via : MctpVia) (address enable : BitVec 8) (s : State) : Host.Outcome State Fault Refusal :=
  .next (s.pldmAt false (fun s =>
    let s := { s with events := { s.events with
      receiver := address.toNat, via := viaCode via, enabled := decide (enable ≠ 0) } }
    s.pldmSend via 2 4 pldmOk []))

/-- GetPDRRepositoryInfo: the number of records. -/
def execPldmGetPdrRepositoryInfo (via : MctpVia) (s : State) : Host.Outcome State Fault Refusal :=
  .next (s.pldmAt false (fun s => s.pldmSend via 2 0x50 pldmOk (bytesLE 4 pdrIds.length)))

/-- GetPDR: handle 0 names the first record. -/
def execPldmGetPdr (via : MctpVia) (record : BitVec 32) (s : State) : Host.Outcome State Fault Refusal :=
  .next (s.pldmAt false (fun s =>
    let h := max 1 record.toNat
    if pdrIds.length < h then s.pldmSend via 2 0x51 pldmBadHandle []
    else s.pldmSend via 2 0x51 pldmOk (pdrRecord h)))

/-- GetSensorReading of a numeric sensor; an invalid reading shows as unavailable. -/
def execPldmGetSensorReading (via : MctpVia) (sensor : BitVec 16) (s : State) : Host.Outcome State Fault Refusal :=
  .next (s.pldmAt true (fun s =>
    match s.numericSensor sensor.toNat with
    | some (some v) => s.pldmSend via 2 0x11 pldmOk (bytesLE 1 0 ++ bytesLE 4 (unsigned 32 v))
    | some none => s.pldmSend via 2 0x11 pldmOk (bytesLE 1 2 ++ bytesLE 4 0)
    | none => s.pldmSend via 2 0x11 pldmInvalidId []))

/-- GetStateSensorReadings of a state sensor. -/
def execPldmGetStateSensorReadings (via : MctpVia) (sensor : BitVec 16) (s : State) : Host.Outcome State Fault Refusal :=
  .next (s.pldmAt true (fun s =>
    match s.stateSensor sensor.toNat with
    | some v => s.pldmSend via 2 0x21 pldmOk (bytesLE 1 1 ++ bytesLE 1 0 ++ bytesLE 1 v)
    | none => s.pldmSend via 2 0x21 pldmInvalidId []))

/-- SetStateEffecterStates: 1 off, 2 on, 3 blinking drive led_locate (R478, R488). -/
def execPldmSetStateEffecterStates (via : MctpVia) (effecter : BitVec 16) (state : BitVec 8) (s : State) :
    Host.Outcome State Fault Refusal :=
  .next (s.pldmAt false (fun s =>
    if effecter ≠ 1 then s.pldmSend via 2 0x39 pldmInvalidId []
    else if state.toNat = 0 ∨ 3 < state.toNat then s.pldmSend via 2 0x39 pldmUnsupported []
    else
      let s := { s with events := { s.events with locate := state.toNat } }
      (s.emit (.pin pinLed (state.toNat - 1))).pldmSend via 2 0x39 pldmOk []))

/-- GetStateEffecterStates. -/
def execPldmGetStateEffecterStates (via : MctpVia) (effecter : BitVec 16) (s : State) : Host.Outcome State Fault Refusal :=
  .next (s.pldmAt false (fun s =>
    if effecter ≠ 1 then s.pldmSend via 2 0x3A pldmInvalidId []
    else s.pldmSend via 2 0x3A pldmOk (bytesLE 1 1 ++ bytesLE 1 0 ++ bytesLE 1 s.events.locate)))

/-! ## Power request pins (R437, R491 to R493) -/

/-- The drain of an orderly shutdown (R349, R491 step 1): open sequences move to the twin where they can, and are felled at the deadline. -/
def State.shutdownDrain (s : State) : State :=
  if s.service = .off ∨ s.service = .stump ∨ s.service = .survey ∨ s.service = .test then s else
  let s := if s.service = .draining then s else s.startDrain (some 100000000) true 0
  let open_ := s.ownOpen.filter (fun i => !s.isSapling i && (s.seq i).entry.state != seqFelling)
  let s := s.each (open_.filter s.safe) State.moveOut
  let rest := open_.filter (fun i => (s.seq i).entry.state != 0)
  let s := s.each rest (fun s i => s.fell (landingOf (seqLanding i)) [i] 0 2 0 false)
  s.finishFells rest

/-- Step 2: the resident list, the snapshot and the last-shutdown tally; before SURVEY the snapshot stands as it is (log 113). -/
def State.shutdownRecord (s : State) : State :=
  let s := if s.service = .stump then s
    else
      let t := s.writeResidents.snapshot
      { t with flash := { t.flash with orderly := true } }
  { s with flash := { s.flash with lastDown := s.tally } }

/-- SHUTDOWN_REQ: shutdown_req_n low for 100 ms. -/
def execShutdownReq (s : State) : Host.Outcome State Fault Refusal :=
  .next (
    if s.service = .off then s.pinLow 9 else
    let s := s.endSwap stBadState s.service.code
    (s.shutdownDrain.shutdownRecord.powerOff).pinLow 9)

/-- SHUTDOWN_REQ_RELEASE: the module starts once no request pin is low and a feed is valid. -/
def execShutdownReqRelease (env : BootEnv) (s : State) : Host.Outcome State Fault Refusal :=
  .next (
    let s := s.pinHigh 9
    if s.feedValid && s.mayStart' env then s.startUp env else s)

/-- FORCE_OFF: the thermal supervisor removes every converter enable; the snapshot counts as stale, and last_cause stays. -/
def execForceOff (s : State) : Host.Outcome State Fault Refusal :=
  .next (
    if s.service = .off then s.pinLow 10 else
    let low := s.pinsLow
    let s : State := { s with flash := { s.flash with orderly := false } }
    ({ s.powerOff with pinsLow := low } : State).pinLow 10)

/-- FORCE_OFF_RELEASE. -/
def execForceOffRelease (env : BootEnv) (s : State) : Host.Outcome State Fault Refusal :=
  .next (
    let s := s.pinHigh 10
    if s.feedValid && s.mayStart' env then s.startUp env else s)

/-- FEEDS_REMOVED_RESTART: both feeds were removed for at least 1 s and are back, so that a hard shutdown ends (R437). -/
def execFeedsRemovedRestart (env : BootEnv) (s : State) : Host.Outcome State Fault Refusal :=
  .next (
    if s.service ≠ .off then s else
    let s : State := { s with latched := false }
    if s.mayStart' env then ((s.feedUp 0 env.tenMv).feedUp 1 env.tenMv).startUp env else s)

/-- PPS (R488): pps_out rises as the tally crosses a whole second, and falls 100 ms later. -/
def execPpsEdge (s : State) : Host.Outcome State Fault Refusal :=
  .next (if s.service = .off then s else (s.emit (.pin pinPps 1)).emit (.pin pinPps 0))

end Sys2Proof.Machine
end

