-- ==== Sys2Proof/Machine/Plans.lean ====
section
/-! DEFINITION. Stand loss, the release of a replacement, and the return of a stand (R119, R224, R438). -/

namespace Sys2Proof.Machine

/-- STAND_DARK (R224 steps 1 to 3): whatever the cause, the stand goes dark, and its images are held and take their plans. -/
def execStandDark (n : Fin 42) (cause : DarkCause) (s : State) : Host.Outcome State Fault Refusal :=
  .next (
    match cause with
    | .service => if s.get pwStandStatus_standPower n.val = 0 then s else
      (s.setPower n.val { s.power n.val with service := true }).goDark n.val
    | .heat => if s.get pwStandStatus_standPower n.val = 0 then s else
      ((s.put thStandStatus_heatOff n.val 1).thEv thEvent_heatOff n.val).goDark n.val
    | .bothTrees => s.goDark n.val
    | .firebreak => s.goDark n.val
    | .segment => s.goDark n.val
    | .header => s.goDark n.val)

/-- Are tiers of a stand still waiting to be programmed or being written? -/
def State.programming (s : State) (n : Nat) : Bool :=
  s.rotWait.any (fun r => r.tile.stand.val == n && r.kind != .copy)
  || s.tiles.any (fun p => p.1.stand.val == n && (match p.2.rotation with
      | some r => r.kind != .copy
      | none => false))

/-- REPLACEMENT_RELEASE (R224 step 5): once every stand of the held image is on and programmed, the image resumes from committed state;
in lockstep mode a new grid starts (R231). -/
def execReplacementRelease (tag : Fin 256) (s : State) : Host.Outcome State Fault Refusal :=
  .next (
    match s.image tag.val with
    | none => s
    | some x =>
      if !x.held || x.uncovered || x.place.any (fun n => !s.standOn n || s.programming n) then s else
      let s := (s.setImage tag.val { x with held := false }).restartSteps tag.val
      let s := if s.lockstep then s.newGrid (s.tally + 240) else s
      let s := s.each (upTo 42) (fun s n => if (s.power n).service && !s.leaving n then s.endService n stOk else s)
      s.follow)

/-- Has every programmed service tier of a stand passed the priority cruise of its return (R119)? -/
def State.returnCleared (s : State) (n : Nat) : Bool :=
  s.tiles.all (fun p => p.1.stand.val != n || p.2.drift.all (fun d => !d.2.due))

/-- Images on a transit detour around a stand outside their set: its loss is their one fault. -/
def State.detoured (s : State) (n : Nat) : List Nat :=
  s.imageTags.filter (fun t => ((s.image t).map (fun x => decide (x.faults = [.stand n]) && !x.hasStand n)).getD false)

/-- PLAN_RETURN (R224, R438): a returned stand whose tiers are cleared lets transit detours return to their primary plan, and takes the
reserve role. An image that replaced the stand keeps its plan. -/
def execPlanReturn (n : Fin 42) (s : State) : Host.Outcome State Fault Refusal :=
  .next (
    if !(s.power n.val).returning || !s.standOn n.val || !s.returnCleared n.val then s else
    let s := s.setPower n.val { s.power n.val with returning := false, service := false }
    let replaced (t : Nat) : Bool := ((s.image t).map (fun x => x.file.plans.any (fun p =>
      p.placement == x.placement && p.number == x.plan && p.reserve.isSome))).getD false
    ((s.each ((s.detoured n.val).filter (fun t => !replaced t)) State.returnPrimary).toReserve n.val).endService n.val stOk)

end Sys2Proof.Machine
end

