-- ==== Sys2Proof/Machine/PowerStands.lean ====
section
/-! DEFINITION. Stand wakes: their evaluation by the band controller and the grove stages (R418, R419, R425). -/

namespace Sys2Proof.Machine

/-! ## Evaluation (R419) -/

/-- Neighbors of a stand in its row. -/
def rowNeighbors (n : Nat) : List Nat :=
  (upTo 42).filter (fun m => standRow m = standRow n ∧ (standX2 m = standX2 n + 2 ∨ standX2 m = standX2 n - 2))

/-- Is a neighbor at peak: its meter at 90 % of its effective limit or more? -/
def State.neighborAtPeak (s : State) (n : Nat) : Bool :=
  (rowNeighbors n).any (fun m => decide (900 * s.get pwStandLimit_effective m ≤ s.get pwMeter_meter m))

/-- The first grove of a stand from `k` on whose header is not stuck. -/
def State.nextGrove (s : State) (n k : Nat) : Option Nat :=
  (upTo 16).find? (fun j => k ≤ j ∧ !bit (s.get pwGroveFault_stuckOpen n) j ∧ !bit (s.get pwGroveFault_stuckClosed n) j)

/-- A wake has woken its last grove (R418, R119): the stand is on; from dark, its links train and its tiers' clocks take the dark time
at the hottest temperature recorded, and every one of them waits for its priority cruise. -/
def State.wakeDone (s : State) (n : Nat) : State :=
  let x := s.power n
  let s := (s.standState n 2).put pwStandStatus_wake n 0
  let s := s.setPower n { x with stages := 0, grove := 0, stage := 0, tries := 0, fromDark := false }
  let s := (s.liftWake n)
  let s := { s with wakeWant := s.wakeWant.filter (fun m => m ≠ n) }
  if !x.fromDark then s.follow else
  let s := s.linksUp n
  let add := driftStep (signed 16 (s.get thPeak_peak n)) * ((s.tally - x.darkAt) / 10000000)
  let s := s.each (s.tiles.filter (fun p => p.1.stand.val = n)) (fun s p =>
    s.each (upTo 17) (fun s k =>
      if s.tierState p.1 k = 1 ∧ (s.tier p.1 k).programmed then
        let d := s.drift p.1 k
        s.setDrift p.1 k { d with clock := d.clock + add, sinceProg := d.sinceProg + add, due := true }
      else s))
  (s.put thPeak_peak n 0).follow

/-- Start a wake: normal in 8 stages with 100 tokens, stretched in 16 with 50. Stuck-closed groves stay powered as they are. -/
def State.startWake (s : State) (n : Nat) (stretched : Bool) : State :=
  let dark := decide (s.get pwStandStatus_standPower n = 0)
  let x := s.power n
  let first := s.nextGrove n 0
  let s := s.setPower n { x with
    stages := if stretched then 16 else 8, reserve := if stretched then 50 else 100
    grove := first.getD 0, stage := 0, tries := 0, fromDark := dark }
  let s := (s.standState n 1).put pwStandStatus_wake n (if stretched then 2 else 1)
  let s := if stretched then s.pwEv pwEvent_wakeStretched n else s
  let s := if dark then s.put pwStandStatus_vlogMv n (s.vlogTarget n 0) else s
  let s := { s with reserve := s.reserve.filter (fun m => m ≠ n) }
  match first with
  | none => s.wakeDone n
  | some k => (s.put (pwGroveHdr_cluster k) n 1).put gvStatus_power (n * 16 + k) 1

/-- A wake is deferred for defer_retry. -/
def State.deferWake (s : State) (n : Nat) : State := (s.put pwStandStatus_wake n 3).pwEv pwEvent_wakeDeferred n

/-- The procedure of R419 for a requested wake, in mW. -/
def State.evaluateWake (s : State) (n : Nat) : State :=
  let b := standRow n
  let ns := bandStands b
  let sum := s.meterSum ns
  let limit := 1000 * s.getAt pwBand_limit 0 b
  let waking := (ns.filter (fun m => (s.power m).stages ≠ 0)).length
  let others := ns.filter (fun m => m ≠ n ∧ s.standOn m)
  let held := ns.any (fun m => (s.power m).wakeCap.isSome && (s.power m).wakeFor == n)
  if max 1 (s.get pwWakeCtrl_wakeMax 0) ≤ waking then s
  else if sum + 100000 ≤ limit ∧ !s.neighborAtPeak n ∧ !held then s.startWake n false
  else if sum + 50000 ≤ limit then s.startWake n true
  else if held then s
  else if !s.on pwWakeCtrl_thinForWakeEn 0 then s.deferWake n
  else
    let cap := (limit / 1000 - 50 - s.wakeReserved ns) / others.length
    if others.isEmpty ∨ others.any (fun m => 100 * cap < s.get pwWakeCtrl_thinFloor 0 * s.get pwStandLimit_limit m) then s.deferWake n
    else s.each others (fun s m =>
      ((s.setPower m { s.power m with wakeCap := some cap, wakeFor := n }).newEffective m).pwEv pwEvent_wakeThinned m)

/-- Can a stand wake at all: asked for, neither waking nor on, its breaker and its band's segment closed? -/
def State.mayWake (s : State) (n : Nat) : Bool :=
  decide (n ∈ s.wakeWant) && (s.power n).stages == 0 && s.get pwStandStatus_standPower n != 2
  && !s.on pwStandStatus_breakerOpen n && s.getAt pwBand_segmentOpen 0 (standRow n) == 0

/-- WAKE_EVALUATION (R419): every 1 µs; a deferred wake waits for its retry. The evaluation after the last grove drops a wake's
reservation. -/
def execWakeEvaluation (st : Fin 42) (s : State) : Host.Outcome State Fault Refusal :=
  .next (
    let s := s.dropReserves (bandStands (standRow st.val))
    let s := if s.mayWake st.val && s.get pwStandStatus_wake st.val != 3 then s.evaluateWake st.val else s
    s.showBand (standRow st.val))

/-- WAKE_DEFER_RETRY (R419): defer_retry after a deferral the wake is evaluated again. -/
def execWakeDeferRetry (st : Fin 42) (s : State) : Host.Outcome State Fault Refusal :=
  .next (
    if s.mayWake st.val && s.get pwStandStatus_wake st.val == 3 then
      ((s.put pwStandStatus_wake st.val 0).evaluateWake st.val).showBand (standRow st.val)
    else s)

/-! ## Grove stages (R418, R425) -/

/-- A grove fails its wake twice (R418, R425): its header is stuck open, and it is dark. -/
def State.stuckOpen (s : State) (n k : Nat) : State :=
  let s := (s.put (pwGroveHdr_cluster k) n 3).put pwGroveFault_stuckOpen n (s.get pwGroveFault_stuckOpen n + 2 ^ k)
  (s.put gvStatus_power (n * 16 + k) 3).pwEv pwEvent_headerStuck n

/-- The wake goes on with the next grove, or is done. -/
def State.nextWake (s : State) (n k : Nat) : State :=
  match s.nextGrove n (k + 1) with
  | none => s.wakeDone n
  | some j =>
    let s := s.setPower n { s.power n with grove := j, stage := 0, tries := 0 }
    (s.put (pwGroveHdr_cluster j) n 1).put gvStatus_power (n * 16 + j) 1

/-- GROVE_WAKE_STAGE (R418): the grove that the wake has reached closes its next stage; after the last one `railOk` says whether its
rail is within 2 % of VLOG. -/
def execGroveWakeStage (g : GroveId) (railOk : Bool) (s : State) : Host.Outcome State Fault Refusal :=
  .next (
    let n := g.stand.val
    let k := g.grove.val
    let x := s.power n
    if x.stages = 0 ∨ x.grove ≠ k then s
    else if x.stage + 1 < x.stages then s.setPower n { x with stage := x.stage + 1 }
    else if railOk then ((s.put (pwGroveHdr_cluster k) n 2).put gvStatus_power g.num 2).nextWake n k
    else if x.tries = 0 then s.setPower n { x with stage := 0, tries := 1 }
    else (s.stuckOpen n k).nextWake n k)

end Sys2Proof.Machine
end

