-- ==== Sys2Proof/Machine/Ptp.lean ====
section
/-! DEFINITION. The PTP slave that disciplines the tally (R242 to R244, R386; log 111). -/

namespace Sys2Proof.Machine

/-- The port that disciplines the tally (R386). -/
def State.ptpPort (s : State) : Nat := if s.ptp.backup then s.config.ptpBackup.getD s.config.ptpPort else s.config.ptpPort

/-- Does a PTP message on a port reach the slave? -/
def State.ptpTakes (s : State) (l : Nat) : Bool := decide (l = s.ptpPort) && s.portCarries l

/-- The state with the slave's record changed. -/
def State.setPtp (s : State) (x : PtpState) : State := { s with ptp := x }

/-- The tally is reported locked or not, on every landing (LD_PTP_STATUS); losing lock sets ptp_lock_lost at the selected port. -/
def State.setLock (s : State) (locked : Bool) : State :=
  let lost := s.ptp.locked && !locked
  let s := s.setPtp { s.ptp with locked := locked }
  let s := s.each (upTo 8) (fun s l => s.put ldPtpStatus_locked l (b2n locked))
  if lost then s.ldEv ldEvent_ptpLockLost s.ptpPort else s

/-- Do eight offsets agree within ±250 ns of their mean (R243)? -/
def agree (os : List Int) : Bool := os.length == 8 && os.all (fun o => decide ((8 * o - os.sum).natAbs ≤ 2000))

/-- May the tally still step: it has not, and the module has not left SURVEY (R243)? -/
def State.mayStep (s : State) : Bool := !s.ptp.stepped && (s.service == .stump || s.service == .survey)

/-- An offset of the tally from PTP time is measured (R242, R243): eight that agree step the tally once, before SURVEY ends; later, eight
within ±250 ns lock it, and one outside unlocks it. -/
def State.ptpOffset (s : State) (l : Nat) (offset : Int) : State :=
  let s := s.put ldPtpStatus_offset l (unsigned 32 offset)
  let os := (s.ptp.offsets ++ [offset]).drop (s.ptp.offsets.length + 1 - 8)
  if s.mayStep then
    if agree os then
      let old := s.tally
      let s : State := { s with tally := ((s.tally : Int) - os.sum / 8).toNat }
      let s := s.setPtp { s.ptp with stepped := true, offsets := [], sync := none, request := none }
      s.journalRec s.foresterSource 0x0041 0 0xFFFF 0xFFFF old
    else s.setPtp { s.ptp with offsets := os }
  else
    let near (o : Int) : Bool := decide (o.natAbs ≤ 250)
    let s := s.setPtp { s.ptp with offsets := os }
    if !near offset then s.setLock false
    else if os.length = 8 ∧ os.all near then s.setLock true
    else s

/-- A Sync with its origin time: the offset, less the mean path delay, and a Delay_Req of the slave's own (R386). -/
def State.syncDone (s : State) (l seqId origin receipt : Nat) : State :=
  let x := s.ptp
  let s := s.setPtp { x with sync := some (seqId, some origin, receipt), request := some (x.nextSeq, s.tally), nextSeq := (x.nextSeq + 1) % 65536 }
  let s := s.emit (.frame l frDelayReq 0 (bytesBE 2 x.nextSeq))
  s.ptpOffset l ((receipt : Int) - origin - x.delay)

/-- PTP_SYNC: a one-step master's carries its origin time. -/
def execPtpSync (l : Fin 8) (m : PtpSync) (s : State) : Host.Outcome State Fault Refusal :=
  .next (
    if !s.ptpTakes l.val then s
    else if m.twoStep then s.setPtp { s.ptp with sync := some (m.seqId.toNat, none, m.receipt.toNat) }
    else s.syncDone l.val m.seqId.toNat m.origin.toNat m.receipt.toNat)

/-- PTP_FOLLOW_UP. -/
def execPtpFollowUp (l : Fin 8) (seqId : BitVec 16) (origin : BitVec 64) (s : State) : Host.Outcome State Fault Refusal :=
  .next (
    match s.ptp.sync with
    | some (n, none, receipt) => if s.ptpTakes l.val ∧ n = seqId.toNat then s.syncDone l.val n origin.toNat receipt else s
    | _ => s)

/-- PTP_DELAY_RESP: the mean path delay from the last Sync and this exchange. -/
def execPtpDelayResp (l : Fin 8) (seqId : BitVec 16) (receive : BitVec 64) (s : State) : Host.Outcome State Fault Refusal :=
  .next (
    match s.ptp.sync, s.ptp.request with
    | some (_, some origin, receipt), some (n, sent) =>
      if s.ptpTakes l.val ∧ n = seqId.toNat then
        s.setPtp { s.ptp with request := none, delay := (((receipt : Int) - origin) + ((receive.toNat : Int) - sent)) / 2 }
      else s
    | _, _ => s)

/-- PTP_ANNOUNCE: a master of the module's domain; one of another domain is ignored (R386). -/
def execPtpAnnounce (l : Fin 8) (domain : BitVec 8) (s : State) : Host.Outcome State Fault Refusal :=
  .next (if s.ptpTakes l.val ∧ domain.toNat = s.config.ptpDomain then s.put ldPtpStatus_domain l.val domain.toNat else s)

/-- PTP_BACKUP_SWITCH (R386): where the configuration record names a backup port. -/
def execPtpBackupSwitch (s : State) : Host.Outcome State Fault Refusal :=
  .next (
    match s.config.ptpBackup with
    | none => s
    | some b =>
      if s.ptp.backup then s else
      let s := s.setPtp { s.ptp with backup := true, sync := none, request := none, delay := 0, offsets := [] }
      let s := s.each (upTo 8) (fun s l => s.put ldPortStatus_ptpSelected l (b2n (decide (l = b))))
      s.put ldPtpStatus_backupInUse b 1)

/-- PTP_LOSS (R244): the tally runs on with its last rate correction, and is reported as unlocked. -/
def execPtpLoss (s : State) : Host.Outcome State Fault Refusal :=
  .next ((s.setPtp { s.ptp with offsets := [], sync := none, request := none }).setLock false)

end Sys2Proof.Machine
end

