-- ==== Sys2Proof/Machine/Ptt.lean ====
section
/-! DEFINITION. Prowaelm Token Transport: the checks of a received frame and what each type does (R312, R365 to R382).
(DESIGN CHOICE: log 158.) -/

namespace Sys2Proof.Machine

/-! ## Acceptance (R365 to R373) -/

/-- The port that a type uses toward the module; none for a type that only the module sends. -/
def pttPortOf (type : Nat) : Option Nat :=
  if type ∈ [pttOpen, pttPrompt, pttEmbed, pttTarget] then some pttData
  else if type ∈ [pttFell, pttShed, pttResend] then some pttControl else none

end Sys2Proof.Machine

namespace Sys2Proof

/-- The fields of a frame's session (R367). -/
def PttFrame.slot (x : PttFrame) : Nat := Machine.bits x.session.toNat 15 1
def PttFrame.source (x : PttFrame) : Nat := Machine.bits x.session.toNat 7 7

/-- Is a frame malformed: its length, a reserved type, or a header that R367 does not allow (R368, R369; log 108)? -/
def PttFrame.malformed (x : PttFrame) : Bool :=
  decide (x.version ≠ 0x10 ∨ x.udpLen ≠ 48 + x.length.toNat ∨ x.payload.length ≠ x.length.toNat ∨ 8192 < x.length.toNat
    ∨ x.type.toNat = 0 ∨ 13 < x.type.toNat ∨ 255 < x.tenant.toNat ∨ x.session.toNat % 128 ≠ 0 ∨ x.counter = 0)

/-- Did a type arrive on the other UDP port, or in the wrong direction (R369)? -/
def PttFrame.wrongPort (x : PttFrame) : Bool :=
  decide (Machine.pttPortOf x.type.toNat ≠ some x.dstPort.toNat) || Machine.bit x.session.toNat 14

/-- A big-endian field of the payload. -/
def PttFrame.field (x : PttFrame) (off n : Nat) : Nat := Machine.fromBE ((x.payload.drop off).take n)

end Sys2Proof

namespace Sys2Proof.Machine

/-- Do frames reach the PTT classifier of a port: the port enabled and up, PTT accepted? -/
def State.pttOpenPort (s : State) (l : Nat) : Bool :=
  s.service != .off && s.on ldPortStatus_linkUp l && s.on ldPortCtrl_portEn l && s.on ldPortCtrl_pttEn l

/-- May a frame of a source bound elsewhere move the binding here (R372)? -/
def State.bindOk (s : State) (t : Tenant) (src l : Nat) : Bool :=
  match tblFind t.bindings src with
  | none => true
  | some (port, last) => port == l || decide (last + max 1 (s.get ldPttCtrl_bindIdle port) * 1000000 ≤ s.tally)

/-- Is a frame counter outside the window of its source, or accepted before (R372)? -/
def KeySlot.replayed (k : KeySlot) (src c : Nat) : Bool :=
  decide (c + 64 ≤ tblGet k.high src 0) || decide (c ∈ tblGet k.window src [])

/-- The sequence that a frame's journal record names: one of its tenant under a current handle; OPEN and SHED name none. -/
def State.frameSeq (s : State) (x : PttFrame) : Option Nat :=
  if x.type.toNat = pttOpen ∨ x.type.toNat = pttShed then none
  else (s.ofHandle x.handle.toNat).filter (fun i => (s.seq i).entry.tenant == x.tenant.toNat)

/-- The landing's journal record 0x0001 of a frame that it admits (R246): frame type and PTT step. -/
def State.frameRecord (s : State) (l : Nat) (x : PttFrame) : State :=
  let i := s.frameSeq x
  s.journalRec (48 + l) 0x0001 ((i.map (fun j => (s.seq j).entry.imageTag)).getD 0) x.tenant.toNat (i.getD 0xFFFF)
    (x.type.toNat + x.step.toNat * 2 ^ 32)

/-- A frame is accepted: the source's highest counter and window, its binding, the count, and the journal record. -/
def State.takeFrame (s : State) (l : Nat) (x : PttFrame) : State :=
  let t := s.tenant x.tenant.toNat
  let k := tblGet t.slots x.slot {}
  let c := x.counter.toNat
  let h := max c (tblGet k.high x.source 0)
  let w := (c :: tblGet k.window x.source []).filter (fun n => decide (h < n + 64))
  let k : KeySlot := { k with high := tblSet k.high x.source h, window := tblSet k.window x.source w }
  let t : Tenant := { t with slots := tblSet t.slots x.slot k, bindings := tblSet t.bindings x.source (l, s.tally) }
  ((s.setTenant x.tenant.toNat t).wrapUp ldPttStats_framesIn l).frameRecord l x

/-- What becomes of a received frame. -/
inductive Ingress where
  | dropped (s : State)
  | accepted (s : State)
deriving DecidableEq, Repr

/-- The checks of a PTT frame on port `l` in their order (R365, R368 to R373; log 108): a dropped frame gets no reply. -/
def State.ingress (s : State) (l : Nat) (x : PttFrame) : Ingress :=
  if !s.pttOpenPort l || (x.dstPort.toNat ≠ pttData ∧ x.dstPort.toNat ≠ pttControl) then .dropped s
  else if x.dstPort.toNat = pttControl ∧ x.dscp.toNat ≠ s.get ldClass_dscpCtrl l then .dropped (s.ldEv ldEvent_wrongPort l)
  else if x.malformed then .dropped (s.ldEv ldEvent_malformed l)
  else if x.wrongPort then .dropped (s.ldEv ldEvent_wrongPort l)
  else
    let t := s.tenant x.tenant.toNat
    match tblFind t.slots x.slot with
    | none => .dropped (s.ldEv ldEvent_authFail l)
    | some k =>
      if !x.tagOk then .dropped (s.ldEv ldEvent_authFail l)
      else if !s.bindOk t x.source l then .dropped (s.ldEv ldEvent_bindConflict l)
      else if k.replayed x.source x.counter.toNat then .dropped (s.ldEv ldEvent_replayDrop l)
      else .accepted (s.takeFrame l x)

/-- Take a frame of one type: a frame of another type does what its checks say and no more. -/
def State.pttTake (s : State) (l : Nat) (type : Nat) (x : PttFrame) (act : State → State) : State :=
  match s.ingress l x with
  | .dropped s => s
  | .accepted t => if x.type.toNat = type then act t else s

/-! ## Replies (R369, R374) -/

/-- An ERROR to the sender of a frame. -/
def State.pttErr (s : State) (l : Nat) (x : PttFrame) (status detail value : Nat) : State :=
  s.pttSend l x.tenant.toNat x.srcAddr x.srcPort pttError 0 0 x.handle.toNat x.step.toNat
    (bytesBE 2 status ++ bytesBE 2 detail ++ bytesBE 1 x.type.toNat ++ bytesBE 3 0 ++ bytesBE 4 x.counter.toNat ++ bytesBE 4 value)

/-- A violation by a frame, logged by the landing that took it; no function is charged (R338, R339). -/
def State.pttViolation (s : State) (l : Nat) (x : PttFrame) (kind tag : Nat) : State :=
  let v : Violation := ⟨s.tally, x.tenant.toNat, 48 + l, kind, 0xFFFF, tag, 0, 0, x.type.toNat⟩
  let old := tblGet s.violLog l []
  { s with
    violLog := tblSet s.violLog l (violPush old v)
    violCount := tblSet s.violCount l (tblGet s.violCount l 0 + (if violRepeats old v then 0 else 1)) }

/-- A frame that names a sequence reaches it: a takeover's notices stop (R381), and a sequence that a host opened has this client from its
first frame on (R354; log 109). -/
def State.meetClient (s : State) (i : Nat) (x : PttFrame) : State :=
  s.modSeq i (fun y =>
    if y.fromHost && y.addr == 0 then { y with repeats := 0, addr := x.srcAddr, udp := x.srcPort, source := x.source }
    else { y with repeats := 0 })

/-- The sequence that a frame names (R374, R382): TEST refuses every frame but OPEN; a stale handle, another tenant's, and a sapling's (which
no client has) end in an ERROR, after `refused`. -/
def State.withFrameHandle (s : State) (l : Nat) (x : PttFrame) (refused : State → State) (act : Nat → State → State) : State :=
  if s.service = .test then (refused s).pttErr l x stBadState 8 0 else
  match s.ofHandle x.handle.toNat with
  | none => ((refused s).staleHandle x.handle.toNat).pttErr l x stStale 0 0
  | some i =>
    let e := (s.seq i).entry
    if e.partner then ((refused s).staleHandle x.handle.toNat).pttErr l x stStale 0 0
    else if e.tenant ≠ x.tenant.toNat then ((refused s).pttViolation l x 2 e.imageTag).pttErr l x stViolation 2 0
    else if s.isSapling i then (refused s).pttErr l x stBadField 0 0
    else act i (s.meetClient i x)

/-! ## OPEN (R374, R377) -/

/-- The request tags of a source that are less than 1 s old. -/
def State.liveTags (s : State) (t src : Nat) : List (BitVec 32 × Nat × List Byte) :=
  (tblGet (s.tenant t).tags src []).filter (fun p => decide (s.tally < p.2.1 + 1000000000))

/-- Keep the answer to an OPEN; the last 64 tags of a source are kept. -/
def State.keepTag (s : State) (t src : Nat) (tag : BitVec 32) (answer : List Byte) : State :=
  let xs := tblGet (s.tenant t).tags src []
  let y := s.tenant t
  s.setTenant t { y with tags := tblSet y.tags src ((xs ++ [(tag, s.tally, answer)]).drop (xs.length + 1 - 64)) }

/-- Send an OPEN_RESULT; the kept answer is the handle with the payload. -/
def State.openResult (s : State) (l : Nat) (x : PttFrame) (answer : List Byte) : State :=
  s.pttSend l x.tenant.toNat x.srcAddr x.srcPort pttOpenResult 0 0 (fromBE (answer.take 4)) x.step.toNat (answer.drop 4)

/-- The handle and payload of an OPEN_RESULT. -/
def openAnswer (handle status reason sapling retry firstDue : Nat) : List Byte :=
  bytesBE 4 handle ++ bytesBE 2 status ++ bytesBE 1 reason ++ bytesBE 1 0 ++ bytesBE 4 sapling ++ bytesBE 4 retry ++ bytesBE 4 0
    ++ bytesBE 8 firstDue

/-- Decide an OPEN (R345 from step 8 on, R303, R374); one of another length than 72 bytes is BAD_LENGTH (log 108). -/
def State.pttAdmit (s : State) (l : Nat) (x : PttFrame) : List Byte × State :=
  let r := openOf x.tenant.toNat x.field (x.field 64 1)
  let zero (off n : Nat) : Nat × Bool := (off, decide (x.field off n = 0))
  if s.service = .test then (openAnswer 0 stBadState 0 0 0 0, s)
  else if x.payload.length ≠ 72 then (openAnswer 0 stBadLength 0 0 0 0, s)
  else
    match s.openBad r [zero 47 1, zero 52 12, (64, decide (x.field 64 1 ≤ 64)), zero 65 7] with
    | some (st, kind, tag) => (openAnswer 0 st 0 0 0 0, if st = stViolation then s.pttViolation l x kind tag else s)
    | none =>
      match s.openAt l r with
      | (.turned deferred reason retry, s) => (openAnswer 0 (if deferred then 0x0300 else 0x0301) reason 0 retry 0, s)
      | (.admitted i, s) =>
        let s := s.openedBy i (fun y => { y with landing := l, addr := x.srcAddr, udp := x.srcPort, source := x.source, reqTag := x.step })
        let e := (s.seq i).entry
        (openAnswer (s.handle i) stOk 0 (if r.spec = 0 then 0 else s.handle e.saplingSeq) 0 e.firstDue, s)

/-- OPEN. -/
def execPttOpen (l : Fin 8) (x : PttFrame) (s : State) : Host.Outcome State Fault Refusal :=
  .next (s.pttTake l.val pttOpen x (fun s =>
    match (s.liveTags x.tenant.toNat x.source).find? (fun p => decide (p.1 = x.step)) with
    | some p => s.openResult l.val x p.2.2
    | none =>
      let a := s.pttAdmit l.val x
      (a.2.keepTag x.tenant.toNat x.source x.step a.1).openResult l.val x a.1))

/-! ## Prompts (R374, R375) -/

/-- Positions and words of a PROMPT or TARGET payload. -/
def PttFrame_words (x : PttFrame) : List (Nat × BitVec 32) :=
  (upTo ((x.payload.length - 4) / 4)).map (fun k => (x.field 0 4 + k, BitVec.ofNat 32 (x.field (4 + 4 * k) 4)))

/-- Is the payload of a PROMPT or TARGET 1 to 2,047 words after the first position? -/
def wordsOk (x : PttFrame) : Bool := decide (x.payload.length % 4 = 0 ∧ 8 ≤ x.payload.length ∧ x.payload.length ≤ 8192)

/-- A frame that fills positions of a sequence that takes a prompt; in FELLING and CLOSED it is dropped, and a position at or beyond
prompt_len is an error. -/
def State.fillPrompt (s : State) (l : Nat) (x : PttFrame) (last : Nat) (act : Nat → State → State) : State :=
  s.withFrameHandle l x id (fun i s =>
    let e := (s.seq i).entry
    if e.state = seqFelling ∨ e.state = seqClosed then s
    else if e.promptLen ≤ last then s.pttErr l x stBadLength 0 0
    else act i s)

/-- A PROMPT mirror record of what a frame added (R394): tokens, an embedding range, or targets. -/
def State.mirrorPrompt (s : State) (i what : Nat) (body : List Byte) : State :=
  if body = [] then s else s.mirror i 2 (s.seq i).entry.step (bytesLE 1 what ++ body)

/-- PROMPT: each position that nothing fills yet takes its token. -/
def execPttPrompt (l : Fin 8) (x : PttFrame) (s : State) : Host.Outcome State Fault Refusal :=
  .next (s.pttTake l.val pttPrompt x (fun s =>
    let ws := PttFrame_words x
    s.fillPrompt l.val x (x.field 0 4 + ws.length - 1) (fun i s =>
      if !wordsOk x then s.pttErr l.val x stBadLength 0 0 else
      let y := s.seq i
      let new := ws.filter (fun w => (tblFind y.tokens w.1).isNone && (tblFind y.embeds w.1).isNone)
      let s := s.setSeq i { y with tokens := new.foldl (fun t w => tblSet t w.1 w.2) y.tokens }
      (s.mirrorPrompt i 0 (new.flatMap (fun w => bytesLE 4 w.1 ++ bytesLE 4 w.2.toNat))).tryPrefill i)))

/-- Does the network edge reject a byte of an embedding vector (R125): an E8M0 scale of 0xFF, an E4M3 NaN, or an E5M2 infinity or NaN? `n` is
the number of blocks and `k` the byte's place in the vector. -/
def edgeRejects (fmt n k : Nat) (b : Byte) : Bool :=
  if !isMx fmt then false
  else if k < n then b == 0xFF
  else if k < up64 n then false
  else match fmtOf fmt with
    | some f => elemBits fmt == 8 && !(f.decode b.toNat).finite
    | none => false

/-- EMBED: the bytes of a range that have not arrived yet (log 108). -/
def execPttEmbed (l : Fin 8) (x : PttFrame) (s : State) : Host.Outcome State Fault Refusal :=
  .next (s.pttTake l.val pttEmbed x (fun s =>
    let pos := x.field 0 4
    let off := x.field 4 4
    let fmt := x.field 8 1
    let bs := x.payload.drop 12
    s.fillPrompt l.val x pos (fun i s =>
      let y := s.seq i
      let dim := ((s.image y.entry.imageTag).map (fun m => m.file.modelDim)).getD 0
      if bs = [] then s.pttErr l.val x stBadLength 0 0
      else if 10 ≤ fmt then s.pttErr l.val x stBadField 8 0
      else if x.field 9 3 ≠ 0 then s.pttErr l.val x stBadField 9 0
      else if s.embedBytes y.entry.imageTag fmt < off + bs.length then s.pttErr l.val x stBadField 4 0
      else if bs.zipIdx.any (fun b => edgeRejects fmt (ceilDiv dim 32) (off + b.2) b.1) then
        (s.ldEv ldEvent_formatReject l.val).pttErr l.val x stBadField 12 0
      else
        let old := tblGet y.embeds pos (fmt, [])
        if (tblFind y.tokens pos).isSome ∨ old.1 ≠ fmt then s else
        let new := bs.zipIdx.filter (fun b => (tblFind old.2 (off + b.2)).isNone)
        let s := s.setSeq i { y with embeds := tblSet y.embeds pos (fmt, new.foldl (fun t b => tblSet t (off + b.2) b.1) old.2) }
        (s.mirrorPrompt i 1 (if new = [] then [] else bytesLE 4 pos ++ bytesLE 1 fmt ++ bytesLE 4 off ++ bs)).tryPrefill i)))

/-- TARGET: each target position once. -/
def execPttTarget (l : Fin 8) (x : PttFrame) (s : State) : Host.Outcome State Fault Refusal :=
  .next (s.pttTake l.val pttTarget x (fun s =>
    let ws := PttFrame_words x
    s.fillPrompt l.val x (x.field 0 4 + ws.length - 1) (fun i s =>
      if !wordsOk x then s.pttErr l.val x stBadLength 0 0 else
      let y := s.seq i
      let new := ws.filter (fun w => (tblFind y.targets w.1).isNone)
      let s := s.setSeq i { y with targets := new.foldl (fun t w => tblSet t w.1 w.2) y.targets }
      s.mirrorPrompt i 2 (new.flatMap (fun w => bytesLE 4 w.1 ++ bytesLE 4 w.2.toNat)))))

/-- The first prompt position of a sequence that has not arrived. -/
def State.firstMissing (s : State) (i : Nat) : Option Nat :=
  (upTo (s.seq i).entry.promptLen).find? (fun p => !s.arrivedAt i p)

/-- PROMPT_WAIT_EXPIRY (R375): the ERROR rejects no frame, so its type and counter are 0. -/
def execPromptWaitExpiry (i : Fin 32768) (s : State) : Host.Outcome State Fault Refusal :=
  .next (
    let e := (s.seq i.val).entry
    if (e.state ≠ seqOpening ∧ e.state ≠ seqPrefill) ∨ e.partner ∨ s.isSapling i.val then s else
    match s.firstMissing i.val with
    | none => s
    | some p =>
      s.seqFrame i.val pttError 0 0 0 (bytesBE 2 stBadLength ++ bytesBE 2 0 ++ bytesBE 8 0 ++ bytesBE 4 p))

/-! ## Control frames (R309, R311, R312, R376, R381) -/

/-- FELL. -/
def execPttFell (l : Fin 8) (x : PttFrame) (s : State) : Host.Outcome State Fault Refusal :=
  .next (s.pttTake l.val pttFell x (fun s =>
    s.withFrameHandle l.val x (fun s => s.refuseFell l.val) (fun i s =>
      if x.payload ≠ [] then (s.refuseFell l.val).pttErr l.val x stBadLength 0 0
      else s.fell l [i] 0 2 0 false)))

/-- SHED: the body of TEN_SHED, big-endian. -/
def execPttShed (l : Fin 8) (x : PttFrame) (s : State) : Host.Outcome State Fault Refusal :=
  .next (s.pttTake l.val pttShed x (fun s =>
    let tag := x.field 0 1
    if s.service = .test then s.pttErr l.val x stBadState 8 0
    else if x.payload.length ≠ 8 then s.pttErr l.val x stBadLength 8 0
    else if 7 < x.field 1 1 then s.pttErr l.val x stBadField 1 0
    else if x.field 2 2 ≠ 0 then s.pttErr l.val x stBadField 2 0
    else if tag ≠ 0 ∧ !s.imageRight x.tenant.toNat tag then (s.pttViolation l.val x 3 tag).pttErr l.val x stViolation 3 0
    else s.shed l.val x.tenant.toNat tag (x.field 1 1) (x.field 4 4)))

/-- Kept tokens in runs of one provenance, for one TOKEN frame each. -/
def tokenRuns (ts : List SentToken) : List (List SentToken) :=
  ts.foldr (fun t acc => match acc with
    | (u :: r) :: rest => if u.prov = t.prov then (t :: u :: r) :: rest else [t] :: (u :: r) :: rest
    | rest => [t] :: rest) []

/-- RESEND (R376, R379): TOKEN frames with dup set from the step on, with bits [3:0] of the original provenance. -/
def execPttResend (l : Fin 8) (x : PttFrame) (s : State) : Host.Outcome State Fault Refusal :=
  .next (s.pttTake l.val pttResend x (fun s =>
    s.withFrameHandle l.val x id (fun i s =>
      let y := s.seq i
      let first := x.step.toNat
      if x.payload ≠ [] then s.pttErr l.val x stBadLength 0 0 else
      match y.sent.head? with
      | none => s
      | some o =>
        if first < o.step then s.pttErr l.val x stBadState y.entry.state o.step else
        s.each (tokenRuns (y.sent.filter (fun t => decide (first ≤ t.step)))) (fun s run =>
          match run with
          | [] => s
          | t :: _ =>
            s.seqFrame i pttToken 2 (t.prov &&& 0x0F) t.step
              (bytesBE 2 run.length ++ bytesBE 2 0 ++ bytesBE 4 (y.entry.promptLen + t.step - 1)
                ++ run.flatMap (fun u => bytesBE 4 u.token.toNat))))))

/-- TAKEOVER_REPEAT (R381). (DEDUCED: log 165.) -/
def execTakeoverRepeat (i : Fin 32768) (s : State) : Host.Outcome State Fault Refusal :=
  .next (
    let x := s.seq i.val
    if x.repeats = 0 ∨ x.entry.state = seqClosed ∨ x.entry.partner then s
    else (s.takeoverNotice i.val).modSeq i.val (fun y => { y with repeats := y.repeats - 1 }))

end Sys2Proof.Machine
end

