-- ==== Sys2Proof/Machine/Rdma.lean ====
section
/-! DEFINITION. RoCEv2: connections, RDMA WRITEs into staging areas, and RDMA READs of a remote golden image (R383 to R385, R458; log 110). -/

namespace Sys2Proof.Machine

/-- Does a port take RoCEv2 frames? -/
def State.rdmaOpen (s : State) (l : Nat) : Bool := s.portCarries l && s.on ldPortCtrl_rdmaEn l

/-- A queue pair of a port. -/
def State.qp (s : State) (l qp : Nat) : Option Qp := tblFind s.qps (l, qp)

/-- The state with a queue pair set. -/
def State.setQp (s : State) (l qp : Nat) (x : Qp) : State := { s with qps := tblSet s.qps (l, qp) x }

/-- Send a RoCEv2 frame to a queue pair's peer, marked with dscp_rdma (R366). -/
def State.toPeer (s : State) (l : Nat) (x : Qp) (kind : Nat) (body : List Byte) : State :=
  s.emit (.rdma l kind (s.get ldClass_dscpRdma l) x.peer (bytesBE 3 x.peerQp ++ body))

/-- Packets that a message takes at a path MTU. -/
def packets (mtu n : Nat) : Nat := max 1 (ceilDiv n mtu)

/-- A packet sequence number `n` packets on. -/
def psnAdd (psn n : Nat) : Nat := (psn + n) % 2 ^ 24

/-- The lowest free queue pair number of a port, of its eight: 2 to 9, as 1 is for connection management (R383). -/
def State.freeQp (s : State) (l : Nat) : Option Nat := ((upTo 10).drop 2).find? (fun n => (s.qp l n).isNone)

/-- Does a REQ get a connection (R383, R384): a reliable connection with a path MTU of the table, to an area of source 1 or 2 whose remote key
it carries? -/
def State.reqOk (s : State) (q : CmReq) : Bool :=
  q.reliable && decide (q.mtu ∈ [1024, 2048, 4096]) &&
  (match tblFind s.stagings q.stagingId.toNat with
    | some x => (x.source == 1 || x.source == 2) && x.key == q.key
    | none => false)

/-- CM_REQ: a queue pair that waits for RTU, and REP; or REJ. -/
def execCmReq (l : Fin 8) (req : CmReq) (s : State) : Host.Outcome State Fault Refusal :=
  .next (
    if !s.rdmaOpen l.val then s else
    let x : Qp := { peer := req.peer, peerQp := req.peerQp.toNat, staging := req.stagingId.toNat, mtu := req.mtu }
    match (s.freeQp l.val).filter (fun _ => s.reqOk req) with
    | some n => (s.setQp l.val n x).toPeer l.val x frRep (bytesBE 3 n)
    | none => s.toPeer l.val x frRej [])

/-- CM_RTU: the connection is up. -/
def execCmRtu (l : Fin 8) (qp : Nat) (s : State) : Host.Outcome State Fault Refusal :=
  .next (
    match (s.qp l.val qp).filter (fun x => s.rdmaOpen l.val && x.state == 0) with
    | some x => s.setQp l.val qp { x with state := 1 }
    | none => s)

/-- CM_DREQ: the connection ends with DREP. -/
def execCmDreq (l : Fin 8) (qp : Nat) (s : State) : Host.Outcome State Fault Refusal :=
  .next (
    match (s.qp l.val qp).filter (fun _ => s.rdmaOpen l.val) with
    | some x => ({ s with qps := tblErase s.qps (l.val, qp) } : State).toPeer l.val x frDrep []
    | none => s)

/-- The area that a WRITE may reach: its connection's, of source 1, with its key and a range inside it (R384);
a load runs whole within its command (log 92), so none runs meanwhile. -/
def State.writeArea (s : State) (x : Qp) (addr : Nat) (key : BitVec 32) (n : Nat) : Option Staging :=
  (tblFind s.stagings x.staging).filter (fun a =>
    a.source == 1 && a.key == key && decide (a.base ≤ addr ∧ addr + n ≤ a.base + a.length))

/-- RDMA_WRITE (R383, R384): in order, its bytes land and are acknowledged; a copy is acknowledged again, a gap is NAKed; outside its area the
queue pair enters the error state; with an rdma_rate of 0 a new WRITE is NAKed. -/
def execRdmaWrite (l : Fin 8) (qp : Nat) (psn : BitVec 24) (addr : Nat) (key : BitVec 32) (bytes : List Byte) (s : State) :
    Host.Outcome State Fault Refusal :=
  .next (
    match (s.qp l.val qp).filter (fun x => s.rdmaOpen l.val && x.state == 1) with
    | none => s
    | some x =>
      let ahead := (psn.toNat + 2 ^ 24 - x.rxPsn) % 2 ^ 24
      if 2 ^ 23 ≤ ahead then s.toPeer l.val x frAck (bytesBE 3 psn.toNat)
      else if ahead ≠ 0 then s.toPeer l.val x frNakSequence (bytesBE 3 x.rxPsn)
      else if s.get ldRdmaRate_rdmaRate l.val = 0 then s.toPeer l.val x frNakRate (bytesBE 3 psn.toNat)
      else match s.writeArea x addr key bytes.length with
      | none =>
        ((s.setQp l.val qp { x with state := 2 }).ldEv ldEvent_rdmaNak l.val).toPeer l.val x frNakAccess (bytesBE 3 psn.toNat)
      | some a =>
        let s := s.stageBytes x.staging a (addr - a.base) bytes
        let n := packets x.mtu bytes.length
        (s.setQp l.val qp { x with rxPsn := psnAdd x.rxPsn n }).toPeer l.val x frAck (bytesBE 3 (psnAdd psn.toNat (n - 1))))

/-- The golden image that a connection serves (R384): a remote one whose staging id the peer named. -/
def State.goldenOf (s : State) (x : Qp) : Option Golden :=
  (s.goldens.find? (fun g => g.2.source = 1 ∧ g.2.staging = x.staging)).map (fun g => g.2)

/-- Ask a peer for a range of the remote image. -/
def State.sendRead (s : State) (l : Nat) (x : Qp) (g : Golden) (r : Nat × Nat × Nat) : State :=
  s.toPeer l x frRead (bytesBE 3 r.1 ++ bytesBE 8 (g.addr + r.2.1) ++ bytesBE 4 g.key.toNat ++ bytesBE 4 r.2.2)

/-- GOLDEN_FETCH_READ (R383, R384): up to 16 READs are outstanding; an rdma_rate of 0 stops new ones. -/
def execGoldenFetchRead (l : Fin 8) (qp : Nat) (offset len : Nat) (s : State) : Host.Outcome State Fault Refusal :=
  .next (
    match (s.qp l.val qp).filter (fun x => s.rdmaOpen l.val && x.state == 1) with
    | none => s
    | some x =>
      match s.goldenOf x, tblFind s.stagings x.staging with
      | some g, some a =>
        if 16 ≤ x.reads.length ∨ s.get ldRdmaRate_rdmaRate l.val = 0 ∨ len = 0 ∨ a.length < offset + len then s else
        let r := (x.txPsn, offset, len)
        (s.setQp l.val qp { x with reads := x.reads ++ [r], txPsn := psnAdd x.txPsn (packets x.mtu len) }).sendRead l.val x g r
      | _, _ => s)

/-- RDMA_READ_RESPONSE (R383): bytes of the oldest READ, in order, land in the area; others are dropped and come again with the READ. -/
def execRdmaReadResponse (l : Fin 8) (qp : Nat) (psn : BitVec 24) (bytes : List Byte) (s : State) : Host.Outcome State Fault Refusal :=
  .next (
    match (s.qp l.val qp).filter (fun x => s.rdmaOpen l.val && x.state == 1) with
    | none => s
    | some x =>
      match x.reads, tblFind s.stagings x.staging with
      | r :: rest, some a =>
        let n := bytes.length
        if psn.toNat ≠ r.1 ∨ n = 0 ∨ r.2.2 < n then s else
        let reads := if n = r.2.2 then rest else (psnAdd r.1 (packets x.mtu n), r.2.1 + n, r.2.2 - n) :: rest
        (s.stageBytes x.staging a r.2.1 bytes).setQp l.val qp { x with reads := reads, tries := 0 }
      | _, _ => s)

/-- CNP (R383). -/
def execCnpArrive (l : Fin 8) (qp : Nat) (s : State) : Host.Outcome State Fault Refusal :=
  .next (
    match (s.qp l.val qp).filter (fun _ => s.rdmaOpen l.val) with
    | some x => s.setQp l.val qp { x with halved := x.halved + 1 }
    | none => s)

/-- CNP_RATE_RECOVERY (R383): the rate doubles back. -/
def execCnpRateRecovery (l : Fin 8) (qp : Nat) (s : State) : Host.Outcome State Fault Refusal :=
  .next (
    match s.qp l.val qp with
    | some x => s.setQp l.val qp { x with halved := x.halved - 1 }
    | none => s)

/-- RDMA_ACK_TIMEOUT (R383): every outstanding READ is sent again, seven times at most; then the queue pair enters the error state. -/
def execRdmaAckTimeout (l : Fin 8) (qp : Nat) (s : State) : Host.Outcome State Fault Refusal :=
  .next (
    match (s.qp l.val qp).filter (fun x => x.state == 1 && !x.reads.isEmpty) with
    | none => s
    | some x =>
      if 7 ≤ x.tries then s.setQp l.val qp { x with state := 2, reads := [] } else
      let s := s.setQp l.val qp { x with tries := x.tries + 1 }
      match s.goldenOf x with
      | some g => s.each x.reads (fun s r => s.sendRead l.val x g r)
      | none => s)

end Sys2Proof.Machine
end

