-- ==== Sys2Proof/Machine/RegisterWrite.lean ====
section
/-! DEFINITION. The write of a register that has no row of its own (R8, R9, R319, R324, R325, R338). -/

namespace Sys2Proof.Machine

/-- REGISTER_WRITE: host software reaches BAR0 and the Command register alone, firmware and stump code the Forester address space (R56, R281,
R319, R324). (DEDUCED: log 143.) -/
def execRegisterWrite (w : RegWrite) (s : State) : Host.Outcome State Fault Refusal :=
  match w.target with
  | .forester addr =>
    if w.by_ = .host ∨ s.service = .off then .next s
    else s.writeForester addr.toNat w.nbytes w.data.toNat w.hwSets.toNat (decide (w.by_ = .stump))
  | .pciCommand f => if w.by_ = .host then .next (s.writeCommand f w.data.toNat) else .next s
  | .bar0 f off => if w.by_ = .host then s.writeBar0 f off.toNat w.nbytes w.data.toNat w.hwSets.toNat else .next s

end Sys2Proof.Machine
end

