-- ==== Sys2Proof/Machine/Sequences.lean ====
section
/-! DEFINITION. Sequences between their steps: layer-0 entry, mapping, page waits, page moves, suspension and resumption
(R256, R262, R265, R299, R307, R308). -/

namespace Sys2Proof.Machine

/-- LAYER0_ENTRY (R262, R395): the command names the re-entry counter that holds the step's layer-0 descriptors. (DEDUCED: log 133.) -/
def execLayer0Entry (i : Fin 32768) (g : GroveId) (ctr : Fin 64) (s : State) : Host.Outcome State Fault Refusal :=
  .next (s.enterLayer0 i.val g ctr.val)

/-- MAP_AHEAD (R262): the pages of the next step and those ahead are mapped; when the step then lacks a page, the sequence enters a page
wait. An entry in OPENING may become ready. -/
def execMapAhead (i : Fin 32768) (s : State) : Host.Outcome State Fault Refusal :=
  .next (
    let x := s.seq i.val
    if x.entry.partner then s else
    match s.nextStep i.val with
    | none => s
    | some f =>
      let a := s.mapFor i.val f
      if x.entry.state = seqOpening then a.1.tryPrefill i.val
      else if a.2 then a.1 else a.1.enterPageWait i.val)

/-- PAGE_WAIT_RESUME (R262): once the pages of the step can be mapped, for the sapling as for the target, the sequence resumes. -/
def execPageWaitResume (i : Fin 32768) (s : State) : Host.Outcome State Fault Refusal :=
  .next (
    let x := s.seq i.val
    if x.entry.state ≠ seqSuspended ∨ x.cause ≠ some .pageWait ∨ x.entry.partner then s else
    let a := (s.together i.val).foldl (fun (a : State × Bool) j =>
      match a.1.stepFor j (a.1.seq j).entry.resumePrefill with
      | none => a
      | some f => let b := a.1.mapFor j f; (b.1, a.2 && b.2)) (s, true)
    if a.2 then a.1.resumeTogether i.val else a.1)

/-- PAGE_WAIT_TIMEOUT (R299): the class's page_wait_limit has passed; the sequence is felled with KV_EXHAUSTED. -/
def execPageWaitTimeout (i : Fin 32768) (s : State) : Host.Outcome State Fault Refusal :=
  .next (
    let x := s.seq i.val
    if x.entry.state ≠ seqSuspended ∨ x.cause ≠ some .pageWait ∨ x.entry.partner then s else
    (s.sqEv sqEvent_kvExhausted (seqLanding i.val)).endSeq ((s.targetOf i.val).getD i.val) 0x0400 0 false)

/-- The first position beyond those that a region page covers: it starts in the next page. 0 for the region head. -/
def pageEnd (ls : List LayerRec) (maxLen page : Nat) : Nat :=
  if page = 0 then 0 else
  let l := layerOfPage ls maxLen page
  let k := sectionStart ls maxLen l false
  let v := sectionStart ls maxLen l true
  let off := if v ≤ page then page - v else page - k
  min maxLen (ceilDiv ((off + 1) * 65536) (rowBytes (ls.getD l ⟨0, 0, 0, 0, 0, 0, 0, 0, [], []⟩)))

/-- Bytes of a region page. -/
def pageBytes : Nat := 65536

/-- PAGE_MOVE (R265 steps 1 to 3): a page of a K or V section whose positions are all below length, or any such page of a suspended
sequence, is copied to the other kind of place, its entry is rewritten, and the control word of R197 goes out. (DEDUCED: log 141.) -/
def execPageMove (i : Fin 32768) (page : Nat) (toDeck : Bool) (s : State) : Host.Outcome State Fault Refusal :=
  .next (
    let x := s.seq i.val
    let e := x.entry
    let ls := s.layers e.imageTag
    let old := s.pageEntry i.val page
    if e.state = seqClosed ∨ e.state = seqFelling ∨ page = 0 ∨ s.regionPages i.val ≤ page ∨ (tblFind x.freeing page).isSome
      ∨ ¬ (e.state = seqSuspended ∨ pageEnd ls e.maxLen page ≤ e.length) ∨ bits old 30 2 ≠ (if toDeck then 1 else 2) then s else
    let dest : Option (Nat × State) :=
      if toDeck then (s.takeDeckPage e.imageTag (layerOfPage ls e.maxLen page)).map (fun d =>
        (2 * 2 ^ 30 + d.1 * 2 ^ 12 + d.2.1 * 2 ^ 8 + d.2.2, { s with usedDeckPages := s.usedDeckPages ++ [d] }))
      else ((upTo 8).findSome? (fun k => s.lowestFree ((i.val + page + k) % 8))).map (fun p =>
        (2 ^ 30 + p, { s with usedPages := s.usedPages ++ [p] }))
    match dest with
    | none => s
    | some (new, s) =>
      match s.placeOf old, s.placeOf new with
      | some a, some b =>
        let s := (s.placeWrite b 0 (s.placeRead a 0 pageBytes)).setPageEntry i.val page new
        let s := s.modSeq i.val (fun x => { x with freeing := tblSet x.freeing page old })
        let w : HrWord := ⟨4, s.foresterSource, 0, s.road.frame, s.road.slot, true, BitVec.ofNat 448 i.val⟩
        let s := { s with road := { s.road with forester := s.road.forester ++ [w] } }
        s.sqEv sqEvent_pageMoved (seqLanding i.val)
      | _, _ => s)

/-- PAGE_FREE (R265 step 4): the old page is freed once no grove holds a translation to it. -/
def execPageFree (i : Fin 32768) (page : Nat) (s : State) : Host.Outcome State Fault Refusal :=
  .next (
    match tblFind (s.seq i.val).freeing page with
    | none => s
    | some old =>
      if s.groves.any (fun g => g.2.xlate.any (fun t => t.1 == i.val && t.2.1 == page && t.2.2.toNat == old)) then s else
      (s.freeEntry old).modSeq i.val (fun x => { x with freeing := tblErase x.freeing page }))

/-- RESUME (R307): the first suspended sequence in order resumes when the load check holds for every open sequence of higher priority. -/
def execResumeSequence (i : Fin 32768) (s : State) : Host.Outcome State Fault Refusal :=
  .next (
    if (s.resumeOrder (s.seq i.val).entry.imageTag).head? = some i.val ∧ s.resumeFits i.val then s.resumeTogether i.val else s)

/-- SUSPEND_LIMIT (R308): a sequence suspended by preemption resumes whatever the load, and is protected for one suspend_limit. -/
def execSuspendLimit (i : Fin 32768) (s : State) : Host.Outcome State Fault Refusal :=
  .next (
    let x := s.seq i.val
    if x.entry.state ≠ seqSuspended ∨ x.cause ≠ some .preempted ∨ x.entry.partner ∨ (s.targetOf i.val).isSome then s else
    let s := s.resumeTogether i.val
    s.each (s.together i.val) (fun s j => s.modSeq j (fun x => { x with
      protected_ := s.tally + 1000000 * (s.classRec x.entry.cls).suspendLimit })))

/-- SUSPENSION_LAND (R256): at a step boundary a sequence that was asked to suspend does. -/
def execSuspensionLand (i : Fin 32768) (s : State) : Host.Outcome State Fault Refusal :=
  .next (
    let x := s.seq i.val
    match x.asked with
    | some c => if x.inFlight.isSome then s else s.suspendNow i.val c
    | none => s)

end Sys2Proof.Machine
end

