-- ==== Sys2Proof/Machine/Tiles.lean ====
section
/-! DEFINITION. Tile dispatch: shadow slots, forward MVMs and reverse reads through the dispatch table, mirrors and the digital
path, and the calibration slot (R65 to R85, R92, R171 to R173). -/

namespace Sys2Proof.Machine

/-! ## One vector on one tier -/

/-- A reading that an MVM uses: its signed plane weight, the driven rows (columns for a reverse read), and the deviations of its
codes from the exact readings. -/
structure UsedRead where
  plane : Int
  lines : List Nat
  errs  : ReadErrs
deriving DecidableEq, Repr

/-- The readings of one input block, with its exponent; none where two blocks of one overdrive row group differ in it. -/
structure BlockReads where
  x     : Option Int
  reads : List UsedRead
deriving DecidableEq, Repr

/-- The lines whose bit of plane `p` is set, counted from `first`. -/
def setLines (first w p : Nat) (q : List Int) : List Nat :=
  (q.zipIdx.filter (fun e => planeBit w e.1 p)).map (fun e => first + e.2)

/-- The errors of a vector's read. -/
def errsOf (env : MvmEnv) (v group plane attempt : Nat) : List ReadError :=
  env.errors.filter (fun e => e.vector = v ∧ e.group = group ∧ e.plane = plane ∧ e.attempt = attempt)

/-- Nothing has gone wrong yet. -/
def ladderStart : LadderLog := ⟨0, 0, 0, 0, false, none⟩

/-- The planes of one block through the ladder, or read once without a check (R71, R74). -/
def runBlock (x : Tier) (l : Latch) (w : Nat) (check : Bool) (env : MvmEnv) (v g : Nat) (b : XiBlock) (z : LadderLog) :
    BlockReads × LadderLog :=
  (upTo w).foldl (fun (a : BlockReads × LadderLog) p =>
    if a.2.err.isSome then a else
    let rows := setLines (g * l.group) w p b.q
    let read (n : Nat) : ReadErrs := readErrs x l rows (errsOf env v g p n)
    let r := if check then ladderStep x l rows g p (read 0) (read 1) (read 2) a.2 else (read 0, a.2)
    ({ a.1 with reads := a.1.reads ++ [⟨planeWeight w p, rows, r.1⟩] }, r.2)) (⟨some b.x, []⟩, z)

/-- The blocks of one vector in normal reads. An empty block is skipped; in lockstep mode it is converted and checked, and adds
nothing (R69). -/
def runVector (x : Tier) (l : Latch) (w : Nat) (check lockstep : Bool) (env : MvmEnv) (v : Nat) (bs : List XiBlock) :
    List BlockReads × LadderLog :=
  bs.zipIdx.foldl (fun (a : List BlockReads × LadderLog) b =>
    if a.2.err.isSome ∨ (b.1.empty ∧ !lockstep) then a else
    let r := runBlock x l w check env v b.2 b.1 a.2
    (if b.1.empty then a.1 else a.1 ++ [r.1], r.2)) ([], ladderStart)

/-- The readings of an overdrive group of two blocks: a code weighs 2 units, its low unit bit is lost, and it ends at 1,023 (R70). -/
def runOverdriveGroup (x : Tier) (l : Latch) (w : Nat) (env : MvmEnv) (v g : Nat) (a b : XiBlock) : List BlockReads :=
  if a.empty ∧ b.empty then [] else
  let e := if a.empty then some b.x else if b.empty then some a.x else if a.x = b.x then some a.x else none
  [⟨e, (upTo w).map (fun p =>
    let rows := setLines (2 * g * l.group) w p a.q ++ setLines ((2 * g + 1) * l.group) w p b.q
    let es := readErrs x l rows (errsOf env v g p 0)
    let dev := (upTo 512).map (fun c =>
      let y := x.reading l rows c
      (c, 2 * max 0 (min 1023 ((y / 2 : Nat) + errOf es c)) - (y : Int)))
    ⟨planeWeight w p, rows, dev.filter (fun d => d.2 ≠ 0)⟩)⟩]

/-- The groups of one vector in overdrive read. -/
def runOverdrive (x : Tier) (l : Latch) (w : Nat) (env : MvmEnv) (v : Nat) (bs : List XiBlock) : List BlockReads :=
  (upTo (bs.length / 2)).flatMap (fun g =>
    runOverdriveGroup x l w env v g (bs.getD (2 * g) ⟨0, true, []⟩) (bs.getD (2 * g + 1) ⟨0, true, []⟩))

/-- The partial of a block for a data column (R66). -/
def blockPartial (x : Tier) (l : Latch) (b : BlockReads) (c : Nat) : Int :=
  (b.reads.map (fun r => r.plane * ((x.reading l r.lines c : Int) + errOf r.errs c - (l.off * r.lines.length : Nat)))).sum

/-- A partial on the grid of the accumulators (R133): none where it has no defined place there, which no rule of the manual
states (log 52). -/
def placed (floor : Int) (o : Nat) (x : Option Int) (p : Int) : Option Int :=
  if p = 0 then some 0 else
  match x with
  | none => none
  | some x => if 0 ≤ x - floor + o then some (p * 2 ^ (x - floor + o).toNat) else none

/-- What a vector adds to the accumulator of a data column. -/
def columnSum (x : Tier) (l : Latch) (floor : Int) (bs : List BlockReads) (c : Nat) : Option Int :=
  bs.foldl (fun a b => do return (← a) + (← placed floor (l.expOf c) b.x (blockPartial x l b c))) (some 0)

/-! ## One reverse vector (R82 to R84) -/

/-- The exact reading of a row with a set of data columns driven. -/
def Tier.rowReading (x : Tier) (l : Latch) (cols : List Nat) (row : Nat) : Nat := (cols.map (fun c => x.units l row c)).sum

/-- The deviations of a reverse read by row. -/
def rowErrs (x : Tier) (l : Latch) (cols : List Nat) (es : List ReadError) : ReadErrs :=
  es.filterMap (fun e =>
    let y : Int := x.rowReading l cols e.column
    let v := max 0 (min 1023 (y + e.err))
    if v = y ∨ 1024 ≤ e.column then none else some (e.column, v - y))

/-- Does the column-sum check of a reverse read hold? -/
def rowsOk (es : ReadErrs) : Bool := (es.map (fun e => e.2)).sum == 0

/-- One column group and plane of a reverse read: one re-read, and an error at the second mismatch of the MVM (R84). -/
def reverseStep (g p : Nat) (a b : ReadErrs) (z : LadderLog) : ReadErrs × LadderLog :=
  if rowsOk a then (a, z) else
  let z := { z with m := z.m + 1 }
  if z.m = 2 then ([], { z with err := some (g, p, 0) }) else
  let z := { z with reads := z.reads + 1 }
  if rowsOk b then (b, z) else ([], { z with m := z.m + 1, err := some (g, p, 0) })

/-- The blocks of one reverse vector. -/
def runReverse (x : Tier) (l : Latch) (w : Nat) (lockstep : Bool) (env : MvmEnv) (v : Nat) (bs : List XiBlock) :
    List (BlockReads × Nat) × LadderLog :=
  bs.zipIdx.foldl (fun (a : List (BlockReads × Nat) × LadderLog) b =>
    if a.2.err.isSome ∨ (b.1.empty ∧ !lockstep) then a else
    let r := (upTo w).foldl (fun (c : BlockReads × LadderLog) p =>
      if c.2.err.isSome then c else
      let cols := setLines (b.2 * l.group) w p b.1.q
      let read (n : Nat) : ReadErrs := rowErrs x l cols (errsOf env v b.2 p n)
      let q := reverseStep b.2 p (read 0) (read 1) c.2
      ({ c.1 with reads := c.1.reads ++ [⟨planeWeight w p, cols, q.1⟩] }, q.2)) ((⟨some b.1.x, []⟩ : BlockReads), a.2)
    (if b.1.empty then a.1 else a.1 ++ [(r.1, b.2)], r.2)) ([], ladderStart)

/-- What a reverse vector adds to the accumulator of a row; each column group has one exponent offset (R83). -/
def rowSum (x : Tier) (l : Latch) (floor : Int) (bs : List (BlockReads × Nat)) (row : Nat) : Option Int :=
  bs.foldl (fun a b => do
    let p := (b.1.reads.map (fun r =>
      r.plane * ((x.rowReading l r.lines row : Int) + errOf r.errs row - (l.off * r.lines.length : Nat)))).sum
    return (← a) + (← placed floor (l.expOf (b.2 * l.group)) b.1.x p)) (some 0)

/-! ## Descriptor fields of tile dispatch (R171) -/

def mvmEntry (d : Descriptor) : Nat := fieldOf d 128 142
def mvmInput (d : Descriptor) : Nat := fieldOf d 143 160
def mvmGen (d : Descriptor) : Nat := fieldOf d 161 168
def mvmFloor (d : Descriptor) : Int := signed 8 (fieldOf d 177 184)
def mvmAcc (d : Descriptor) : Nat := fieldOf d 185 198
def mvmClear (d : Descriptor) : Bool := bit d.toNat 199
def mvmRead (d : Descriptor) : Nat := fieldOf d 200 201

/-- The floor and the read option that a descriptor runs with: a replay raises the one and can force checked reads (R154, R155). -/
def State.mvmFloorNow (s : State) (g : GroveId) (d : Descriptor) : Int := s.raisedFloor g d (mvmFloor d)
def State.mvmReadNow (s : State) (g : GroveId) (d : Descriptor) : Nat := if s.outputReplay g d then 0 else mvmRead d
def mvmVectors (d : Descriptor) : Nat := fieldOf d 202 205 + 1

/-- Is the descriptor a reverse read? -/
def mvmReverse (d : Descriptor) : Bool := descOp d == 1

/-- Elements of one input vector: 1,024 rows, or 512 data columns. -/
def mvmElems (d : Descriptor) : Nat := if mvmReverse d then 512 else 1024

/-! ## Shadow slots (R173) -/

/-- Armed shadow slots that name an entry land, in slot order. -/
def State.landShadows (s : State) (g : GroveId) (entry : Nat) : State :=
  s.each (upTo 16) (fun s n =>
    if s.getAt gvShadow_arm g.num n = 1 ∧ s.getAt gvShadow_entry g.num n = entry then
      let s := s.setDispatch g entry (BitVec.ofNat 64 (s.getAt gvShadow_value g.num n))
      ((s.putAt gvShadow_arm g.num n 0).putAt gvShadow_applied g.num n 1).gvEv gvEvent_shadowApplied g.num
    else s)

/-! ## An MVM on a tile -/

/-- What a vector adds, by column or row; none where the sum has no defined value. -/
abbrev VecResult := Nat × List (Option Int)

/-- A target's answer: the vectors done, the vectors that ended in a tile error, and whether a tier switch or a load of the
reverse latch preceded them. -/
structure TileRun where
  done   : List VecResult
  failed : List Nat
  extra  : Bool

/-- Add a reading to a column of the output monitor (R106). -/
def MonColumn.take (m : MonColumn) (y : Nat) : MonColumn :=
  { min := if m.count = 0 then y else Nat.min m.min y
    max := if m.count = 0 then y else Nat.max m.max y
    sum := m.sum + y
    count := m.count + 1
    hist := tblSet m.hist (y / 16) (tblGet m.hist (y / 16) 0 + 1) }

/-- The output monitor of a tile's grove records one MVM of the tier it watches (R106). -/
def State.monitorMvm (s : State) (t : TileId) (k : Nat) (x : Tier) (l : Latch) (bs : List BlockReads) : State :=
  let z := s.grove t.groveId
  match z.monitor with
  | none => s
  | some m =>
    if m.tile ≠ t.tile.val ∨ m.logical ≠ k ∨ m.left = 0 then s else
    let cols := (upTo 512).map (fun c =>
      (c, (bs.flatMap (fun b => b.reads)).foldl (fun (mc : MonColumn) r =>
        mc.take ((x.reading l r.lines c : Int) + errOf r.errs c).toNat) (tblGet m.columns c {})))
    s.setGrove t.groveId { z with monitor := some { m with left := m.left - 1, columns := cols } }

/-- MVMs counted for a tile: for the choice of the tier to remap, and toward a forced slice (R105, R113). -/
def State.countMvms (s : State) (t : TileId) (k n : Nat) : State :=
  let y := s.tile t
  s.setTile t { y with
    mvms := tblSet y.mvms k (tblGet y.mvms k 0 + n)
    cruise := match y.cruise with
      | some c => some { c with mvms := c.mvms + n }
      | none => none }

/-- Events, statistics and slips of what the ladder did in one forward MVM (R74, R77). -/
def State.ladderEvents (s : State) (t : TileId) (k : Nat) (z : LadderLog) (owner : Option Nat) : State :=
  let g := t.groveId.num
  let s := s.each (upTo z.m) (fun s _ => s.tlEv tlEvent_checkMismatch g)
  let s := s.each (upTo z.reads) (fun s _ => (s.satUp tlStats_rereads t.num).tlEv tlEvent_reread g)
  let s := s.each (upTo z.fixes) (fun s _ => (s.satUp tlStats_corrections t.num).tlEv tlEvent_corrected g)
  let s := if s.lockstep then s.each (upTo (z.reads - 1)) (fun s _ => s.slip t.stand t.grove.val 1 owner) else s
  if z.sus then s.markSuspect t k else s

/-- A tile error of an MVM: it is reported, and a COPY of the tier in progress is abandoned (R76, R89). -/
def State.mvmError (s : State) (t : TileId) (kind k group plane check : Nat) : State :=
  (s.tileError t kind k group plane check).copyLost t k

/-- The generation of a descriptor meets a tile (R92): it runs (after the armed swap landed, when it names that one), it waits
for the swap to be armed, or it is stale. -/
inductive GenMeet where
  | run (s : State)
  | wait
  | stale

def State.meetGen (s : State) (t : TileId) (gen : Nat) : GenMeet :=
  if s.on tlGen_armedValid t.num ∧ gen = s.get tlGen_armedGen t.num then .run (s.landSwap t)
  else if gen = s.get tlGen_currentGen t.num then .run s
  else match (s.tile t).rotation with
    | some r => if r.kind ≠ .copy ∧ r.gen = gen then .wait else .stale
    | none => .stale

/-- Vectors of a forward MVM on the active tier of a tile. -/
def State.forwardVectors (s : State) (g : GroveId) (q : QItem) (t : TileId) (k : Nat) (vs : List Nat) (env : MvmEnv)
    (switched : Bool) : State × TileRun :=
  let d := q.desc
  let x := s.tier t (s.physOf t k)
  let l := (s.tile t).latch
  let n := 1024 / l.group
  vs.foldl (fun (a : State × TileRun) v =>
    let s := a.1
    let first := s.readBlocks g (mvmInput d) 1 l.group l.wide
    let step := n * xiLines first.2 l.wide
    let b := s.readBlocks g (mvmInput d + v * step) n l.group l.wide
    let w := if b.2 then 8 else 4
    let r := if s.mvmReadNow g d = 1 then (runOverdrive x l w env v b.1, ladderStart)
      else runVector x l w (s.mvmReadNow g d == 0) s.lockstep env v b.1
    let s := s.ladderEvents t k r.2 (descOwner d)
    match r.2.err with
    | some e => (s.mvmError t teMismatch k e.1 e.2.1 e.2.2, { a.2 with failed := a.2.failed ++ [v] })
    | none =>
      let s := (s.monitorMvm t k x l r.1).countMvms t k 1
      (s, { a.2 with done := a.2.done ++ [(v, (upTo 512).map (columnSum x l (s.mvmFloorNow g d) r.1))] })) (s, ⟨[], [], switched⟩)

/-- Vectors of a reverse read on the active tier of a tile (R82 to R84): the first one after an activation loads the column sums. -/
def State.reverseVectors (s : State) (g : GroveId) (q : QItem) (t : TileId) (k : Nat) (vs : List Nat) (env : MvmEnv) :
    State × TileRun :=
  let d := q.desc
  let l := (s.tile t).latch
  if !l.reverseOk then (s.mvmError t teReverseNotAllowed k 0 0 0, ⟨[], vs, false⟩) else
  let x := s.tier t (s.physOf t k)
  let n := 512 / l.group
  let load := !s.on tlTileStatus_reverseLatched t.num
  let s := s.put tlTileStatus_reverseLatched t.num 1
  vs.foldl (fun (a : State × TileRun) v =>
    let s := a.1
    let first := s.readBlocks g (mvmInput d) 1 l.group l.wide
    let b := s.readBlocks g (mvmInput d + v * (n * xiLines first.2 l.wide)) n l.group l.wide
    let w := if b.2 then 8 else 4
    let r := runReverse x l w s.lockstep env v b.1
    let s := s.each (upTo r.2.m) (fun s _ => s.tlEv tlEvent_reverseMismatch t.groveId.num)
    let s := s.each (upTo r.2.reads) (fun s _ => (s.satUp tlStats_rereads t.num).tlEv tlEvent_reread t.groveId.num)
    match r.2.err with
    | some e => (s.mvmError t teReverse k e.1 e.2.1 0, { a.2 with failed := a.2.failed ++ [v] })
    | none =>
      (s.countMvms t k 1,
       { a.2 with done := a.2.done ++ [(v, (upTo 1024).map (rowSum x l (s.mvmFloorNow g d) r.1))] })) (s, ⟨[], [], load⟩)

/-- Vectors of a descriptor on a logical tier of a tile: the generation, the tier switch, then the vectors. None where they wait
for an update to be armed. -/
def State.onTile (s : State) (g : GroveId) (q : QItem) (t : TileId) (k : Nat) (vs : List Nat) (env : MvmEnv) :
    Option (State × TileRun) :=
  match s.meetGen t (mvmGen q.desc) with
  | .wait => none
  | .stale => some (s.mvmError t teGenStale k 0 0 0, ⟨[], vs, false⟩)
  | .run s =>
    let switch := !s.on tlTileStatus_activeValid t.num || s.get tlTileStatus_activeLogical t.num != k
    let a := if switch then s.activate t k env else (s, true)
    if !a.2 then some (a.1.copyLost t k, ⟨[], vs, true⟩)
    else if mvmReverse q.desc then some (a.1.reverseVectors g q t k vs env)
    else some (a.1.forwardVectors g q t k vs env switch)

/-! ## The digital path (R76, R172) -/

/-- The staging-table entry of a dispatch entry: the tier image's HBM address in 256-byte units, 0 for none. -/
def State.stagingEntry (s : State) (g : GroveId) (entry : Nat) : Nat :=
  fromLE (s.hbmRead (256 * s.get gvStagingBase_addr g.num + 8 * entry) 8)

/-- The cells and the latch that a tier image in HBM spells. -/
def State.imageTier (s : State) (at_ : Nat) : Tier × Latch :=
  let bs := s.hbmRead (at_ + 262144) 512
  let l : Latch := {
    expo := BitVec.ofNat 2048 (fromLE (bs.take 256)), codebook := BitVec.ofNat 80 (fromLE ((bs.drop 256).take 10)),
    mode := BitVec.ofNat 8 (fromLE ((bs.drop 266).take 1)) }
  let x : Tier := { rows := (upTo 1024).map (fun r => (r, BitVec.ofNat 2048 (fromLE (s.hbmRead (at_ + 256 * r) 256)))), latch := l }
  (x, l)

/-- The exact results of the digital path for a list of vectors: those of error-free reads (R76). (DEDUCED: log 50.) -/
def State.digitalVectors (s : State) (g : GroveId) (d : Descriptor) (at_ : Nat) (vs : List Nat) : List VecResult :=
  let i := s.imageTier at_
  let l := i.2
  let env : MvmEnv := ⟨0, none, []⟩
  let n := mvmElems d / l.group
  vs.map (fun v =>
    let first := s.readBlocks g (mvmInput d) 1 l.group l.wide
    let b := s.readBlocks g (mvmInput d + v * (n * xiLines first.2 l.wide)) n l.group l.wide
    let w := if b.2 then 8 else 4
    if mvmReverse d then
      (v, (upTo 1024).map (rowSum i.1 l (s.mvmFloorNow g d) (runReverse i.1 l w false env v b.1).1))
    else (v, (upTo 512).map (columnSum i.1 l (s.mvmFloorNow g d) (runVector i.1 l w false false env v b.1).1)))

/-! ## The descriptor as a whole -/

/-- The results of vectors go to the accumulators, from 0 or added (R133, R171); a result without a defined value leaves a free
value there. -/
def State.accumulate (s : State) (g : GroveId) (d : Descriptor) (rs : List VecResult) : State :=
  let width := if mvmReverse d then 1024 else 512
  s.each rs (fun s r => s.each r.2.zipIdx (fun s e =>
    let k := mvmAcc d + width * r.1 + e.2
    match e.1 with
    | some v => if mvmClear d then s.setAcc g k (BitVec.ofInt 88 v) else s.addAcc g k v
    | none => let f := s.free 88; f.2.setAcc g k f.1))

/-- Conversion slots of one vector (R68, R85). -/
def mvmSlots (d : Descriptor) (l : Latch) (xi8 : Bool) : Nat :=
  let w := if xi8 then 8 else 4
  if mvmReverse d then 512 / l.group * w * 16
  else 1024 / l.group * w * 4 / (if mvmRead d = 1 then 2 else 1)

/-- The lockstep budget of an MVM descriptor in 0.1 ns (R234). -/
def mvmBudget (d : Descriptor) (slots : Nat) (extra : Bool) : Nat :=
  if mvmReverse d then (if extra then 24000 else 0) + 687 + mvmVectors d * (69 * slots + 1104)
  else (if extra then 12688 else 0) + 687 + mvmVectors d * (41 * slots + 273 + 115)

/-- Results accumulate, the provenance of the read options is noted, and the descriptor completes. -/
def State.mvmDone (s : State) (g : GroveId) (q : QItem) (rs : List VecResult) (budget : Nat) : State :=
  let s := s.accumulate g q.desc rs
  let s := if mvmReverse q.desc then s else
    match s.mvmReadNow g q.desc with
    | 1 => s.provBits (descOwner q.desc) 1
    | 2 => s.provBits (descOwner q.desc) 2
    | _ => s
  s.complete g q budget

/-- Put an item back at the head of its queue. -/
def State.requeue (s : State) (g : GroveId) (q : QItem) : State :=
  s.setQueue g stDispatch (q :: (s.grove g).queue stDispatch)

/-- The vectors still missing take the digital path; a staging entry of 0 makes the descriptor wait (R172). -/
def State.mvmDigital (s : State) (g : GroveId) (q : QItem) (have_ : List VecResult) (vs : List Nat) (budget : Nat) :
    Host.Outcome State Fault Refusal :=
  if vs.isEmpty then .next (s.mvmDone g q have_ budget) else
  let e := s.stagingEntry g (mvmEntry q.desc)
  if e = 0 then .next (s.requeue g q)
  else if hbmBytes < 256 * e + 262656 then .fault (.hbmAddress (256 * e))
  else .next (s.mvmDone g q (have_ ++ s.digitalVectors g q.desc (256 * e) vs) budget)

/-- The tile that a dispatch entry's fields name. -/
def tileAt (die cluster tile : Nat) : TileId := ⟨Fin.ofNat 42 die, Fin.ofNat 16 cluster, Fin.ofNat 2048 tile⟩

/-- Vectors that failed on the entry's target are reissued to its mirror, and then to the digital path, for which a tier without a
mirror is also loaded again from the golden image (R76, R172). -/
def State.mvmRedirect (s : State) (g : GroveId) (q : QItem) (e : Nat) (t : TileId) (k : Nat) (r : TileRun) (mirror : MvmEnv)
    (budget : Nat) : Host.Outcome State Fault Refusal :=
  if r.failed.isEmpty then .next (s.mvmDone g q r.done budget) else
  let s := s.gvEv gvEvent_redirect g.num
  if bit e 35 ∧ bits e 29 6 < 42 then
    let m := tileAt (bits e 29 6) (bits e 25 4) (bits e 14 11)
    match s.onTile g q m (bits e 10 4) r.failed mirror with
    | some (s, a) =>
      if a.failed.isEmpty then .next (s.mvmDone g q (r.done ++ a.done) budget)
      else (s.gvEv gvEvent_redirect g.num).mvmDigital g q (r.done ++ a.done) a.failed budget
    | none => s.mvmDigital g q r.done r.failed budget
  else (s.askGolden t k).mvmDigital g q r.done r.failed budget

/-- Tile dispatch runs an MVM descriptor (R171, R172): armed shadow slots land, the entry is checked, and its target runs the
vectors. -/
def State.runMvm (s : State) (g : GroveId) (q : QItem) (env mirror : MvmEnv) : Host.Outcome State Fault Refusal :=
  let d := q.desc
  let s := s.landShadows g (mvmEntry d)
  let e := (s.dispatchEntry g (mvmEntry d)).toNat
  let all := upTo (mvmVectors d)
  if !bit e 63 || bits e 61 2 == 3 || decide (42 ≤ bits e 55 6) || (mvmRead d != 0 && (s.lockstep || s.exact)) then
    .next (s.descError g q)
  else
    let t := if bits e 61 2 = 0 then (⟨g.stand, g.grove, Fin.ofNat 2048 (bits e 40 11)⟩ : TileId)
      else tileAt (bits e 55 6) (bits e 51 4) (bits e 40 11)
    let k := bits e 36 4
    let l := if bits e 61 2 = 2 then (s.imageTier (256 * s.stagingEntry g (mvmEntry d))).2
      else (s.tier t (s.physOf t k)).latch
    let xi8 := (s.readBlocks g (mvmInput d) 1 l.group l.wide).2
    if !linesIn (mvmInput d) (mvmVectors d * (mvmElems d / l.group) * xiLines xi8 l.wide) then .next (s.descError g q)
    else if bits e 61 2 = 2 then s.mvmDigital g q [] all (mvmBudget d (mvmSlots d l xi8) false)
    else if !s.groveOn t.groveId then .next (s.requeue g q)
    else match s.onTile g q t k all env with
      | none => .next (s.requeue g q)
      | some (s, r) => s.mvmRedirect g q e t k r mirror (mvmBudget d (mvmSlots d l xi8) r.extra)

/-! ## The commands -/

/-- FORWARD_MVM (R171): `env` is what the entry's target meets, `mirror` what its mirror meets if the MVM goes there.
(DEDUCED: log 128.) -/
def execForwardMvm (g : GroveId) (env mirror : MvmEnv) (s : State) : Host.Outcome State Fault Refusal :=
  s.runStageO g stDispatch 0 costTile (fun q s => s.runMvm g q env mirror)

/-- REVERSE_READ (R82). -/
def execReverseRead (g : GroveId) (env mirror : MvmEnv) (s : State) : Host.Outcome State Fault Refusal :=
  s.runStageO g stDispatch 1 costReverse (fun q s => s.runMvm g q env mirror)

/-- CALIBRATION_SLOT (R81): between MVMs, on the active tier. -/
def execCalibrationSlot (t : TileId) (trim : BitVec 16) (s : State) : Host.Outcome State Fault Refusal :=
  .next (if s.groveOn t.groveId && s.on tlTileStatus_activeValid t.num then s.calibrate t trim else s)

end Sys2Proof.Machine
end

