-- ==== Sys2Proof/Machine/Twin.lean ====
section
/-! DEFINITION. The twin link: heartbeats, mirror records, the twin barrier, pairing, moves, and port state (R388 to R407, R474). -/

namespace Sys2Proof.Machine

/-! ## Heartbeats (R392, R393, R399, R403, R472) -/

/-- The injection of a twin port meets the next frame of a direction (R474): whether it acts, and the state with inject_active and its progress. -/
def State.twinInject (s : State) (port dir : Nat) : Bool × State :=
  let l := twinLanding port
  if s.get twFaultInj_mode l = 0 ∨ s.get twFaultInj_dir l ≠ dir ∨ s.service ≠ .test then (false, s) else
  let v := s.get twFaultInj_value l
  let x := tblGet s.twin.injects port {}
  let keep (y : TwinInject) : State := { s with twin := { s.twin with injects := tblSet s.twin.injects port y } }
  if s.on twFaultInj_byRate l then
    let t := keep { x with seen := x.seen + 1 }
    if (x.seen + 1) % 2 ^ (v % 256) = 0 then (true, t.twEv twEvent_injectActive l) else (false, t)
  else if v ≤ x.acted then (false, s.put twFaultInj_mode l 0)
  else
    let t := (keep { x with acted := x.acted + 1 }).twEv twEvent_injectActive l
    (true, if x.acted + 1 = v then t.put twFaultInj_mode l 0 else t)

/-- A twin port goes down (R390). -/
def State.twinDown (s : State) (port : Nat) : State :=
  let l := twinLanding port
  if !s.on twPortStatus_linkUp l then s else
  (((s.put twPortStatus_linkUp l 0).put twPortStatus_fecLocked l 0).put twPortStatus_heartbeatOk l 0).twEv twEvent_linkDown l

/-- The count of arriving frames of a twin port that have failed in a row. -/
def State.setTwinFails (s : State) (port n : Nat) : State :=
  let x := tblGet s.twin.injects port {}
  { s with twin := { s.twin with injects := tblSet s.twin.injects port { x with fails := n } } }

/-- A frame arrives at a twin port behind an injection of dir 1 (R474, R475): one that it drops, corrupts or swaps fails as R34 says, and
eight in a row take the port down (R390). Answers whether the frame is good. -/
def State.twinReceive (s : State) (port : Nat) : Bool × State :=
  let a := s.twinInject port 1
  let l := twinLanding port
  let k := (tblGet a.2.twin.injects port {}).fails
  if !a.1 then (true, if k = 0 then a.2 else (a.2.setTwinFails port 0).put twPortStatus_retryActive l 0) else
  let n := k + 1
  let t := ((a.2.twEv twEvent_crcError l).satUp twErrors_crcCount l).put twPortStatus_retryActive l 1
  (false, if 8 ≤ n then (t.setTwinFails port 0).twinDown port else t.setTwinFails port n)

/-- HEARTBEAT_SEND (R392, R393): on every twin port that is up, with the tallies of the last heartbeat received. A frame that an injection of
dir 0 meets reaches the partner by its resend, which retry_count counts (R34, R390; log 122). -/
def execHeartbeatSend (s : State) : Host.Outcome State Fault Refusal :=
  .next (
    if s.pairState < 2 then s else
    let b := s.twin.lastBeat.getD (0, 0)
    let body := bytesLE 8 s.tally ++ bytesLE 8 b.1 ++ bytesLE 8 b.2 ++ bytesLE 1 s.service.code ++ bytesLE 1 s.pairState
    s.each s.twinUp (fun s p =>
      let a := s.twinInject p 0
      (if a.1 then a.2.satUp twErrors_retryCount (twinLanding p) else a.2).emit (.twin p twBeat 0 0 body)))

/-- The heartbeat period and the silence that declares the partner lost, in µs (TW_CTRL). -/
def State.hbInterval (s : State) : Nat := max 1 (s.get twCtrl_hbInterval 0)
def State.hbTimeout (s : State) : Nat := max (4 * s.hbInterval) (s.get twCtrl_hbTimeout 0)

/-- The partner's tally minus the own one, from a heartbeat and the echo of an own one, as PTP computes it (R392). -/
def beatOffset (hb : Heartbeat) : Int :=
  (((hb.send.toNat : Int) - hb.receipt.toNat) + ((hb.echoRecv.toNat : Int) - hb.echoSend.toNat)) / 2

/-- HEARTBEAT (R392, R393, R403, R472): the offset and heartbeat_ok; a partner in TEST makes the pair sole and mirrors nothing, until it
leaves TEST; a heartbeat after a declared loss is a reunion. -/
def execHeartbeatArrive (port : Fin 2) (hb : Heartbeat) (s : State) : Host.Outcome State Fault Refusal :=
  .next (
    let l := twinLanding port.val
    let st := s.pairState
    if !s.on twPortStatus_linkUp l || st < 2 then s else
    let a := s.twinReceive port.val
    if !a.1 then a.2 else
    let s := a.2
    let recv := hb.receipt.toNat
    let gap := match tblFind s.twin.beatAt port.val with
      | some t => (recv - t) / (1000 * s.hbInterval) - 1
      | none => 0
    let s := { s with twin := { s.twin with
      lastBeat := some (hb.send.toNat, recv), beatAt := tblSet s.twin.beatAt port.val recv, missed := s.twin.missed + gap } }
    let s := s.put twPortStatus_heartbeatOk l 1
    let s := if hb.echoSend = 0 then s else s.put twOffset_offset 0 (unsigned 64 (beatOffset hb))
    let partnerTest := hb.state == Service.test.code
    if partnerTest && (st == 2 || st == 4) then
      ({ (s.endReplace stBadState).unmirror with twin := { (s.endReplace stBadState).twin with peerTest := true } }).toSole
    else if !partnerTest && s.twin.peerTest then
      (({ s with twin := { s.twin with peerTest := false } }.put twPairStatus_state 0 2).resync).follow
    else if st = 3 ∧ !s.twin.peerTest then (s.twEv twEvent_reunionSeen l).reunite (hb.pair = 3)
    else s)

/-- PARTNER_LOST (R399). -/
def execPartnerLost (s : State) : Host.Outcome State Fault Refusal :=
  .next (if s.pairState = 2 ∨ s.pairState = 4 then s.losePartner else s)

/-- HB_PORT_LOST (R393): the pair goes on with the other port. -/
def execHbPortLost (port : Fin 2) (s : State) : Host.Outcome State Fault Refusal :=
  .next (
    let l := twinLanding port.val
    let other := twinLanding (1 - port.val)
    if (s.pairState = 2 ∨ s.pairState = 4) ∧ s.on twPortStatus_heartbeatOk l ∧ s.on twPortStatus_heartbeatOk other then
      (s.put twPortStatus_heartbeatOk l 0).twEv twEvent_hbPortLost l
    else s)

/-! ## Mirror records (R394, R398) -/

/-- The partner entry of an origin handle. -/
def State.mirrorOf (s : State) (h : BitVec 32) : Option Nat :=
  s.openSeqs.find? (fun i => (s.seq i).entry.partner && (s.seq i).partnerHandle == h)

/-- MIRROR_OPEN (R394): a partner-flagged entry, with a handle of this module's own, whose pages are mapped in HBM; a second OPEN of the same
handle replaces the first (R405 step 5). Where no image has the tag or no entry is free, nothing opens. (DEDUCED: log 167.) -/
def execMirrorOpen (m : MirrorOpen) (s : State) : Host.Outcome State Fault Refusal :=
  .next (
    if !s.mirrors || (s.image m.tag).isNone || m.entry.partner then s else
    let s := match s.mirrorOf m.handle with
      | some i => s.closeEntry i
      | none => s
    match s.openable 0 1 with
    | [] => s
    | i :: _ =>
      let old := (s.seq i).entry
      let ls := s.layers m.tag
      let units := unitsFor ls m.entry.maxLen
      match s.unitsAt units with
      | none => s
      | some base =>
        let raw := m.entry.saplingSeq
        let sapling := (s.openSeqs.find? (fun j => (s.seq j).entry.partner && (s.seq j).partnerHandle.toNat % 65536 == raw)).getD i
        let e := { m.entry with
          state := seqClosed, partner := true, deckKv := false, imageTag := m.tag, gen := old.gen + 1, pageList := 4096 * base
          pagesMapped := 0, saplingSeq := if m.entry.specMode = 0 then 0 else sapling }
        let s := { s with usedUnits := s.usedUnits ++ [(base, units)] }
        let s := s.setSeq i { entry := e, landing := m.port.val, addr := m.addr, udp := m.udp, source := m.source, reqTag := m.reqTag
                              partnerHandle := m.handle, originSapling := raw }
        let s := s.hbmWrite (4096 * base) (List.replicate (4 * pagesFor ls m.entry.maxLen) 0)
        let s := (s.mapPages i [0]).1
        let s := s.each (upTo ls.length) (fun s l => match s.placeOf (s.pageEntry i 0) with
          | some p => s.placeWrite p (4 * l) (bytesLE 4 0)
          | none => s)
        let s := (s.seqState i m.entry.state).clearFelled i
        s.each (s.openSeqs.filter (fun j => (s.seq j).entry.partner && (s.seq j).entry.specMode != 0
            && (s.seq j).originSapling == m.handle.toNat % 65536)) (fun s j =>
          s.modEntry j (fun x => { x with saplingSeq := i })))

/-- MIRROR_PROMPT (R394): accepted prompt positions. -/
def execMirrorPrompt (m : MirrorPrompt) (s : State) : Host.Outcome State Fault Refusal :=
  .next (
    match s.mirrorOf m.handle with
    | none => s
    | some i =>
      s.modSeq i (fun x => { x with
        tokens := m.tokens.foldl (fun t p => tblSet t p.1 p.2) x.tokens
        targets := m.targets.foldl (fun t p => tblSet t p.1 p.2) x.targets
        embeds := m.embeds.foldl (fun t (p : Nat × Nat × Nat × List Byte) =>
          let old := tblGet t p.1 (p.2.1, [])
          tblSet t p.1 (p.2.1, p.2.2.2.zipIdx.foldl (fun b q => tblSet b (p.2.2.1 + q.2) q.1) old.2)) x.embeds }))

/-- A journal record of the partner's (R246, R248): source 58, the tally in this module's timescale, kind 0x0050 with the partner's kind
and the step. -/
def State.partnerRecord (s : State) (i step : Nat) (r : JournalRec) : State :=
  let t := ((r.tally : Int) - signed 64 (s.get twOffset_offset 0)).toNat
  let n := tblGet s.srcCount 58 0
  let e := (s.seq i).entry
  { s with
    journal := journalPush s.journal (journalSegment 58)
      ⟨t, 0x0050, 58, e.imageTag, e.tenant, i, n, BitVec.ofNat 64 (r.kind + step * 2 ^ 32)⟩
    srcCount := tblSet s.srcCount 58 (n + 1) }

/-- MIRROR_STEP (R394, R400): the rows, the norm records, the last 64 tokens and the entry are written, and an ack returned. The record
carries no provenance (R378), so each token's is free (DESIGN CHOICE: log 149). -/
def execMirrorStep (m : MirrorStep) (s : State) : Host.Outcome State Fault Refusal :=
  .next (
    match s.mirrorOf m.handle with
    | none => s
    | some i =>
      let e := (s.seq i).entry
      let ls := s.layers e.imageTag
      let pages := (m.rows.flatMap (fun r => (rowLines ls e.maxLen r.layer r.isV r.pos).map (fun p => p.1))).eraseDups
      let s := (s.mapPages i pages).1
      let s := s.each m.rows (fun s r => s.setKvRow i r.layer r.isV r.pos r.bytes)
      let s := s.each m.norms (fun s n => match s.placeOf (s.pageEntry i 0) with
        | some p => s.placeWrite p (4 * n.1) (bytesLE 4 n.2.toNat)
        | none => s)
      let s := s.each m.journal (fun s r => s.partnerRecord i m.step r)
      let fr := if m.tokens = [] then (0, s) else let a := s.free (8 * m.tokens.length); (a.1.toNat, a.2)
      let first := m.step + 1 - m.tokens.length
      let s := fr.2.modSeq i (fun x => { x with
        sent := ((x.sent ++ m.tokens.zipIdx.map (fun t => ({ step := first + t.2, token := t.1, prov := BitVec.ofNat 8 (fr.1 / 256 ^ t.2) } : SentToken))).drop
          (x.sent.length + m.tokens.length - 64))
        entry := { m.entry with
          partner := true, deckKv := false, imageTag := x.entry.imageTag, gen := x.entry.gen, pageList := x.entry.pageList
          pagesMapped := x.entry.pagesMapped, saplingSeq := x.entry.saplingSeq } })
      if s.mirrors then s.emit (.twin s.twinPort twAck m.handle m.step []) else s)

/-- MIRROR_STATE (R394): the new state; a close frees the mirror. A suspended mirror resumes as one preempted (DESIGN CHOICE: log 149). -/
def execMirrorState (m : MirrorState) (s : State) : Host.Outcome State Fault Refusal :=
  .next (
    match s.mirrorOf m.handle with
    | none => s
    | some i =>
      if m.state = seqClosed then s.closeEntry i
      else
        let e := (s.seq i).entry
        let s := s.seqState i m.state
        if m.state = seqSuspended then
          s.modSeq i (fun x => { x with cause := some .preempted, suspendAt := s.tally
                                        entry := { x.entry with resumePrefill := decide (e.state = seqPrefill) } })
        else s.modSeq i (fun x => { x with cause := none }))

/-- MIRROR_GEN (R398): the mirrored sequence's variant takes its new generation. -/
def execMirrorGen (m : MirrorGen) (s : State) : Host.Outcome State Fault Refusal :=
  .next (
    match s.mirrorOf m.handle with
    | none => s
    | some i =>
      let tag := (s.seq i).entry.imageTag
      match s.variant tag m.variant with
      | none => s
      | some y => s.setVariant tag m.variant { y with gen := m.gen.toNat, armed := none })

/-- MIRROR_FELL (R310, R394, R407): a takeover that follows ends the sequence FELLED. -/
def execMirrorFell (m : MirrorFell) (s : State) : Host.Outcome State Fault Refusal :=
  .next (
    match s.mirrorOf m.handle with
    | none => s
    | some i => s.modSeq i (fun x => { x with fellSeen := true, endCode := m.reason }))

/-- MIRROR_ACK (R394, R395, R402): the lag of the acknowledged commits; a sequence that waits to move to the partner moves once its last
commit is acknowledged. -/
def execMirrorAck (handle : BitVec 32) (step : Nat) (s : State) : Host.Outcome State Fault Refusal :=
  .next (
    match s.ofHandle handle.toNat with
    | none => s
    | some i =>
      let x := s.seq i
      if !x.mirrored || !s.mirrors then s else
      let done := x.mirrorOut.filter (fun p => decide (p.1 ≤ step))
      if done = [] then s else
      let lag := (done.map (fun p => s.tally - p.2)).foldl max 0
      let s := s.put twMirrorStats_lagMax 0 (min 65535 (max (lag / 1000) (s.get twMirrorStats_lagMax 0)))
      let s := s.put twMirrorStats_acked 0 (s.get twMirrorStats_acked 0 + done.length)
      let s := if 50000 < lag ∧ !x.copying then s.pairEv twEvent_mirrorLate else s
      let s := s.modSeq i (fun x => { x with mirrorOut := x.mirrorOut.filter (fun p => decide (step < p.1)), copying := false })
      let x := s.seq i
      if x.moving && x.inFlight.isNone && x.mirrorOut.isEmpty && s.safe i then s.moveOut i else s)

/-! ## The twin barrier (R404) -/

/-- TWIN_BARRIER_ARRIVAL (R404): the leader counts the arrivals; a module that is being filled arrives when the survivor has. -/
def execTwinBarrierArrival (fromPartner : Bool) (s : State) : Host.Outcome State Fault Refusal :=
  .next (
    if s.pairState = 0 ∨ s.pairState = 3 then s
    else if !fromPartner then s.arriveTwin
    else
      let s := { s with twin := { s.twin with peerHere := true } }
      let s := if s.twin.replacing then s.arriveTwin else s
      s.tryRelease)

/-- TWIN_BARRIER_RELEASE (R404): the follower converts the leader's tally. -/
def execTwinBarrierRelease (releaseTally : BitVec 64) (s : State) : Host.Outcome State Fault Refusal :=
  .next (
    if s.on twPairStatus_leader 0 || !s.twin.ownHere then s
    else s.released ((releaseTally.toNat : Int) - signed 64 (s.get twOffset_offset 0)).toNat)

/-- TWIN_BARRIER_FAIL (R404): the command that needed the barrier fails. -/
def execTwinBarrierFail (s : State) : Host.Outcome State Fault Refusal :=
  .next (
    if !s.twin.ownHere then s else
    let st := s.pairState
    let wasSole := s.twin.wasSole
    let s := (s.pairEv twEvent_barrierFail).endReplace stBadState
    if st = 1 then (s.put twPairStatus_state 0 (if wasSole then 3 else 0)).follow
    else if st = 4 then s.toSole
    else s)

/-! ## Pairing and moves (R391, R402) -/

/-- PAIR_CONTROL (R391, R396, R405): the partner's serial, images and mirror pool. It completes pairing, or with start_in_step leads to a
twin barrier; during a replacement it tells when the new partner has every image. -/
def execPairControl (m : PairControl) (s : State) : Host.Outcome State Fault Refusal :=
  .next (
    let st := s.pairState
    if st = 0 ∨ st = 3 ∨ m.serial.toNat ≠ s.get twPartnerId_serial 0 then s else
    let s := { s with twin := { s.twin with partner := some m } }
    let s := s.put twPairStatus_leader 0 (b2n (decide (Config.serial.toNat < m.serial.toNat)))
    if st = 1 then (if s.twin.inStep then s.arriveTwin else s.pairDone false)
    else
      let s := s.resync
      if st = 4 ∧ s.images.all (fun p => (s.partnerTag p.1).isSome) then s.arriveTwin else s)

/-- MOVE (R402): the partner hands a sequence over, which runs on from its last commit without a dup. -/
def execMoveSequence (handle : BitVec 32) (s : State) : Host.Outcome State Fault Refusal :=
  .next (
    if !s.paired then s else
    match s.mirrorOf handle with
    | none => s
    | some i =>
      let e := (s.seq i).entry
      let s := if e.specMode ≠ 0 ∧ e.saplingSeq ≠ i ∧ (s.seq e.saplingSeq).entry.partner then s.restoreEntry e.saplingSeq false else s
      (s.restoreEntry i false).pairEv twEvent_takeover)

/-! ## Ports (R388, R390, R474) -/

/-- TWIN_PORT_DOWN (R390). -/
def execTwinPortDown (port : Fin 2) (s : State) : Host.Outcome State Fault Refusal :=
  .next (s.twinDown port.val)

/-- A twin port is trained: all 16 lanes carry frames (R388); a pairing exchanges pair control on it (R391). -/
def State.trainTwin (s : State) (port : Nat) : State :=
  let l := twinLanding port
  let s := (s.put twPortStatus_linkUp l 1).put twPortStatus_fecLocked l 1
  if s.pairState = 1 ∧ port ∈ s.twin.ports then s.sendControl else s

/-- TWIN_PORT_TRAINED (R388). -/
def execTwinPortTrained (port : Fin 2) (s : State) : Host.Outcome State Fault Refusal :=
  .next (if s.service = .off then s else s.trainTwin port.val)

/-- TW_FAULT_INJ_WRITE (R408, R474). -/
def execTwFaultInjWrite (port : Fin 2) (v : BitVec 32) (s : State) : Host.Outcome State Fault Refusal :=
  .next (s.writeTwinInject (twinLanding port.val) v.toNat)

end Sys2Proof.Machine
end

