-- ==== Sys2Proof/Machine/TwinCopy.lean ====
section
/-! DEFINITION. The bulk copy of an image into a module that replaces a lost partner (R405 steps 3 and 4). -/

namespace Sys2Proof.Machine

/-- Bytes of the staging window. -/
def windowBytes : Nat := 2 * 2 ^ 30

/-- BULK_COPY (R405): bytes land in the staging window. With an image's last bytes it is loaded under R205; a failure discards it, and the
survivor is told the status (log 94). -/
def execBulkCopy (off : Nat) (bytes : List Byte) (last : Bool) (img : Option ImageFile) (s : State) :
    Host.Outcome State Fault Refusal :=
  .next (
    if (s.pairState ≠ 2 ∧ s.pairState ≠ 4) ∨ windowBytes < off + bytes.length then s else
    let w := s.twin.window.writeN off bytes
    let s : State := { s with twin := { s.twin with window := w, replacing := true } }
    match last, img with
    | true, some x =>
      let s : State := { s with twin := { s.twin with window := [] } }
      match s.loadImage x ⟨none, none, 0, false, w.readN 0 (min x.length windowBytes)⟩ with
      | .failed st d s =>
        let s : State := { s with twin := { s.twin with replacing := false } }
        s.emit (.twin s.twinPort twBulk 0 0 (bytesLE 2 st ++ bytesLE 2 d))
      | .loaded _ _ s => s
    | _, _ => s)

end Sys2Proof.Machine
end

