-- ==== Sys2Proof/Machine/VecOps.lean ====
section
/-! DEFINITION. Lane arithmetic of the feller vector unit: IEEE 754 on bfloat16, binary16 and FP8, exact integers with a free value
where a result does not fit, and reading and writing of the lanes (R128, R185, R188, R189). A code of a lane is a number below 2^16. -/

namespace Sys2Proof.Machine

/-- The floating-point format of a lane type. -/
def floatOf : LaneType → Option FFmt
  | .bf16 => some .bf16 | .fp16 => some .fp16 | .e4m3 => some .e4m3 | .e5m2 => some .e5m2 | _ => none

/-- Bits of a lane of a type. -/
def laneBits : LaneType → Nat
  | .bf16 | .fp16 | .i16 | .u16 => 16
  | _ => 8

/-- The integer of an integer lane. -/
def laneInt (ty : LaneType) (x : Nat) : Int :=
  match ty with
  | .i8 | .i16 => signed (laneBits ty) x
  | _ => Int.ofNat (x % 2 ^ laneBits ty)

/-- The code of an integer; a free value where the type does not hold it (log 66). -/
def intLane (ty : LaneType) (free : Nat) (v : Int) : Nat :=
  let n := unsigned (laneBits ty) v
  if laneInt ty n = v then n else free % 2 ^ laneBits ty

/-! ## IEEE 754 arithmetic (R128) -/

/-- Sum of two decoded values, before rounding: an exact value with the sign of an exact zero, or a special value. -/
def floatSum (f : FFmt) (a b : FVal) : Nat :=
  match a, b with
  | .nan, _ => f.nanCode
  | _, .nan => f.nanCode
  | .inf s, .inf t => if s = t then f.infCode s else f.nanCode
  | .inf s, _ => f.infCode s
  | _, .inf t => f.infCode t
  | .fin s _ _, .fin t _ _ => f.encode (s && t) (a.ex.add b.ex)

/-- The value with its sign changed. -/
def FVal.negate : FVal → FVal
  | .fin s m e => .fin (!s) m e
  | .inf s => .inf (!s)
  | .nan => .nan

/-- The magnitude. -/
def FVal.magnitude : FVal → FVal
  | .fin _ m e => .fin false m e
  | .inf _ => .inf false
  | .nan => .nan

/-- The exact product of two decoded values. -/
def FVal.times : FVal → FVal → FVal
  | .nan, _ => .nan
  | _, .nan => .nan
  | .inf s, .inf t => .inf (s != t)
  | .inf s, .fin t m _ => if m = 0 then .nan else .inf (s != t)
  | .fin s m _, .inf t => if m = 0 then .nan else .inf (s != t)
  | .fin s m e, .fin t n d => .fin (s != t) (m * n) (e + d)

/-- Is a value less than another? Zeros are equal; a NaN is in no order. -/
def FVal.below : FVal → FVal → Bool
  | .nan, _ => false
  | _, .nan => false
  | .inf s, .inf t => s && !t
  | .inf s, _ => s
  | _, .inf t => !t
  | a@(.fin _ _ _), b@(.fin _ _ _) => a.ex.lt b.ex

/-- Are two values equal? -/
def FVal.same : FVal → FVal → Bool
  | .nan, _ => false
  | _, .nan => false
  | .inf s, .inf t => s == t
  | .inf _, _ => false
  | _, .inf _ => false
  | a@(.fin _ _ _), b@(.fin _ _ _) => !a.ex.lt b.ex && !b.ex.lt a.ex

/-- The smaller of two codes, −0 below +0; with one NaN of the two the result is free (log 69). -/
def floatMin (f : FFmt) (free a b : Nat) : Nat :=
  match f.decode a, f.decode b with
  | .nan, .nan => f.nanCode
  | .nan, _ => free % 2 ^ f.width
  | _, .nan => free % 2 ^ f.width
  | x, y => if x.below y then f.ofVal x else if y.below x then f.ofVal y else if x.sign then f.ofVal x else f.ofVal y

/-- The larger of two codes, +0 above −0; with one NaN of the two the result is free (log 69). -/
def floatMax (f : FFmt) (free a b : Nat) : Nat :=
  match f.decode a, f.decode b with
  | .nan, .nan => f.nanCode
  | .nan, _ => free % 2 ^ f.width
  | _, .nan => free % 2 ^ f.width
  | x, y => if x.below y then f.ofVal y else if y.below x then f.ofVal x else if x.sign then f.ofVal y else f.ofVal x

/-! ## Lane operations: the free value of the lane, then the operands -/

/-- An operation by type: on floats, or exactly on integers. -/
def laneOp (fl : FFmt → Nat → Nat → Nat → Nat) (it : Int → Int → Int) (ty : LaneType) (free a b : Nat) : Nat :=
  match floatOf ty with
  | some f => fl f free (a % 2 ^ f.width) (b % 2 ^ f.width)
  | none => intLane ty free (it (laneInt ty a) (laneInt ty b))

def laneAdd : LaneType → Nat → Nat → Nat → Nat := laneOp (fun f _ a b => floatSum f (f.decode a) (f.decode b)) (· + ·)
def laneSub : LaneType → Nat → Nat → Nat → Nat := laneOp (fun f _ a b => floatSum f (f.decode a) (f.decode b).negate) (· - ·)
def laneMul : LaneType → Nat → Nat → Nat → Nat := laneOp (fun f _ a b => f.ofVal ((f.decode a).times (f.decode b))) (· * ·)
def laneMin : LaneType → Nat → Nat → Nat → Nat := laneOp floatMin min
def laneMax : LaneType → Nat → Nat → Nat → Nat := laneOp floatMax max

/-- `a × b + c` with one rounding. -/
def laneFma (ty : LaneType) (free a b c : Nat) : Nat :=
  match floatOf ty with
  | some f =>
    let d (x : Nat) : FVal := f.decode (x % 2 ^ f.width)
    floatSum f ((d a).times (d b)) (d c)
  | none => intLane ty free (laneInt ty a * laneInt ty b + laneInt ty c)

def laneAbs (ty : LaneType) (free a : Nat) : Nat :=
  match floatOf ty with
  | some f => f.ofVal (f.decode (a % 2 ^ f.width)).magnitude
  | none => intLane ty free (laneInt ty a).natAbs

def laneNeg (ty : LaneType) (free a : Nat) : Nat :=
  match floatOf ty with
  | some f => f.ofVal (f.decode (a % 2 ^ f.width)).negate
  | none => intLane ty free (-laneInt ty a)

/-- A comparison by type. -/
def laneCmp (fl : FVal → FVal → Bool) (it : Int → Int → Bool) (ty : LaneType) (a b : Nat) : Bool :=
  match floatOf ty with
  | some f => fl (f.decode (a % 2 ^ f.width)) (f.decode (b % 2 ^ f.width))
  | none => it (laneInt ty a) (laneInt ty b)

def laneEq : LaneType → Nat → Nat → Bool := laneCmp FVal.same (fun a b => decide (a = b))
def laneLt : LaneType → Nat → Nat → Bool := laneCmp FVal.below (fun a b => decide (a < b))
def laneLe : LaneType → Nat → Nat → Bool := laneCmp (fun a b => a.below b || a.same b) (fun a b => decide (a ≤ b))

/-- A shift; by the width or more the result is free (log 66). -/
def laneShift (op : Nat → Nat → Nat → Nat) (ty : LaneType) (free a b : Nat) : Nat :=
  let w := laneBits ty
  if b % 2 ^ w < w then op w (a % 2 ^ w) (b % 2 ^ w) else free % 2 ^ w

def laneShl : LaneType → Nat → Nat → Nat → Nat := laneShift (fun w a n => a * 2 ^ n % 2 ^ w)
def laneShr : LaneType → Nat → Nat → Nat → Nat := laneShift (fun _ a n => a / 2 ^ n)
def laneSra : LaneType → Nat → Nat → Nat → Nat := laneShift (fun w a n => unsigned w (signed w a / 2 ^ n))

/-- Conversion of a lane between types: to floating point as R128 rounds; to an integer to nearest even, free where the type does not
hold it and for NaN and infinity (log 66). -/
def laneConvert (ty dst : LaneType) (free a : Nat) : Nat :=
  match floatOf ty, floatOf dst with
  | some f, some g => g.ofVal (f.decode (a % 2 ^ f.width))
  | some f, none =>
    let v := f.decode (a % 2 ^ f.width)
    if v.finite then intLane dst free (v.ex.roundGrid 0 .nearestEven) else free % 2 ^ laneBits dst
  | none, some g => g.encode false (Ex.ofInt (laneInt ty a))
  | none, none => intLane dst free (laneInt ty a)

/-! ## Lanes of a register -/

/-- Lanes of a vector register (R185). -/
def laneCount : Nat := 512

/-- The 512 lane codes of a register. -/
def lanes (v : VecReg) : List Nat := unpackDigits 16 laneCount v.toNat

/-- The register that holds lane codes. -/
def ofLanes (xs : List Nat) : VecReg := BitVec.ofNat 8192 (packDigits 16 xs)

/-- Write result codes into lanes whose mask bit is 1; an 8-bit result goes to the low byte, and what the high byte then holds is
free (R188; log 70). -/
def mergeLanes (m : MaskReg) (ty : LaneType) (free old new : VecReg) : VecReg :=
  ofLanes (((lanes old).zip ((lanes new).zip (lanes free))).zipIdx.map (fun p =>
    if bit m.toNat p.2 then
      (if laneBits ty = 16 then p.1.2.1 else p.1.2.1 % 256 + p.1.2.2 / 256 * 256)
    else p.1.1))

/-- Run a vector instruction whose lanes compute codes from a free lane value, the lanes of `va` and `vb` and the old lane. -/
def State.vecOp (s : State) (f : FellerId) (vd va vb : Fin 16) (mask : Fin 4) (ty : LaneType) (op : Nat → Nat → Nat → Nat → Nat) : State :=
  s.plainOp f (fun s =>
    let x := s.feller f
    let r := s.free 8192
    let cols := (lanes r.1).zip ((lanes (x.vector va)).zip ((lanes (x.vector vb)).zip (lanes (x.vector vd))))
    let new := ofLanes (cols.map (fun c => op c.1 c.2.1 c.2.2.1 c.2.2.2))
    r.2.setFeller f ((r.2.feller f).setVector vd (mergeLanes (x.mask mask) ty r.1 (x.vector vd) new)))

/-- Run an instruction of op 0x19; on a type that is no integer type it is not listed, an illegal instruction (R187). -/
def State.vecIntOp (s : State) (f : FellerId) (vd va vb : Fin 16) (mask : Fin 4) (ty : LaneType) (op : Nat → Nat → Nat → Nat) : State :=
  if !s.fellerRuns f then s
  else if !ty.isInt then s.fellerFault f 1
  else s.vecOp f vd va vb mask ty (fun r a b _ => op r a b)

/-- Run a vector comparison: result bits into the lanes of a mask register whose mask bit is 1. -/
def State.vecCmp (s : State) (f : FellerId) (md : Fin 4) (va vb : Fin 16) (mask : Fin 4) (op : Nat → Nat → Bool) : State :=
  s.plainOp f (fun s =>
    let x := s.feller f
    let m := (x.mask mask).toNat
    let old := (x.mask md).toNat
    let new := ((lanes (x.vector va)).zip (lanes (x.vector vb))).zipIdx.map (fun p =>
      b2n (if bit m p.2 then op p.1.1 p.1.2 else bit old p.2))
    s.setFeller f (x.setMask md (BitVec.ofNat 512 (packDigits 1 new))))

/-- The lanes of a register that a reduction takes: masked-off ones enter as +0 (R189). (DEDUCED: log 125.) -/
def maskedLanes (m : MaskReg) (v : VecReg) : List Nat := (lanes v).zipIdx.map (fun p => if bit m.toNat p.2 then p.1 else 0)

/-- One level of the fixed tree: lane 2i with lane 2i + 1. -/
def treeLevel (f : FFmt) : List Nat → List Nat
  | a :: b :: r => floatSum f (f.decode a) (f.decode b) :: treeLevel f r
  | r => r

/-- A floating-point sum in the fixed tree over `2^levels` lanes (R189). -/
def treeSum (f : FFmt) : Nat → List Nat → Nat
  | 0, xs => xs.headD 0
  | n + 1, xs => treeSum f n (treeLevel f xs)

/-- Run a reduction into a scalar register: integers exactly into 64 bits, a floating-point code into the low bits with free
bits above them (R189; log 70). -/
def State.reduceOp (s : State) (f : FellerId) (sd : Fin 32) (va : Fin 16) (mask : Fin 4) (ty : LaneType)
    (fl : FFmt → Nat → List Nat → Nat) (it : List Int → Int) : State :=
  s.plainOp f (fun s =>
    let x := s.feller f
    let xs := maskedLanes (x.mask mask) (x.vector va)
    match floatOf ty with
    | none => s.setScalar f sd (BitVec.ofInt 64 (it (xs.map (laneInt ty))))
    | some g =>
      let r := s.free 64
      let v := fl g (r.1.toNat % 2 ^ g.width) (xs.map (fun c => c % 2 ^ g.width))
      r.2.setScalar f sd (BitVec.ofNat 64 (r.1.toNat / 2 ^ g.width * 2 ^ g.width + v)))

/-- An extreme of codes; with NaN and other values among them the result is free (log 69). -/
def floatExtreme (pick : FFmt → Nat → Nat → Nat → Nat) (f : FFmt) (free : Nat) (xs : List Nat) : Nat :=
  let nans := (xs.filter (fun c => decide (f.decode c = .nan))).length
  if nans = 0 then xs.foldl (pick f free) (xs.headD 0) else if nans = xs.length then f.nanCode else free

/-! ## Lines of vld and vst -/

/-- Lines that a vector load or store moves (R188). -/
def vecLines (ty : LaneType) : Nat := laneBits ty

/-- Byte addresses of the lines from `sa` on, with a stride of `sb` lines; with `sb` s0 they follow one another (log 71). -/
def State.lineAddrs (s : State) (f : FellerId) (sa sb : Fin 32) (n : Nat) : List Nat :=
  let step := if sb = 0 then 1#64 else s.scalar f sb
  (upTo n).map (fun k => (s.scalar f sa + 64#64 * BitVec.ofNat 64 k * step).toNat)

/-! ## MX vectors in a register (R126, R187) -/

/-- The 512 bfloat16 codes that an MX vector in a register stands for: NaN for a NaN scale or element, infinity for an E5M2 infinity. -/
def unpackMx (fmt : Nat) (v : VecReg) : List Nat :=
  (mxParse fmt 16 (bytesLE 1024 v.toNat)).flatMap (fun p => p.2.map (fun e =>
    if p.1 = 255 then FFmt.bf16.nanCode else
    match mxElem fmt e with
    | some x => FFmt.bf16.encode (bit e (elemBits fmt - 1) && fmt != 5) (x.mul (Ex.dy 1 (Int.ofNat p.1 - 127)))
    | none => match fmtOf fmt with
      | some g => FFmt.bf16.ofVal (g.decode e)
      | none => FFmt.bf16.nanCode))

/-- The exact value of a lane; none for NaN and infinity. -/
def laneExact (ty : LaneType) (a : Nat) : Option Ex :=
  match floatOf ty with
  | some f => let v := f.decode (a % 2 ^ f.width); if v.finite then some v.ex else none
  | none => some (Ex.ofInt (laneInt ty a))

/-- One block of 32 lanes packed in an MX format (R127); a block with a value that is not finite is free (log 70). -/
def packMxBlock (fmt : Nat) (ty : LaneType) (free : List Nat) (xs : List Nat) : MxBlock :=
  match xs.mapM (laneExact ty) with
  | some vs => mxPack fmt vs (fun _ => .nearestEven)
  | none => ⟨free.headD 0 % 256, (free.map (fun r => r % 2 ^ elemBits fmt)).take 32, false⟩

/-- The register with the MX vector of 512 lanes; what lies above the vector is free (log 70). -/
def packMxReg (fmt : Nat) (ty : LaneType) (free v : VecReg) : VecReg :=
  let blocks := ((chunks 32 16 (lanes v)).zip (chunks 32 16 (lanes free))).map (fun p => packMxBlock fmt ty p.2 p.1)
  let bs := mxLayout fmt blocks
  BitVec.ofNat 8192 (fromLE (bs ++ (bytesLE 1024 free.toNat).drop bs.length))

end Sys2Proof.Machine
end

