-- ==== Sys2Proof/Machine/Vector.lean ====
section
/-! DEFINITION. The vector instructions of the fellers (R187 to R189). -/

namespace Sys2Proof.Machine

/-- VEC_ADD (R188). -/
def execVecAdd (f : FellerId) (vd va vb : Fin 16) (mask : Fin 4) (ty : LaneType) (s : State) :
    Host.Outcome State Fault Refusal :=
  .next (s.vecOp f vd va vb mask ty (fun r a b _ => laneAdd ty r a b))

/-- VEC_SUB (R188). -/
def execVecSub (f : FellerId) (vd va vb : Fin 16) (mask : Fin 4) (ty : LaneType) (s : State) :
    Host.Outcome State Fault Refusal :=
  .next (s.vecOp f vd va vb mask ty (fun r a b _ => laneSub ty r a b))

/-- VEC_MUL (R188). -/
def execVecMul (f : FellerId) (vd va vb : Fin 16) (mask : Fin 4) (ty : LaneType) (s : State) :
    Host.Outcome State Fault Refusal :=
  .next (s.vecOp f vd va vb mask ty (fun r a b _ => laneMul ty r a b))

/-- VEC_FMA (R188): vd = va × vb + vd, rounded once. -/
def execVecFma (f : FellerId) (vd va vb : Fin 16) (mask : Fin 4) (ty : LaneType) (s : State) :
    Host.Outcome State Fault Refusal :=
  .next (s.vecOp f vd va vb mask ty (fun r a b c => laneFma ty r a b c))

/-- VEC_MIN (R188). -/
def execVecMin (f : FellerId) (vd va vb : Fin 16) (mask : Fin 4) (ty : LaneType) (s : State) :
    Host.Outcome State Fault Refusal :=
  .next (s.vecOp f vd va vb mask ty (fun r a b _ => laneMin ty r a b))

/-- VEC_MAX (R188). -/
def execVecMax (f : FellerId) (vd va vb : Fin 16) (mask : Fin 4) (ty : LaneType) (s : State) :
    Host.Outcome State Fault Refusal :=
  .next (s.vecOp f vd va vb mask ty (fun r a b _ => laneMax ty r a b))

/-- VEC_ABS (R188). -/
def execVecAbs (f : FellerId) (vd va : Fin 16) (mask : Fin 4) (ty : LaneType) (s : State) :
    Host.Outcome State Fault Refusal :=
  .next (s.vecOp f vd va va mask ty (fun r a _ _ => laneAbs ty r a))

/-- VEC_NEG (R188). -/
def execVecNeg (f : FellerId) (vd va : Fin 16) (mask : Fin 4) (ty : LaneType) (s : State) :
    Host.Outcome State Fault Refusal :=
  .next (s.vecOp f vd va va mask ty (fun r a _ _ => laneNeg ty r a))

/-- VEC_CMP_EQ (R187, R188). -/
def execVecCmpEq (f : FellerId) (md : Fin 4) (va vb : Fin 16) (mask : Fin 4) (ty : LaneType) (s : State) :
    Host.Outcome State Fault Refusal :=
  .next (s.vecCmp f md va vb mask (laneEq ty))

/-- VEC_CMP_LT (R187, R188). -/
def execVecCmpLt (f : FellerId) (md : Fin 4) (va vb : Fin 16) (mask : Fin 4) (ty : LaneType) (s : State) :
    Host.Outcome State Fault Refusal :=
  .next (s.vecCmp f md va vb mask (laneLt ty))

/-- VEC_CMP_LE (R187, R188). -/
def execVecCmpLe (f : FellerId) (md : Fin 4) (va vb : Fin 16) (mask : Fin 4) (ty : LaneType) (s : State) :
    Host.Outcome State Fault Refusal :=
  .next (s.vecCmp f md va vb mask (laneLe ty))

/-- VEC_SELECT (R187): the mask chooses between the lanes of va and vb, so every lane is written. -/
def execVecSelect (f : FellerId) (vd va vb : Fin 16) (mask : Fin 4) (ty : LaneType) (s : State) :
    Host.Outcome State Fault Refusal :=
  .next (s.plainOp f (fun s =>
    let x := s.feller f
    let r := s.free 8192
    let m := (x.mask mask).toNat
    let new := ofLanes (((lanes (x.vector va)).zip (lanes (x.vector vb))).zipIdx.map (fun p => if bit m p.2 then p.1.1 else p.1.2))
    r.2.setFeller f ((r.2.feller f).setVector vd (mergeLanes (BitVec.allOnes 512) ty r.1 (x.vector vd) new))))

/-- VEC_AND (R187). -/
def execVecAnd (f : FellerId) (vd va vb : Fin 16) (mask : Fin 4) (ty : LaneType) (s : State) :
    Host.Outcome State Fault Refusal :=
  .next (s.vecIntOp f vd va vb mask ty (fun _ a b => a &&& b))

/-- VEC_OR (R187). -/
def execVecOr (f : FellerId) (vd va vb : Fin 16) (mask : Fin 4) (ty : LaneType) (s : State) :
    Host.Outcome State Fault Refusal :=
  .next (s.vecIntOp f vd va vb mask ty (fun _ a b => a ||| b))

/-- VEC_XOR (R187). -/
def execVecXor (f : FellerId) (vd va vb : Fin 16) (mask : Fin 4) (ty : LaneType) (s : State) :
    Host.Outcome State Fault Refusal :=
  .next (s.vecIntOp f vd va vb mask ty (fun _ a b => a ^^^ b))

/-- VEC_SHL (R187). -/
def execVecShl (f : FellerId) (vd va vb : Fin 16) (mask : Fin 4) (ty : LaneType) (s : State) :
    Host.Outcome State Fault Refusal :=
  .next (s.vecIntOp f vd va vb mask ty (laneShl ty))

/-- VEC_SHR (R187). -/
def execVecShr (f : FellerId) (vd va vb : Fin 16) (mask : Fin 4) (ty : LaneType) (s : State) :
    Host.Outcome State Fault Refusal :=
  .next (s.vecIntOp f vd va vb mask ty (laneShr ty))

/-- VEC_SRA (R187). -/
def execVecSra (f : FellerId) (vd va vb : Fin 16) (mask : Fin 4) (ty : LaneType) (s : State) :
    Host.Outcome State Fault Refusal :=
  .next (s.vecIntOp f vd va vb mask ty (laneSra ty))

/-- VEC_SUM (R189): floating point in the fixed tree, integers exactly. -/
def execVecSum (f : FellerId) (sd : Fin 32) (va : Fin 16) (mask : Fin 4) (ty : LaneType) (s : State) :
    Host.Outcome State Fault Refusal :=
  .next (s.reduceOp f sd va mask ty (fun g _ xs => treeSum g 9 xs) List.sum)

/-- VEC_REDUCE_MAX (R189). -/
def execVecReduceMax (f : FellerId) (sd : Fin 32) (va : Fin 16) (mask : Fin 4) (ty : LaneType) (s : State) :
    Host.Outcome State Fault Refusal :=
  .next (s.reduceOp f sd va mask ty (floatExtreme floatMax) (fun xs => xs.foldl max (xs.headD 0)))

/-- VEC_REDUCE_MIN (R189). -/
def execVecReduceMin (f : FellerId) (sd : Fin 32) (va : Fin 16) (mask : Fin 4) (ty : LaneType) (s : State) :
    Host.Outcome State Fault Refusal :=
  .next (s.reduceOp f sd va mask ty (floatExtreme floatMin) (fun xs => xs.foldl min (xs.headD 0)))

/-- VBCAST (R187): the low bits of sd into every lane of va. -/
def execVbcast (f : FellerId) (sd : Fin 32) (va : Fin 16) (mask : Fin 4) (ty : LaneType) (s : State) :
    Host.Outcome State Fault Refusal :=
  .next (s.vecOp f va va va mask ty (fun _ _ _ _ => (s.scalar f sd).toNat % 2 ^ laneBits ty))

/-- VLD (R187, R188): 16 or 8 lines of the home grove's deck, in lane order; what the high bytes of 8-bit lanes hold is free. -/
def execVld (f : FellerId) (vd : Fin 16) (sa sb : Fin 32) (ty : LaneType) (s : State) : Host.Outcome State Fault Refusal :=
  .next (
    if !s.fellerRuns f then s else
    let as := s.lineAddrs f sa sb (vecLines ty)
    if as.any (fun a => decide (deckBytes < a + 64)) then s.fellerFault f 3 else
    let x := s.feller f
    let bs := as.flatMap (fun a => s.deckRead x.home a 64)
    let r := s.free 8192
    let new := ofLanes (unpackDigits (laneBits ty) laneCount (fromLE bs))
    (r.2.setFeller f (x.setVector vd (mergeLanes (BitVec.allOnes 512) ty r.1 (x.vector vd) new))).advance f)

/-- VST (R187, R188). -/
def execVst (f : FellerId) (vd : Fin 16) (sa sb : Fin 32) (ty : LaneType) (s : State) : Host.Outcome State Fault Refusal :=
  .next (
    if !s.fellerRuns f then s else
    let as := s.lineAddrs f sa sb (vecLines ty)
    if as.any (fun a => decide (deckBytes < a + 64)) then s.fellerFault f 3 else
    let v := packDigits (laneBits ty) (lanes ((s.feller f).vector vd))
    let bs := bytesLE (64 * vecLines ty) v
    (s.each (as.zip (chunks 64 (vecLines ty) bs)) (fun s p => s.fellerStore f p.1 p.2)).advance f)

/-- VEC_CONVERT (R128, R187). -/
def execVecConvert (f : FellerId) (vd va : Fin 16) (mask : Fin 4) (ty dst : LaneType) (s : State) :
    Host.Outcome State Fault Refusal :=
  .next (s.vecOp f vd va va mask dst (fun r a _ _ => laneConvert ty dst r a))

/-- VEC_UNPACK_MX (R126, R187). -/
def execVecUnpackMx (f : FellerId) (vd va : Fin 16) (mask : Fin 4) (fmt : Fin 6) (s : State) :
    Host.Outcome State Fault Refusal :=
  .next (s.plainOp f (fun s =>
    let x := s.feller f
    let new := ofLanes (unpackMx fmt.val (x.vector va))
    s.setFeller f (x.setVector vd (mergeLanes (x.mask mask) .bf16 0 (x.vector vd) new))))

/-- VEC_PACK_MX (R126, R127, R187): the lanes of vd are the 16-bit units of the packed vector. -/
def execVecPackMx (f : FellerId) (vd va : Fin 16) (mask : Fin 4) (ty : LaneType) (fmt : Fin 6) (s : State) :
    Host.Outcome State Fault Refusal :=
  .next (s.plainOp f (fun s =>
    let x := s.feller f
    let r := s.free 8192
    let new := packMxReg fmt.val ty r.1 (x.vector va)
    r.2.setFeller f (x.setVector vd (mergeLanes (x.mask mask) .u16 0 (x.vector vd) new))))

end Sys2Proof.Machine
end

