-- ==== Sys2Proof/Machine/Yarder.lean ====
section
/-! DEFINITION. The yarder: copies between HBM and decks, transfers between decks, KV gathers and index gathers (R195, R196). The flits
that carry its HBM traffic are the commands of the landing links (log 59). -/

namespace Sys2Proof.Machine

/-- Lines that a yarder descriptor of ops 0 to 2 moves. -/
def yardLines (d : Descriptor) : Nat := fieldOf d 146 161 + 1

/-- The lockstep budget of lines moved to or from HBM, in 0.1 ns (R234). -/
def hbmBudget (lines : Nat) : Nat := 8000 + 20 * lines

/-- YARDER_HBM_TO_DECK (R195). -/
def execYarderHbmToDeck (g : GroveId) (s : State) : Host.Outcome State Fault Refusal :=
  s.runStageO g stYarder 0 costStage (fun q s =>
    let a := 64 * fieldOf q.desc 162 203
    let n := yardLines q.desc
    if hbmBytes < a + 64 * n then .fault (.hbmAddress a)
    else .next ((s.setLineBytes g (fieldOf q.desc 128 145) (s.hbmRead a (64 * n))).complete g q (hbmBudget n)))

/-- YARDER_DECK_TO_HBM (R195). -/
def execYarderDeckToHbm (g : GroveId) (s : State) : Host.Outcome State Fault Refusal :=
  s.runStageO g stYarder 1 costStage (fun q s =>
    let a := 64 * fieldOf q.desc 162 203
    let n := yardLines q.desc
    if hbmBytes < a + 64 * n then .fault (.hbmAddress a)
    else .next ((s.hbmWrite a (s.lineBytes g (fieldOf q.desc 128 145) (64 * n))).complete g q (hbmBudget n)))

/-- YARDER_DECK_TO_DECK (R193, R195): deck-write flits that add to dst_ctr with the last line. -/
def execYarderDeckToDeck (g : GroveId) (s : State) : Host.Outcome State Fault Refusal :=
  .next (s.runStage g stYarder 2 costStage (fun q s =>
    let f := fieldOf q.desc
    let bs := s.lineBytes g (f 128 145) (64 * yardLines q.desc)
    let pays := packLines (f 172 189) bs (some (f 202 207))
    let b := transferBudget (s.hopsTo g.stand.val (f 162 167) (descTag q.desc) (f 190 201)) pays.length
    match s.sendTransfer g q (f 162 167) (f 168 171) (f 190 201) 3 pays (s.stamp q b) with
    | some s => s.complete g q b
    | none => s))

/-- The rows of a gather up to the first invalid page, and whether every row was there. -/
def State.gatherRows (s : State) (g : GroveId) (i layer : Nat) (isV : Bool) (positions : List Nat) : List Byte × Bool × State :=
  positions.foldl (fun (a : List Byte × Bool × State) p =>
    if !a.2.1 then a else
    let w := a.2.2.walkRow g i layer isV p
    match w.1 with
    | some bs => (a.1 ++ bs, true, w.2)
    | none => (a.1, false, w.2)) ([], true, s)

/-- KV_GATHER (R196): the rows of the positions, in order, to consecutive lines; an invalid page ends it there. -/
def execKvGather (g : GroveId) (s : State) : Host.Outcome State Fault Refusal :=
  .next (s.runStage g stYarder 3 costStage (fun q s =>
    let d := q.desc
    let f := fieldOf d
    let n := f 183 190 + 1
    let lines := n * (rowBytes (s.layerRec d) / 64)
    if !linesIn (f 128 145) lines then s.descError g q else
    let r := s.gatherRows g (descSeq d) (descLayer d) (bit d.toNat 162) ((upTo n).map (fun k => f 163 182 + k))
    let s := (r.2.2.setLineBytes g (f 128 145) r.1).complete g q (hbmBudget lines)
    if r.2.1 then s else s.pageInvalid g d))

/-- INDEX_GATHER (R195): table rows in HBM by 32-bit indices in the deck. -/
def execIndexGather (g : GroveId) (s : State) : Host.Outcome State Fault Refusal :=
  s.runStageO g stYarder 4 costStage (fun q s =>
    let f := fieldOf q.desc
    let per := f 180 187 + 1
    let rows := f 188 199 + 1
    let idx := (upTo rows).map (fun k => fromLE (s.deckRead g (64 * f 162 179 + 4 * k) 4))
    let addr (i : Nat) : Nat := 64 * (f 200 241 + i * per)
    match idx.find? (fun i => decide (hbmBytes < addr i + 64 * per)) with
    | some i => .fault (.hbmAddress (addr i))
    | none =>
      .next ((s.setLineBytes g (f 128 145) (idx.flatMap (fun i => s.hbmRead (addr i) (64 * per)))).complete g q
        (hbmBudget (rows * per))))

end Sys2Proof.Machine
end

