-- ==== Sys2Proof/Machine/Dispatch.lean ====
section
/-! DEFINITION. One arm per command: the meaning it is given. -/

namespace Sys2Proof.Machine

def exec (i : Instr) (s : State) : Host.Outcome State Fault Refusal :=
  match i with
  | .registerWrite w => Sys2Proof.Machine.execRegisterWrite w s
  | .deckWriteFlit p x => Sys2Proof.Machine.execDeckWriteFlit p x s
  | .partialSumFlit p x => Sys2Proof.Machine.execPartialSumFlit p x s
  | .relayFlit p x => Sys2Proof.Machine.execRelayFlit p x s
  | .hbmReadRequest l p x addr line lines => Sys2Proof.Machine.execHbmReadRequest l p x addr line lines s
  | .hbmReadData p x line bytes => Sys2Proof.Machine.execHbmReadData p x line bytes s
  | .hbmWrite l p x addr bytes => Sys2Proof.Machine.execHbmWrite l p x addr bytes s
  | .hbmReadError page => Sys2Proof.Machine.execHbmReadError page s
  | .flitTransmit p ch => Sys2Proof.Machine.execFlitTransmit p ch s
  | .creditReturn p ch => Sys2Proof.Machine.execCreditReturn p ch s
  | .nak p x ch failed => Sys2Proof.Machine.execNak p x ch failed s
  | .diagnosisRequest p x => Sys2Proof.Machine.execDiagnosisRequest p x s
  | .laneDiagnosisDone p faulty => Sys2Proof.Machine.execLaneDiagnosisDone p faulty s
  | .laneSpareStart p lane => Sys2Proof.Machine.execLaneSpareStart p lane s
  | .sparingFlit p lane spare => Sys2Proof.Machine.execSparingFlit p lane spare s
  | .spareCompareDone p mismatch => Sys2Proof.Machine.execSpareCompareDone p mismatch s
  | .spareConfirm p lane spare => Sys2Proof.Machine.execSpareConfirm p lane spare s
  | .skSpareForce st p v => Sys2Proof.Machine.execSkSpareForce st p v s
  | .skFaultInjWrite st p v => Sys2Proof.Machine.execSkFaultInjWrite st p v s
  | .hrWordSubmit w => Sys2Proof.Machine.execHrWordSubmit w s
  | .hrSlotEmit => Sys2Proof.Machine.execHrSlotEmit s
  | .hrWordReceive st primary secondary => Sys2Proof.Machine.execHrWordReceive st primary secondary s
  | .tallyBeacon st tree rootTally => Sys2Proof.Machine.execTallyBeacon st tree rootTally s
  | .treeSwitch st => Sys2Proof.Machine.execTreeSwitch st s
  | .bothTreesLost st => Sys2Proof.Machine.execBothTreesLost st s
  | .hrDelayRefresh st primary secondary => Sys2Proof.Machine.execHrDelayRefresh st primary secondary s
  | .barrierArrival b who xnat => Sys2Proof.Machine.execBarrierArrival b who xnat s
  | .barrierRelease b who => Sys2Proof.Machine.execBarrierRelease b who s
  | .barrierTimeout st b => Sys2Proof.Machine.execBarrierTimeout st b s
  | .stepBeacon st content => Sys2Proof.Machine.execStepBeacon st content s
  | .stepTally st => Sys2Proof.Machine.execStepTally st s
  | .dueTally g act done => Sys2Proof.Machine.execDueTally g act done s
  | .forwardMvm g env mirror => Sys2Proof.Machine.execForwardMvm g env mirror s
  | .reverseRead g env mirror => Sys2Proof.Machine.execReverseRead g env mirror s
  | .calibrationSlot t trim => Sys2Proof.Machine.execCalibrationSlot t trim s
  | .tlRotateCopy t v => Sys2Proof.Machine.execTlRotateCopy t v s
  | .tlRotateLoad t v => Sys2Proof.Machine.execTlRotateLoad t v s
  | .tlRotateUpdate t v => Sys2Proof.Machine.execTlRotateUpdate t v s
  | .writeSlice t needed => Sys2Proof.Machine.execWriteSlice t needed s
  | .copyReadSlice t identityHolds => Sys2Proof.Machine.execCopyReadSlice t identityHolds s
  | .verifySlice t pass => Sys2Proof.Machine.execVerifySlice t pass s
  | .swapLand t => Sys2Proof.Machine.execSwapLand t s
  | .forcedSwap t env => Sys2Proof.Machine.execForcedSwap t env s
  | .tlCruise t v => Sys2Proof.Machine.execTlCruise t v s
  | .cruiseSlice t found => Sys2Proof.Machine.execCruiseSlice t found s
  | .forcedSlice t found => Sys2Proof.Machine.execForcedSlice t found s
  | .driftClockTick st => Sys2Proof.Machine.execDriftClockTick st s
  | .earlyCruise t phys cause => Sys2Proof.Machine.execEarlyCruise t phys cause s
  | .monStart g v => Sys2Proof.Machine.execMonStart g v s
  | .monWindowEnd g => Sys2Proof.Machine.execMonWindowEnd g s
  | .rotationDispatch g => Sys2Proof.Machine.execRotationDispatch g s
  | .remapSwitch g entry => Sys2Proof.Machine.execRemapSwitch g entry s
  | .standHandover st fit => Sys2Proof.Machine.execStandHandover st fit s
  | .driftSnapshot => Sys2Proof.Machine.execDriftSnapshot s
  | .scalerQuantize g => Sys2Proof.Machine.execScalerQuantize g s
  | .scaleEventAnnounce g ev kind xnat => Sys2Proof.Machine.execScaleEventAnnounce g ev kind xnat s
  | .scaleEventRelease g ev xmax => Sys2Proof.Machine.execScaleEventRelease g ev xmax s
  | .accClear g => Sys2Proof.Machine.execAccClear g s
  | .accSend g => Sys2Proof.Machine.execAccSend g s
  | .accReceive g => Sys2Proof.Machine.execAccReceive g s
  | .accStore g => Sys2Proof.Machine.execAccStore g s
  | .finish g => Sys2Proof.Machine.execFinish g s
  | .stepReport lead rep => Sys2Proof.Machine.execStepReport lead rep s
  | .commit g key ctr => Sys2Proof.Machine.execCommit g key ctr s
  | .commitTimeout lead key => Sys2Proof.Machine.execCommitTimeout lead key s
  | .scoreItem g engine => Sys2Proof.Machine.execScoreItem g engine s
  | .softmax g => Sys2Proof.Machine.execSoftmax g s
  | .kvAppend g => Sys2Proof.Machine.execKvAppend g s
  | .kvPathMove g => Sys2Proof.Machine.execKvPathMove g s
  | .yarderHbmToDeck g => Sys2Proof.Machine.execYarderHbmToDeck g s
  | .yarderDeckToHbm g => Sys2Proof.Machine.execYarderDeckToHbm g s
  | .yarderDeckToDeck g => Sys2Proof.Machine.execYarderDeckToDeck g s
  | .kvGather g => Sys2Proof.Machine.execKvGather g s
  | .indexGather g => Sys2Proof.Machine.execIndexGather g s
  | .deckFill g => Sys2Proof.Machine.execDeckFill g s
  | .deckCopy g => Sys2Proof.Machine.execDeckCopy g s
  | .taskTake f => Sys2Proof.Machine.execTaskTake f s
  | .taskSteal f => Sys2Proof.Machine.execTaskSteal f s
  | .scoreItemSteal g engine => Sys2Proof.Machine.execScoreItemSteal g engine s
  | .fellerAdd f sd sa sb => Sys2Proof.Machine.execFellerAdd f sd sa sb s
  | .fellerSub f sd sa sb => Sys2Proof.Machine.execFellerSub f sd sa sb s
  | .fellerAnd f sd sa sb => Sys2Proof.Machine.execFellerAnd f sd sa sb s
  | .fellerOr f sd sa sb => Sys2Proof.Machine.execFellerOr f sd sa sb s
  | .fellerXor f sd sa sb => Sys2Proof.Machine.execFellerXor f sd sa sb s
  | .fellerShl f sd sa sb => Sys2Proof.Machine.execFellerShl f sd sa sb s
  | .fellerShr f sd sa sb => Sys2Proof.Machine.execFellerShr f sd sa sb s
  | .fellerSra f sd sa sb => Sys2Proof.Machine.execFellerSra f sd sa sb s
  | .fellerMul f sd sa sb => Sys2Proof.Machine.execFellerMul f sd sa sb s
  | .fellerMulh f sd sa sb => Sys2Proof.Machine.execFellerMulh f sd sa sb s
  | .fellerMin f sd sa sb => Sys2Proof.Machine.execFellerMin f sd sa sb s
  | .fellerMax f sd sa sb => Sys2Proof.Machine.execFellerMax f sd sa sb s
  | .fellerMinu f sd sa sb => Sys2Proof.Machine.execFellerMinu f sd sa sb s
  | .fellerMaxu f sd sa sb => Sys2Proof.Machine.execFellerMaxu f sd sa sb s
  | .fellerSlt f sd sa sb => Sys2Proof.Machine.execFellerSlt f sd sa sb s
  | .fellerSltu f sd sa sb => Sys2Proof.Machine.execFellerSltu f sd sa sb s
  | .fellerAddi f sd sa imm => Sys2Proof.Machine.execFellerAddi f sd sa imm s
  | .fellerAndi f sd sa imm => Sys2Proof.Machine.execFellerAndi f sd sa imm s
  | .fellerOri f sd sa imm => Sys2Proof.Machine.execFellerOri f sd sa imm s
  | .fellerXori f sd sa imm => Sys2Proof.Machine.execFellerXori f sd sa imm s
  | .fellerLui f sd imm => Sys2Proof.Machine.execFellerLui f sd imm s
  | .fellerSlti f sd sa imm => Sys2Proof.Machine.execFellerSlti f sd sa imm s
  | .fellerLdB f sd sa imm => Sys2Proof.Machine.execFellerLdB f sd sa imm s
  | .fellerLdH f sd sa imm => Sys2Proof.Machine.execFellerLdH f sd sa imm s
  | .fellerLdW f sd sa imm => Sys2Proof.Machine.execFellerLdW f sd sa imm s
  | .fellerLdD f sd sa imm => Sys2Proof.Machine.execFellerLdD f sd sa imm s
  | .fellerStB f sd sa imm => Sys2Proof.Machine.execFellerStB f sd sa imm s
  | .fellerStH f sd sa imm => Sys2Proof.Machine.execFellerStH f sd sa imm s
  | .fellerStW f sd sa imm => Sys2Proof.Machine.execFellerStW f sd sa imm s
  | .fellerStD f sd sa imm => Sys2Proof.Machine.execFellerStD f sd sa imm s
  | .fellerBeq f sa sb off => Sys2Proof.Machine.execFellerBeq f sa sb off s
  | .fellerBne f sa sb off => Sys2Proof.Machine.execFellerBne f sa sb off s
  | .fellerBlt f sa sb off => Sys2Proof.Machine.execFellerBlt f sa sb off s
  | .fellerBltu f sa sb off => Sys2Proof.Machine.execFellerBltu f sa sb off s
  | .fellerJal f off => Sys2Proof.Machine.execFellerJal f off s
  | .fellerJr f sa => Sys2Proof.Machine.execFellerJr f sa s
  | .vecAdd f vd va vb mask ty => Sys2Proof.Machine.execVecAdd f vd va vb mask ty s
  | .vecSub f vd va vb mask ty => Sys2Proof.Machine.execVecSub f vd va vb mask ty s
  | .vecMul f vd va vb mask ty => Sys2Proof.Machine.execVecMul f vd va vb mask ty s
  | .vecFma f vd va vb mask ty => Sys2Proof.Machine.execVecFma f vd va vb mask ty s
  | .vecMin f vd va vb mask ty => Sys2Proof.Machine.execVecMin f vd va vb mask ty s
  | .vecMax f vd va vb mask ty => Sys2Proof.Machine.execVecMax f vd va vb mask ty s
  | .vecAbs f vd va mask ty => Sys2Proof.Machine.execVecAbs f vd va mask ty s
  | .vecNeg f vd va mask ty => Sys2Proof.Machine.execVecNeg f vd va mask ty s
  | .vecCmpEq f md va vb mask ty => Sys2Proof.Machine.execVecCmpEq f md va vb mask ty s
  | .vecCmpLt f md va vb mask ty => Sys2Proof.Machine.execVecCmpLt f md va vb mask ty s
  | .vecCmpLe f md va vb mask ty => Sys2Proof.Machine.execVecCmpLe f md va vb mask ty s
  | .vecSelect f vd va vb mask ty => Sys2Proof.Machine.execVecSelect f vd va vb mask ty s
  | .vecAnd f vd va vb mask ty => Sys2Proof.Machine.execVecAnd f vd va vb mask ty s
  | .vecOr f vd va vb mask ty => Sys2Proof.Machine.execVecOr f vd va vb mask ty s
  | .vecXor f vd va vb mask ty => Sys2Proof.Machine.execVecXor f vd va vb mask ty s
  | .vecShl f vd va vb mask ty => Sys2Proof.Machine.execVecShl f vd va vb mask ty s
  | .vecShr f vd va vb mask ty => Sys2Proof.Machine.execVecShr f vd va vb mask ty s
  | .vecSra f vd va vb mask ty => Sys2Proof.Machine.execVecSra f vd va vb mask ty s
  | .vecSum f sd va mask ty => Sys2Proof.Machine.execVecSum f sd va mask ty s
  | .vecReduceMax f sd va mask ty => Sys2Proof.Machine.execVecReduceMax f sd va mask ty s
  | .vecReduceMin f sd va mask ty => Sys2Proof.Machine.execVecReduceMin f sd va mask ty s
  | .vbcast f sd va mask ty => Sys2Proof.Machine.execVbcast f sd va mask ty s
  | .vld f vd sa sb ty => Sys2Proof.Machine.execVld f vd sa sb ty s
  | .vst f vd sa sb ty => Sys2Proof.Machine.execVst f vd sa sb ty s
  | .vecConvert f vd va mask ty dst => Sys2Proof.Machine.execVecConvert f vd va mask ty dst s
  | .vecUnpackMx f vd va mask fmt => Sys2Proof.Machine.execVecUnpackMx f vd va mask fmt s
  | .vecPackMx f vd va mask ty fmt => Sys2Proof.Machine.execVecPackMx f vd va mask ty fmt s
  | .issue f sa sb => Sys2Proof.Machine.execIssue f sa sb s
  | .issueStallRelease f => Sys2Proof.Machine.execIssueStallRelease f s
  | .ctrWait f sa ctr => Sys2Proof.Machine.execCtrWait f sa ctr s
  | .ctrWaitRelease w => Sys2Proof.Machine.execCtrWaitRelease w s
  | .ctrAdd f ctr imm => Sys2Proof.Machine.execCtrAdd f ctr imm s
  | .ctrRead f sa ctr => Sys2Proof.Machine.execCtrRead f sa ctr s
  | .fence f => Sys2Proof.Machine.execFence f s
  | .taskPush f sa => Sys2Proof.Machine.execTaskPush f sa s
  | .taskEnd f => Sys2Proof.Machine.execTaskEnd f s
  | .fellerHalt f => Sys2Proof.Machine.execFellerHalt f s
  | .fellerTrap f => Sys2Proof.Machine.execFellerTrap f s
  | .csrRead f sd csr => Sys2Proof.Machine.execCsrRead f sd csr s
  | .csrWrite f sa csr => Sys2Proof.Machine.execCsrWrite f sa csr s
  | .fellerNop f => Sys2Proof.Machine.execFellerNop f s
  | .illegalInstruction f word => Sys2Proof.Machine.execIllegalInstruction f word s
  | .activityStartAfterThin st => Sys2Proof.Machine.execActivityStartAfterThin st s
  | .bandEvaluation b => Sys2Proof.Machine.execBandEvaluation b s
  | .moduleEvaluation => Sys2Proof.Machine.execModuleEvaluation s
  | .standDark st cause => Sys2Proof.Machine.execStandDark st cause s
  | .replacementRelease tag => Sys2Proof.Machine.execReplacementRelease tag s
  | .planReturn st => Sys2Proof.Machine.execPlanReturn st s
  | .ptpSync l m => Sys2Proof.Machine.execPtpSync l m s
  | .ptpFollowUp l seqId origin => Sys2Proof.Machine.execPtpFollowUp l seqId origin s
  | .ptpDelayResp l seqId receive => Sys2Proof.Machine.execPtpDelayResp l seqId receive s
  | .ptpAnnounce l domain => Sys2Proof.Machine.execPtpAnnounce l domain s
  | .ptpBackupSwitch => Sys2Proof.Machine.execPtpBackupSwitch s
  | .ptpLoss => Sys2Proof.Machine.execPtpLoss s
  | .layer0Entry n g ctr => Sys2Proof.Machine.execLayer0Entry n g ctr s
  | .mapAhead n => Sys2Proof.Machine.execMapAhead n s
  | .pageWaitResume n => Sys2Proof.Machine.execPageWaitResume n s
  | .pageWaitTimeout n => Sys2Proof.Machine.execPageWaitTimeout n s
  | .pageMove n page toDeck => Sys2Proof.Machine.execPageMove n page toDeck s
  | .pageFree n page => Sys2Proof.Machine.execPageFree n page s
  | .tokenCommit n out => Sys2Proof.Machine.execTokenCommit n out s
  | .prefillChunkCommit n => Sys2Proof.Machine.execPrefillChunkCommit n s
  | .variantLoad tag variant => Sys2Proof.Machine.execVariantLoad tag variant s
  | .genHandover tag variant => Sys2Proof.Machine.execGenHandover tag variant s
  | .masterWeightUpdate tag variant grads => Sys2Proof.Machine.execMasterWeightUpdate tag variant grads s
  | .resumeSequence n => Sys2Proof.Machine.execResumeSequence n s
  | .suspendLimit n => Sys2Proof.Machine.execSuspendLimit n s
  | .suspensionLand n => Sys2Proof.Machine.execSuspensionLand n s
  | .fellingWordReceive st content => Sys2Proof.Machine.execFellingWordReceive st content s
  | .fellingAckSend st id => Sys2Proof.Machine.execFellingAckSend st id s
  | .fellingAckFlit at_ x id fromStand => Sys2Proof.Machine.execFellingAckFlit at_ x id fromStand s
  | .fellTimeout id => Sys2Proof.Machine.execFellTimeout id s
  | .reuseGuardExpiry n => Sys2Proof.Machine.execReuseGuardExpiry n s
  | .mbPost f v => Sys2Proof.Machine.execMbPost f v s
  | .mbAbort f => Sys2Proof.Machine.execMbAbort f s
  | .mailboxTake f => Sys2Proof.Machine.execMailboxTake f s
  | .responseReady f => Sys2Proof.Machine.execResponseReady f s
  | .msixHoldoffEnd f vec => Sys2Proof.Machine.execMsixHoldoffEnd f vec s
  | .msixUnmask f vec => Sys2Proof.Machine.execMsixUnmask f vec s
  | .functionReset f => Sys2Proof.Machine.execFunctionReset f s
  | .pcieReset port => Sys2Proof.Machine.execPcieReset port s
  | .vfEnable port numVfs => Sys2Proof.Machine.execVfEnable port numVfs s
  | .d3hotEntry f => Sys2Proof.Machine.execD3hotEntry f s
  | .bar2RequestWrite f offset bytes => Sys2Proof.Machine.execBar2RequestWrite f offset bytes s
  | .devGetInfo f => Sys2Proof.Machine.execDevGetInfo f s
  | .devSetOffHistory f => Sys2Proof.Machine.execDevSetOffHistory f s
  | .devSetDetMode f => Sys2Proof.Machine.execDevSetDetMode f s
  | .devSetState f => Sys2Proof.Machine.execDevSetState f s
  | .drainDeadline => Sys2Proof.Machine.execDrainDeadline s
  | .devGetOperation f => Sys2Proof.Machine.execDevGetOperation f s
  | .devAbortOperation f => Sys2Proof.Machine.execDevAbortOperation f s
  | .operationRecordExpiry op => Sys2Proof.Machine.execOperationRecordExpiry op s
  | .tenGetInfo f => Sys2Proof.Machine.execTenGetInfo f s
  | .tenSetQuota f => Sys2Proof.Machine.execTenSetQuota f s
  | .tenSetKey f => Sys2Proof.Machine.execTenSetKey f s
  | .tenSetAdapt f => Sys2Proof.Machine.execTenSetAdapt f s
  | .tenShed f => Sys2Proof.Machine.execTenShed f s
  | .imgStageOpen f => Sys2Proof.Machine.execImgStageOpen f s
  | .imgStageWrite f host => Sys2Proof.Machine.execImgStageWrite f host s
  | .imgLoad f img => Sys2Proof.Machine.execImgLoad f img s
  | .imageCleared tag => Sys2Proof.Machine.execImageCleared tag s
  | .imgUnload f => Sys2Proof.Machine.execImgUnload f s
  | .imgGet f => Sys2Proof.Machine.execImgGet f s
  | .imgSetGolden f => Sys2Proof.Machine.execImgSetGolden f s
  | .varStage f tiers => Sys2Proof.Machine.execVarStage f tiers s
  | .varEvict f => Sys2Proof.Machine.execVarEvict f s
  | .seqOpen f => Sys2Proof.Machine.execSeqOpen f s
  | .seqFell f => Sys2Proof.Machine.execSeqFell f s
  | .seqSuspend f => Sys2Proof.Machine.execSeqSuspend f s
  | .seqResume f => Sys2Proof.Machine.execSeqResume f s
  | .seqClose f => Sys2Proof.Machine.execSeqClose f s
  | .seqGet f => Sys2Proof.Machine.execSeqGet f s
  | .seqList f => Sys2Proof.Machine.execSeqList f s
  | .polSetClass f => Sys2Proof.Machine.execPolSetClass f s
  | .polGetClass f => Sys2Proof.Machine.execPolGetClass f s
  | .polSetLanding f => Sys2Proof.Machine.execPolSetLanding f s
  | .polSetGrove f => Sys2Proof.Machine.execPolSetGrove f s
  | .telReadReg f => Sys2Proof.Machine.execTelReadReg f s
  | .telGetHealth f => Sys2Proof.Machine.execTelGetHealth f s
  | .telReadViolLog f => Sys2Proof.Machine.execTelReadViolLog f s
  | .telCopyJournal f => Sys2Proof.Machine.execTelCopyJournal f s
  | .twinPair f => Sys2Proof.Machine.execTwinPair f s
  | .twinPairTimeout => Sys2Proof.Machine.execTwinPairTimeout s
  | .twinUnpair f => Sys2Proof.Machine.execTwinUnpair f s
  | .twinGet f => Sys2Proof.Machine.execTwinGet f s
  | .twinReplace f => Sys2Proof.Machine.execTwinReplace f s
  | .pwrGet f => Sys2Proof.Machine.execPwrGet f s
  | .pwrSetLimit f => Sys2Proof.Machine.execPwrSetLimit f s
  | .thmRead f => Sys2Proof.Machine.execThmRead f s
  | .pwrStandService f => Sys2Proof.Machine.execPwrStandService f s
  | .fwStage f host => Sys2Proof.Machine.execFwStage f host s
  | .fwSwap f => Sys2Proof.Machine.execFwSwap f s
  | .fwGetVersions f => Sys2Proof.Machine.execFwGetVersions f s
  | .attGetReport f busOk => Sys2Proof.Machine.execAttGetReport f busOk s
  | .attGetIdentity f busOk => Sys2Proof.Machine.execAttGetIdentity f busOk s
  | .tstLinkInject f => Sys2Proof.Machine.execTstLinkInject f s
  | .tstTwinInject f => Sys2Proof.Machine.execTstTwinInject f s
  | .tstInjectClear f => Sys2Proof.Machine.execTstInjectClear f s
  | .tstSpareForce f => Sys2Proof.Machine.execTstSpareForce f s
  | .tstCruise f found => Sys2Proof.Machine.execTstCruise f found s
  | .pttOpen l x => Sys2Proof.Machine.execPttOpen l x s
  | .pttPrompt l x => Sys2Proof.Machine.execPttPrompt l x s
  | .pttEmbed l x => Sys2Proof.Machine.execPttEmbed l x s
  | .pttTarget l x => Sys2Proof.Machine.execPttTarget l x s
  | .pttFell l x => Sys2Proof.Machine.execPttFell l x s
  | .pttShed l x => Sys2Proof.Machine.execPttShed l x s
  | .pttResend l x => Sys2Proof.Machine.execPttResend l x s
  | .promptWaitExpiry n => Sys2Proof.Machine.execPromptWaitExpiry n s
  | .takeoverRepeat n => Sys2Proof.Machine.execTakeoverRepeat n s
  | .arpRequest l target sender => Sys2Proof.Machine.execArpRequest l target sender s
  | .neighborSolicitation l target sender => Sys2Proof.Machine.execNeighborSolicitation l target sender s
  | .icmpEcho l dst v6 sender data => Sys2Proof.Machine.execIcmpEcho l dst v6 sender data s
  | .unclassifiedFrame l fr => Sys2Proof.Machine.execUnclassifiedFrame l fr s
  | .epLinkDown l => Sys2Proof.Machine.execEpLinkDown l s
  | .epLinkUp l => Sys2Proof.Machine.execEpLinkUp l s
  | .cmReq l req => Sys2Proof.Machine.execCmReq l req s
  | .cmDreq l qp => Sys2Proof.Machine.execCmDreq l qp s
  | .rdmaWrite l qp psn addr key bytes => Sys2Proof.Machine.execRdmaWrite l qp psn addr key bytes s
  | .goldenFetchRead l qp offset len => Sys2Proof.Machine.execGoldenFetchRead l qp offset len s
  | .rdmaReadResponse l qp psn bytes => Sys2Proof.Machine.execRdmaReadResponse l qp psn bytes s
  | .cnpArrive l qp => Sys2Proof.Machine.execCnpArrive l qp s
  | .cnpRateRecovery l qp => Sys2Proof.Machine.execCnpRateRecovery l qp s
  | .rdmaAckTimeout l qp => Sys2Proof.Machine.execRdmaAckTimeout l qp s
  | .heartbeatSend => Sys2Proof.Machine.execHeartbeatSend s
  | .heartbeatArrive port hb => Sys2Proof.Machine.execHeartbeatArrive port hb s
  | .partnerLost => Sys2Proof.Machine.execPartnerLost s
  | .hbPortLost port => Sys2Proof.Machine.execHbPortLost port s
  | .mirrorOpen m => Sys2Proof.Machine.execMirrorOpen m s
  | .mirrorPrompt m => Sys2Proof.Machine.execMirrorPrompt m s
  | .mirrorStep m => Sys2Proof.Machine.execMirrorStep m s
  | .mirrorState m => Sys2Proof.Machine.execMirrorState m s
  | .mirrorGen m => Sys2Proof.Machine.execMirrorGen m s
  | .mirrorFell m => Sys2Proof.Machine.execMirrorFell m s
  | .mirrorAck handle step => Sys2Proof.Machine.execMirrorAck handle step s
  | .twinBarrierArrival fromPartner => Sys2Proof.Machine.execTwinBarrierArrival fromPartner s
  | .twinBarrierRelease releaseTally => Sys2Proof.Machine.execTwinBarrierRelease releaseTally s
  | .twinBarrierFail => Sys2Proof.Machine.execTwinBarrierFail s
  | .pairControl m => Sys2Proof.Machine.execPairControl m s
  | .moveSequence handle => Sys2Proof.Machine.execMoveSequence handle s
  | .bulkCopy off bytes last img => Sys2Proof.Machine.execBulkCopy off bytes last img s
  | .twinPortDown port => Sys2Proof.Machine.execTwinPortDown port s
  | .twFaultInjWrite port v => Sys2Proof.Machine.execTwFaultInjWrite port v s
  | .feedLost feed mv => Sys2Proof.Machine.execFeedLost feed mv s
  | .feedRestored feed mv => Sys2Proof.Machine.execFeedRestored feed mv s
  | .rideThroughEnd => Sys2Proof.Machine.execRideThroughEnd s
  | .converterLost n => Sys2Proof.Machine.execConverterLost n s
  | .segmentOpen b => Sys2Proof.Machine.execSegmentOpen b s
  | .vlogAdjust st monitorUp => Sys2Proof.Machine.execVlogAdjust st monitorUp s
  | .elecThin st vlogTenthsA inputPermille => Sys2Proof.Machine.execElecThin st vlogTenthsA inputPermille s
  | .wakeEvaluation st => Sys2Proof.Machine.execWakeEvaluation st s
  | .wakeDeferRetry st => Sys2Proof.Machine.execWakeDeferRetry st s
  | .groveWakeStage g railOk => Sys2Proof.Machine.execGroveWakeStage g railOk s
  | .phaseLost st p reported => Sys2Proof.Machine.execPhaseLost st p reported s
  | .phaseShort st p amps => Sys2Proof.Machine.execPhaseShort st p amps s
  | .isolationCheck st p amps => Sys2Proof.Machine.execIsolationCheck st p amps s
  | .breakerTrip st cause => Sys2Proof.Machine.execBreakerTrip st cause s
  | .breakerRetest st percent => Sys2Proof.Machine.execBreakerRetest st percent s
  | .pwBreakerClose st v => Sys2Proof.Machine.execPwBreakerClose st v s
  | .headerStuckClosed g => Sys2Proof.Machine.execHeaderStuckClosed g s
  | .powerUp feed env => Sys2Proof.Machine.execPowerUp feed env s
  | .sensorSample id reading => Sys2Proof.Machine.execSensorSample id reading s
  | .coolantSample inletA inletB outlet flow => Sys2Proof.Machine.execCoolantSample inletA inletB outlet flow s
  | .heatFactorStep st => Sys2Proof.Machine.execHeatFactorStep st s
  | .heatSwitchOff st => Sys2Proof.Machine.execHeatSwitchOff st s
  | .hardShutdown cause => Sys2Proof.Machine.execHardShutdown cause s
  | .heatReturn st => Sys2Proof.Machine.execHeatReturn st s
  | .surveyStart => Sys2Proof.Machine.execSurveyStart s
  | .bootImageComplete k img => Sys2Proof.Machine.execBootImageComplete k img s
  | .foresterHandover => Sys2Proof.Machine.execForesterHandover s
  | .standbyReady => Sys2Proof.Machine.execStandbyReady s
  | .swapRebootDone ok => Sys2Proof.Machine.execSwapRebootDone ok s
  | .foresterFailover => Sys2Proof.Machine.execForesterFailover s
  | .landingLost l => Sys2Proof.Machine.execLandingLost l s
  | .smbusBtRead landing offset => Sys2Proof.Machine.execSmbusBtRead landing offset s
  | .spdmGetVersion via => Sys2Proof.Machine.execSpdmGetVersion via s
  | .spdmGetCapabilities via flags => Sys2Proof.Machine.execSpdmGetCapabilities via flags s
  | .spdmNegotiateAlgorithms via asym hash => Sys2Proof.Machine.execSpdmNegotiateAlgorithms via asym hash s
  | .spdmGetDigests via => Sys2Proof.Machine.execSpdmGetDigests via s
  | .spdmGetCertificate via slot offset len => Sys2Proof.Machine.execSpdmGetCertificate via slot offset len s
  | .spdmChallenge via slot nonce => Sys2Proof.Machine.execSpdmChallenge via slot nonce s
  | .spdmGetMeasurements via index nonce sign => Sys2Proof.Machine.execSpdmGetMeasurements via index nonce sign s
  | .pldmGetTid via => Sys2Proof.Machine.execPldmGetTid via s
  | .pldmGetPldmVersion via type => Sys2Proof.Machine.execPldmGetPldmVersion via type s
  | .pldmGetPldmTypes via => Sys2Proof.Machine.execPldmGetPldmTypes via s
  | .pldmGetPldmCommands via type => Sys2Proof.Machine.execPldmGetPldmCommands via type s
  | .pldmSetEventReceiver via address enable => Sys2Proof.Machine.execPldmSetEventReceiver via address enable s
  | .pldmGetPdrRepositoryInfo via => Sys2Proof.Machine.execPldmGetPdrRepositoryInfo via s
  | .pldmGetPdr via record => Sys2Proof.Machine.execPldmGetPdr via record s
  | .pldmGetSensorReading via sensor => Sys2Proof.Machine.execPldmGetSensorReading via sensor s
  | .pldmGetStateSensorReadings via sensor => Sys2Proof.Machine.execPldmGetStateSensorReadings via sensor s
  | .pldmSetStateEffecterStates via effecter state => Sys2Proof.Machine.execPldmSetStateEffecterStates via effecter state s
  | .pldmGetStateEffecterStates via effecter => Sys2Proof.Machine.execPldmGetStateEffecterStates via effecter s
  | .shutdownReq => Sys2Proof.Machine.execShutdownReq s
  | .shutdownReqRelease env => Sys2Proof.Machine.execShutdownReqRelease env s
  | .forceOff => Sys2Proof.Machine.execForceOff s
  | .forceOffRelease env => Sys2Proof.Machine.execForceOffRelease env s
  | .bladeUnseated => Sys2Proof.Machine.execBladeUnseated s
  | .feedsRemovedRestart env => Sys2Proof.Machine.execFeedsRemovedRestart env s
  | .ppsEdge => Sys2Proof.Machine.execPpsEdge s
  | .dataCreditStarved p tag => Sys2Proof.Machine.execDataCreditStarved p tag s
  | .tallyBeaconMissed st => Sys2Proof.Machine.execTallyBeaconMissed st s
  | .carrierReferenceBackup => Sys2Proof.Machine.execCarrierReferenceBackup s
  | .hostTransferComplete f ok => Sys2Proof.Machine.execHostTransferComplete f ok s
  | .journalLowClear => Sys2Proof.Machine.execJournalLowClear s
  | .cmRtu l qp => Sys2Proof.Machine.execCmRtu l qp s
  | .osfpModulePresent l powerTenthsW => Sys2Proof.Machine.execOsfpModulePresent l powerTenthsW s
  | .twinPortTrained port => Sys2Proof.Machine.execTwinPortTrained port s
  | .d0Entry f => Sys2Proof.Machine.execD0Entry f s

end Sys2Proof.Machine
end

