-- ==== Sys2Proof/Safety.lean ====
section
/-! DEFINITION. What the statements about the machine are said in: the conditions under which a command has its effect, and what a
command leaves as it was. -/

namespace Sys2Proof.Machine

/-! ## Memories -/

/-- Every byte memory is in its canonical form. -/
def State.memWf (s : State) : Bool := s.decks.wf && s.hbm.wf && s.istore.wf

/-- Outside `n` bytes from an address of a grove's deck every byte of every deck reads as before. -/
def DeckSameBut (s t : State) (g : GroveId) (a n : Nat) : Prop :=
  ∀ x, x < deckAddr g a ∨ deckAddr g a + n ≤ x → t.decks.read x = s.decks.read x

/-! ## Fellers -/

/-- A feller runs an instruction that another one follows in the instruction store. -/
def FellerRuns (s : State) (f : FellerId) : Prop := s.coreState f = 1 ∧ s.pc f + 8 ≤ storeBytes

/-- A feller has gone on to an address, and nothing but its pc has changed in the registers. -/
def WentTo (s t : State) (f : FellerId) (a : Nat) : Prop :=
  t.pc f = a
  ∧ (∀ q ∈ [gvCoreStatus_task, gvCoreStatus_state, gvCoreStatus_fault],
      t.getAt q f.groveId.num f.core.val = s.getAt q f.groveId.num f.core.val)
  ∧ ∀ k : RegKey, k ≠ gvCoreStatus_pc.key f.groveId.num f.core.val → t.reg k = s.reg k

/-- An instruction has gone on to the next one, and outside its feller's record nothing but the pc has changed. -/
def FellerStepped (s t : State) (f : FellerId) : Prop :=
  WentTo s t f (s.pc f + 4) ∧ (∀ r, r ≠ f → t.feller r = s.feller r)
  ∧ t = { s with fellers := t.fellers, regs := t.regs, freeUses := t.freeUses }

/-- An instruction has written one scalar register, s0 excepted (R185), and gone on. -/
def WroteScalar (s t : State) (f : FellerId) (rd : Fin 32) (v : BitVec 64) : Prop :=
  (∀ r, t.scalar f r = if r = rd ∧ r ≠ 0 then v else s.scalar f r)
  ∧ t.feller f = { s.feller f with sregs := (t.feller f).sregs } ∧ FellerStepped s t f

/-- An instruction has written one vector register and gone on. -/
def WroteVector (s t : State) (f : FellerId) (vd : Fin 16) (w : VecReg) : Prop :=
  (∀ r, (t.feller f).vector r = if r = vd then w else (s.feller f).vector r)
  ∧ t.feller f = { s.feller f with vregs := (t.feller f).vregs } ∧ FellerStepped s t f

/-- An instruction has written one mask register, m0 excepted, and gone on. -/
def WroteMask (s t : State) (f : FellerId) (md : Fin 4) (w : MaskReg) : Prop :=
  (∀ r, (t.feller f).mask r = if r = md ∧ r ≠ 0 then w else (s.feller f).mask r)
  ∧ t.feller f = { s.feller f with masks := (t.feller f).masks } ∧ FellerStepped s t f

/-- Lane `i` of a vector register (R185). -/
def VecReg.lane (v : VecReg) (i : Nat) : Nat := bits v.toNat (16 * i) 16

/-! ## Stages of a grove -/

/-- The descriptor at the head of a stage queue may start an operation of the stage (R163, R166 to R168, R210, R224, R417): the grove is
on, its image is not held, electrical thinning is off, the wait condition is met, no scale event stops it, its sequence is not felled, it
has no descriptor error, and the stand meter holds its cost. -/
def Ready (s : State) (g : GroveId) (stage op cost : Nat) (q : QItem) (rest : List QItem) : Prop :=
  (s.grove g).queue stage = q :: rest ∧ descStage q.desc = stage ∧ descOp q.desc = op ∧ descOk q.desc = true
  ∧ s.groveOn g = true ∧ s.heldOn g.stand.val = false ∧ s.on pwStandStatus_elecThin g.stand.val = false
  ∧ s.mayStart g q = true ∧ s.stopped g q.desc = false ∧ s.isFelled g q.desc = false
  ∧ s.meterAllows g.stand.val cost = true

/-- A descriptor has left its queue, and the other queues of every grove are as they were. -/
def Taken (s t : State) (g : GroveId) (stage : Nat) (rest : List QItem) : Prop :=
  (t.grove g).queue stage = rest ∧ (∀ k, k ≠ stage → (t.grove g).queue k = (s.grove g).queue k)
  ∧ ∀ r, r ≠ g → (t.grove r).queues = (s.grove r).queues

/-- Outside lockstep mode a descriptor's done action has happened (R165, R168): its done counter has advanced by 1, and the grove's other
counters are as they were. -/
def DoneCounted (s t : State) (g : GroveId) (d : Descriptor) : Prop :=
  ∀ k, k < 64 → t.counter g k = if descDoneEn d = true ∧ descDoneCtr d = k then (s.counter g k + 1) % 65536 else s.counter g k

/-! ## Links -/

/-- A link end accepts a flit on a channel (R34, R43): the link is up, the CRC holds, link_seq is the one expected, the closure map permits
its image tag, and no injection acts (R474). -/
def Accepts (s : State) (p : PortId) (c : Fin 3) (x : Flit) : Prop :=
  s.linkUp p = true ∧ x.channel = c.val ∧ x.crcOk = true ∧ x.linkSeq = ((s.port p).chan c).rxSeq
  ∧ s.closurePermits p x.imageTag = true ∧ s.get skFaultInj_mode p.num = 0 ∧ (s.port p).swapHeld = none

/-- A link end has taken a flit: it expects the next link_seq, and its failures in a row are forgotten (R34). -/
def TookFlit (s t : State) (p : PortId) (c : Fin 3) : Prop :=
  ((t.port p).chan c).rxSeq = (((s.port p).chan c).rxSeq + 1) % 256 ∧ ((t.port p).chan c).discards = false
  ∧ ((t.port p).chan c).fails = 0

/-- A flit waits in a channel of a port behind the flits that waited there. -/
def Waits (s t : State) (p : PortId) (c : Fin 3) (w : Waiting) : Prop :=
  ((t.port p).chan c).waiting = ((s.port p).chan c).waiting ++ [w]

/-! ## Daush -/

/-- A request of a code is ready to run on a function's mailbox, and passes checks 1 to 7 of R345. -/
def Asked (s : State) (f : Fin 256) (code : Nat) (r : Request) : Prop := s.runnable f code = some (r, false) ∧ s.headerChecks r = none

/-- The formed response of a function carries a status, a detail and a body, and echoes its request (R343). -/
def Answers (s t : State) (f : Fin 256) (status detail : Nat) (body : List Byte) : Prop :=
  (t.func f).ready = some (responseBytes (s.func f).copied status detail body) ∧ (t.func f).awaits = none

/-- A function is as it was, but for the response that has been formed for it. -/
def OnlyAnswered (s t : State) (f : Fin 256) : Prop :=
  t.funcs = tblSet s.funcs f { s.func f with ready := (t.func f).ready, awaits := none }

/-- A state differs only in registers. -/
def RegsOnly (s u : State) : Prop := u = { s with regs := u.regs }

end Sys2Proof.Machine
end

