-- ==== Sys2Proof/WellFormed.lean ====
section
/-! DEFINITION. Well-formed commands: what the rules that give a row its operands allow those operands to be, beyond the bounds that
their types state. The machine runs commands of every form; these checks say which of them the manual's parts can send. -/

namespace Sys2Proof

/-- A register write: 1, 2, 4, 8 or 16 bytes, and a value of that size (R7, R8). -/
def RegWrite.wf (w : RegWrite) : Bool :=
  decide (w.nbytes ∈ [1, 2, 4, 8, 16]) && decide (w.data.toNat < 2 ^ (8 * w.nbytes))

/-- A haul-road word: 512 slots, a 4-bit kind of the model's numbering (log 35), and a source of 8 bits (R45). -/
def HrWord.wf (w : HrWord) : Bool := decide (w.slot < 512) && decide (w.kind < 16) && decide (w.source < 256)

/-- A deviation of a reading names a vector, row group, plane and column that an MVM has, and one of three attempts (R58, R65, R74). -/
def ReadError.wf (e : ReadError) : Bool :=
  decide (e.vector < 16) && decide (e.group < 32) && decide (e.plane < 8) && decide (e.column < 1024) && decide (e.attempt < 3)

/-- What the analog side supplies: every deviation is well formed. -/
def MvmEnv.wf (e : MvmEnv) : Bool := e.errors.all ReadError.wf

/-- A layer step names an image tag, a sequence entry and a layer of 16 bits, and a step of 32 bits (R178). -/
def StepKey.wf (k : StepKey) : Bool :=
  decide (k.tag < 256) && decide (k.seq < 32768) && decide (k.layer < 65536) && decide (k.step < 2 ^ 32)

/-- The bytes of a flit's operands fit its payload of 240 bytes (R32). -/
def flitBytesOk (bs : List Byte) : Bool := decide (bs.length ≤ 240)

/-- A model image's layers carry floors that are no descriptor error (R130, R163), MX formats of R258, and a lead grove; its tier images
name existing tiles and logical tiers (R57). -/
def ImageFile.wf (x : ImageFile) : Bool :=
  x.layerTable.all (fun l => decide (-127 ≤ l.floor ∧ l.floor ≤ 127 ∧ l.kvFormat ≤ 5 ∧ l.lead < 672)) &&
  x.tiers.all (fun t => decide (t.stand < 42 ∧ t.grove < 16 ∧ t.tile < 2048 ∧ t.logical < 16))

/-- A PTT frame of a type: its type field is that type and its payload is as long as its length field says (R370). -/
def PttFrame.wf (x : PttFrame) (type : Nat) : Bool :=
  decide (x.type.toNat = type) && decide (x.payload.length = x.length.toNat) && decide (x.udpLen = 48 + x.payload.length)

/-- A RoCEv2 queue pair number (log 110) and message bytes (R383). -/
def rdmaOk (qp : Nat) (bs : List Byte) : Bool := decide (2 ≤ qp ∧ qp < 10) && decide (bs ≠ [])

/-- An open or step record carries an entry that names a sequence state of R253. -/
def SeqEntry.wf (e : SeqEntry) : Bool := decide (e.state ≤ 5) && decide (e.specMode ≤ 2) && decide (e.cls ≤ 7)

/-- A K or V row of a mirror record holds bytes of a layer and position (R258). -/
def KvRow.wf (r : KvRow) : Bool := decide (r.bytes ≠ []) && decide (r.bytes.length % 64 = 0)

/-- A start's delays name each stand once (R46). -/
def BootEnv.wf (e : BootEnv) : Bool := decide ((e.delays.map (fun d => d.1)).Nodup)

/-- The well-formed commands. -/
def Instr.wf : Instr → Bool
  | .registerWrite w => w.wf
  | .hbmReadRequest _ _ _ addr _ lines => decide (addr % 64 = 0) && decide (0 < lines)
  | .hbmReadData _ _ _ bs => flitBytesOk bs && decide (bs.length % 64 = 0)
  | .hbmWrite _ _ _ _ bs => flitBytesOk bs && decide (bs ≠ [])
  | .laneDiagnosisDone _ ls => decide ls.Nodup
  | .spareCompareDone _ ls => decide ls.Nodup
  | .hrWordSubmit w => w.wf
  | .hrWordReceive _ p q => (p.map HrWord.wf).getD true && (q.map HrWord.wf).getD true
  | .barrierArrival b _ x => decide (b < 2 ^ 64) && decide (-127 ≤ x ∧ x ≤ 127)
  | .barrierRelease b _ => decide (b < 2 ^ 64)
  | .barrierTimeout _ b => decide (b < 2 ^ 64)
  | .forwardMvm _ e m => e.wf && m.wf
  | .reverseRead _ e m => e.wf && m.wf
  | .forcedSwap _ e => e.wf
  | .scaleEventAnnounce _ k _ x => k.wf && decide (-127 ≤ x ∧ x ≤ 127)
  | .scaleEventRelease _ k x => k.wf && decide (-127 ≤ x ∧ x ≤ 127)
  | .stepReport _ r => r.key.wf
  | .commit _ k _ => k.wf
  | .commitTimeout _ k => k.wf
  | .vecAnd _ _ _ _ _ t | .vecOr _ _ _ _ _ t | .vecXor _ _ _ _ _ t
  | .vecShl _ _ _ _ _ t | .vecShr _ _ _ _ _ t | .vecSra _ _ _ _ _ t => decide (t ∈ [.i8, .i16, .u8, .u16])
  | .pageMove _ page _ => decide (0 < page ∧ page < 2 ^ 24)
  | .pageFree _ page => decide (page < 2 ^ 24)
  | .bar2RequestWrite _ off bs => decide (bs ≠ []) && decide (off.val + bs.length ≤ 8192)
  | .imgLoad _ x => x.wf
  | .bootImageComplete _ x => x.wf
  | .bulkCopy _ bs _ img => decide (bs.length ≤ 65536) && (img.map ImageFile.wf).getD true
  | .pttOpen _ x => x.wf 1
  | .pttPrompt _ x => x.wf 3
  | .pttEmbed _ x => x.wf 4
  | .pttTarget _ x => x.wf 5
  | .pttFell _ x => x.wf 9
  | .pttShed _ x => x.wf 10
  | .pttResend _ x => x.wf 11
  | .cmDreq _ qp => decide (2 ≤ qp ∧ qp < 10)
  | .cmRtu _ qp => decide (2 ≤ qp ∧ qp < 10)
  | .rdmaWrite _ qp _ _ _ bs => rdmaOk qp bs
  | .goldenFetchRead _ qp _ len => decide (2 ≤ qp ∧ qp < 10) && decide (0 < len)
  | .rdmaReadResponse _ qp _ bs => rdmaOk qp bs
  | .cnpArrive _ qp => decide (2 ≤ qp ∧ qp < 10)
  | .cnpRateRecovery _ qp => decide (2 ≤ qp ∧ qp < 10)
  | .rdmaAckTimeout _ qp => decide (2 ≤ qp ∧ qp < 10)
  | .mirrorOpen m => m.entry.wf
  | .mirrorStep m => m.entry.wf && m.rows.all KvRow.wf
  | .mirrorState m => decide (m.state ≤ 5)
  | .elecThin _ _ p => decide (p ≤ 2000)
  | .breakerRetest _ p => decide (p ≤ 100)
  | .powerUp _ e => e.wf
  | .shutdownReqRelease e => e.wf
  | .forceOffRelease e => e.wf
  | .feedsRemovedRestart e => e.wf
  | .sensorSample _ r => (r.map (fun t => decide (-32768 ≤ t ∧ t < 32768))).getD true
  | .coolantSample _ _ o fl => decide (-32768 ≤ o ∧ o < 32768) && decide (fl < 65536)
  | .spdmGetCertificate _ _ off len => decide (off < 65536) && decide (len < 65536)
  | .deckWriteFlit .. | .partialSumFlit .. | .relayFlit .. | .hbmReadError .. | .flitTransmit ..
  | .creditReturn .. | .nak .. | .diagnosisRequest .. | .laneSpareStart .. | .sparingFlit ..
  | .spareConfirm .. | .skSpareForce .. | .skFaultInjWrite .. | .hrSlotEmit .. | .tallyBeacon ..
  | .treeSwitch .. | .bothTreesLost .. | .hrDelayRefresh .. | .stepBeacon .. | .stepTally ..
  | .dueTally .. | .calibrationSlot .. | .tlRotateCopy .. | .tlRotateLoad .. | .tlRotateUpdate ..
  | .writeSlice .. | .copyReadSlice .. | .verifySlice .. | .swapLand .. | .tlCruise ..
  | .cruiseSlice .. | .forcedSlice .. | .driftClockTick .. | .earlyCruise .. | .monStart ..
  | .monWindowEnd .. | .rotationDispatch .. | .remapSwitch .. | .standHandover .. | .driftSnapshot ..
  | .scalerQuantize .. | .accClear .. | .accSend .. | .accReceive .. | .accStore ..
  | .finish .. | .scoreItem .. | .softmax .. | .kvAppend .. | .kvPathMove ..
  | .yarderHbmToDeck .. | .yarderDeckToHbm .. | .yarderDeckToDeck .. | .kvGather .. | .indexGather ..
  | .deckFill .. | .deckCopy .. | .taskTake .. | .taskSteal .. | .scoreItemSteal ..
  | .fellerAdd .. | .fellerSub .. | .fellerAnd .. | .fellerOr .. | .fellerXor ..
  | .fellerShl .. | .fellerShr .. | .fellerSra .. | .fellerMul .. | .fellerMulh ..
  | .fellerMin .. | .fellerMax .. | .fellerMinu .. | .fellerMaxu .. | .fellerSlt ..
  | .fellerSltu .. | .fellerAddi .. | .fellerAndi .. | .fellerOri .. | .fellerXori ..
  | .fellerLui .. | .fellerSlti .. | .fellerLdB .. | .fellerLdH .. | .fellerLdW ..
  | .fellerLdD .. | .fellerStB .. | .fellerStH .. | .fellerStW .. | .fellerStD ..
  | .fellerBeq .. | .fellerBne .. | .fellerBlt .. | .fellerBltu .. | .fellerJal ..
  | .fellerJr .. | .vecAdd .. | .vecSub .. | .vecMul .. | .vecFma ..
  | .vecMin .. | .vecMax .. | .vecAbs .. | .vecNeg .. | .vecCmpEq ..
  | .vecCmpLt .. | .vecCmpLe .. | .vecSelect .. | .vecSum .. | .vecReduceMax ..
  | .vecReduceMin .. | .vbcast .. | .vld .. | .vst .. | .vecConvert ..
  | .vecUnpackMx .. | .vecPackMx .. | .issue .. | .issueStallRelease .. | .ctrWait ..
  | .ctrWaitRelease .. | .ctrAdd .. | .ctrRead .. | .fence .. | .taskPush ..
  | .taskEnd .. | .fellerHalt .. | .fellerTrap .. | .csrRead .. | .csrWrite ..
  | .fellerNop .. | .illegalInstruction .. | .activityStartAfterThin .. | .bandEvaluation .. | .moduleEvaluation ..
  | .standDark .. | .replacementRelease .. | .planReturn .. | .ptpSync .. | .ptpFollowUp ..
  | .ptpDelayResp .. | .ptpAnnounce .. | .ptpBackupSwitch .. | .ptpLoss .. | .layer0Entry ..
  | .mapAhead .. | .pageWaitResume .. | .pageWaitTimeout .. | .tokenCommit .. | .prefillChunkCommit ..
  | .variantLoad .. | .genHandover .. | .masterWeightUpdate .. | .resumeSequence .. | .suspendLimit ..
  | .suspensionLand .. | .fellingWordReceive .. | .fellingAckSend .. | .fellingAckFlit .. | .fellTimeout ..
  | .reuseGuardExpiry .. | .mbPost .. | .mbAbort .. | .mailboxTake .. | .responseReady ..
  | .msixHoldoffEnd .. | .msixUnmask .. | .functionReset .. | .pcieReset .. | .vfEnable ..
  | .d3hotEntry .. | .devGetInfo .. | .devSetOffHistory .. | .devSetDetMode .. | .devSetState ..
  | .drainDeadline .. | .devGetOperation .. | .devAbortOperation .. | .operationRecordExpiry .. | .tenGetInfo ..
  | .tenSetQuota .. | .tenSetKey .. | .tenSetAdapt .. | .tenShed .. | .imgStageOpen ..
  | .imgStageWrite .. | .imageCleared .. | .imgUnload .. | .imgGet .. | .imgSetGolden ..
  | .varStage .. | .varEvict .. | .seqOpen .. | .seqFell .. | .seqSuspend ..
  | .seqResume .. | .seqClose .. | .seqGet .. | .seqList .. | .polSetClass ..
  | .polGetClass .. | .polSetLanding .. | .polSetGrove .. | .telReadReg .. | .telGetHealth ..
  | .telReadViolLog .. | .telCopyJournal .. | .twinPair .. | .twinPairTimeout .. | .twinUnpair ..
  | .twinGet .. | .twinReplace .. | .pwrGet .. | .pwrSetLimit .. | .thmRead ..
  | .pwrStandService .. | .fwStage .. | .fwSwap .. | .fwGetVersions .. | .attGetReport ..
  | .attGetIdentity .. | .tstLinkInject .. | .tstTwinInject .. | .tstInjectClear .. | .tstSpareForce ..
  | .tstCruise .. | .promptWaitExpiry .. | .takeoverRepeat .. | .arpRequest .. | .neighborSolicitation ..
  | .icmpEcho .. | .unclassifiedFrame .. | .epLinkDown .. | .epLinkUp .. | .cmReq ..
  | .heartbeatSend .. | .heartbeatArrive .. | .partnerLost .. | .hbPortLost .. | .mirrorPrompt ..
  | .mirrorGen .. | .mirrorFell .. | .mirrorAck .. | .twinBarrierArrival .. | .twinBarrierRelease ..
  | .twinBarrierFail .. | .pairControl .. | .moveSequence .. | .twinPortDown .. | .twFaultInjWrite ..
  | .feedLost .. | .feedRestored .. | .rideThroughEnd .. | .converterLost .. | .segmentOpen ..
  | .vlogAdjust .. | .wakeEvaluation .. | .wakeDeferRetry .. | .groveWakeStage .. | .phaseLost ..
  | .phaseShort .. | .isolationCheck .. | .breakerTrip .. | .pwBreakerClose .. | .headerStuckClosed ..
  | .heatFactorStep .. | .heatSwitchOff .. | .hardShutdown .. | .heatReturn .. | .surveyStart ..
  | .foresterHandover .. | .standbyReady .. | .swapRebootDone .. | .foresterFailover .. | .landingLost ..
  | .smbusBtRead .. | .spdmGetVersion .. | .spdmGetCapabilities .. | .spdmNegotiateAlgorithms .. | .spdmGetDigests ..
  | .spdmChallenge .. | .spdmGetMeasurements .. | .pldmGetTid .. | .pldmGetPldmVersion .. | .pldmGetPldmTypes ..
  | .pldmGetPldmCommands .. | .pldmSetEventReceiver .. | .pldmGetPdrRepositoryInfo .. | .pldmGetPdr .. | .pldmGetSensorReading ..
  | .pldmGetStateSensorReadings .. | .pldmSetStateEffecterStates .. | .pldmGetStateEffecterStates .. | .shutdownReq .. | .forceOff ..
  | .bladeUnseated .. | .ppsEdge .. | .dataCreditStarved .. | .tallyBeaconMissed .. | .carrierReferenceBackup ..
  | .hostTransferComplete .. | .journalLowClear .. | .osfpModulePresent .. | .twinPortTrained .. | .d0Entry .. => true

end Sys2Proof
end

