-- ==== Sys2Proof/Certificates/Slice0/Obligations.lean ====
section
/-! DEFINITION. The statements for the provers. A statement in several parts is the conjunction of its parts, each defined before it; every
constructor of `Instr` has its completion in one of them. -/

namespace Sys2Proof.Machine

/-! ## The machine -/

end Sys2Proof.Machine

open Sys2Proof Sys2Proof.Machine in
/-- A step runs the command at the front of the queue with the queue's rest; with nothing waiting a nanosecond of the tally passes (the model's choice,
log 7). -/
def Obligations.StepRunsFront : Prop :=
  (∀ (c : Instr) (rest : List Instr) (s : State), step { s with pending := c :: rest } = exec c { s with pending := rest })
  ∧ ∀ s : State, s.pending = [] → step s = .next { s with tally := s.tally + 1 }

namespace Sys2Proof.Machine

/-- What reset leaves: nothing waits, the module is in OFF, every memory byte reads 0 (the model's choice, log 1), every register holds the reset value of
its table, no image is loaded and no sequence is open. -/
def ResetLeaves : Prop :=
  let s := State.reset
  s.pending = [] ∧ s.service = .off ∧ s.images = [] ∧ s.openSeqs = [] ∧ s.lockstep = false ∧ s.fellings = []
  ∧ (∀ a, s.hbm.read a = 0 ∧ s.decks.read a = 0 ∧ s.istore.read a = 0)
  ∧ (∀ k : RegKey, s.reg k = k.reset)
  ∧ (∀ t : TileId, s.get tlCtrl_calLimit t.groveId.num = 30 ∧ s.on tlTileStatus_activeValid t.num = false)
  ∧ (∀ n : Fin 42, s.get pwStandLimit_limit n.val = 400 ∧ s.get pwStandStatus_standPower n.val = 0 ∧ s.get pwStandStatus_phasesOk n.val = 18
      ∧ s.get thStandStatus_heatFactor n.val = 100)
  ∧ s.get pwModuleLimit_inForce 0 = 14000 ∧ s.get pwConverters_working 0 = 18

/-- Every byte memory of the machine is empty at reset, which is the canonical form that each step keeps. -/
def ResetMemoriesAreCanonical : Prop :=
  State.reset.memWf = true

end Sys2Proof.Machine

open Sys2Proof Sys2Proof.Machine in
/-- What reset leaves in the state, the registers and the memories. -/
def Obligations.ResetLeaves : Prop :=
  Machine.ResetLeaves ∧ Machine.ResetMemoriesAreCanonical

open Sys2Proof Sys2Proof.Machine in
/-- Every command that answers a next state keeps the canonical form of the three byte memories: addresses strictly rising, and no byte listed that reads
as an unlisted one. -/
def Obligations.StepsKeepMemoriesCanonical : Prop :=
  ∀ s t : State, s.memWf = true → step s = .next t → t.memWf = true

open Sys2Proof Sys2Proof.Machine in
/-- R186: a feller instruction that a well-formed command stands for has an encoding of 32 bits, and decoding it gives the command back with every
operand. -/
def Obligations.DecodeOfEncode : Prop :=
  ∀ (i : Instr) (f : FellerId) (w : BitVec 32), i.wf = true → fellerOf i = some f → encodeFeller i = some w → decodeFeller f w = some i

open Sys2Proof Sys2Proof.Machine in
/-- No command is refused, and a command stops only on an HBM address that no stack holds (R15) or on a Forester address that holds no register: only
those that walk HBM or name a register do. -/
def Obligations.CommandsStopOnlyOnMissingAddresses : Prop :=
  ∀ (c : Instr) (s : State), (∀ r, exec c s ≠ .refused r)
    ∧ ∀ f, exec c s = .fault f →
      match f with
      | .noRegister a => ∃ w : RegWrite, c = .registerWrite w ∧ w.target = .forester (BitVec.ofNat 32 a)
      | .hbmAddress _ =>
          (∃ p x g n d l, c = .hbmReadRequest p x g n d l) ∨ (∃ p x g n d, c = .hbmWrite p x g n d) ∨ (∃ w, c = .registerWrite w)
          ∨ (∃ t v, c = .tlRotateLoad t v) ∨ (∃ t v, c = .tlRotateUpdate t v) ∨ (∃ g e m, c = .forwardMvm g e m)
          ∨ (∃ g e m, c = .reverseRead g e m) ∨ (∃ g, c = .monWindowEnd g) ∨ (∃ g, c = .yarderHbmToDeck g) ∨ (∃ g, c = .yarderDeckToHbm g)
          ∨ ∃ g, c = .indexGather g

namespace Sys2Proof.Machine

/-! ## Fellers: the scalar instructions (R185 to R190) -/

/-- R185, R187: the register forms write their result to `sd` and go on to the next instruction; nothing else changes. -/
def ScalarRegisterForms : Prop :=
  ∀ (s : State) (f : FellerId) (sd sa sb : Fin 32), FellerRuns s f →
    let a := s.scalar f sa
    let b := s.scalar f sb
    (∃ t, exec (.fellerAdd f sd sa sb) s = .next t ∧ WroteScalar s t f sd (a + b))
    ∧ (∃ t, exec (.fellerSub f sd sa sb) s = .next t ∧ WroteScalar s t f sd (a - b))
    ∧ (∃ t, exec (.fellerAnd f sd sa sb) s = .next t ∧ WroteScalar s t f sd (a &&& b))
    ∧ (∃ t, exec (.fellerOr f sd sa sb) s = .next t ∧ WroteScalar s t f sd (a ||| b))
    ∧ (∃ t, exec (.fellerXor f sd sa sb) s = .next t ∧ WroteScalar s t f sd (a ^^^ b))
    ∧ (∃ t, exec (.fellerMul f sd sa sb) s = .next t ∧ WroteScalar s t f sd (a * b))
    ∧ (∃ t, exec (.fellerMulh f sd sa sb) s = .next t ∧
        WroteScalar s t f sd (BitVec.ofInt 64 (a.toInt * b.toInt / 2 ^ 64)))
    ∧ (∃ t, exec (.fellerMin f sd sa sb) s = .next t ∧ WroteScalar s t f sd (BitVec.ofInt 64 (min a.toInt b.toInt)))
    ∧ (∃ t, exec (.fellerMax f sd sa sb) s = .next t ∧ WroteScalar s t f sd (BitVec.ofInt 64 (max a.toInt b.toInt)))
    ∧ (∃ t, exec (.fellerMinu f sd sa sb) s = .next t ∧ WroteScalar s t f sd (BitVec.ofNat 64 (min a.toNat b.toNat)))
    ∧ (∃ t, exec (.fellerMaxu f sd sa sb) s = .next t ∧ WroteScalar s t f sd (BitVec.ofNat 64 (max a.toNat b.toNat)))
    ∧ (∃ t, exec (.fellerSlt f sd sa sb) s = .next t ∧ WroteScalar s t f sd (if a.toInt < b.toInt then 1 else 0))
    ∧ (∃ t, exec (.fellerSltu f sd sa sb) s = .next t ∧ WroteScalar s t f sd (if a.toNat < b.toNat then 1 else 0))

/-- R186, R187: the immediate is two's complement, and LUI shifts it left by 16. -/
def ScalarImmediateForms : Prop :=
  ∀ (s : State) (f : FellerId) (sd sa : Fin 32) (imm : BitVec 16), FellerRuns s f →
    let a := s.scalar f sa
    let i := BitVec.ofInt 64 imm.toInt
    (∃ t, exec (.fellerAddi f sd sa imm) s = .next t ∧ WroteScalar s t f sd (a + i))
    ∧ (∃ t, exec (.fellerAndi f sd sa imm) s = .next t ∧ WroteScalar s t f sd (a &&& i))
    ∧ (∃ t, exec (.fellerOri f sd sa imm) s = .next t ∧ WroteScalar s t f sd (a ||| i))
    ∧ (∃ t, exec (.fellerXori f sd sa imm) s = .next t ∧ WroteScalar s t f sd (a ^^^ i))
    ∧ (∃ t, exec (.fellerLui f sd imm) s = .next t ∧ WroteScalar s t f sd (BitVec.ofInt 64 (imm.toInt * 65536)))
    ∧ (∃ t, exec (.fellerSlti f sd sa imm) s = .next t ∧ WroteScalar s t f sd (if a.toInt < imm.toInt then 1 else 0))

/-- R187: a shift by less than 64; a shift by 64 or more writes a free value, one for each such shift (log 66). -/
def ScalarShifts : Prop :=
  ∀ (s : State) (f : FellerId) (sd sa sb : Fin 32), FellerRuns s f →
    let a := s.scalar f sa
    let n := (s.scalar f sb).toNat
    ∃ t u v, exec (.fellerShl f sd sa sb) s = .next t ∧ exec (.fellerShr f sd sa sb) s = .next u
      ∧ exec (.fellerSra f sd sa sb) s = .next v
      ∧ (n < 64 → WroteScalar s t f sd (BitVec.ofNat 64 (a.toNat * 2 ^ n)) ∧ WroteScalar s u f sd (BitVec.ofNat 64 (a.toNat / 2 ^ n))
          ∧ WroteScalar s v f sd (BitVec.ofInt 64 (a.toInt / 2 ^ n))
          ∧ t.freeUses = s.freeUses ∧ u.freeUses = s.freeUses ∧ v.freeUses = s.freeUses)
      ∧ (64 ≤ n → ∀ w ∈ [t, u, v], WroteScalar s w f sd (Config.freeBits s.freeUses 64) ∧ w.freeUses = s.freeUses + 1)

end Sys2Proof.Machine

open Sys2Proof Sys2Proof.Machine in
/-- Scalar instructions write their result to one register and go on. -/
def Obligations.ScalarInstructions : Prop :=
  Machine.ScalarRegisterForms ∧ Machine.ScalarImmediateForms ∧ Machine.ScalarShifts

namespace Sys2Proof.Machine

/-- R187: a load of 1, 2, 4 or 8 bytes from the home grove's deck, aligned to its size, zero-extends. -/
def ScalarLoads : Prop :=
  ∀ (s : State) (f : FellerId) (sd sa : Fin 32) (imm : BitVec 16), FellerRuns s f →
    let a := (s.scalar f sa + BitVec.ofInt 64 imm.toInt).toNat
    let byte (k : Nat) : Nat := (s.decks.read ((s.feller f).home.num * 16777216 + a + k)).toNat
    (a < 16777216 → ∃ t, exec (.fellerLdB f sd sa imm) s = .next t ∧ WroteScalar s t f sd (BitVec.ofNat 64 (byte 0)))
    ∧ (a < 16777216 → a % 2 = 0 → ∃ t, exec (.fellerLdH f sd sa imm) s = .next t ∧
        WroteScalar s t f sd (BitVec.ofNat 64 (byte 0 + 2 ^ 8 * byte 1)))
    ∧ (a < 16777216 → a % 4 = 0 → ∃ t, exec (.fellerLdW f sd sa imm) s = .next t ∧
        WroteScalar s t f sd (BitVec.ofNat 64 (byte 0 + 2 ^ 8 * byte 1 + 2 ^ 16 * byte 2 + 2 ^ 24 * byte 3)))
    ∧ (a < 16777216 → a % 8 = 0 → ∃ t, exec (.fellerLdD f sd sa imm) s = .next t ∧
        WroteScalar s t f sd (BitVec.ofNat 64 (byte 0 + 2 ^ 8 * byte 1 + 2 ^ 16 * byte 2 + 2 ^ 24 * byte 3
          + 2 ^ 32 * byte 4 + 2 ^ 40 * byte 5 + 2 ^ 48 * byte 6 + 2 ^ 56 * byte 7)))

/-- What a store of `n` bytes by a feller leaves (R168, R187): the low bytes of the register from the address on, unless the task's
sequence is felled, and the next instruction. -/
def FellerStored (s t : State) (f : FellerId) (sd : Fin 32) (a n : Nat) : Prop :=
  (∀ k, k < n → t.decks.read (deckAddr (s.feller f).home a + k) =
    if s.storesLand f then BitVec.ofNat 8 ((s.scalar f sd).toNat / 256 ^ k) else s.decks.read (deckAddr (s.feller f).home a + k))
  ∧ DeckSameBut s t (s.feller f).home a n ∧ t.decks.wf = true
  ∧ WentTo s t f (s.pc f + 4) ∧ t = { s with decks := t.decks, regs := t.regs }

/-- R187: a store of 1, 2, 4 or 8 bytes, aligned to its size. -/
def ScalarStores : Prop :=
  ∀ (s : State) (f : FellerId) (sd sa : Fin 32) (imm : BitVec 16), FellerRuns s f → s.decks.wf = true →
    let a := (s.scalar f sa + BitVec.ofInt 64 imm.toInt).toNat
    a < 16777216 →
    (∃ t, exec (.fellerStB f sd sa imm) s = .next t ∧ FellerStored s t f sd a 1)
    ∧ (a % 2 = 0 → ∃ t, exec (.fellerStH f sd sa imm) s = .next t ∧ FellerStored s t f sd a 2)
    ∧ (a % 4 = 0 → ∃ t, exec (.fellerStW f sd sa imm) s = .next t ∧ FellerStored s t f sd a 4)
    ∧ (a % 8 = 0 → ∃ t, exec (.fellerStD f sd sa imm) s = .next t ∧ FellerStored s t f sd a 8)

/-- R187, R190: an access that ends beyond 16 MiB is a feller fault with code 3, one that is not aligned to its size a fault with code 4. -/
def DeckAccessFaults : Prop :=
  ∀ (s : State) (f : FellerId) (sd sa : Fin 32) (imm : BitVec 16), s.coreState f = 1 →
    let a := (s.scalar f sa + BitVec.ofInt 64 imm.toInt).toNat
    ∀ p ∈ [(Instr.fellerLdB f sd sa imm, 1), (.fellerLdH f sd sa imm, 2), (.fellerLdW f sd sa imm, 4), (.fellerLdD f sd sa imm, 8),
        (.fellerStB f sd sa imm, 1), (.fellerStH f sd sa imm, 2), (.fellerStW f sd sa imm, 4), (.fellerStD f sd sa imm, 8)],
      (16777216 < a + p.2 → exec p.1 s = .next (s.fellerFault f 3))
      ∧ (a + p.2 ≤ 16777216 → a % p.2 ≠ 0 → exec p.1 s = .next (s.fellerFault f 4))

end Sys2Proof.Machine

open Sys2Proof Sys2Proof.Machine in
/-- Scalar loads and stores, and the feller faults of their addresses. -/
def Obligations.ScalarMemoryInstructions : Prop :=
  Machine.ScalarLoads ∧ Machine.ScalarStores ∧ Machine.DeckAccessFaults

namespace Sys2Proof.Machine

/-- R186, R187: a branch counts in instructions, from itself or from the next one (`Config.branchFromSelf`, log 11); one that is not taken goes on. JAL
leaves the address of the next instruction in s31, and JR goes to the address in a register. -/
def BranchesAndJumps : Prop :=
  ∀ (s : State) (f : FellerId) (sa sb : Fin 32) (off : BitVec 16) (far : BitVec 26), FellerRuns s f →
    let base : Int := (s.pc f : Int) + if Config.branchFromSelf then 0 else 4
    let a := s.scalar f sa
    let b := s.scalar f sb
    (∀ p ∈ [(Instr.fellerBeq f sa sb off, decide (a = b)), (.fellerBne f sa sb off, decide (a ≠ b)),
        (.fellerBlt f sa sb off, decide (a.toInt < b.toInt)), (.fellerBltu f sa sb off, decide (a.toNat < b.toNat))],
      (p.2 = false → ∃ t, exec p.1 s = .next t ∧ WentTo s t f (s.pc f + 4) ∧ t = { s with regs := t.regs })
      ∧ (p.2 = true → ∀ d : Nat, (d : Int) = base + 4 * off.toInt → d + 4 ≤ storeBytes →
          ∃ t, exec p.1 s = .next t ∧ WentTo s t f d ∧ t = { s with regs := t.regs }))
    ∧ (∀ d : Nat, (d : Int) = base + 4 * far.toInt → d + 4 ≤ storeBytes →
        ∃ t, exec (.fellerJal f far) s = .next t ∧ WentTo s t f d ∧ t = { s with regs := t.regs, fellers := t.fellers }
          ∧ (∀ r, t.scalar f r = if r = 31 then BitVec.ofNat 64 (s.pc f + 4) else s.scalar f r)
          ∧ ∀ r, r ≠ f → t.feller r = s.feller r)
    ∧ (a.toNat + 4 ≤ storeBytes → ∃ t, exec (.fellerJr f sa) s = .next t ∧ WentTo s t f a.toNat ∧ t = { s with regs := t.regs })

/-- A feller has stopped (R184, R190): it holds no task, its bit of cores_running is 0, and the stand meter no longer holds its 250 mW. -/
def FellerStopped (s t : State) (f : FellerId) (core : Nat) : Prop :=
  t.coreState f = core ∧ t.getAt gvCoreStatus_task f.groveId.num f.core.val = 0xFFFF
  ∧ t.pc f = s.pc f
  ∧ t.get ⟨.gvStatus, 4 + f.core.val, 1⟩ f.groveId.num = 0
  ∧ t.get pwMeter_meter f.stand.val = s.get pwMeter_meter f.stand.val - 250
  ∧ t.feller f = { s.feller f with task := none, wait := .running }
  ∧ (∀ r, r ≠ f → t.feller r = s.feller r)

/-- R187, R190, R216: where an instruction faults, the feller stops with the fault's code, core_fault sets, and the task's image, if it has one, is marked
faulted. An instruction that is not listed faults with code 1 (CSRs 7 to 31 among them), one whose successor lies outside the store with code 2, a
write of a listed CSR with code 5; TRAP, for which R187 gives no effect but its name, faults with a free code (log 65). -/
def FellerFaults : Prop :=
  ∀ (s : State) (f : FellerId), s.coreState f = 1 →
    (∀ code, code < 256 → ∃ u, FellerStopped s u f 4 ∧ u.getAt gvCoreStatus_fault f.groveId.num f.core.val = code
      ∧ u.on gvEvent_coreFault f.groveId.num = true ∧ u = { s with regs := u.regs, fellers := u.fellers }
      ∧ s.fellerFault f code = (match (s.feller f).task with
        | some q => u.faultImage (descTag q.desc) false
        | none => u))
    ∧ (∀ word, decodeFeller f word = none → exec (.illegalInstruction f word) s = .next (s.fellerFault f 1))
    ∧ (∀ sa csr : Fin 32, exec (.csrWrite f sa csr) s = .next (s.fellerFault f (if 6 < csr.val then 1 else 5))
        ∧ (6 < csr.val → exec (.csrRead f sa csr) s = .next (s.fellerFault f 1)))
    ∧ (s.pc f = storeBytes - 4 → exec (.fellerNop f) s = .next (s.fellerFault f 2))
    ∧ (∀ sa : Fin 32, storeBytes < (s.scalar f sa).toNat + 4 → exec (.fellerJr f sa) s = .next (s.fellerFault f 2))
    ∧ (∃ code u, code < 256 ∧ exec (.fellerTrap f) s = .next (u.fellerFault f code) ∧ u = { s with freeUses := s.freeUses + 1 }
        ∧ code = (Config.freeBits s.freeUses 8).toNat)

end Sys2Proof.Machine

open Sys2Proof Sys2Proof.Machine in
/-- Branches and jumps, and what a feller fault leaves. -/
def Obligations.BranchesAndFellerFaults : Prop :=
  Machine.BranchesAndJumps ∧ Machine.FellerFaults

namespace Sys2Proof.Machine

/-! ## Fellers: tasks, issue, counters and CSRs (R163 to R168, R184, R187, R199) -/

/-- A feller of a grove runs a task of a home grove (R184, R185, R190): its pc is the task's entry, its home and its argument line are the
task's, and the stand meter holds its 250 mW. -/
def StartedTask (s t : State) (f : FellerId) (home : GroveId) (q : QItem) : Prop :=
  t.coreState f = 1 ∧ t.pc f = fieldOf q.desc 128 143 ∧ t.getAt gvCoreStatus_task f.groveId.num f.core.val = q.slot % 65536
  ∧ t.getAt gvCoreStatus_fault f.groveId.num f.core.val = 0
  ∧ t.get ⟨.gvStatus, 4 + f.core.val, 1⟩ f.groveId.num = 1
  ∧ t.feller f = { s.feller f with home := home, argLine := fieldOf q.desc 144 161, task := some q, wait := .running }
  ∧ (∀ r, r ≠ f → t.feller r = s.feller r)
  ∧ t.get pwMeter_meter f.stand.val = s.get pwMeter_meter f.stand.val + 250
  ∧ t = { s with regs := t.regs, fellers := t.fellers, groves := t.groves }

/-- R184, R199: an idle feller takes the oldest task of its grove; an idle feller whose own queue is empty steals the last stealable task of the first
queue in probe order that holds more than steal_min, which keeps its owner as home. -/
def TasksTakenAndStolen : Prop :=
  (∀ (s : State) (f : FellerId) (q : QItem) (rest : List QItem), s.coreState f = 0 → Ready s f.groveId 9 0 250 q rest →
    ∃ t, exec (.taskTake f) s = .next t ∧ StartedTask s t f f.groveId q ∧ Taken s t f.groveId 9 rest)
  ∧ (∀ (s : State) (f : FellerId) (v : GroveId) (q : QItem) (before after : List QItem), s.coreState f = 0 → s.lockstep = false →
    s.on gvCtrl_taskStealEn f.groveId.num = true → s.groveOn f.groveId = true → s.heldOn f.stand.val = false →
    s.on pwStandStatus_elecThin f.stand.val = false → (s.grove f.groveId).queue 9 = [] →
    (probeOrder f.groveId).find? (fun v => decide (s.get gvCtrl_stealMin f.groveId.num < ((s.grove v).queue 9).length)
      && ((s.grove v).queue 9).any (fun q => bit q.desc.toNat 162)) = some v →
    (s.grove v).queue 9 = before ++ q :: after → bit q.desc.toNat 162 = true → (∀ r ∈ after, bit r.desc.toNat 162 = false) →
    s.mayStart v q = true → s.meterAllows f.stand.val 250 = true → s.isFelled v q.desc = false → descOk q.desc = true →
    ∃ t, exec (.taskSteal f) s = .next t ∧ StartedTask s t f v q ∧ Taken s t v 9 (before ++ after)
      ∧ t.get gvStealCount_tasksIn f.groveId.num = (s.get gvStealCount_tasksIn f.groveId.num + 1) % 65536
      ∧ t.get gvStealCount_tasksOut v.num = (s.get gvStealCount_tasksOut v.num + 1) % 65536)

/-- A descriptor has joined the end of a stage queue of a grove (R163, R166); a slot number of 0 to 31 goes with it. -/
def Queued (s t : State) (g : GroveId) (stage : Nat) (d : Descriptor) : Prop :=
  (t.grove g).queue stage = (s.grove g).queue stage ++ [{ desc := d, slot := (s.grove g).nextSlot }]
  ∧ (∀ k, k ≠ stage → (t.grove g).queue k = (s.grove g).queue k) ∧ (∀ r, r ≠ g → t.grove r = s.grove r)

/-- The descriptor that ISSUE puts into a queue (R187): with `sb` not s0 its step is bits 31 to 0 of `sb`, its sequence bits 46 to 32, and
seq_valid is 1. -/
def issued (d : Descriptor) (sb : Fin 32) (v : BitVec 64) : Descriptor :=
  if sb = 0 then d else BitVec.ofNat 256 (putBits (putBits (putBits d.toNat 80 32 v.toNat) 48 15 (v.toNat / 2 ^ 32)) 8 1 1)

/-- R163, R166, R187: ISSUE puts the descriptor at a 32-byte place of the home grove's deck into its stage queue; while the queue is full the feller
waits, and ISSUE_STALL_RELEASE puts it there once a slot is free. TASK_PUSH does so for a task descriptor. -/
def DescriptorsIssued : Prop :=
  ∀ (s : State) (f : FellerId) (sa sb : Fin 32), FellerRuns s f →
    let a := (s.scalar f sa).toNat
    let home := (s.feller f).home
    let d := issued (s.descriptorAt f a) sb (s.scalar f sb)
    (a + 32 ≤ 16777216 → a % 32 = 0 → descStage d < 10 →
      (((s.grove home).queue (descStage d)).length < queueDepth (descStage d) →
        ∃ t, exec (.issue f sa sb) s = .next t ∧ Queued s t home (descStage d) d ∧ WentTo s t f (s.pc f + 4)
          ∧ t = { s with regs := t.regs, groves := t.groves })
      ∧ (queueDepth (descStage d) ≤ ((s.grove home).queue (descStage d)).length →
        ∃ t, exec (.issue f sa sb) s = .next t ∧ t.coreState f = 3 ∧ t.pc f = s.pc f
          ∧ (t.feller f).wait = .queue (descStage d) d ∧ t = { s with regs := t.regs, fellers := t.fellers }))
    ∧ (a + 32 ≤ 16777216 → a % 32 = 0 → descStage (s.descriptorAt f a) = 9 → ((s.grove home).queue 9).length < 32 →
        ∃ t, exec (.taskPush f sa) s = .next t ∧ Queued s t home 9 (s.descriptorAt f a) ∧ WentTo s t f (s.pc f + 4)
          ∧ t = { s with regs := t.regs, groves := t.groves })

/-- R166: a feller that waits on a full queue goes on, and its descriptor joins the queue, once a slot of it is free. -/
def IssueStallEnds : Prop :=
  ∀ (s : State) (f : FellerId) (stage : Nat) (d : Descriptor), s.coreState f = 3 → (s.feller f).wait = .queue stage d →
    s.pc f + 8 ≤ storeBytes → ((s.grove (s.feller f).home).queue stage).length < queueDepth stage →
    ∃ t, exec (.issueStallRelease f) s = .next t ∧ Queued s t (s.feller f).home stage d ∧ t.coreState f = 1 ∧ t.pc f = s.pc f + 4
      ∧ t.feller f = { s.feller f with wait := .running } ∧ t = { s with regs := t.regs, fellers := t.fellers, groves := t.groves }

end Sys2Proof.Machine

open Sys2Proof Sys2Proof.Machine in
/-- Tasks are taken and stolen, descriptors are issued, and a full queue stalls. -/
def Obligations.TasksAndDescriptors : Prop :=
  Machine.TasksTakenAndStolen ∧ Machine.DescriptorsIssued ∧ Machine.IssueStallEnds

namespace Sys2Proof.Machine

/-- R165, R187: CTR_WAIT goes on at once where the counter has reached the low 16 bits of `sa`, else the feller waits in state 2 with its pc on the
instruction; CTR_WAIT_RELEASE lets it go on. A queue's head reads its counter at its start boundary, so its release changes nothing (R167). -/
def CounterWaits : Prop :=
  (∀ (s : State) (f : FellerId) (sa : Fin 32) (ctr : Fin 64), FellerRuns s f →
    let v := (s.scalar f sa).toNat % 65536
    let c := s.counter (s.feller f).home ctr.val
    ((c + 65536 - v) % 65536 < 32768 →
      ∃ t, exec (.ctrWait f sa ctr) s = .next t ∧ WentTo s t f (s.pc f + 4) ∧ t = { s with regs := t.regs })
    ∧ (32768 ≤ (c + 65536 - v) % 65536 →
      ∃ t, exec (.ctrWait f sa ctr) s = .next t ∧ t.coreState f = 2 ∧ t.pc f = s.pc f
        ∧ (t.feller f) = { s.feller f with wait := .counter ctr v } ∧ t = { s with regs := t.regs, fellers := t.fellers }))
  ∧ (∀ (s : State) (f : FellerId) (ctr : Fin 64) (v : Nat), s.coreState f = 2 → (s.feller f).wait = .counter ctr v → v < 65536 →
    s.pc f + 8 ≤ storeBytes → (s.counter (s.feller f).home ctr.val + 65536 - v) % 65536 < 32768 →
    ∃ t, exec (.ctrWaitRelease (.feller f)) s = .next t ∧ t.coreState f = 1 ∧ t.pc f = s.pc f + 4
      ∧ t.feller f = { s.feller f with wait := .running } ∧ t = { s with regs := t.regs, fellers := t.fellers })
  ∧ ∀ (s : State) (g : GroveId) (stage : Fin 10), exec (.ctrWaitRelease (.queue g stage)) s = .next s

/-- R165, R187: CTR_ADD adds a two's-complement immediate modulo 2^16; CTR_READ and CSR_READ write a scalar register; FENCE and NOP only go on; the CSRs
are the core, the grove and the stand of the feller, the stand's tally, the home grove, the argument line and the lockstep mode. -/
def CountersAndCsrs : Prop :=
  ∀ (s : State) (f : FellerId) (ra : Fin 32) (ctr : Fin 64) (imm : BitVec 10), FellerRuns s f →
    let home := (s.feller f).home
    (∃ t, exec (.ctrAdd f ctr imm) s = .next t ∧ t.pc f = s.pc f + 4 ∧ t = { s with regs := t.regs }
      ∧ ((t.counter home ctr.val : Nat) : Int) = ((s.counter home ctr.val : Int) + imm.toInt) % 65536
      ∧ ∀ g k, (g ≠ home ∨ k ≠ ctr.val) → t.counter g k = s.counter g k)
    ∧ (∃ t, exec (.ctrRead f ra ctr) s = .next t ∧ WroteScalar s t f ra (BitVec.ofNat 64 (s.counter home ctr.val)))
    ∧ (∃ t, exec (.fence f) s = .next t ∧ WentTo s t f (s.pc f + 4) ∧ t = { s with regs := t.regs })
    ∧ (∃ t, exec (.fellerNop f) s = .next t ∧ WentTo s t f (s.pc f + 4) ∧ t = { s with regs := t.regs })
    ∧ ∀ p ∈ [((0 : Fin 32), f.core.val), (1, f.grove.val), (2, f.stand.val), (3, (s.road' f.stand).tally), (4, home.grove.val),
        (5, (s.feller f).argLine), (6, if s.lockstep then 1 else 0)],
      ∃ t, exec (.csrRead f ra p.1) s = .next t ∧ WroteScalar s t f ra (BitVec.ofNat 64 p.2)

/-- R184, R187: TASK_END leaves the feller idle and does the task's done action; HALT leaves it halted without one. -/
def TasksEnd : Prop :=
  ∀ (s : State) (f : FellerId), s.coreState f = 1 →
    (∀ q, (s.feller f).task = some q → s.lockstep = false → s.isFelled (s.feller f).home q.desc = false →
      ∃ t, exec (.taskEnd f) s = .next t ∧ FellerStopped s t f 0 ∧ DoneCounted s t (s.feller f).home q.desc
        ∧ t = { s with regs := t.regs, fellers := t.fellers })
    ∧ ∃ t, exec (.fellerHalt f) s = .next t ∧ FellerStopped s t f 5 ∧ t = { s with regs := t.regs, fellers := t.fellers }
        ∧ ∀ g k, t.counter g k = s.counter g k

end Sys2Proof.Machine

open Sys2Proof Sys2Proof.Machine in
/-- Counter waits, counter and CSR instructions, and the ends of a task. -/
def Obligations.CountersAndTaskEnds : Prop :=
  Machine.CounterWaits ∧ Machine.CountersAndCsrs ∧ Machine.TasksEnd

namespace Sys2Proof.Machine

/-! ## Fellers: the vector unit (R126 to R128, R185, R187 to R189) -/

/-- A vector instruction has written `r i` into the low bits of lane `i` of a register where the mask bit of the lane is 1, has left the
other lanes, and has gone on; what the high byte of an 8-bit lane then holds is free (R188, log 70). -/
def LanesWritten (s t : State) (f : FellerId) (vd : Fin 16) (mask : MaskReg) (ty : LaneType) (r : Nat → Nat) : Prop :=
  ∃ w, WroteVector s t f vd w ∧ ∀ i, i < 512 →
    if bit mask.toNat i then VecReg.lane w i % 2 ^ laneBits ty = r i else VecReg.lane w i = VecReg.lane ((s.feller f).vector vd) i

/-- R187, R188: the lane-by-lane instructions write each unmasked lane with the operation of the lane type; the lanes of one instruction take their free
values (log 66, 69) from one use. -/
def VectorLaneArithmetic : Prop :=
  ∀ (s : State) (f : FellerId) (vd va vb : Fin 16) (mask : Fin 4) (ty : LaneType), FellerRuns s f →
    let x := s.feller f
    let a (i : Nat) : Nat := VecReg.lane (x.vector va) i
    let b (i : Nat) : Nat := VecReg.lane (x.vector vb) i
    let d (i : Nat) : Nat := VecReg.lane (x.vector vd) i
    let free (i : Nat) : Nat := VecReg.lane (Config.freeBits s.freeUses 8192) i
    ∀ p ∈ [(Instr.vecAdd f vd va vb mask ty, fun i => laneAdd ty (free i) (a i) (b i)),
        (.vecSub f vd va vb mask ty, fun i => laneSub ty (free i) (a i) (b i)),
        (.vecMul f vd va vb mask ty, fun i => laneMul ty (free i) (a i) (b i)),
        (.vecFma f vd va vb mask ty, fun i => laneFma ty (free i) (a i) (b i) (d i)),
        (.vecMin f vd va vb mask ty, fun i => laneMin ty (free i) (a i) (b i)),
        (.vecMax f vd va vb mask ty, fun i => laneMax ty (free i) (a i) (b i)),
        (.vecAbs f vd va mask ty, fun i => laneAbs ty (free i) (a i)),
        (.vecNeg f vd va mask ty, fun i => laneNeg ty (free i) (a i))],
      ∃ t, exec p.1 s = .next t ∧ LanesWritten s t f vd (x.mask mask) ty p.2

/-- R188: on an integer lane type a sum, difference, product, minimum, maximum, magnitude or negation is the exact integer where the type holds it; on a
floating-point type a sum, product or fused multiply-add of finite values is the exact result rounded once, and an exact sum of zero is negative only
where both terms are. -/
def LaneArithmeticIsExact : Prop :=
  (∀ (ty : LaneType) (free a b c : Nat), floatOf ty = none →
    let x := laneInt ty a
    let y := laneInt ty b
    let fits (v : Int) : Prop := laneInt ty (unsigned (laneBits ty) v) = v
    ∀ p ∈ [(laneAdd ty free a b, x + y), (laneSub ty free a b, x - y), (laneMul ty free a b, x * y), (laneFma ty free a b c, x * y + laneInt ty c),
        (laneMin ty free a b, min x y), (laneMax ty free a b, max x y), (laneAbs ty free a, (x.natAbs : Int)), (laneNeg ty free a, -x)],
      fits p.2 → laneInt ty p.1 = p.2 ∧ p.1 < 2 ^ laneBits ty)
  ∧ (∀ (ty : LaneType) (g : FFmt) (free a b c : Nat) (sa sb sc : Bool) (ma mb mc : Nat) (ea eb ec : Int), floatOf ty = some g →
    g.decode (a % 2 ^ g.width) = .fin sa ma ea → g.decode (b % 2 ^ g.width) = .fin sb mb eb →
    g.decode (c % 2 ^ g.width) = .fin sc mc ec →
    let x := (FVal.fin sa ma ea).ex
    let y := (FVal.fin sb mb eb).ex
    let xy := FVal.fin (sa != sb) (ma * mb) (ea + eb)
    laneAdd ty free a b = g.encode (sa && sb) (x.add y) ∧ laneSub ty free a b = g.encode (sa && !sb) (x.add (FVal.fin (!sb) mb eb).ex)
    ∧ laneMul ty free a b = g.ofVal xy
    ∧ laneFma ty free a b c = g.encode ((sa != sb) && sc) (xy.ex.add (FVal.fin sc mc ec).ex))

/-- R187: a comparison writes its bits into the unmasked lanes of a mask register and leaves the other bits; m0 ignores the write (R185). -/
def VectorComparisons : Prop :=
  ∀ (s : State) (f : FellerId) (md : Fin 4) (va vb : Fin 16) (mask : Fin 4) (ty : LaneType), FellerRuns s f →
    let x := s.feller f
    let a (i : Nat) : Nat := VecReg.lane (x.vector va) i
    let b (i : Nat) : Nat := VecReg.lane (x.vector vb) i
    ∀ p ∈ [(Instr.vecCmpEq f md va vb mask ty, laneEq ty), (.vecCmpLt f md va vb mask ty, laneLt ty), (.vecCmpLe f md va vb mask ty, laneLe ty)],
      ∃ t w, exec p.1 s = .next t ∧ WroteMask s t f md w
        ∧ ∀ i, i < 512 → bit w.toNat i = if bit (x.mask mask).toNat i then p.2 (a i) (b i) else bit (x.mask md).toNat i

end Sys2Proof.Machine

open Sys2Proof Sys2Proof.Machine in
/-- Vector arithmetic and comparisons, lane by lane, exact or rounded once. -/
def Obligations.VectorArithmetic : Prop :=
  Machine.VectorLaneArithmetic ∧ Machine.LaneArithmeticIsExact ∧ Machine.VectorComparisons

namespace Sys2Proof.Machine

/-- R187: the bit operations and shifts of integer lanes; on another lane type they are not listed, a feller fault with code 1 (R190). A shift by the
lane's width or more is a free value (log 66). -/
def VectorBitOperations : Prop :=
  ∀ (s : State) (f : FellerId) (vd va vb : Fin 16) (mask : Fin 4) (ty : LaneType), FellerRuns s f →
    let x := s.feller f
    let w := laneBits ty
    let a (i : Nat) : Nat := VecReg.lane (x.vector va) i % 2 ^ w
    let b (i : Nat) : Nat := VecReg.lane (x.vector vb) i % 2 ^ w
    let free (i : Nat) : Nat := VecReg.lane (Config.freeBits s.freeUses 8192) i % 2 ^ w
    ∀ p ∈ [(Instr.vecAnd f vd va vb mask ty, fun i => a i &&& b i), (.vecOr f vd va vb mask ty, fun i => a i ||| b i),
        (.vecXor f vd va vb mask ty, fun i => a i ^^^ b i),
        (.vecShl f vd va vb mask ty, fun i => if b i < w then a i * 2 ^ b i % 2 ^ w else free i),
        (.vecShr f vd va vb mask ty, fun i => if b i < w then a i / 2 ^ b i else free i),
        (.vecSra f vd va vb mask ty, fun i => if b i < w then unsigned w (signed w (a i) / 2 ^ b i) else free i)],
      (ty.isInt = true → ∃ t, exec p.1 s = .next t ∧ LanesWritten s t f vd (x.mask mask) ty p.2)
      ∧ (ty.isInt = false → exec p.1 s = .next (s.fellerFault f 1))

/-- R189: a reduction of integers is exact in 64 bits; one of floating-point lanes writes its code in the low bits of `sd`, the sum by the fixed tree.
Masked-off lanes enter as +0. -/
def VectorReductions : Prop :=
  ∀ (s : State) (f : FellerId) (sd : Fin 32) (va : Fin 16) (mask : Fin 4) (ty : LaneType), FellerRuns s f →
    let x := s.feller f
    let xs : List Nat := (upTo 512).map (fun i => if bit (x.mask mask).toNat i then VecReg.lane (x.vector va) i else 0)
    (floatOf ty = none →
      (∃ t, exec (.vecSum f sd va mask ty) s = .next t ∧ WroteScalar s t f sd (BitVec.ofInt 64 ((xs.map (laneInt ty)).sum)))
      ∧ (∃ t, exec (.vecReduceMax f sd va mask ty) s = .next t ∧ ∃ m ∈ xs.map (laneInt ty), (∀ n ∈ xs.map (laneInt ty), n ≤ m) ∧
          WroteScalar s t f sd (BitVec.ofInt 64 m))
      ∧ (∃ t, exec (.vecReduceMin f sd va mask ty) s = .next t ∧ ∃ m ∈ xs.map (laneInt ty), (∀ n ∈ xs.map (laneInt ty), m ≤ n) ∧
          WroteScalar s t f sd (BitVec.ofInt 64 m)))
    ∧ (∀ g, floatOf ty = some g →
      let cs := xs.map (fun c => c % 2 ^ g.width)
      (∃ t v, exec (.vecSum f sd va mask ty) s = .next t ∧ WroteScalar s t f sd v ∧ v.toNat % 2 ^ g.width = treeSum g 9 cs)
      ∧ (∃ t v, exec (.vecReduceMax f sd va mask ty) s = .next t ∧ WroteScalar s t f sd v
          ∧ v.toNat % 2 ^ g.width = floatExtreme floatMax g ((Config.freeBits s.freeUses 64).toNat % 2 ^ g.width) cs % 2 ^ g.width)
      ∧ (∃ t v, exec (.vecReduceMin f sd va mask ty) s = .next t ∧ WroteScalar s t f sd v
          ∧ v.toNat % 2 ^ g.width = floatExtreme floatMin g ((Config.freeBits s.freeUses 64).toNat % 2 ^ g.width) cs % 2 ^ g.width))

/-- R126, R128, R187: VSELECT chooses lanes by the mask, VBCAST copies the low bits of a scalar register, VCONVERT converts lanes, and the MX instructions
unpack 512 bfloat16 lanes and pack them into 16-bit units. -/
def VectorMovesAndConversions : Prop :=
  ∀ (s : State) (f : FellerId) (vd va vb : Fin 16) (sd : Fin 32) (mask : Fin 4) (ty dst : LaneType) (fmt : Fin 6), FellerRuns s f →
    let x := s.feller f
    let a (i : Nat) : Nat := VecReg.lane (x.vector va) i
    let free := Config.freeBits s.freeUses 8192
    (∃ t, exec (.vecSelect f vd va vb mask ty) s = .next t ∧ LanesWritten s t f vd (BitVec.allOnes 512) ty
        (fun i => (if bit (x.mask mask).toNat i then a i else VecReg.lane (x.vector vb) i) % 2 ^ laneBits ty))
    ∧ (∃ t, exec (.vbcast f sd va mask ty) s = .next t ∧ LanesWritten s t f va (x.mask mask) ty
        (fun _ => (s.scalar f sd).toNat % 2 ^ laneBits ty))
    ∧ (∃ t, exec (.vecConvert f vd va mask ty dst) s = .next t ∧ LanesWritten s t f vd (x.mask mask) dst
        (fun i => laneConvert ty dst (VecReg.lane free i) (a i)))
    ∧ (∃ t, exec (.vecUnpackMx f vd va mask fmt) s = .next t ∧ LanesWritten s t f vd (x.mask mask) .bf16
        (fun i => (unpackMx fmt.val (x.vector va)).getD i 0 % 65536))
    ∧ (∃ t, exec (.vecPackMx f vd va mask ty fmt) s = .next t ∧ LanesWritten s t f vd (x.mask mask) .u16
        (fun i => VecReg.lane (packMxReg fmt.val ty free (x.vector va)) i))

end Sys2Proof.Machine

open Sys2Proof Sys2Proof.Machine in
/-- Vector bit operations, reductions, moves and conversions. -/
def Obligations.VectorBitsReductionsAndMoves : Prop :=
  Machine.VectorBitOperations ∧ Machine.VectorReductions ∧ Machine.VectorMovesAndConversions

open Sys2Proof Sys2Proof.Machine in
/-- R187, R188: VLD takes 16 lines for 16-bit lanes and 8 for 8-bit lanes from the home grove's deck, VST writes them, from `sa` on with a stride of `sb`
lines, or one after another with s0; a line that ends beyond 16 MiB is a feller fault with code 3. -/
def Obligations.VectorLoadsAndStores : Prop :=
  ∀ (s : State) (f : FellerId) (vd : Fin 16) (sa sb : Fin 32) (ty : LaneType), FellerRuns s f →
    let x := s.feller f
    let step : BitVec 64 := if sb = 0 then 1 else s.scalar f sb
    let addr (k : Nat) : Nat := (s.scalar f sa + BitVec.ofNat 64 (64 * k) * step).toNat
    let lines := if laneBits ty = 16 then 16 else 8
    let byte (n : Nat) : Nat := (s.decks.read (x.home.num * 16777216 + addr (n / 64) + n % 64)).toNat
    ((∀ k, k < lines → addr k + 64 ≤ 16777216) →
      (∃ t, exec (.vld f vd sa sb ty) s = .next t ∧ LanesWritten s t f vd (BitVec.allOnes 512) ty
        (fun i => if laneBits ty = 16 then byte (2 * i) + 256 * byte (2 * i + 1) else byte i))
      ∧ (∃ t, exec (.vst f vd sa sb ty) s = .next t ∧ WentTo s t f (s.pc f + 4) ∧ t = { s with regs := t.regs, decks := t.decks }
          ∧ t.decks = if s.storesLand f then
              (upTo lines).foldl (fun (m : Memory) k => m.writeN (x.home.num * 16777216 + addr k) ((upTo 64).map (fun j =>
                BitVec.ofNat 8 (if laneBits ty = 16 then VecReg.lane (x.vector vd) (32 * k + j / 2) / 256 ^ (j % 2)
                  else VecReg.lane (x.vector vd) (64 * k + j))))) s.decks
            else s.decks))
    ∧ ((∃ k, k < lines ∧ 16777216 < addr k + 64) →
      exec (.vld f vd sa sb ty) s = .next (s.fellerFault f 3) ∧ exec (.vst f vd sa sb ty) s = .next (s.fellerFault f 3))

namespace Sys2Proof.Machine

/-! ## Links (R30 to R43, R175, R193, R195, R474) -/

/-- R193, R195: a deck-write flit at its destination stand writes its lines to the named grove's deck, and with its last bit adds to the counter that it
names; read data goes to the deck line of the request, and an HBM write to its address. The buffer's credit goes back at once (R35). -/
def FlitsWriteMemories : Prop :=
  (∀ (s : State) (n : Fin 42) (q : Fin 8) (c : Fin 3) (x : Flit), let p := PortId.stand n q
    Accepts s p c x → x.hopsLeft = 0 → s.decks.wf = true → s.lockstep = false →
    let g : GroveId := ⟨n, Fin.ofNat 16 x.dstGrove⟩
    (∀ first lines : Nat, x.type = 1 ∨ x.type = 3 → first = x.payload.toNat % 2 ^ 18 → lines = x.payload.toNat / 2 ^ 18 % 4 →
      first + lines ≤ 262144 →
      ∃ t, exec (.deckWriteFlit p x) s = .next t ∧ TookFlit s t p c ∧ t.out = s.out ++ [.credit p c]
        ∧ t.deckRead g (64 * first) (64 * lines) = (x.payloadBytes.drop 8).take (64 * lines)
        ∧ DeckSameBut s t g (64 * first) (64 * lines)
        ∧ (∀ h k, t.counter h k = if h = g ∧ x.last = true ∧ bit x.payload.toNat 26 = true ∧ k = x.payload.toNat / 2 ^ 20 % 64
            then (s.counter h k + 1) % 65536 else s.counter h k)
        ∧ t = { s with ports := t.ports, out := t.out, regs := t.regs, decks := t.decks })
    ∧ (∀ (line : BitVec 18) (bytes : List Byte), x.type = 5 → 64 * line.toNat + bytes.length ≤ 16777216 →
      ∃ t, exec (.hbmReadData p x line bytes) s = .next t ∧ TookFlit s t p c ∧ t.out = s.out ++ [.credit p c]
        ∧ t.deckRead g (64 * line.toNat) bytes.length = bytes ∧ DeckSameBut s t g (64 * line.toNat) bytes.length
        ∧ t = { s with ports := t.ports, out := t.out, regs := t.regs, decks := t.decks }))
  ∧ ∀ (s : State) (l : Fin 8) (q : Fin 3) (c : Fin 3) (x : Flit) (addr : Nat) (bytes : List Byte), let p := PortId.landing l q
    Accepts s p c x → s.hbm.wf = true → x.type = 6 → addr + bytes.length ≤ 24 * 2 ^ 36 →
    ∃ t, exec (.hbmWrite l q x addr bytes) s = .next t ∧ TookFlit s t p c ∧ t.out = s.out ++ [.credit p c]
      ∧ t.hbmRead addr bytes.length = bytes ∧ (∀ a, a < addr ∨ addr + bytes.length ≤ a → t.hbm.read a = s.hbm.read a)
      ∧ t = { s with ports := t.ports, out := t.out, regs := t.regs, hbm := t.hbm }

/-- R174, R175: a partial-sum flit that meets the armed receive of its transfer adds its exact integers to the accumulators, and its credit goes back;
with the last element the receive completes; while no receive is armed it waits in the port and holds its credit. -/
def PartialSumsAdd : Prop :=
  ∀ (s : State) (n : Fin 42) (q : Fin 8) (c : Fin 3) (x : Flit), let p := PortId.stand n q
    Accepts s p c x → x.hopsLeft = 0 → x.type = 2 →
    let g : GroveId := ⟨n, Fin.ofNat 16 x.dstGrove⟩
    (∀ r, (s.grove g).receiveOf x.imageTag x.transferId = some r → s.isFelled g r.item.desc = false →
      (partialElems x).length < r.left →
      ∃ t, exec (.partialSumFlit p x) s = .next t ∧ TookFlit s t p c ∧ t.out = s.out ++ [.credit p c]
        ∧ (∀ k, t.acc g k = s.acc g k
            + BitVec.ofInt 88 (((partialElems x).filter (fun e => e.1 % 16384 = k % 16384)).map (fun e => e.2)).sum)
        ∧ { r with left := r.left - (partialElems x).length } ∈ (t.grove g).receives
        ∧ t = { s with ports := t.ports, out := t.out, regs := t.regs, groves := t.groves })
    ∧ (∀ r, (s.grove g).receiveOf x.imageTag x.transferId = some r → s.isFelled g r.item.desc = false → s.lockstep = false →
      r.left ≤ (partialElems x).length →
      ∃ t, exec (.partialSumFlit p x) s = .next t ∧ (t.grove g).receives = (s.grove g).receives.erase r ∧ DoneCounted s t g r.item.desc)
    ∧ ((s.grove g).receiveOf x.imageTag x.transferId = none →
      ∃ t, exec (.partialSumFlit p x) s = .next t ∧ TookFlit s t p c ∧ t.out = s.out ∧ (t.port p).held = (s.port p).held ++ [x]
        ∧ t.groves = s.groves)

/-- R30, R195: a landing answers a read request with one read-data flit for each three lines, in order, on the port where it came. -/
def HbmReadsAnswered : Prop :=
  ∀ (s : State) (l : Fin 8) (q c : Fin 3) (x : Flit) (addr lines : Nat) (line : BitVec 18), let p := PortId.landing l q
    Accepts s p c x → x.type = 4 → addr + 64 * lines ≤ 24 * 2 ^ 36 →
    ∃ t, exec (.hbmReadRequest l q x addr line lines) s = .next t ∧ TookFlit s t p c ∧ t.out = s.out ++ [.credit p c]
      ∧ ∃ ws : List Waiting, ((t.port p).chan 0).waiting = ((s.port p).chan 0).waiting ++ ws ∧ ws.length = (lines + 2) / 3
        ∧ ∀ (k : Nat) (w : Waiting), ws[k]? = some w → w.arg = .hbmData (line.toNat + 3 * k) (s.hbmRead (addr + 192 * k) (64 * min 3 (lines - 3 * k)))
          ∧ w.flit.type = 5 ∧ w.flit.dstDie = x.srcDie ∧ w.flit.dstGrove = x.srcGrove

/-- R41, R42: a flit with hops left takes the relay entry of its port, image tag and transfer, and waits on the entry's port with one hop less, keeping
its receive buffer; one that no entry matches is dropped, counted and reported, and its credit goes back. -/
def RelaysForwardOrDrop : Prop :=
  ∀ (s : State) (n : Fin 42) (q : Fin 8) (c : Fin 3) (x : Flit), let p := PortId.stand n q
    Accepts s p c x → x.hopsLeft ≠ 0 →
    (∀ k, s.relayEntry n q.val x = some k →
      ∃ t u, exec (.relayFlit p x) s = .next t ∧ Waits u t (standPort n.val (s.getAt skRelay_outPort n.val k)) c
          ⟨x.withHdr 48 4 (x.hopsLeft - 1), .plain, some k, some p⟩
        ∧ TookFlit s u p c ∧ (∀ r, r ≠ p → u.port r = s.port r) ∧ ((u.port p).chan c).waiting = ((s.port p).chan c).waiting
        ∧ u = { s with ports := u.ports, regs := u.regs } ∧ t = { u with ports := t.ports })
    ∧ (s.relayEntry n q.val x = none →
      ∃ t, exec (.relayFlit p x) s = .next t ∧ TookFlit s t p c ∧ t.on skEvent_relayMiss p.num = true
        ∧ tblGet t.misses n.val 0 = tblGet s.misses n.val 0 + 1
        ∧ t.out = s.out ++ [.relayMiss n.val q.val x.imageTag, .credit p c])

end Sys2Proof.Machine

open Sys2Proof Sys2Proof.Machine in
/-- What an accepted flit does where it arrives, and relaying. -/
def Obligations.FlitsAreDelivered : Prop :=
  Machine.FlitsWriteMemories ∧ Machine.PartialSumsAdd ∧ Machine.HbmReadsAnswered ∧ Machine.RelaysForwardOrDrop

namespace Sys2Proof.Machine

/-- R34, R35, R473: a port sends the first flit that may go for one credit, with the channel's next link_seq and its CRC formed, and keeps it for a
resend; in TEST a port with nothing to send sends a flit of type 0x0 on channel 0; a credit that comes back is held again, up to the depth of the far
buffer. -/
def CreditsAndTransmission : Prop :=
  (∀ (s : State) (p : PortId) (c : Fin 3) (w : Waiting), s.linkUp p = true → 0 < s.get (creditField c) p.num →
    s.nextWaiting p c = some w → w.held = none → s.get skFaultInj_mode p.num = 0 → (s.port p).swapHeld = none →
    let ch := (s.port p).chan c
    ∃ t f, exec (.flitTransmit p c) s = .next t ∧ t.out = s.out ++ [.flit p f w.arg]
      ∧ f.linkSeq = ch.txSeq % 256 ∧ f.crcOk = true ∧ f.payload = w.flit.payload ∧ f.type = w.flit.type
      ∧ (t.port p).replay.getLast? = some (f, w.arg)
      ∧ ((t.port p).chan c).waiting = ch.waiting.erase w ∧ ((t.port p).chan c).txSeq = (ch.txSeq + 1) % 256
      ∧ t.get (creditField c) p.num = s.get (creditField c) p.num - 1)
  ∧ (∀ (s : State) (p : PortId), s.linkUp p = true → 0 < s.get (creditField 0) p.num → s.nextWaiting p 0 = none → s.service = .test →
    s.get skFaultInj_mode p.num = 0 → (s.port p).swapHeld = none →
    ∃ t f, exec (.flitTransmit p 0) s = .next t ∧ t.out = s.out ++ [.flit p f .plain] ∧ f.type = 0 ∧ f.channel = 0
      ∧ f.linkSeq = ((s.port p).chan 0).txSeq % 256 ∧ f.crcOk = true ∧ (t.port p).replay.getLast? = some (f, .plain)
      ∧ ((t.port p).chan 0).waiting = ((s.port p).chan 0).waiting)
  ∧ (∀ (s : State) (p : PortId) (c : Fin 3), ∃ t, exec (.creditReturn p c) s = .next t
      ∧ t.get (creditField c) p.num = min (if c = 0 then 368 else 8) (s.get (creditField c) p.num + 1)
      ∧ ((t.port p).chan c).out = ((s.port p).chan c).out.drop 1 ∧ ((t.port p).chan c).waiting = ((s.port p).chan c).waiting
      ∧ t = { s with regs := t.regs, ports := t.ports })

/-- R34: a nak makes the transmitter resend its channel from the failed flit out of the replay buffer; a diagnosis request makes it send the known
pattern. -/
def RetryAndDiagnosis : Prop :=
  ∀ (s : State) (p : PortId) (c : Fin 3) (x : Flit), Accepts s p c x → x.type = 8 →
    (∀ (ch : Fin 3) (failed : BitVec 8), ∃ t, exec (.nak p x ch failed) s = .next t ∧ TookFlit s t p c
      ∧ t.out = s.out ++ (.credit p c :: (replayFrom (s.port p).replay ch failed.toNat).map (fun f => .flit p f.1 f.2))
      ∧ t.get skErrors_retryCount p.num = satInc skErrors_retryCount.len (s.get skErrors_retryCount p.num))
    ∧ (∃ t, exec (.diagnosisRequest p x) s = .next t ∧ TookFlit s t p c ∧ t.out = s.out ++ [.credit p c, .link p .pattern])

end Sys2Proof.Machine

open Sys2Proof Sys2Proof.Machine in
/-- Credits, transmission, retry and diagnosis of a link. -/
def Obligations.CreditsAndRetry : Prop :=
  Machine.CreditsAndTransmission ∧ Machine.RetryAndDiagnosis

namespace Sys2Proof.Machine

/-- R38: sparing of a lane names the lowest free spare to the transmitter, which drives both; when the comparison agrees the receiver records the pair and
confirms it, and the transmitter records it too. -/
def LaneSparing : Prop :=
  ∀ (s : State) (p : PortId) (lane : Fin 512) (spare : Fin 32),
    (s.on skSpareCtrl_autoSpareEn p.num = true → s.linkUp p = true → (s.port p).spareRx = none → lane.val < lanesOf p →
      s.freeSpares p .skSpareMapRx = spare.val :: (s.freeSpares p .skSpareMapRx).tail →
      ∃ t, exec (.laneSpareStart p lane) s = .next t ∧ (t.port p).spareRx = some (lane, spare)
        ∧ t.on skStatus_sparingActive p.num = true ∧ t.out = s.out ++ [.link p (.sparing lane spare)])
    ∧ (s.linkUp p = true →
      ∃ t, exec (.sparingFlit p lane spare) s = .next t ∧ (t.port p).spareTx = some (lane, spare)
        ∧ t.on skStatus_sparingActive p.num = true ∧ t = { s with ports := t.ports, regs := t.regs })
    ∧ ((s.port p).spareRx = some (lane, spare) → s.on skStatus_retryActive p.num = false → (s.port p).sparesDue = [] →
      ∀ ms : List (Fin 512), (∀ k ∈ ms, k = lane) →
      ∃ t, exec (.spareCompareDone p ms) s = .next t ∧ (t.port p).spareRx = none
        ∧ (t.reg ⟨.skSpareMapRx, p.num, spare.val, 0⟩).toNat = 2 ^ 31 + lane.val ∧ t.on skStatus_degraded p.num = true
        ∧ t.on skStatus_sparingActive p.num = false ∧ t.out = s.out ++ [.link p (.confirm lane spare)])
    ∧ ((s.port p).spareTx = some (lane, spare) →
      ∃ t, exec (.spareConfirm p lane spare) s = .next t ∧ (t.port p).spareTx = none
        ∧ (t.reg ⟨.skSpareMapTx, p.num, spare.val, 0⟩).toNat = 2 ^ 31 + lane.val ∧ t.on skStatus_degraded p.num = true
        ∧ t.on skStatus_sparingActive p.num = false ∧ t.on skEvent_laneSpared p.num = true)

/-- R34, R38, R338, R474: a diagnosis that finds one faulty lane with a free spare spares it; a forced sparing starts at this port for a received lane; an
injection is held in TEST, and outside it the write is ignored and logged as INJECT. -/
def ForcedSparingAndInjection : Prop :=
  (∀ (s : State) (p : PortId) (lane : Fin 512) (spare : Fin 32), (s.port p).diagnosis = true → s.linkUp p = true →
    (s.port p).spareRx = none → lane.val < lanesOf p →
    s.freeSpares p .skSpareMapRx = spare.val :: (s.freeSpares p .skSpareMapRx).tail →
    (∀ k, ((s.port p).chan k).discards = false) →
    ∃ t, exec (.laneDiagnosisDone p [lane]) s = .next t ∧ (t.port p).diagnosis = false ∧ (t.port p).spareRx = some (lane, spare)
      ∧ t.on skStatus_sparingActive p.num = true ∧ t.out = s.out ++ [.link p (.sparing lane spare)])
  ∧ (∀ (s : State) (n : Fin 42) (q : Fin 8) (v : BitVec 32) (spare : Fin 32), let p := PortId.stand n q
    v.toNat / 2 ^ 31 = 1 → v.toNat / 2 ^ 9 % 2 = 1 → v.toNat % 512 < lanesOf p → s.linkUp p = true → (s.port p).spareRx = none →
    s.freeSpares p .skSpareMapRx = spare.val :: (s.freeSpares p .skSpareMapRx).tail →
    ∃ t, exec (.skSpareForce n q v) s = .next t ∧ (t.port p).spareRx = some (Fin.ofNat 512 v.toNat, spare)
      ∧ t.out = s.out ++ [.link p (.sparing (Fin.ofNat 512 v.toNat) spare)])
  ∧ ∀ (s : State) (n : Fin 42) (q : Fin 8) (v : BitVec 32), let p := PortId.stand n q
    (s.service = .test → ∃ t, exec (.skFaultInjWrite n q v) s = .next t
      ∧ (t.reg ⟨.skFaultInj, p.num, 0, 0⟩).toNat = v.toNat ∧ (t.port p).injected = 0 ∧ (t.port p).seen = 0)
    ∧ (s.service ≠ .test → ∃ t, exec (.skFaultInjWrite n q v) s = .next t ∧ t.regs = s.regs ∧ t.ports = s.ports
      ∧ ∃ w, (tblGet t.violLog (8 + s.activeForester) []).getLast? = some w ∧ w.kind = 10 ∧ w.source = n.val)

end Sys2Proof.Machine

open Sys2Proof Sys2Proof.Machine in
/-- Lane sparing, forced sparing and fault injection. -/
def Obligations.LaneSpares : Prop :=
  Machine.LaneSparing ∧ Machine.ForcedSparingAndInjection

namespace Sys2Proof.Machine

/-! ## The haul road, barriers and the lockstep grid (R44 to R54, R231 to R236, R240) -/

/-- R44, R45: a word waits at the sequencing root in the queue of its kind, behind the words that waited; a data slot carries the oldest data word, with
the slot's frame and number, on both trees, and the next slot follows, of the next frame after slot 511. Slot 0 carries the tally beacon. -/
def HaulRoadSlots : Prop :=
  (∀ (s : State) (w : HrWord),
    (w.kind = 0 → exec (.hrWordSubmit w) s = .next { s with road := { s.road with data := s.road.data ++ [w] } })
    ∧ (w.kind = 3 → exec (.hrWordSubmit w) s = .next { s with road := { s.road with barriers := s.road.barriers ++ [w] } })
    ∧ (w.kind = 4 → exec (.hrWordSubmit w) s = .next { s with road := { s.road with forester := s.road.forester ++ [w] } })
    ∧ (w.kind = 5 → exec (.hrWordSubmit w) s = .next { s with road := { s.road with linkMgmt := s.road.linkMgmt ++ [w] } }))
  ∧ (∀ (s : State) (w : HrWord) (rest : List HrWord), s.road.slot < 512 →
    let r := s.road
    let after : HaulRoad := { r with slot := (r.slot + 1) % 512, frame := if r.slot = 511 then r.frame + 1 else r.frame }
    let me := s.activeForester
    (r.slot = 0 → exec .hrSlotEmit s = .next { s with
      road := after
      out := s.out ++ [.hrWord me ⟨1, 56 + me, 0, r.frame, 0, true, BitVec.ofNat 448 s.tally⟩,
        .hrWord (1 - me) ⟨1, 56 + me, 0, r.frame, 0, true, BitVec.ofNat 448 s.tally⟩] })
    ∧ (r.slot ∉ [0, 32, 64, 96, 128, 160, 192, 224, 256, 288, 320, 352, 384, 416, 448, 480] → r.data = w :: rest →
      exec .hrSlotEmit s = .next { s with
        road := { after with data := rest }
        out := s.out ++ [.hrWord me { w with frame := r.frame, slot := r.slot }, .hrWord (1 - me) { w with frame := r.frame, slot := r.slot }] })
    ∧ (r.slot ∉ [0, 32, 64, 96, 128, 160, 192, 224, 256, 288, 320, 352, 384, 416, 448, 480] → r.data = [] →
      exec .hrSlotEmit s = .next { s with road := after }))

/-- R50, R197: a powered stand takes a word of the selected tree once, keeps a good copy of the other tree's, and counts a bad one; a Forester control
word drops a sequence's translations. -/
def WordsTakenFromTwoTrees : Prop :=
  ∀ (s : State) (n : Fin 42) (w v : HrWord), s.get pwStandStatus_standPower n.val ≠ 0 → s.on hrStatus_tree n.val = false →
    (w.crcOk = true → v.crcOk = true → (w.frame, w.slot) ∉ (s.road' n).taken → w.kind = 4 →
      ∃ t, exec (.hrWordReceive n (some w) (some v)) s = .next t ∧ (w.frame, w.slot) ∈ (t.road' n).taken ∧ v ∈ (t.road' n).kept
        ∧ t.on hrStatus_primaryOk n.val = true ∧ t.on hrStatus_secondaryOk n.val = true
        ∧ (∀ k e, e ∈ (t.grove ⟨n, k⟩).xlate ↔ e ∈ (s.grove ⟨n, k⟩).xlate ∧ e.1 ≠ w.content.toNat % 2 ^ 15)
        ∧ t = { s with regs := t.regs, roads := t.roads, groves := t.groves })
    ∧ (w.crcOk = false →
      ∃ t, exec (.hrWordReceive n (some w) none) s = .next t ∧ t.on hrEvent_wordCrcError n.val = true
        ∧ (t.road' n).crcFails = (if (s.road' n).frame = w.frame then (s.road' n).crcFails else 0) + 1
        ∧ t.on hrStatus_secondaryOk n.val = false ∧ t = { s with regs := t.regs, roads := t.roads })

end Sys2Proof.Machine

open Sys2Proof Sys2Proof.Machine in
/-- Haul-road slots, and the words that stands take from two trees. -/
def Obligations.HaulRoadWords : Prop :=
  Machine.HaulRoadSlots ∧ Machine.WordsTakenFromTwoTrees

namespace Sys2Proof.Machine

/-- R46, R50, R54: the local tally follows the root's beacon plus the measured delay of the selected tree; a missed beacon is counted and sets its event;
two in a row switch the tree; a delay refresh replaces both delays; the reference's backup is noted. -/
def TallyFollowsBeacons : Prop :=
  (∀ (s : State) (n : Fin 42) (tree : Fin 2) (root : BitVec 64), s.get pwStandStatus_standPower n.val ≠ 0 → s.get hrStatus_tree n.val = tree.val →
    let delay := s.get (if tree = 0 then hrDelay_primary else hrDelay_secondary) n.val
    ∃ t, exec (.tallyBeacon n tree root) s = .next t ∧ (t.road' n).tally = root.toNat + delay / 4 ∧ (t.road' n).missed = 0
      ∧ t.get hrTally_tally n.val = (root.toNat + delay / 4) % 2 ^ 64 ∧ t.on hrStatus_tallyLocked n.val = true
      ∧ t = { s with regs := t.regs, roads := t.roads })
  ∧ (∀ (s : State) (n : Fin 42), s.get pwStandStatus_standPower n.val ≠ 0 →
    ∃ t, exec (.tallyBeaconMissed n) s = .next t ∧ (t.road' n).missed = (s.road' n).missed + 1 ∧ t.on hrEvent_beaconMissed n.val = true
      ∧ t = { s with regs := t.regs, roads := t.roads })
  ∧ (∀ (s : State) (n : Fin 42), 2 ≤ (s.road' n).missed → (s.road' n).kept = [] →
    ∃ t, exec (.treeSwitch n) s = .next t ∧ t.get hrStatus_tree n.val = 1 - s.get hrStatus_tree n.val ∧ t.on hrEvent_treeSwitch n.val = true
      ∧ (t.road' n).missed = 0 ∧ (t.road' n).crcFails = 0 ∧ t = { s with regs := t.regs, roads := t.roads })
  ∧ (∀ (s : State) (n : Fin 42) (a b : BitVec 16), ∃ t, exec (.hrDelayRefresh n a b) s = .next t
      ∧ t.get hrDelay_primary n.val = a.toNat ∧ t.get hrDelay_secondary n.val = b.toNat ∧ t = { s with regs := t.regs })
  ∧ (∀ s : State, exec .carrierReferenceBackup s = .next { s with refBackup := true })
  ∧ ∀ (s : State) (n : Fin 42), s.on hrStatus_primaryOk n.val = false → s.on hrStatus_secondaryOk n.val = false →
      s.get pwStandStatus_standPower n.val ≠ 0 →
      ∃ u : State, u.on hrEvent_bothTreesLost n.val = true ∧ u = { s with regs := u.regs } ∧ exec (.bothTreesLost n) s = .next (u.goDark n.val)

/-- R47, R159: the last participant's arrival puts the release word, with the largest value carried, into the barrier queue; its slot sets a release tally
240 ns ahead; the last participant to reach it ends the barrier; a stand that waits too long sets barrier_timeout. -/
def BarriersReleaseTogether : Prop :=
  (∀ (s : State) (b : Nat) (who : Participant) (x : Int), who ∈ (s.barrier b).parts → who ∉ (s.barrier b).arrived →
    ∃ t, exec (.barrierArrival b who x) s = .next t ∧ (t.barrier b).arrived = (s.barrier b).arrived ++ [who]
      ∧ (∃ m, (t.barrier b).xmax = some m ∧ x ≤ m ∧ (∀ y, (s.barrier b).xmax = some y → y ≤ m)
          ∧ (m = x ∨ (s.barrier b).xmax = some m)
          ∧ t.road.barriers = if ∀ p ∈ (s.barrier b).parts, p ∈ (s.barrier b).arrived ∨ p = who
              then s.road.barriers ++ [releaseWord b m] else s.road.barriers)
      ∧ t = { s with barriers := t.barriers, road := { s.road with barriers := t.road.barriers } })
  ∧ (∀ (s : State) (b : Nat) (m : Int) (rest : List HrWord), s.road.slot = 96 → s.road.barriers = releaseWord b m :: rest → b < 2 ^ 64 →
    ∀ x, tblFind s.barriers b = some x →
    ∃ t, exec .hrSlotEmit s = .next t ∧ tblFind t.barriers b = some { x with release := some (s.tally + 240) } ∧ t.road.barriers = rest)
  ∧ (∀ (s : State) (b : Nat) (who : Participant) (at_ : Nat), (s.barrier b).release = some at_ → who ∈ (s.barrier b).parts →
    who ∉ (s.barrier b).released →
    ∃ t, exec (.barrierRelease b who) s = .next t ∧ t = { s with barriers := t.barriers }
      ∧ ((∀ p ∈ (s.barrier b).parts, p ∈ (s.barrier b).released ∨ p = who) → tblFind t.barriers b = none)
      ∧ ((∃ p ∈ (s.barrier b).parts, p ∉ (s.barrier b).released ∧ p ≠ who) →
          tblFind t.barriers b = some { s.barrier b with released := (s.barrier b).released ++ [who] }))
  ∧ ∀ (s : State) (n : Fin 42) (b : Nat), Participant.stand n ∈ (s.barrier b).arrived → Participant.stand n ∉ (s.barrier b).released →
    ∃ t, exec (.barrierTimeout n b) s = .next t ∧ t.on hrEvent_barrierTimeout n.val = true ∧ t = { s with regs := t.regs }

/-- R232, R233, R236: a step beacon gives a stand its grid; at a step tally the head of each queue whose wait condition is met may start; a completion
becomes visible at its due tally, and one that has not completed by then is an overrun slip that takes effect one period later. -/
def LockstepGrid : Prop :=
  (∀ (s : State) (n : Fin 42) (c : BitVec 448), s.get pwStandStatus_standPower n.val ≠ 0 →
    ∃ t, exec (.stepBeacon n c) s = .next t ∧ t.get hrStepOrigin_origin n.val = c.toNat % 2 ^ 64
      ∧ t.get hrStepCtrl_period n.val = c.toNat / 2 ^ 64 % 2 ^ 16 ∧ t.get hrStepCtrl_lockstep n.val = c.toNat / 2 ^ 80 % 2
      ∧ t.get hrStepCtrl_exact n.val = c.toNat / 2 ^ 81 % 2 ∧ t.get hrStepCtrl_epoch n.val = c.toNat / 2 ^ 88 % 256
      ∧ (t.road' n).announced = c.toNat / 2 ^ 96 % 2 ^ 64 ∧ t = { s with regs := t.regs, roads := t.roads })
  ∧ (∀ (s : State) (n : Fin 42) (k : Fin 16), s.lockstep = true → 0 < s.period → s.get pwStandStatus_standPower n.val ≠ 0 →
    (s.road' n).tally < (s.road' n).announced → (∀ j, (s.grove ⟨n, j⟩).due = []) →
    ∃ t, exec (.stepTally n) s = .next t ∧ (t.road' n).tally = (s.road' n).announced ∧ t.tally = max s.tally (s.road' n).announced
      ∧ (∀ stage q rest, sideBySide stage = false → tblFind (s.grove ⟨n, k⟩).queues stage = some (q :: rest) →
          tblFind (t.grove ⟨n, k⟩).queues stage =
            some ({ q with goAt := if s.waitMet ⟨n, k⟩ q.desc then some (s.road' n).announced else none } :: rest))
      ∧ t = { s with tally := t.tally, regs := t.regs, roads := t.roads, groves := t.groves })
  ∧ (∀ (s : State) (g : GroveId) (act : Nat) (a : DueAct) (c : Fin 64), (s.grove g).due[act]? = some a → a.late = false → a.ctr = some c.val →
    (∃ t, exec (.dueTally g act true) s = .next t ∧ (t.grove g).due = (s.grove g).due.eraseIdx act
      ∧ (∀ k, k < 64 → t.counter g k = if k = c.val then (s.counter g k + 1) % 65536 else s.counter g k)
      ∧ t = { s with regs := t.regs, groves := t.groves })
    ∧ (∃ t, exec (.dueTally g act false) s = .next t
      ∧ (t.grove g).due = (s.grove g).due.set act { a with due := a.due + s.period * 128, late := true }
      ∧ t.on hrSlipEvent_overrun g.stand.val = true ∧ (∀ k, t.counter g k = s.counter g k)))

end Sys2Proof.Machine

open Sys2Proof Sys2Proof.Machine in
/-- The local tally, haul-road barriers and the lockstep grid. -/
def Obligations.TalliesBarriersAndGrid : Prop :=
  Machine.TallyFollowsBeacons ∧ Machine.BarriersReleaseTogether ∧ Machine.LockstepGrid

namespace Sys2Proof.Machine

/-! ## Stages of a grove (R130 to R137, R163 to R168, R170, R174 to R183, R192 to R198) -/

/-- A stage operation has changed decks, and beside them only its queue and its grove's counters. -/
def OnlyDecks (s t : State) : Prop := t = { s with groves := t.groves, regs := t.regs, decks := t.decks }

/-- R192: DECK_FILL copies one line to every line of its range, DECK_COPY copies a range to another that it does not overlap. -/
def DeckOperations : Prop :=
  ∀ (s : State) (g : GroveId) (q : QItem) (rest : List QItem), s.lockstep = false → s.decks.wf = true →
    let d := q.desc
    let first := fieldOf d 128 145
    let n := fieldOf d 146 163 + 1
    let from_ := fieldOf d 164 181
    (Ready s g 8 0 300 q rest → ∃ t, exec (.deckFill g) s = .next t ∧ Taken s t g 8 rest ∧ DoneCounted s t g d ∧ OnlyDecks s t
      ∧ (∀ k, k < n → t.line g (first + k) = s.line g from_) ∧ DeckSameBut s t g (64 * first) (64 * n))
    ∧ (Ready s g 8 1 300 q rest → ∃ t, exec (.deckCopy g) s = .next t ∧ Taken s t g 8 rest ∧ DoneCounted s t g d ∧ OnlyDecks s t
      ∧ (∀ k, k < n → t.line g (first + k) = s.line g (from_ + k)) ∧ DeckSameBut s t g (64 * first) (64 * n))

/-- R233, R234: in lockstep mode a descriptor that a step tally let start completes at its due tally: its completion waits in the grove with the tally
that its budget gives. -/
def LockstepCompletion : Prop :=
  ∀ (s : State) (g : GroveId) (q : QItem) (rest : List QItem) (at_ : Nat), s.lockstep = true → 0 < s.period → q.goAt = some at_ →
    let due (tenths : Nat) : Nat := at_ + max 1 ((tenths + s.period * 1280 - 1) / (s.period * 1280)) * (s.period * 128)
    let ctr : Option Nat := if descDoneEn q.desc then some (descDoneCtr q.desc) else none
    let owner : Option Nat := if descSeqValid q.desc then some (descSeq q.desc) else none
    let act (tenths : Nat) : DueAct := { ctr := ctr, due := due tenths, seq := owner }
    (Ready s g 8 0 300 q rest → ∃ t, exec (.deckFill g) s = .next t
      ∧ (t.grove g).due = (s.grove g).due ++ [act (400 + 18 * (fieldOf q.desc 146 163 + 1))] ∧ ∀ h k, t.counter h k = s.counter h k)
    ∧ (Ready s g 8 1 300 q rest → ∃ t, exec (.deckCopy g) s = .next t
      ∧ (t.grove g).due = (s.grove g).due ++ [act (400 + 36 * (fieldOf q.desc 146 163 + 1))] ∧ ∀ h k, t.counter h k = s.counter h k)
    ∧ (Ready s g 2 0 400 q rest → ∃ t, exec (.accClear g) s = .next t
      ∧ (t.grove g).due = (s.grove g).due ++ [act (400 + 2 * (fieldOf q.desc 142 155 + 1))] ∧ ∀ h k, t.counter h k = s.counter h k)

/-- R133, R174: ACC_CLEAR zeros a run of accumulators, ACC_STORE writes each as 16 bytes sign-extended, ACC_RECEIVE arms the receive of its transfer. -/
def AccumulatorOperations : Prop :=
  ∀ (s : State) (g : GroveId) (q : QItem) (rest : List QItem), s.lockstep = false →
    let d := q.desc
    let base := fieldOf d 128 141
    let n := fieldOf d 142 155 + 1
    (Ready s g 2 0 400 q rest → ∃ t, exec (.accClear g) s = .next t ∧ Taken s t g 2 rest ∧ DoneCounted s t g d ∧ OnlyDecks s t
      ∧ t.decks = s.decks
      ∧ ∀ k, t.acc g k = if ∃ j, j < n ∧ (base + j) % 16384 = k % 16384 then 0 else s.acc g k)
    ∧ (Ready s g 2 3 400 q rest → s.decks.wf = true → ∃ t, exec (.accStore g) s = .next t ∧ Taken s t g 2 rest ∧ DoneCounted s t g d
      ∧ OnlyDecks s t ∧ DeckSameBut s t g (64 * fieldOf d 156 173) (16 * n) ∧ (∀ k, t.acc g k = s.acc g k)
      ∧ ∀ k, k < n → signed 128 (fromLE (t.deckRead g (64 * fieldOf d 156 173 + 16 * k) 16)) = (s.acc g (base + k)).toInt)
    ∧ (Ready s g 2 2 400 q rest → (∀ p, (s.port (.stand g.stand p)).held = []) → ∃ t, exec (.accReceive g) s = .next t
      ∧ Taken s t g 2 rest ∧ (t.grove g).receives = (s.grove g).receives ++ [{ item := q, left := n }]
      ∧ t = { s with groves := t.groves })

end Sys2Proof.Machine

open Sys2Proof Sys2Proof.Machine in
/-- Deck and accumulator operations, and completion at a due tally in lockstep mode. -/
def Obligations.GroveDescriptorEffects : Prop :=
  Machine.DeckOperations ∧ Machine.AccumulatorOperations ∧ Machine.LockstepCompletion

namespace Sys2Proof.Machine

/-- The flits of a transfer to another stand wait, in order, on the data channel of a port of the sender (R32, R41, R193). -/
def TransferQueued (s t : State) (g : GroveId) (d : Descriptor) (type die grove transfer hops port n : Nat) : Prop :=
  ∃ ws : List Waiting, ((t.port (standPort g.stand.val port)).chan 0).waiting = ((s.port (standPort g.stand.val port)).chan 0).waiting ++ ws
    ∧ ws.length = n
    ∧ ∀ (k : Nat) (w : Waiting), ws[k]? = some w → w.arg = .plain ∧ w.relay = none ∧ w.flit.type = type ∧ w.flit.dstDie = die
        ∧ w.flit.dstGrove = grove ∧ w.flit.srcDie = g.stand.val ∧ w.flit.srcGrove = g.grove.val ∧ w.flit.imageTag = descTag d
        ∧ w.flit.hopsLeft = hops % 16 ∧ w.flit.transferId = transfer ∧ w.flit.flitIndex = k % 4096 ∧ w.flit.last = decide (k + 1 = n)

/-- R136, R137, R193, R195: a transfer to another stand goes out as flits on the port of its route and its descriptor completes; a deck-to-deck transfer
within a stand writes the lines at once and adds to the counter that it names. -/
def TransfersBetweenGroves : Prop :=
  ∀ (s : State) (g : GroveId) (q : QItem) (rest : List QItem) (port hops : Nat), s.lockstep = false →
    let d := q.desc
    (Ready s g 2 1 400 q rest → fieldOf d 174 179 ≠ g.stand.val → s.routeTo g.stand.val (fieldOf d 174 179) (descTag d) (fieldOf d 184 195) = some (port, hops) →
      ∃ t, exec (.accSend g) s = .next t ∧ Taken s t g 2 rest ∧ DoneCounted s t g d
        ∧ TransferQueued s t g d 2 (fieldOf d 174 179) (fieldOf d 180 183) (fieldOf d 184 195) hops port
            (packPartials (fieldOf d 196 209) (s.accInts g d)).length)
    ∧ (Ready s g 7 2 300 q rest → fieldOf d 162 167 ≠ g.stand.val → s.routeTo g.stand.val (fieldOf d 162 167) (descTag d) (fieldOf d 190 201) = some (port, hops) →
      ∃ t, exec (.yarderDeckToDeck g) s = .next t ∧ Taken s t g 7 rest ∧ DoneCounted s t g d
        ∧ TransferQueued s t g d 3 (fieldOf d 162 167) (fieldOf d 168 171) (fieldOf d 190 201) hops port ((fieldOf d 146 161 + 3) / 3))
    ∧ (Ready s g 7 2 300 q rest → fieldOf d 162 167 = g.stand.val → s.decks.wf = true →
      let dest : GroveId := ⟨g.stand, Fin.ofNat 16 (fieldOf d 168 171)⟩
      let n := fieldOf d 146 161 + 1
      let c := fieldOf d 202 207
      ∃ t, exec (.yarderDeckToDeck g) s = .next t ∧ Taken s t g 7 rest ∧ OnlyDecks s t
        ∧ t.deckRead dest (64 * fieldOf d 172 189) (64 * n) = s.deckRead g (64 * fieldOf d 128 145) (64 * n)
        ∧ DeckSameBut s t dest (64 * fieldOf d 172 189) (64 * n)
        ∧ t.counter dest c = (s.counter dest c + 1 + if dest = g ∧ descDoneEn d = true ∧ descDoneCtr d = c then 1 else 0) % 65536)

/-- R195: the yarder copies lines between HBM and the deck, and gathers table rows by 32-bit indices; beyond the HBM stacks it stops with a fault. -/
def YarderMovesHbm : Prop :=
  ∀ (s : State) (g : GroveId) (q : QItem) (rest : List QItem), s.lockstep = false → s.decks.wf = true → s.hbm.wf = true →
    let d := q.desc
    let line := fieldOf d 128 145
    let n := fieldOf d 146 161 + 1
    let a := 64 * fieldOf d 162 203
    (Ready s g 7 0 300 q rest →
      (a + 64 * n ≤ hbmBytes → ∃ t, exec (.yarderHbmToDeck g) s = .next t ∧ Taken s t g 7 rest ∧ DoneCounted s t g d ∧ OnlyDecks s t
        ∧ t.deckRead g (64 * line) (64 * n) = s.hbmRead a (64 * n) ∧ DeckSameBut s t g (64 * line) (64 * n))
      ∧ (hbmBytes < a + 64 * n → exec (.yarderHbmToDeck g) s = .fault (.hbmAddress a)))
    ∧ (Ready s g 7 1 300 q rest →
      (a + 64 * n ≤ hbmBytes → ∃ t, exec (.yarderDeckToHbm g) s = .next t ∧ Taken s t g 7 rest ∧ DoneCounted s t g d
        ∧ t = { s with groves := t.groves, regs := t.regs, hbm := t.hbm }
        ∧ t.hbmRead a (64 * n) = s.deckRead g (64 * line) (64 * n) ∧ ∀ x, x < a ∨ a + 64 * n ≤ x → t.hbm.read x = s.hbm.read x)
      ∧ (hbmBytes < a + 64 * n → exec (.yarderDeckToHbm g) s = .fault (.hbmAddress a)))
    ∧ (Ready s g 7 4 300 q rest →
      let per := fieldOf d 180 187 + 1
      let rows := fieldOf d 188 199 + 1
      let row (k : Nat) : Nat := 64 * (fieldOf d 200 241 + fromLE (s.deckRead g (64 * fieldOf d 162 179 + 4 * k) 4) * per)
      ((∀ k, k < rows → row k + 64 * per ≤ hbmBytes) → ∃ t, exec (.indexGather g) s = .next t ∧ Taken s t g 7 rest ∧ DoneCounted s t g d
        ∧ OnlyDecks s t ∧ (∀ k, k < rows → t.deckRead g (64 * (line + k * per)) (64 * per) = s.hbmRead (row k) (64 * per))
        ∧ DeckSameBut s t g (64 * line) (64 * per * rows))
      ∧ (∀ k, k < rows → (∀ j, j < k → row j + 64 * per ≤ hbmBytes) → hbmBytes < row k + 64 * per →
          exec (.indexGather g) s = .fault (.hbmAddress (row k))))

/-- R196, R197: a KV gather whose rows all lie in valid pages delivers them, in order, to consecutive lines. The premise on the translation cache is
R197's: an entry of it agrees with the page list. -/
def KvGatherDelivers : Prop :=
  ∀ (s : State) (g : GroveId) (q : QItem) (rest : List QItem) (rows : List (List Byte)), s.lockstep = false → s.decks.wf = true → Ready s g 7 3 300 q rest →
    let d := q.desc
    let i := descSeq d
    let n := fieldOf d 183 190 + 1
    let lines := n * (rowBytes (s.layerRec d) / 64)
    descTag d = (s.seq i).entry.imageTag → linesIn (fieldOf d 128 145) lines = true →
    (∀ e ∈ (s.grove g).xlate, e.1 = i → e.2.2.toNat = s.pageEntry i e.2.1) →
    (upTo n).mapM (fun k => s.kvRow i (descLayer d) (bit d.toNat 162) (fieldOf d 163 182 + k)) = some rows →
    ∃ t, exec (.kvGather g) s = .next t ∧ Taken s t g 7 rest ∧ DoneCounted s t g d ∧ OnlyDecks s t
      ∧ t.deckRead g (64 * fieldOf d 128 145) (64 * lines) = rows.flatten ∧ DeckSameBut s t g (64 * fieldOf d 128 145) (64 * lines)

end Sys2Proof.Machine

open Sys2Proof Sys2Proof.Machine in
/-- Skidder transfers, yarder copies and KV gathers. -/
def Obligations.DataTransfers : Prop :=
  Machine.TransfersBetweenGroves ∧ Machine.YarderMovesHbm ∧ Machine.KvGatherDelivers

open Sys2Proof Sys2Proof.Machine in
/-- R130, R131, R170: a scaler descriptor whose values are finite and whose blocks all fit writes each block's header and digits to its line of the deck. -/
def Obligations.ScalerWritesBlocks : Prop :=
  ∀ (s : State) (g : GroveId) (q : QItem) (rest : List QItem) (vs : List Ex) (bs : List (Nat × List Int)), s.lockstep = false → s.decks.wf = true →
    Ready s g 0 0 300 q rest →
    let d := q.desc
    let xi8 := bit d.toNat 176
    let wide := bit d.toNat 177
    let n := if xi8 then 8 else 4
    let size := if wide then 32 else 64
    let count := fieldOf d 164 171
    decodeVector (fieldOf d 172 175) (count * size) (s.lineBytes g (fieldOf d 128 145) (vectorBytes (fieldOf d 172 175) (count * size))) = some vs →
    (chunks size (count + 1) vs).map (quantizeBlock n xi8 wide (s.raisedFloor g d (signed 8 (fieldOf d 178 185)))) = bs.map (fun b => .block b.1 b.2) →
    ∃ t, exec (.scalerQuantize g) s = .next t ∧ Taken s t g 0 rest ∧ DoneCounted s t g d ∧ OnlyDecks s t
      ∧ ∀ k b, bs[k]? = some b → t.lineBytes g (fieldOf d 146 163 + k * xiLines xi8 wide) (64 * xiLines xi8 wide)
          = padTo (64 * xiLines xi8 wide) (xiBytes n b.1 b.2)

open Sys2Proof Sys2Proof.Machine in
/-- R130: a block's exponent X is the larger of its natural one and the floor; every digit lies in the format's range, and each element lies within half a
step of its digit's value, unless the digit is one of the two extremes. A block of zeros has zero digits, and a natural exponent above the floor by
more than 37 raises a window overflow. -/
def Obligations.XiBlockQuantization : Prop :=
  ∀ (n : Nat) (xi8 wide : Bool) (f : Int) (vs : List Ex), (n = 8 ∧ xi8 = true) ∨ (n = 4 ∧ xi8 = false) →
    let nat_ := (amax vs).log2 - (n - 2 : Nat)
    let x := max nat_ f
    ((∀ v ∈ vs, v.num = 0) → ∃ h, quantizeBlock n xi8 wide f vs = .block h (vs.map (fun _ => 0)) ∧ bit h 8 = true)
    ∧ ((∃ v ∈ vs, v.num ≠ 0) → nat_ ≤ 127 → f + 37 < x → quantizeBlock n xi8 wide f vs = .overflow nat_)
    ∧ ((∃ v ∈ vs, v.num ≠ 0) → nat_ ≤ 127 → x ≤ f + 37 → ∃ h ds, quantizeBlock n xi8 wide f vs = .block h ds ∧ ds.length = vs.length
        ∧ ∀ (k : Nat) (v : Ex) (d : Int), vs[k]? = some v → ds[k]? = some d → 0 < v.den →
            -(2 ^ (n - 1)) ≤ d ∧ d ≤ 2 ^ (n - 1) - 1
            ∧ (-(2 ^ (n - 1)) < d → d < 2 ^ (n - 1) - 1 →
                2 * ((v.onGrid x).1 - d * ((v.onGrid x).2 : Int)).natAbs ≤ (v.onGrid x).2))

namespace Sys2Proof.Machine

/-- R165 to R168, R176 to R183, R198: the finisher, the score engines, the softmax unit and the skidder take the descriptor at the head of their queue and
run it on what their grove then holds; a stolen score item leaves its owner's queue and is scored for the owner. -/
def StageUnitsStart : Prop :=
  (∀ (s : State) (g : GroveId) (engine : Fin 32) (q : QItem) (rest : List QItem),
    let taken (stage : Nat) (u : State) : Prop := Taken s u g stage rest ∧ u = { s with groves := u.groves }
    (Ready s g 3 0 300 q rest → ∃ u, taken 3 u ∧ exec (.finish g) s = .next (u.finish g q))
    ∧ (Ready s g 4 0 120 q rest → ∃ u, taken 4 u ∧ exec (.scoreItem g engine) s = .next (u.score g g q))
    ∧ (Ready s g 5 0 300 q rest → ∃ u, taken 5 u ∧ exec (.softmax g) s = .next (u.softmax g q))
    ∧ (Ready s g 6 0 300 q rest → ∃ u, taken 6 u ∧ exec (.kvAppend g) s = .next (u.appendKv g q))
    ∧ (Ready s g 6 1 300 q rest → ∃ u, taken 6 u ∧ exec (.kvPathMove g) s = .next (u.movePath g q)))
  ∧ ∀ (s : State) (g v : GroveId) (engine : Fin 32) (q : QItem) (before after : List QItem), s.lockstep = false →
    s.on gvCtrl_attnStealEn g.num = true → s.groveOn g = true → s.heldOn g.stand.val = false → s.on pwStandStatus_elecThin g.stand.val = false →
    (s.grove g).queue 4 = [] →
    let tag := s.get gvStatus_imageTag g.num
    (probeOrder g).find? (fun v => decide (s.get gvCtrl_stealMin g.num < (((s.grove v).queue 4).filter (fun q => descTag q.desc = tag)).length)) = some v →
    (s.grove v).queue 4 = before ++ q :: after → descTag q.desc = tag → (∀ r ∈ after, descTag r.desc ≠ tag) →
    s.mayStart v q = true → s.meterAllows g.stand.val 120 = true → s.isFelled g q.desc = false → descOk q.desc = true →
    ∃ u, exec (.scoreItemSteal g engine) s = .next (u.score g v q) ∧ Taken s u v 4 (before ++ after)
      ∧ u.get gvStealCount_itemsIn g.num = (s.get gvStealCount_itemsIn g.num + 1) % 65536
      ∧ u.get gvStealCount_itemsOut v.num = (s.get gvStealCount_itemsOut v.num + 1) % 65536
      ∧ u = { s with groves := u.groves, regs := u.regs }

/-- R168, R210: at the start boundary a felled sequence's descriptor is dropped with its done action and cancel_drop set, and a start that the stand meter
does not allow waits as stand thinning; nothing starts in a grove that is off. -/
def StartBoundaries : Prop :=
  ∀ (s : State) (g : GroveId) (q : QItem) (rest : List QItem) (c : Instr), (s.grove g).queue 8 = q :: rest → s.lockstep = false →
    c ∈ [Instr.deckFill g, .deckCopy g] →
    (s.groveOn g = false → exec c s = .next s)
    ∧ (s.groveOn g = true → s.heldOn g.stand.val = false → s.on pwStandStatus_elecThin g.stand.val = false → s.mayStart g q = true →
        s.stopped g q.desc = false → s.isFelled g q.desc = true →
        ∃ t, exec c s = .next t ∧ Taken s t g 8 rest ∧ DoneCounted s t g q.desc ∧ t.on gvEvent_cancelDrop g.num = true ∧ t.decks = s.decks)
    ∧ (s.groveOn g = true → s.heldOn g.stand.val = false → s.on pwStandStatus_elecThin g.stand.val = false → s.mayStart g q = true →
        s.stopped g q.desc = false → s.isFelled g q.desc = false → descOk q.desc = true → c = (if descOp q.desc = 0 then .deckFill g else .deckCopy g) →
        s.meterAllows g.stand.val 300 = false → s.on pwStandStatus_meterThin g.stand.val = false →
        ∃ t, exec c s = .next t ∧ t.groves = s.groves ∧ t.decks = s.decks ∧ t.on pwStandStatus_meterThin g.stand.val = true
          ∧ t.on pwEvent_meterThin g.stand.val = true)

end Sys2Proof.Machine

open Sys2Proof Sys2Proof.Machine in
/-- Finisher, score engines, softmax unit and skidder start the head of their queue; the start boundary. -/
def Obligations.StageStarts : Prop :=
  Machine.StageUnitsStart ∧ Machine.StartBoundaries

namespace Sys2Proof.Machine

/-! ## Weight tiles (R57 to R95, R131 to R133, R171 to R173) -/

/-- The sum over the elements of an input block of element times weight, in a data column; `first` is the block's first row (R65, R66). -/
def blockDot (x : Tier) (l : Latch) (first : Nat) (b : XiBlock) (c : Nat) : Int :=
  (b.q.zipIdx.map (fun e => e.1 * ((l.units (x.code (first + e.2) c) : Int) - (l.off : Int)))).sum

/-- The exact result of a data column for one vector on the grid of floor `f` (R66, R69, R133): each block that is not empty counts with its exponent and the column's offset. -/
def forwardDot (x : Tier) (l : Latch) (f : Int) (bs : List XiBlock) (c : Nat) : Int :=
  (bs.zipIdx.map (fun b => if b.1.empty then 0 else blockDot x l (b.2 * l.group) b.1 c * 2 ^ (b.1.x - f + l.expOf c).toNat)).sum

/-- The exact result of a row for one reverse vector (R82, R83): a column group's exponent offset is that of its first column. -/
def reverseDot (x : Tier) (l : Latch) (f : Int) (bs : List XiBlock) (row : Nat) : Int :=
  (bs.zipIdx.map (fun b => if b.1.empty then 0 else
    (b.1.q.zipIdx.map (fun e => e.1 * ((l.units (x.code row (b.2 * l.group + e.2)) : Int) - (l.off : Int)))).sum
      * 2 ^ (b.1.x - f + l.expOf (b.2 * l.group)).toNat)).sum

/-- The input blocks of vector `v` of a tile-dispatch descriptor over `elems` elements (R131, R171). -/
def inputBlocks (s : State) (g : GroveId) (d : Descriptor) (l : Latch) (elems v : Nat) : List XiBlock :=
  let xi8 := bit (fromLE (s.lineBytes g (fieldOf d 143 160) 4)) 10
  (s.readBlocks g (fieldOf d 143 160 + v * (elems / l.group * xiLines xi8 l.wide)) (elems / l.group) l.group l.wide).1

/-- A tile-dispatch descriptor meets its own grove's tile with the named tier active (R92, R171 to R173): the entry is a valid one of kind 0, no armed shadow slot names it, the reads are
checked, the tier's generation is the current one and its latch is loaded, no block's exponent lies below the floor, and the input lies in the deck. -/
def MvmOnActiveTier (s : State) (g : GroveId) (d : Descriptor) (t : TileId) (k : Nat) (f : Int) (elems : Nat) : Prop :=
  let entry := fieldOf d 128 142
  let e := (s.dispatchEntry g entry).toNat
  let l := (s.tile t).latch
  bit e 63 = true ∧ bits e 61 2 = 0 ∧ bits e 55 6 < 42 ∧ t = ⟨g.stand, g.grove, Fin.ofNat 2048 (bits e 40 11)⟩ ∧ k = bits e 36 4
  ∧ (∀ n, n < 16 → s.getAt gvShadow_arm g.num n = 1 → s.getAt gvShadow_entry g.num n ≠ entry)
  ∧ fieldOf d 200 201 = 0 ∧ s.on tlGen_armedValid t.num = false ∧ fieldOf d 161 168 = s.get tlGen_currentGen t.num
  ∧ s.on tlTileStatus_activeValid t.num = true ∧ s.get tlTileStatus_activeLogical t.num = k ∧ l = (s.tier t (s.physOf t k)).latch
  ∧ f = s.raisedFloor g d (signed 8 (fieldOf d 177 184))
  ∧ (∀ v b, v ≤ fieldOf d 202 205 → b ∈ inputBlocks s g d l elems v → b.empty = false → f ≤ b.x)
  ∧ linesIn (fieldOf d 143 160) ((fieldOf d 202 205 + 1) * (elems / l.group)
      * xiLines (bit (fromLE (s.lineBytes g (fieldOf d 143 160) 4)) 10) l.wide) = true

end Sys2Proof.Machine

open Sys2Proof Sys2Proof.Machine in
/-- R65 to R69, R82, R83, R133, R171: on the active tier of a tile of its grove, with readings that do not deviate, a forward MVM adds to each accumulator
the exact dot product of the input vector with the column, and a reverse read that with the row; with the clear bit set they replace it. -/
def Obligations.MvmsAddExactDotProducts : Prop :=
  ∀ (s : State) (g : GroveId) (q : QItem) (rest : List QItem) (t : TileId) (k : Nat) (f : Int) (env mirror : MvmEnv),
    s.lockstep = false → env.errors = [] →
    let d := q.desc
    let x := s.tier t (s.physOf t k)
    let l := (s.tile t).latch
    let old (a : Nat) : BitVec 88 := if bit d.toNat 199 then 0 else s.acc g a
    (Ready s g 1 0 65 q rest → MvmOnActiveTier s g d t k f 1024 →
      ∃ u, exec (.forwardMvm g env mirror) s = .next u ∧ Taken s u g 1 rest ∧ DoneCounted s u g d
        ∧ (∀ v c, v ≤ fieldOf d 202 205 → c < 512 → let a := fieldOf d 185 198 + 512 * v + c
            u.acc g a = old a + BitVec.ofInt 88 (forwardDot x l f (inputBlocks s g d l 1024 v) c)))
    ∧ (Ready s g 1 1 50 q rest → MvmOnActiveTier s g d t k f 512 → l.reverseOk = true →
      ∃ u, exec (.reverseRead g env mirror) s = .next u ∧ Taken s u g 1 rest ∧ DoneCounted s u g d
        ∧ (∀ v r, v ≤ fieldOf d 202 205 → r < 1024 → let a := fieldOf d 185 198 + 1024 * v + r
            u.acc g a = old a + BitVec.ofInt 88 (reverseDot x l f (inputBlocks s g d l 512 v) r)))

namespace Sys2Proof.Machine

/-- R81: a calibration of the active tier takes the gain trim and the tally; one further from the factory trim than cal_limit sets cal_drift. -/
def CalibrationTakesTheTrim : Prop :=
  ∀ (s : State) (t : TileId) (trim : BitVec 16), s.groveOn t.groveId = true → s.on tlTileStatus_activeValid t.num = true →
    ∃ u, exec (.calibrationSlot t trim) s = .next u ∧ u.get tlCal_gainTrim t.num = trim.toNat ∧ (u.tile t).calTally = s.tally
      ∧ (s.get tlCtrl_calLimit t.groveId.num * 1024 < (trim.toInt - signed 16 (s.get tlCal_factoryTrim t.num)).natAbs * 1000 →
          u.on tlEvent_calDrift t.groveId.num = true)

/-- R88, R94, R110: a write of TL_ROTATE with go starts a rotation of its kind on a tile that can rotate, waits where its grove already runs
max_rotations, and sets rotate_busy where the tile rotates already. -/
def RotationsStart : Prop :=
  ∀ (s : State) (t : TileId) (v : BitVec 64), s.groveOn t.groveId = true → v.toNat / 2 ^ 63 = 1 →
    ∀ p ∈ [(Instr.tlRotateCopy t v, RotKind.copy, 0), (.tlRotateLoad t v, .load, 1), (.tlRotateUpdate t v, .update, 2)],
      v.toNat / 2 ^ 60 % 8 = p.2.2 → (p.2.1 ≠ .copy → 256 * (v.toNat % 2 ^ 48) + 262656 ≤ hbmBytes) →
      let gen := if p.2.1 = .copy then s.get tlGen_currentGen t.num else v.toNat / 2 ^ 48 % 256
      let logical := v.toNat / 2 ^ 56 % 16
      let max_ := s.get tlUpkeepCtrl_maxRotations t.groveId.num
      (s.canRotate t logical = false → ∃ u, exec p.1 s = .next u ∧ u.on tlEvent_rotateBusy t.groveId.num = true ∧ u = { s with regs := u.regs })
      ∧ (s.canRotate t logical = true → max_ ≤ s.rotationsIn t.groveId →
          exec p.1 s = .next { s with rotWait := s.rotWait ++ [{ tile := t, kind := p.2.1, logical := logical, gen := gen, src := v.toNat % 2 ^ 48 }] })
      ∧ (s.canRotate t logical = true → s.rotationsIn t.groveId < max_ →
          ∃ u, exec p.1 s = .next u ∧ (u.tile t).rotation = some { kind := p.2.1, logical := logical, gen := gen, src := v.toNat % 2 ^ 48 }
            ∧ u.get tlTileStatus_rotationState t.num = 1 ∧ (u.tier t (s.get tlTileStatus_rotationPhys t.num)).rows = []
            ∧ u = { s with regs := u.regs, tiles := u.tiles })

/-- A tile's rotation has been replaced, and nothing else has changed. -/
def RotationNow (s u : State) (t : TileId) (r : Rotation) : Prop :=
  (u.tile t).rotation = some r ∧ (∀ b, b ≠ t → u.tile b = s.tile b) ∧ u = { s with tiles := u.tiles, regs := u.regs, freeUses := u.freeUses }

/-- R86, R88 to R90: a write slice whose row verifies in time writes the source's row and goes to the next; a COPY reads its source row first, and a row
whose identity fails abandons it; verification takes 16 slices, after which the swap of a COPY is pending and that of new contents armed. -/
def RotationSlices : Prop :=
  ∀ (s : State) (t : TileId) (r : Rotation), (s.tile t).rotation = some r →
    let p := s.get tlTileStatus_rotationPhys t.num
    (s.sliceStarts t 45 = true → s.get tlTileStatus_rotationState t.num = 1 → (r.kind = .copy → r.rowRead = true) →
      (∀ needed, needed ≤ min (r.pairs + min 8 (s.get tlCtrl_slicePairs t.groveId.num)) 24 → r.row + 1 < 1024 →
        ∃ u, exec (.writeSlice t needed) s = .next u ∧ RotationNow s u t { r with row := r.row + 1, rowRead := false, pairs := 0 }
          ∧ tblFind (u.tier t p).rows r.row = some (s.rotRow t r r.row))
      ∧ (∀ needed, needed ≤ min (r.pairs + min 8 (s.get tlCtrl_slicePairs t.groveId.num)) 24 → r.row = 1023 →
        ∃ u, exec (.writeSlice t needed) s = .next u ∧ RotationNow s u t { r with row := 0, rowRead := false, pairs := 0 }
          ∧ u.get tlTileStatus_rotationState t.num = 2))
    ∧ (s.sliceStarts t 61 = true → r.kind = .copy → s.get tlTileStatus_rotationState t.num = 1 → r.rowRead = false →
      (∃ u, exec (.copyReadSlice t true) s = .next u ∧ RotationNow s u t { r with rowRead := true } ∧ u.regs = s.regs)
      ∧ (∃ u, exec (.copyReadSlice t false) s = .next u ∧ (u.tile t).rotation = none ∧ u.get tlTileStatus_rotationState t.num = 0
          ∧ u.on tlEvent_copyFailed t.groveId.num = true))
    ∧ (s.sliceStarts t 61 = true → s.get tlTileStatus_rotationState t.num = 2 →
      (r.row + 1 < 16 → ∃ u, exec (.verifySlice t true) s = .next u ∧ RotationNow s u t { r with row := r.row + 1 } ∧ u.regs = s.regs)
      ∧ (r.row = 15 → r.kind = .copy → ∃ u, exec (.verifySlice t true) s = .next u ∧ RotationNow s u t { r with row := 0 }
          ∧ u.get tlTileStatus_rotationState t.num = 3)
      ∧ (r.row = 15 → r.kind ≠ .copy → s.inService (s.ownerOf t r.logical) = true → ∃ u, exec (.verifySlice t true) s = .next u ∧ RotationNow s u t { r with row := 0 }
          ∧ u.get tlTileStatus_rotationState t.num = 4 ∧ u.on tlGen_armedValid t.num = true ∧ u.get tlGen_armedGen t.num = r.gen % 256))

end Sys2Proof.Machine

open Sys2Proof Sys2Proof.Machine in
/-- Calibration, and the start and slices of a tier rotation. -/
def Obligations.CalibrationAndRotations : Prop :=
  Machine.CalibrationTakesTheTrim ∧ Machine.RotationsStart ∧ Machine.RotationSlices

namespace Sys2Proof.Machine

/-- R91: a pending COPY lands between MVMs: its physical tier now holds the logical tier, and the old one is the rotation tier. For the active tier the
swap is forced with one tier switch, after which the new physical tier is active. -/
def SwapsLand : Prop :=
  ∀ (s : State) (t : TileId) (r : Rotation), (s.tile t).rotation = some r → r.kind = .copy → r.logical < 16 →
    s.get tlTileStatus_rotationState t.num = 3 →
    let new := s.get tlTileStatus_rotationPhys t.num
    let old := s.physOf t r.logical
    new < 17 → old < 17 → new ≠ old → (s.tier t old).programCount < 500000 →
    let landed (u : State) : Prop := u.physOf t r.logical = new ∧ (∀ k, k < 16 → k ≠ r.logical → u.physOf t k = s.physOf t k)
      ∧ u.get tlTileStatus_rotationPhys t.num = old ∧ u.get tlTileStatus_rotationState t.num = 0 ∧ u.tierState t new = 1 ∧ u.tierState t old = 0
      ∧ (u.tile t).rotation = none ∧ u.on tlEvent_rotationDone t.groveId.num = true
    ((s.on tlTileStatus_activeValid t.num = false ∨ s.get tlTileStatus_activeLogical t.num ≠ r.logical) →
      ∃ u, exec (.swapLand t) s = .next u ∧ landed u)
    ∧ (s.on tlTileStatus_activeValid t.num = true → s.get tlTileStatus_activeLogical t.num = r.logical → 0 < (s.tier t new).programCount →
      ∀ env : MvmEnv, env.latchFails = 0 → env.trim = none →
      ∃ u, exec (.forcedSwap t env) s = .next u ∧ landed u ∧ u.on tlTileStatus_activeValid t.num = true
        ∧ u.get tlTileStatus_activeLogical t.num = r.logical ∧ u.get tlTileStatus_activePhys t.num = new
        ∧ (u.tile t).latch = (s.tier t new).latch)

/-! ## Array upkeep (R97 to R119) -/

/-- R99, R104, R105: a cruise starts by TL_CRUISE or early; each slice adds what it finds, and after the sixteenth the result register holds it, the
tier's drift clock is 0 and cruise_done sets. A forced slice runs outside lockstep mode once forced_slice_gap MVMs have passed. -/
def CruisesRun : Prop :=
  (∀ (s : State) (t : TileId) (v : BitVec 32) (k : Nat), v.toNat / 2 ^ 31 = 1 → s.on tlUpkeepCtrl_cruiseEn t.groveId.num = true → s.groveOn t.groveId = true →
    let p := v.toNat % 32
    ((s.tile t).cruise = none → p < 17 → s.logicalOf t p = some k →
      exec (.tlCruise t v) s = .next (s.setTile t { s.tile t with cruise := some { phys := p, priority := bit v.toNat 30 } }))
    ∧ ((s.tile t).cruise ≠ none → ∃ u, exec (.tlCruise t v) s = .next u ∧ u.on tlUpkeepEvent_cruiseBusy t.groveId.num = true
        ∧ u = { s with regs := u.regs }))
  ∧ (∀ (s : State) (t : TileId) (p : Fin 17) (k : Nat) (cause : EarlyCause), s.groveOn t.groveId = true → s.on tlUpkeepCtrl_cruiseEn t.groveId.num = true →
    (cause = .calDrift → s.on tlTileStatus_activeValid t.num = true ∧ s.get tlTileStatus_activePhys t.num = p.val) →
    (s.tile t).cruise = none → s.logicalOf t p.val = some k → s.rotationAsked t k = false →
    exec (.earlyCruise t p cause) s = .next (s.setTile t { s.tile t with cruise := some { phys := p.val, priority := true } }))
  ∧ ∀ (s : State) (t : TileId) (c : Cruise) (k : Nat) (found : SliceFinding), (s.tile t).cruise = some c → s.logicalOf t c.phys = some k →
    s.sliceStarts t 61 = true →
    let c' : Cruise := { c with
      slice := c.slice + 1, mvms := 0, maxRes := max c.maxRes found.maxResidual, overs := c.overs + found.cellsOver
      maxE := max c.maxE found.maxExcursion, stuck := c.stuck ++ found.stuck.map (fun x => x.val), badRow := c.badRow || found.identityFail }
    (c.slice + 1 < 16 → exec (.cruiseSlice t found) s = .next (s.setTile t { s.tile t with cruise := some c' }))
    ∧ (c.slice = 15 → c'.maxRes ≤ 4 → c'.maxE ≤ 6 → c'.stuck = [] → c'.badRow = false → s.service ≠ .survey →
        ∃ u, exec (.cruiseSlice t found) s = .next u ∧ (u.tile t).cruise = none ∧ (u.drift t c.phys).clock = 0 ∧ (u.drift t c.phys).lastCruise = s.tally
          ∧ u.on tlUpkeepEvent_cruiseDone t.groveId.num = true ∧ u.get tlCruiseResult_maxResidual t.num = c'.maxRes
          ∧ u.get tlCruiseResult_maxExcursion t.num = c'.maxE ∧ u.get tlCruiseResult_coppiceDue t.num = 0)
    ∧ (c.priority = true → c.slice + 1 < 16 → s.lockstep = false → s.on tlUpkeepCtrl_forcedSliceEn t.groveId.num = true →
        max 1 (s.get tlUpkeepCtrl_forcedSliceGap t.groveId.num) ≤ c.mvms →
        ∃ u, exec (.forcedSlice t found) s = .next u ∧ (u.tile t).cruise = some c' ∧ u.on tlUpkeepEvent_forcedSlice t.groveId.num = true)

/-- R102: a tick advances the drift clock of each programmed service tier of a powered stand by the step of its hottest temperature, and the time since
programming with it; tiers of other stands keep theirs. -/
def DriftClocksTick : Prop :=
  ∀ (s : State) (st : Fin 42), s.get pwStandStatus_standPower st.val ≠ 0 →
    ∃ u, exec (.driftClockTick st) s = .next u ∧ (∀ t, t.stand ≠ st → u.tile t = s.tile t) ∧ u = { s with tiles := u.tiles }
      ∧ ∀ t x p, (s.tiles.filter (fun e => e.1 = t)) = [(t, x)] → t.stand = st → p < 17 → s.tierState t p = 1 → 0 < (s.tier t p).programCount →
          (u.drift t p).clock = (s.drift t p).clock + driftStep (s.hottest st.val)
          ∧ (u.drift t p).sinceProg = (s.drift t p).sinceProg + driftStep (s.hottest st.val)

/-- R106, R116: go starts a monitor window of 2^window MVMs (4,096 outside 8 to 16); at its end the record goes to HBM and mon_done sets; a drift snapshot
records every tier of the table. -/
def MonitoringAndSnapshots : Prop :=
  (∀ (s : State) (g : GroveId) (v : BitVec 32), v.toNat % 2 = 1 → s.on tlUpkeepCtrl_monEn g.num = true →
    let w := v.toNat / 2 ^ 8 % 32
    let n := if 8 ≤ w ∧ w ≤ 16 then 2 ^ w else 4096
    ∃ u, exec (.monStart g v) s = .next u ∧ (u.grove g).monitor = some { tile := v.toNat / 2 ^ 13 % 2048, logical := v.toNat / 2 ^ 24 % 16, left := n }
      ∧ u.get tlMonCtrl_window g.num = w ∧ u = { s with regs := u.regs, groves := u.groves })
  ∧ (∀ (s : State) (g : GroveId) (m : Monitor), (s.grove g).monitor = some m → m.left = 0 → s.hbm.wf = true →
    let a := 256 * s.get tlMonDest_addr g.num
    (a + 73728 ≤ hbmBytes → ∃ u, exec (.monWindowEnd g) s = .next u ∧ (u.grove g).monitor = none ∧ u.on tlUpkeepEvent_monDone g.num = true
      ∧ u.hbmRead a 73728 = monitorBytes m ∧ ∀ b, b < a ∨ a + 73728 ≤ b → u.hbm.read b = s.hbm.read b)
    ∧ (hbmBytes < a + 73728 → exec (.monWindowEnd g) s = .fault (.hbmAddress a)))
  ∧ ∀ s : State, s.service ≠ .off → s.service ≠ .stump →
    ∃ u, exec .driftSnapshot s = .next u ∧ u.flash.snapAt = s.tally ∧ u.flash.orderly = false ∧ u = { s with flash := u.flash }
      ∧ ∀ e ∈ s.tiles, ∀ p, p < 17 → ∃ x : SnapTier, ((e.1, p), x) ∈ u.flash.snap ∧ x.clock = min ((s.drift e.1 p).clock / 65536) 65520
          ∧ x.hold = (s.drift e.1 p).lastCruise ∧ x.retired = decide (s.tierState e.1 p = 2)

end Sys2Proof.Machine

open Sys2Proof Sys2Proof.Machine in
/-- Cruises, drift clocks, monitor windows and drift snapshots. -/
def Obligations.CruisesDriftAndMonitoring : Prop :=
  Machine.CruisesRun ∧ Machine.DriftClocksTick ∧ Machine.MonitoringAndSnapshots

namespace Sys2Proof.Machine

/-- R110, R113, R114: a waiting rotation starts once its grove runs fewer than max_rotations; a remap whose destination is armed switches its dispatch
entry to it; a stand with more than 983 retired tiles asks for the wake of the first reserve stand to hand over to. -/
def RotationsRemapsHandovers : Prop :=
  (∀ (s : State) (g : GroveId) (r : RotRequest), s.groveOn g = true → s.rotationsIn g < s.get tlUpkeepCtrl_maxRotations g.num → s.nextRotation g = some r →
    ∃ u, exec (.rotationDispatch g) s = .next u ∧ u.rotWait = s.rotWait.erase r
      ∧ (u.tile r.tile).rotation = some { kind := r.kind, logical := r.logical, gen := r.gen, src := r.src, image := r.image }
      ∧ u.get tlTileStatus_rotationState r.tile.num = 1)
  ∧ (∀ (s : State) (g : GroveId) (entry : Fin 32768) (r : Remap), s.remaps.find? (fun r => decide (r.owner.groveId = g) && r.entry == entry.val && !r.done) = some r → r.digital = false →
    s.get tlTileStatus_rotationState r.dst.num = 4 →
    ∃ v w : State, exec (.remapSwitch g entry) s = .next (v.releaseTier r.src r.logical) ∧ v.remaps = w.remaps.erase r ++ [{ r with done := true }] ∧ w = s.landSwap r.dst
      ∧ (let e := (v.dispatchEntry g entry.val).toNat
         bits e 55 6 = r.dst.stand.val ∧ bits e 51 4 = r.dst.grove.val ∧ bits e 40 11 = r.dst.tile.val ∧ bits e 36 4 = r.logical % 16
         ∧ bits e 61 2 = if r.dst.groveId = g then 0 else 1)
      ∧ v.on gvEvent_shadowApplied g.num = true)
  ∧ ∀ (s : State) (st : Fin 42) (fit : Bool) (r : Nat) (rest : List Nat), s.handover = none → 983 < s.retiredTiles st.val → st.val ∉ s.reserve → s.reserve = r :: rest →
    ∃ u : State, exec (.standHandover st fit) s = .next u.follow ∧ u.handover = some (st.val, r) ∧ u.reserve = rest ∧ r ∈ u.wakeWant
      ∧ u.rotWait = (s.queueLoads (s.handLoads st.val r)).rotWait

end Sys2Proof.Machine

open Sys2Proof Sys2Proof.Machine in
/-- Swaps land between MVMs; waiting rotations, remaps and stand handovers. -/
def Obligations.SwapsAndRemaps : Prop :=
  Machine.SwapsLand ∧ Machine.RotationsRemapsHandovers

namespace Sys2Proof.Machine

/-! ## Layer steps: reports, commits and scale events (R140, R148 to R160, R178, R201) -/

/-- R148 to R152, R178: a report waits at the lead grove until as many as expected are in. Then norm watch takes the largest exponent: where it stays
within three of the record's center, or the record is not valid, every reporting grove gets its commit; where it jumps, an output-side scale event is
raised instead. -/
def ReportsCommitTheStep : Prop :=
  ∀ (s : State) (lead : GroveId) (rep : StepReport), s.groveOn lead = true → s.lockstep = false →
    let k := rep.key
    let rs := s.reportsOf lead k ++ [rep]
    let want := (rs.map (fun r => r.expected)).foldl max 0
    (∀ e ∈ (s.grove lead).events, e.key ≠ k) →
    (∀ r ∈ s.reportsOf lead k, r.grove ≠ rep.grove ∨ r.ctr ≠ rep.ctr) →
    ((want = 0 ∨ rs.length < want) → ∃ t, exec (.stepReport lead rep) s = .next t ∧ t.reportsOf lead k = rs ∧ t = { s with groves := t.groves })
    ∧ (0 < want → want ≤ rs.length → (∀ r ∈ rs, r.numericFault = false) → ∀ n center valid, n ∈ rs.filterMap (fun r => r.e) →
      (∀ m ∈ rs.filterMap (fun r => r.e), m ≤ n) → s.normRecord k.seq k.layer = some (center, valid) →
      ((valid = false ∨ (-48 ≤ 16 * n - center ∧ 16 * n - center ≤ 48)) →
        let new : Int := if valid then center + (16 * n - center) / 8 else 16 * n
        ∃ t, exec (.stepReport lead rep) s = .next t ∧ t.reportsOf lead k = []
          ∧ t.out = s.out ++ rs.map (fun r => .commit r.grove k r.ctr)
          ∧ t.hbm = (s.setNorm k.seq k.layer new).hbm ∧ t.decks = (s.setNorm k.seq k.layer new).decks
          ∧ t = { s with groves := t.groves, out := t.out, hbm := t.hbm, decks := t.decks, seqs := t.seqs })
      ∧ (valid = true → ¬ (-48 ≤ 16 * n - center ∧ 16 * n - center ≤ 48) →
        ∃ t, exec (.stepReport lead rep) s = .next t ∧ t.reportsOf lead k = rs ∧ t.out = s.out
          ∧ (∃ e ∈ (t.grove lead).events, e.key = k ∧ e.kind = .output ∧ e.released = none)
          ∧ t.road.barriers.length = s.road.barriers.length + 1 ∧ t.hbm = s.hbm))

/-- R140, R178: a commit advances the counter named in the report and takes the step's exponent into the finishing history of 16; missing reports set
commit_timeout, drop the step and mark the image faulted (R216). -/
def CommitsAndTimeouts : Prop :=
  (∀ (s : State) (g : GroveId) (k : StepKey) (ctr : Fin 64),
    ∃ t, exec (.commit g k ctr) s = .next t
      ∧ (∀ h j, t.counter h j = if h = g ∧ j = ctr.val then (s.counter h j + 1) % 65536 else s.counter h j)
      ∧ tblFind (t.grove g).pendingE k = none ∧ (∀ e ∈ (t.grove g).events, e.key ≠ k)
      ∧ (∀ slot e, tblFind (s.grove g).pendingE k = some (slot, e) →
          tblGet (t.grove g).history (k.tag, slot) [] =
            let h := tblGet (s.grove g).history (k.tag, slot) [] ++ [e]
            h.drop (h.length - 16))
      ∧ t = { s with regs := t.regs, groves := t.groves })
  ∧ ∀ (s : State) (lead : GroveId) (k : StepKey), s.reportsOf lead k ≠ [] →
    ∃ u : State, u.on gvEvent_commitTimeout lead.num = true ∧ u.reportsOf lead k = [] ∧ u.out = s.out ++ [.firmware 1 lead.num k.step]
      ∧ u = { s with regs := u.regs, groves := u.groves, out := u.out } ∧ exec (.commitTimeout lead k) s = .next (u.faultImage k.tag true)

end Sys2Proof.Machine

open Sys2Proof Sys2Proof.Machine in
/-- Step reports, norm watch, commits and their timeout. -/
def Obligations.StepsCommitTheirReports : Prop :=
  Machine.ReportsCommitTheStep ∧ Machine.CommitsAndTimeouts

open Sys2Proof Sys2Proof.Machine in
/-- R154, R159, R160, R201: a grove keeps an announced scale event and answers with its largest X_nat; the release raises the floor of an input-side
replay to X_max − 37, abandons the step's reports and drops its queued descriptors of the scaler and of tile dispatch, each with its done action. -/
def Obligations.ScaleEventsReplayTheStep : Prop :=
  (∀ (s : State) (g : GroveId) (k : StepKey) (kind : ScaleKind) (x : Int), s.groveOn g = true → k.seq ∉ (s.grove g).felled →
    (∀ e ∈ (s.grove g).events, e.key ≠ k) →
    ∃ t, exec (.scaleEventAnnounce g k kind x) s = .next t
      ∧ (t.grove g).events = (s.grove g).events ++ [{ key := k, kind := kind, xnat := x }] ∧ t.on gvEvent_scaleEvent g.num = true
      ∧ (∃ w : HrWord, w.kind = 3 ∧ w.content = scaleWord k kind x ∧ t.out = s.out ++ [.hrWord 2 w])
      ∧ t = { s with regs := t.regs, groves := t.groves, out := t.out })
  ∧ ∀ (s : State) (g : GroveId) (k : StepKey) (e : ScaleEvent) (x : Int), s.lockstep = false → (s.grove g).events.find? (fun e => decide (e.key = k)) = some e →
    e.released = none → k.seq ∉ (s.grove g).felled →
    ∃ t, exec (.scaleEventRelease g k x) s = .next t
      ∧ (∀ d : Descriptor, descSeqValid d = true → descKey d = k →
          t.replaying g d = true ∧ t.stopped g d = false
          ∧ ∀ f, t.raisedFloor g d f = max f (if e.kind = .input then x - 37 else -128))
      ∧ t.reportsOf g k = [] ∧ t.on gvEvent_replay g.num = true
      ∧ (∀ stage, stage = 0 ∨ stage = 1 → (t.grove g).queue stage
          = ((s.grove g).queue stage).filter (fun q => !(descSeqValid q.desc && decide (descKey q.desc = k))))
      ∧ t = { s with regs := t.regs, groves := t.groves }

namespace Sys2Proof.Machine

/-! ## Power (R207 to R210, R224, R409 to R425) -/

/-- R210, R415, R416, R434: the band's sum above its limit lowers each of its stands to limit × band limit / sum, and one below 90 % of it lifts the cap;
the module's sum does the same to all stands; a completion that lets a start fit again clears the thinning; the effective limit is the lowest of the
lowerings (log 40), each of the stand limit. -/
def LimitsFollowMeters : Prop :=
  (∀ (s : State) (n : Fin 42), s.get pwMeter_meter n.val + 1 ≤ 1000 * s.get pwStandLimit_effective n.val →
    ∃ u, exec (.activityStartAfterThin n) s = .next u ∧ u.on pwStandStatus_meterThin n.val = false ∧ RegsOnly s u)
  ∧ (∀ (s : State) (b : Fin 7), (∀ n ∈ bandStands b.val, (s.power n).reserve = 0) →
    let sum := ((bandStands b.val).map (fun n => s.get pwMeter_meter n)).sum
    let limit := s.getAt pwBand_limit 0 b.val
    ∃ u, exec (.bandEvaluation b) s = .next u ∧ u = { s with regs := u.regs, powers := u.powers } ∧ ∀ n ∈ bandStands b.val,
      (1000 * limit < sum → (u.power n).bandCap = some (s.get pwStandLimit_limit n * limit * 1000 / sum)
        ∧ u.get pwStandLimit_effective n ≤ s.get pwStandLimit_limit n * limit * 1000 / sum)
      ∧ (sum < 900 * limit → (u.power n).bandCap = none)
      ∧ (900 * limit ≤ sum → sum ≤ 1000 * limit → (u.power n).bandCap = (s.power n).bandCap)
      ∧ ∀ m, m ∉ bandStands b.val → u.power m = s.power m)
  ∧ (∀ s : State, (∀ n, n < 42 → (s.power n).reserve = 0 ∧ (s.power n).moduleCap = none) →
    let sum := ((upTo 42).map (fun n => s.get pwMeter_meter n)).sum
    let limit := s.get pwModuleLimit_inForce 0
    1000 * limit < sum → ∃ u, exec .moduleEvaluation s = .next u ∧ u.on pwModEvent_moduleThin 0 = true
      ∧ u = { s with regs := u.regs, powers := u.powers }
      ∧ ∀ n, n < 42 → (u.power n).moduleCap = some (s.get pwStandLimit_limit n * limit * 1000 / sum))
  ∧ (∀ (s : State) (n : Fin 42), s.get thStandStatus_heatFactor n.val ≠ 100 →
    let f := s.get thStandStatus_heatFactor n.val
    let g := if 1600 ≤ s.hottest n.val then max 25 (f - 5) else if s.hottest n.val < 1552 then min 100 (f + 5) else f
    ∃ u, exec (.heatFactorStep n) s = .next u ∧ u.get thStandStatus_heatFactor n.val = g % 128
      ∧ u.on thStandStatus_thinning n.val = decide (g < 100) ∧ RegsOnly s u)
  ∧ (∀ (s : State) (n : Fin 42) (up : Int), s.get pwStandStatus_standPower n.val ≠ 0 → s.get pwVlogCtrl_mode n.val = 0 → s.lockstep = false →
    s.get pwVlogCtrl_floor n.val ≤ s.get pwVlogCtrl_set n.val → s.get pwVlogCtrl_set n.val ≤ s.get pwVlogCtrl_ceiling n.val →
    let v := s.get pwStandStatus_vlogMv n.val
    let w := s.get pwVlogCtrl_set n.val
    ∃ u, exec (.vlogAdjust n up) s = .next u ∧ u.get pwStandStatus_vlogMv n.val = (if v < w then v + 1 else if w < v then v - 1 else v) ∧ RegsOnly s u)
  ∧ ∀ (s : State) (n : Fin 42) (a p : Nat), s.get pwStandStatus_standPower n.val ≠ 0 → a < 65536 →
    let cap := 450 * s.get pwStandStatus_phasesOk n.val
    ∃ u, exec (.elecThin n a p) s = .next u ∧ RegsOnly s u
      ∧ ((95 * cap < 100 * a ∨ p < 800) → u.on pwStandStatus_elecThin n.val = true)
      ∧ (100 * a < 85 * cap → 800 ≤ p → u.on pwStandStatus_elecThin n.val = false)
      ∧ (85 * cap ≤ 100 * a → 100 * a ≤ 95 * cap → 800 ≤ p → u.on pwStandStatus_elecThin n.val = s.on pwStandStatus_elecThin n.val)

/-- R410 to R413, R437, R484: a feed out of range opens its switch, and one in range closes it; an unseated blade loses both; once both are lost for the
ride-through, and at a hard shutdown, the module is OFF, with its cells, flash and tally kept; a lost converter lowers the module limit by 1,625 W for
each below 16, and fewer than 9 drain the module. -/
def FeedsConvertersAndShutdown : Prop :=
  (∀ (s : State) (feed : Fin 2) (mv : Nat), s.events.enabled = false →
    let ok := if feed = 0 then pwFeed_feedAOk else pwFeed_feedBOk
    ((mv < 38000 ∨ 60000 < mv) → ∃ u, exec (.feedLost feed mv) s = .next u ∧ u.on ok 0 = false ∧ RegsOnly s u
      ∧ (s.on ok 0 = true → u.on (if feed = 0 then pwModEvent_feedALost else pwModEvent_feedBLost) 0 = true))
    ∧ (40000 ≤ mv → mv ≤ 59000 → s.on ok 0 = false → ∃ u, exec (.feedRestored feed mv) s = .next u ∧ u.on ok 0 = true
      ∧ u.on pwModEvent_feedRestored 0 = true ∧ RegsOnly s u))
  ∧ (∀ s : State, ∃ u, exec .bladeUnseated s = .next u ∧ u.on pwFeed_feedAOk 0 = false ∧ u.on pwFeed_feedBOk 0 = false ∧ RegsOnly s u)
  ∧ (∀ (s : State) (c : Instr), s.service ≠ .off →
    ((c = .rideThroughEnd ∧ s.on pwFeed_feedAOk 0 = false ∧ s.on pwFeed_feedBOk 0 = false)
      ∨ (c = .hardShutdown .sensor ∧ ∃ p ∈ s.sensors, 1760 ≤ p.2) ∨ (c = .hardShutdown .inlet ∧ 720 < s.inlet ∧ s.on thModStatus_inletTimer 0 = true)) →
    ∃ t, exec c s = .next t ∧ t.service = .off ∧ t.pending = s.pending ∧ t.tally = s.tally ∧ t.images = [] ∧ t.seqs = [] ∧ t.hbm = [] ∧ t.decks = []
      ∧ t.flash.slots = s.flash.slots ∧ t.flash.orderly = (if c = .rideThroughEnd then s.flash.orderly else false)
      ∧ (∀ x p, (t.tier x p).rows = (s.tier x p).rows) ∧ t.latched = (if c = .rideThroughEnd then s.latched else true))
  ∧ ∀ (s : State) (n : Fin 18), s.get pwConverters_ok 0 / 2 ^ n.val % 2 = 1 → 10 ≤ s.get pwConverters_working 0 → s.get pwConverters_working 0 ≤ 18 →
    ∃ v : State, exec (.converterLost n) s = .next v.follow ∧ v.get pwConverters_working 0 = s.get pwConverters_working 0 - 1
      ∧ v.get pwConverters_ok 0 = s.get pwConverters_ok 0 - 2 ^ n.val ∧ v.on pwModEvent_converterLost 0 = true ∧ RegsOnly s v
      ∧ v.get pwModuleLimit_inForce 0 = min (s.get pwModuleLimit_set 0) (20000 - 1625 * (17 - s.get pwConverters_working 0))

end Sys2Proof.Machine

open Sys2Proof Sys2Proof.Machine in
/-- Limits follow the meters; feeds, converters, and shutdown. -/
def Obligations.PowerLimits : Prop :=
  Machine.LimitsFollowMeters ∧ Machine.FeedsConvertersAndShutdown

namespace Sys2Proof.Machine

/-- R224, R413, R422, R425, R435: a stand that loses its power, for whatever cause, shows it in its registers, its groves are dark with empty queues, its
links are down at both ends, and it has no part in wakes or in the reserve; then its sequences and images follow. -/
def StandsGoDark : Prop :=
  (∀ (s : State) (n : Fin 42), s.get pwStandStatus_standPower n.val ≠ 0 → s.events.enabled = false →
    s.goDark n.val = (s.standDown n.val).afterDark n.val
    ∧ let u := s.standDown n.val
      u.get pwStandStatus_standPower n.val = 0 ∧ u.get pwStandStatus_vlogMv n.val = 0 ∧ u.get pwMeter_meter n.val = 0
      ∧ n.val ∉ u.wakeWant ∧ n.val ∉ u.reserve ∧ (u.power n.val).darkAt = s.tally
      ∧ (∀ k : Fin 16, u.get gvStatus_power (n.val * 16 + k.val) = 3 ∧ (u.grove ⟨n, k⟩).queues = [] ∧ ∀ f ∈ u.fellers, f.1.groveId ≠ ⟨n, k⟩)
      ∧ (∀ p : Fin 8, u.linkUp (.stand n p) = false ∧ ∀ q, (PortId.stand n p).peer = some q → s.linkUp (.stand n p) = true → u.linkUp q = false)
      ∧ u.hbm = s.hbm ∧ u.decks = s.decks ∧ u.seqs = s.seqs ∧ u.images = s.images ∧ u.pending = s.pending)
  ∧ (∀ (s : State) (n : Fin 42),
    (∀ c ∈ [DarkCause.bothTrees, .firebreak, .segment, .header], exec (.standDark n c) s = .next (s.goDark n.val))
    ∧ (s.get pwStandStatus_standPower n.val ≠ 0 →
      exec (.standDark n .service) s = .next ((s.setPower n.val { s.power n.val with service := true }).goDark n.val)
      ∧ ∃ u, exec (.standDark n .heat) s = .next (u.goDark n.val) ∧ u.on thStandStatus_heatOff n.val = true ∧ RegsOnly s u))
  ∧ (∀ (s : State) (b : Fin 7), s.getAt pwBand_segmentOpen 0 b.val = 0 →
    ∃ u : State, exec (.segmentOpen b) s = .next (u.each (bandStands b.val) State.goDark) ∧ u.getAt pwBand_segmentOpen 0 b.val = 1
      ∧ (∀ n ∈ bandStands b.val, u.on pwStandStatus_segmentOpen n = true ∧ n ∉ u.wakeWant) ∧ u.on pwModEvent_bandSegmentOpen 0 = true)
  ∧ ∀ (s : State) (n : Fin 42), s.hottest n.val ≥ 1680 → s.get pwStandStatus_standPower n.val ≠ 0 →
    ∃ u v : State, exec (.heatSwitchOff n) s = .next (v.goDark n.val) ∧ v = u.thermalRecord (8 * n.val) 3 (s.hottest n.val)
      ∧ u.on thStandStatus_heatOff n.val = true ∧ u.on thEvent_heatOff n.val = true ∧ RegsOnly s u

/-- R420 to R424: a lost phase lowers the stand limit to 25 tokens for each phase below 16, and below 10 phases the breaker opens; an input short is
isolated or trips the breaker; a tripped breaker is retested once, and closes by command only after a passed check, upon which the stand wakes; a
header that stays closed keeps its grove powered. -/
def PhasesBreakersAndHeaders : Prop :=
  (∀ (s : State) (n : Fin 42) (p : Fin 18) (rep : Bool), s.get (pwPhaseStatus_phase p.val) n.val = 0 → 11 ≤ s.get pwStandStatus_phasesOk n.val →
    s.get pwStandStatus_phasesOk n.val ≤ 18 →
    let k := s.get pwStandStatus_phasesOk n.val - 1
    let l := if 16 ≤ k then 400 else 25 * k
    ∃ v : State, (exec (.phaseLost n p rep) s = .next v ∨ exec (.phaseLost n p rep) s = .next v.follow) ∧ RegsOnly s v
      ∧ v.get (pwPhaseStatus_phase p.val) n.val = 1 ∧ v.get pwStandStatus_phasesOk n.val = k ∧ v.on pwEvent_phaseLost n.val = true
      ∧ v.get pwStandLimit_limit n.val = l)
  ∧ (∀ (s : State) (n : Fin 42) (p : Fin 18) (amps : Nat), 70 < amps → p.val ∉ (s.power n.val).shorting → s.get (pwPhaseStatus_phase p.val) n.val = 0 →
    ∃ u, exec (.phaseShort n p amps) s = .next u ∧ p.val ∈ (u.power n.val).shorting ∧ (∀ m, m ≠ n.val → u.power m = s.power m) ∧ u = { s with powers := u.powers })
  ∧ (∀ (s : State) (n : Fin 42) (p : Fin 18) (amps : Nat), p.val ∈ (s.power n.val).shorting →
    ∃ u : State, u.on pwEvent_phaseShorted n.val = true ∧ p.val ∉ (u.power n.val).shorting ∧ u = { s with regs := u.regs, powers := u.powers }
      ∧ exec (.isolationCheck n p amps) s = .next (if amps < 5 then u.losePhase n.val p.val 2 else u.openBreaker n.val 3))
  ∧ (∀ (s : State) (n : Fin 42) (c : TripCause), s.on pwStandStatus_breakerOpen n.val = false →
    ∃ u : State, exec (.breakerTrip n c) s = .next (u.goDark n.val) ∧ u.on pwStandStatus_breakerOpen n.val = true ∧ u.get pwBreaker_cause n.val = tripCode c
      ∧ (u.power n.val).checkOk = false ∧ n.val ∉ u.wakeWant ∧ (c ≠ .firmware → u.on pwEvent_breakerTrip n.val = true)
      ∧ u = { s with regs := u.regs, powers := u.powers, wakeWant := u.wakeWant })
  ∧ (∀ (s : State) (n : Fin 42) (percent : Nat), s.on pwStandStatus_breakerOpen n.val = true → s.get pwBreaker_cause n.val ≠ 4 → (s.power n.val).retested = false →
    exec (.breakerRetest n percent) s = .next (s.setPower n.val { s.power n.val with retested := true, checkOk := decide (90 ≤ percent) }))
  ∧ (∀ (s : State) (n : Fin 42) (v : BitVec 32), v.toNat / 2 ^ 31 = 1 → s.on pwStandStatus_breakerOpen n.val = true →
    ((s.power n.val).checkOk = true → s.on pwStandStatus_segmentOpen n.val = false →
      ∃ u, exec (.pwBreakerClose n v) s = .next u ∧ u.on pwStandStatus_breakerOpen n.val = false ∧ u.get pwBreaker_tripCurrent n.val = v.toNat % 256
        ∧ n.val ∈ u.wakeWant ∧ (u.power n.val).returning = true ∧ u = { s with regs := u.regs, powers := u.powers, wakeWant := u.wakeWant })
    ∧ ((s.power n.val).checkOk = false → ∃ u, exec (.pwBreakerClose n v) s = .next u ∧ u.on pwStandStatus_breakerOpen n.val = true ∧ RegsOnly s u))
  ∧ ∀ (s : State) (g : GroveId), s.get (pwGroveHdr_cluster g.grove.val) g.stand.val = 0 → s.get pwStandStatus_standPower g.stand.val ≠ 0 →
    s.get pwGroveFault_stuckClosed g.stand.val / 2 ^ g.grove.val % 2 = 0 →
    ∃ u, exec (.headerStuckClosed g) s = .next u ∧ u.get gvStatus_power g.num = 2 ∧ u.get pwGroveFault_stuckClosed g.stand.val / 2 ^ g.grove.val % 2 = 1
      ∧ u.on pwEvent_headerStuck g.stand.val = true ∧ RegsOnly s u

end Sys2Proof.Machine

open Sys2Proof Sys2Proof.Machine in
/-- Stands go dark; phases, breakers, input shorts and grove headers. -/
def Obligations.StandsLosePower : Prop :=
  Machine.StandsGoDark ∧ Machine.PhasesBreakersAndHeaders

namespace Sys2Proof.Machine

/-- R418, R419, R438: a wake asked for starts in 8 stages with 100 tokens reserved where its band has room, or in 16 with 50; otherwise it is deferred,
and evaluated again later. A wake's groves close their stages one after another. A stand that heat switched off wakes once it is cool. -/
def StandsWake : Prop :=
  (∀ (s : State) (n : Fin 42) (c : Instr), s.mayWake n.val = true → s.events.enabled = false →
    (c = .wakeEvaluation n ∧ s.get pwStandStatus_wake n.val ≠ 3 ∧ (∀ m ∈ bandStands (standRow n.val), (s.power m).stages ≠ 0 ∨ (s.power m).reserve = 0)
      ∨ c = .wakeDeferRetry n ∧ s.get pwStandStatus_wake n.val = 3) →
    let ns := bandStands (standRow n.val)
    let sum := s.meterSum ns
    let limit := 1000 * s.getAt pwBand_limit 0 (standRow n.val)
    let held := ns.any (fun m => (s.power m).wakeCap.isSome && (s.power m).wakeFor == n.val)
    (ns.filter (fun m => (s.power m).stages ≠ 0)).length < max 1 (s.get pwWakeCtrl_wakeMax 0) → held = false →
    (∀ k, s.nextGrove n.val 0 = some k →
      (sum + 100000 ≤ limit → s.neighborAtPeak n.val = false →
        ∃ u, exec c s = .next u ∧ (u.power n.val).stages = 8 ∧ (u.power n.val).reserve = 100 ∧ u.get pwStandStatus_standPower n.val = 1
          ∧ u.get pwStandStatus_wake n.val = 1 ∧ (u.power n.val).grove = k ∧ u.get gvStatus_power (n.val * 16 + k) = 1 ∧ n.val ∉ u.reserve)
      ∧ (sum + 50000 ≤ limit → (limit < sum + 100000 ∨ s.neighborAtPeak n.val = true) →
        ∃ u, exec c s = .next u ∧ (u.power n.val).stages = 16 ∧ (u.power n.val).reserve = 50 ∧ u.get pwStandStatus_wake n.val = 2
          ∧ u.on pwEvent_wakeStretched n.val = true ∧ n.val ∉ u.reserve))
    ∧ (limit < sum + 50000 → s.on pwWakeCtrl_thinForWakeEn 0 = false →
        ∃ u, exec c s = .next u ∧ u.get pwStandStatus_wake n.val = 3 ∧ u.on pwEvent_wakeDeferred n.val = true ∧ (u.power n.val).stages = (s.power n.val).stages))
  ∧ (∀ (s : State) (g : GroveId) (ok : Bool), let n := g.stand.val; let k := g.grove.val; let x := s.power n
    x.stages ≠ 0 → x.grove = k →
    (x.stage + 1 < x.stages → exec (.groveWakeStage g ok) s = .next (s.setPower n { x with stage := x.stage + 1 }))
    ∧ (x.stages ≤ x.stage + 1 → ok = false → x.tries = 0 → exec (.groveWakeStage g ok) s = .next (s.setPower n { x with stage := 0, tries := 1 }))
    ∧ (x.stages ≤ x.stage + 1 → ∀ j, s.nextGrove n (k + 1) = some j → (ok = true ∨ x.tries ≠ 0) →
      s.get pwGroveFault_stuckOpen n / 2 ^ k % 2 = 0 →
      ∃ u, exec (.groveWakeStage g ok) s = .next u ∧ u.get gvStatus_power g.num = (if ok then 2 else 3) ∧ (u.power n).grove = j ∧ (u.power n).stage = 0
        ∧ u.get gvStatus_power (n * 16 + j) = 1 ∧ (ok = false → u.on pwEvent_headerStuck n = true) ∧ u = { s with regs := u.regs, powers := u.powers }))
  ∧ ∀ (s : State) (n : Fin 42), s.on thStandStatus_heatOff n.val = true → (∀ k, k < 4 → ∃ t, s.sensor (8 * n.val + k) = some t ∧ t < 1360) → s.inlet ≤ 640 →
    s.on pwStandStatus_breakerOpen n.val = false → s.on pwStandStatus_segmentOpen n.val = false →
    ∃ u, exec (.heatReturn n) s = .next u ∧ u.on thStandStatus_heatOff n.val = false ∧ u.on thEvent_returnReady n.val = true ∧ (u.power n.val).returning = true
      ∧ n.val ∈ u.wakeWant ∧ u = { s with regs := u.regs, powers := u.powers, wakeWant := u.wakeWant }

/-- R224, R438: once every stand of a held image is on and programmed the image resumes from committed state; a returned stand whose tiers are cleared
takes the reserve role. -/
def ImagesAndStandsReturn : Prop :=
  (∀ (s : State) (tag : Fin 256) (x : Image), s.image tag.val = some x → x.held = true → x.uncovered = false → s.lockstep = false →
    (∀ n ∈ x.place, s.standOn n = true ∧ s.programming n = false) → (∀ n, (s.power n).service = false) →
    ∃ u : State, exec (.replacementRelease tag) s = .next u.follow ∧ (∃ y, u.image tag.val = some y ∧ y.held = false ∧ y.file = x.file)
      ∧ (∀ i ∈ s.seqsOf tag.val, (u.seq i).inFlight = none ∧ (u.seq i).entry = (s.seq i).entry)
      ∧ ∀ g ∈ s.groves, g.1.stand.val ∈ x.place → (u.grove g.1).queues = [])
  ∧ (∀ (s : State) (n : Fin 42), (s.power n.val).returning = true → s.standOn n.val = true → s.returnCleared n.val = true →
    ∃ detours : List Nat, (∀ t ∈ detours, ∃ x, s.image t = some x ∧ x.faults = [.stand n.val] ∧ n.val ∉ x.place)
      ∧ exec (.planReturn n) s = .next (((((s.setPower n.val { s.power n.val with returning := false, service := false }).each detours
          State.returnPrimary)).toReserve n.val).endService n.val 0))
  ∧ ∀ (s : State) (n : Fin 42), ∃ u : State, s.toReserve n.val = u.follow ∧ n.val ∈ u.reserve ∧ u.get pwStandStatus_standPower n.val = 3
      ∧ u.get pwMeter_meter n.val = 0 ∧ ∀ k : Fin 16, u.get gvStatus_power (n.val * 16 + k.val) = 0

end Sys2Proof.Machine

open Sys2Proof Sys2Proof.Machine in
/-- Stands wake in stages, and images and stands return. -/
def Obligations.StandsWakeAndReturn : Prop :=
  Machine.StandsWake ∧ Machine.ImagesAndStandsReturn

open Sys2Proof Sys2Proof.Machine in
/-- R430 to R434: a valid reading is kept and shown, and one reported faulty or below −20 °C sets the sensor's fault; the hottest junction at 100 °C thins
its stand to 75 %; the coolant's inlet, outlet and flow are kept with their warnings. -/
def Obligations.SensorsThinAndWarn : Prop :=
  (∀ (s : State) (n : Fin 42) (k : Fin 8) (t : Int), s.service ≠ .off → -320 ≤ t →
    ∀ id : Fin 390, id.val = 8 * n.val + k.val →
    ∃ u, exec (.sensorSample id (some t)) s = .next u ∧ u.sensor id.val = some t ∧ (∀ j, j ≠ id.val → u.sensor j = s.sensor j)
      ∧ u.getAt thSensor_valid n.val k.val = 1 ∧ u.getAt thSensor_temp n.val k.val = unsigned 16 t)
  ∧ (∀ (s : State) (n : Fin 42) (k : Fin 8) (r : Option Int), s.service ≠ .off → (∀ t, r = some t → t < -320) →
    ∀ id : Fin 390, id.val = 8 * n.val + k.val →
    ∃ u, exec (.sensorSample id r) s = .next u ∧ u.sensor id.val = none ∧ u.getAt thSensor_valid n.val k.val = 0 ∧ u.on thStandStatus_sensorFault n.val = true)
  ∧ (∀ (s : State) (n : Fin 42) (k : Fin 4) (t : Int), s.service ≠ .off → 1600 ≤ t → t < 32768 → s.get thStandStatus_heatFactor n.val = 100 →
    ∀ id : Fin 390, id.val = 8 * n.val + k.val →
    ∃ u, exec (.sensorSample id (some t)) s = .next u ∧ u.get thStandStatus_heatFactor n.val = 75 ∧ u.on thStandStatus_thinning n.val = true
      ∧ u.on thEvent_thinStart n.val = true ∧ u.get pwStandLimit_effective n.val ≤ s.get pwStandLimit_limit n.val * 75 / 100)
  ∧ ∀ (s : State) (a b : Option Int) (o : Int) (flow : Nat), s.service ≠ .off → flow < 65536 → -32768 ≤ o → o < 32768 →
    (∀ t, a = some t → -320 ≤ t ∧ t < 32768) → (∀ t, b = some t → -320 ≤ t ∧ t < 32768) →
    ∃ u, exec (.coolantSample a b o flow) s = .next u ∧ u.sensor 368 = a ∧ u.sensor 369 = b ∧ u.get thCoolant_outlet 0 = unsigned 16 o
      ∧ u.get thCoolant_flow 0 = flow
      ∧ (640 < u.inlet → u.on thModStatus_inletHigh 0 = true) ∧ (720 < u.inlet → u.on thModStatus_inletTimer 0 = true)
      ∧ (u.inlet ≤ 640 → u.on thModStatus_inletHigh 0 = false) ∧ (300 ≤ flow → u.on thModStatus_flowLow 0 = false ∧ u.flowLow = 0)
      ∧ (flow < 300 → u.flowLow = min 100 (s.flowLow + 1))

namespace Sys2Proof.Machine

/-! ## Sequences between their steps (R255 to R265, R299, R305 to R308, R395) -/

/-- A sequence without speculation. -/
def Alone (s : State) (i : Nat) : Prop := (s.seq i).entry.specMode = 0 ∧ s.targetOf i = none

/-- R262: the next step of a sequence in PREFILL is the chunk of up to 512 prompt positions from `filled` on, and one in DECODE the position `length`;
once its pages are mapped, its prompt has arrived, its last step has committed and its image runs, it enters layer 0, and the re-entry counter takes
1. -/
def StepsEnterLayerZero : Prop :=
  ∀ (s : State) (i : Fin 32768) (g : GroveId) (ctr : Fin 64) (f : InFlight), Alone s i.val →
    let x := s.seq i.val
    let e := x.entry
    (e.state = 2 ∧ e.filled < e.promptLen ∧ f = { pos := e.filled, count := min 512 (e.promptLen - e.filled), prefill := true, entered := s.tally }
        ∧ s.arrived i.val f.pos f.count = true
      ∨ e.state = 3 ∧ e.length < e.maxLen ∧ f = { pos := e.length, count := 1, prefill := false, entered := s.tally }) →
    s.covers i.val (f.pos + f.count + s.mapAhead i.val) = true → e.partner = false → e.variant = 0 → s.variant e.imageTag 0 = none → s.imageRuns e.imageTag = true →
    x.moving = false →
    x.inFlight = none → x.asked = none → x.closing = none → x.pathLeft = [] → s.mirrors = false →
    ∃ t, exec (.layer0Entry i g ctr) s = .next t ∧ t.seq i.val = { x with inFlight := some f } ∧ (∀ j, j ≠ i.val → t.seq j = s.seq j)
      ∧ (∀ h k, t.counter h k = if h = g ∧ k = ctr.val then (s.counter h k + 1) % 65536 else s.counter h k)
      ∧ t = { s with seqs := t.seqs, regs := t.regs, groves := t.groves }

/-- R262, R299: mapping ahead leaves a sequence whose pages are mapped as it is, and puts one that cannot have its pages into a page wait; it resumes once
they can be mapped, and ends with KV_EXHAUSTED when its class's limit has passed. -/
def PageWaits : Prop :=
  (∀ (s : State) (i : Fin 32768) (f : InFlight), (s.seq i.val).entry.partner = false → s.nextStep i.val = some f →
    ((s.seq i.val).entry.state ≠ 1 → s.covers i.val (f.pos + f.count + s.mapAhead i.val) = true → exec (.mapAhead i) s = .next s)
    ∧ ((s.seq i.val).entry.state ≠ 1 → s.covers i.val (f.pos + f.count + s.mapAhead i.val) = false → s.runnableCount i.val f = 0 →
      s.on sqCtrl_allocEn (seqLanding i.val) = false → Alone s i.val → (s.seq i.val).inFlight = none →
      ∃ t, exec (.mapAhead i) s = .next t ∧ (t.seq i.val).entry.state = 4 ∧ (t.seq i.val).cause = some .pageWait ∧ (t.seq i.val).entry.pageWait = true
        ∧ (t.seq i.val).entry.resumePrefill = decide ((s.seq i.val).entry.state = 2) ∧ t.on sqEvent_pageWait (seqLanding i.val) = true))
  ∧ (∀ (s : State) (i : Fin 32768) (f : InFlight), let e := (s.seq i.val).entry
    e.state = 4 → (s.seq i.val).cause = some .pageWait → e.partner = false →
    exec (.pageWaitTimeout i) s = .next ((s.sqEv sqEvent_kvExhausted (seqLanding i.val)).endSeq ((s.targetOf i.val).getD i.val) 0x0400 0 false)
    ∧ (Alone s i.val → s.stepFor i.val e.resumePrefill = some f → s.covers i.val (f.pos + f.count + s.mapAhead i.val) = true →
      ∃ t, exec (.pageWaitResume i) s = .next t ∧ (t.seq i.val).entry.state = (if e.resumePrefill then 2 else 3) ∧ (t.seq i.val).cause = none
        ∧ (t.seq i.val).entry.pageWait = false ∧ (t.seq i.val).entry.nextDue = s.tally + e.itlTarget ∧ (t.seq i.val).entry.length = e.length))

/-- R265: a page of K or V whose positions are all below length, or any of a suspended sequence, moves to a deck page of its layer's pool or to an HBM
page: the bytes are copied, the page list names the new place, the old one is kept until every grove has dropped its translations, and then it is
freed. -/
def PagesMove : Prop :=
  (∀ (s : State) (i : Fin 32768) (page : Nat), s.decks.wf = true → s.hbm.wf = true →
    let e := (s.seq i.val).entry
    let ls := s.layers e.imageTag
    let old := s.pageEntry i.val page
    e.state ≠ 0 → e.state ≠ 5 → 0 < page → page < s.regionPages i.val → tblFind (s.seq i.val).freeing page = none →
    (e.state = 4 ∨ pageEnd ls e.maxLen page ≤ e.length) →
    (∀ d, s.takeDeckPage e.imageTag (layerOfPage ls e.maxLen page) = some d → d.1 < 42 → d.2.1 < 16 → d.2.2 < 256 → bits old 30 2 = 1 →
      ∀ a, s.placeOf old = some a →
      ∃ t, exec (.pageMove i page true) s = .next t ∧ t.pageEntry i.val page = 2 * 2 ^ 30 + d.1 * 2 ^ 12 + d.2.1 * 2 ^ 8 + d.2.2
        ∧ t.deckRead (groveOf d.1 d.2.1) (d.2.2 * 65536) 65536 = s.placeRead a 0 65536 ∧ t.usedDeckPages = s.usedDeckPages ++ [d]
        ∧ tblFind (t.seq i.val).freeing page = some old ∧ t.on sqEvent_pageMoved (seqLanding i.val) = true
        ∧ t.road.forester.length = s.road.forester.length + 1)
    ∧ (∀ p, (upTo 8).findSome? (fun k => s.lowestFree ((i.val + page + k) % 8)) = some p → p < 25165824 → s.inPool p = true → bits old 30 2 = 2 →
      ∀ g a, s.placeOf old = some (.deck g a) → (e.pageList + 4 * page + 4 ≤ p * 65536 ∨ p * 65536 + 65536 ≤ e.pageList + 4 * page) →
      ∃ t, exec (.pageMove i page false) s = .next t ∧ t.pageEntry i.val page = 2 ^ 30 + p ∧ t.hbmRead (p * 65536) 65536 = s.deckRead g a 65536
        ∧ t.usedPages = s.usedPages ++ [p] ∧ tblFind (t.seq i.val).freeing page = some old ∧ t.on sqEvent_pageMoved (seqLanding i.val) = true))
  ∧ ∀ (s : State) (i : Fin 32768) (page old : Nat), tblFind (s.seq i.val).freeing page = some old →
    ((∃ g ∈ s.groves, ∃ x ∈ g.2.xlate, x.1 = i.val ∧ x.2.1 = page ∧ x.2.2.toNat = old) → exec (.pageFree i page) s = .next s)
    ∧ ((∀ g ∈ s.groves, ∀ x ∈ g.2.xlate, x.1 = i.val → x.2.1 = page → x.2.2.toNat ≠ old) →
      ∃ t, exec (.pageFree i page) s = .next t ∧ tblFind (t.seq i.val).freeing page = none
        ∧ (bits old 30 2 = 1 → t.usedPages = s.usedPages.filter (fun p => p ≠ bits old 0 30))
        ∧ (bits old 30 2 = 2 → t.usedDeckPages = s.usedDeckPages.filter (fun d => d ≠ (bits old 12 6, bits old 8 4, bits old 0 8)))
        ∧ t = { s with seqs := t.seqs, usedPages := t.usedPages, usedDeckPages := t.usedDeckPages })

end Sys2Proof.Machine

open Sys2Proof Sys2Proof.Machine in
/-- Page waits, and moves of KV pages. -/
def Obligations.PagesOfSequences : Prop :=
  Machine.PageWaits ∧ Machine.PagesMove

namespace Sys2Proof.Machine

/-- R255, R257, R286, R305: a token step that reaches the output head commits the token drawn from its logits: step, length and the tokens left follow,
and the sequence closes at its stop token, its last token, its maximum length or where its closing was asked for. A prefill chunk advances `filled`. A
felled step is abandoned (R314). -/
def StepsCommit : Prop :=
  (∀ (s : State) (i : Fin 32768) (f : InFlight) (out : HeadOutput), Alone s i.val →
    let x := s.seq i.val
    let e := x.entry
    x.inFlight = some f → s.felledAtLead i.val = false → 0 < e.tokensLeft →
    (f.prefill = true ∧ e.state = 2 ∧ e.adapt = false ∧ e.promptLen ≤ f.pos + f.count ∨ f.prefill = false ∧ e.state = 3 ∧ e.length < e.maxLen) →
    let pos := if f.prefill then e.promptLen else e.length + 1
    let tok := s.draw e.imageTag i.val pos 0 (keptSet e (out.target.headD []))
    let last := BitVec.ofNat 32 tok
    ∃ t, exec (.tokenCommit i out) s = .next t ∧ (t.seq i.val).inFlight = none
      ∧ (let n := (t.seq i.val).entry
         n.step = e.step + 1 ∧ n.length = pos ∧ n.tokensLeft = e.tokensLeft - 1 ∧ n.lastToken = last ∧ n.commitTally = s.tally
         ∧ n.nextDue = s.tally + e.itlTarget ∧ n.filled = (if f.prefill then e.promptLen else e.filled)
         ∧ n.state = if (last = e.stopToken ∧ e.stopToken ≠ 0xFFFFFFFF) ∨ e.tokensLeft = 1 ∨ e.maxLen ≤ pos ∨ x.closing ≠ none then 0 else 3))
  ∧ (∀ (s : State) (i : Fin 32768) (f : InFlight), let x := s.seq i.val
    x.inFlight = some f → f.prefill = true → s.felledAtLead i.val = false →
    ((x.entry.promptLen ≤ f.pos + f.count ∧ x.entry.adapt = false ∧ s.targetOf i.val = none) →
      exec (.prefillChunkCommit i) s = .next (s.setSeq i.val { x with entry := { x.entry with filled := f.pos + f.count } }))
    ∧ (f.pos + f.count < x.entry.promptLen → ∃ t, exec (.prefillChunkCommit i) s = .next t ∧ (t.seq i.val).inFlight = none
        ∧ (t.seq i.val).entry = { x.entry with filled := f.pos + f.count }))
  ∧ ∀ (s : State) (i : Fin 32768) (f : InFlight) (out : HeadOutput), let x := s.seq i.val
    x.inFlight = some f → f.prefill = false → s.felledAtLead i.val = true → exec (.tokenCommit i out) s = .next (s.setSeq i.val { x with inFlight := none })

end Sys2Proof.Machine

open Sys2Proof Sys2Proof.Machine in
/-- A sequence enters layer 0 and commits its step. -/
def Obligations.TokenSteps : Prop :=
  Machine.StepsEnterLayerZero ∧ Machine.StepsCommit

open Sys2Proof Sys2Proof.Machine in
/-- R256, R307, R308: a sequence asked to suspend does so at its step boundary; the first in the order of resumption resumes once the load fits, into the
state that it left, with its deadline anew; one preempted for suspend_limit resumes whatever the load and is protected from another preemption for as
long. -/
def Obligations.SequencesSuspendAndResume : Prop :=
  (∀ (s : State) (i : Fin 32768) (c : SuspendCause), (s.seq i.val).asked = some c → (s.seq i.val).inFlight = none →
    ((s.seq i.val).entry.state = 2 ∨ (s.seq i.val).entry.state = 3) →
    ∃ t, exec (.suspensionLand i) s = .next t ∧ (t.seq i.val).entry.state = 4 ∧ (t.seq i.val).cause = some c ∧ (t.seq i.val).asked = none
      ∧ (t.seq i.val).entry.resumePrefill = decide ((s.seq i.val).entry.state = 2) ∧ (t.seq i.val).suspendAt = s.tally)
  ∧ (∀ (s : State) (i : Fin 32768), Alone s i.val → let e := (s.seq i.val).entry
    e.state = 4 →
    ((s.resumeOrder e.imageTag).head? = some i.val → s.resumeFits i.val = true →
      ∃ t, exec (.resumeSequence i) s = .next t ∧ (t.seq i.val).entry.state = (if e.resumePrefill then 2 else 3)
        ∧ (t.seq i.val).cause = none ∧ (t.seq i.val).entry.nextDue = s.tally + e.itlTarget)
    ∧ ((s.seq i.val).cause = some .preempted → e.partner = false →
      ∃ t, exec (.suspendLimit i) s = .next t ∧ (t.seq i.val).entry.state = (if e.resumePrefill then 2 else 3)
        ∧ (t.seq i.val).protected_ = s.tally + 1000000 * (s.classRec e.cls).suspendLimit))

open Sys2Proof Sys2Proof.Machine in
/-- R274, R275, R277, R279: a loading variant whose tiers can rotate becomes hot, with its tier images in the pool tiers; a generation armed on every copy
is taken by the variant's running sequences, with a new update number; after an update interval the next generation's rotations are asked for. -/
def Obligations.VariantsAndGenerations : Prop :=
  (∀ (s : State) (tag : Fin 256) (v : Fin 65536) (y : Variant), s.variant tag.val v.val = some y → y.loading = true →
    (∀ q ∈ y.pool, s.canRotate (poolTile q) q.2.2.2 = true) →
    ∃ t, exec (.variantLoad tag v) s = .next t
      ∧ (∃ z, t.variant tag.val v.val = some z ∧ z.hot = true ∧ z.loading = false ∧ z.pool = y.pool ∧ z.gen = y.gen)
      ∧ (∀ q x, y.pool = [q] → y.staged = [x] → q.2.2.2 < 16 →
          let b := poolTile q
          let new := s.get tlTileStatus_rotationPhys b.num
          new < 17 → s.physOf b q.2.2.2 < 17 → new ≠ s.physOf b q.2.2.2 →
          t.physOf b q.2.2.2 = new ∧ (t.tier b new).rows = x.image.rows))
  ∧ (∀ (s : State) (tag : Fin 256) (v : Fin 65536) (y : Variant) (a : Nat), s.variant tag.val v.val = some y → y.armed = some a → s.genReady tag.val v.val = true →
    s.paired = false →
    (∀ i ∈ s.seqsOf tag.val, (s.seq i).entry.variant = v.val → (s.seq i).inFlight = none) →
    ∃ t, exec (.genHandover tag v) s = .next t
      ∧ t.variant tag.val v.val = some { y with gen := a % 256, armed := none, update := y.update + 1 }
      ∧ ∀ i ∈ s.seqsOf tag.val, (s.seq i).entry.variant = v.val → (s.seq i).entry.partner = false → (s.seq i).entry.state ≠ 4 →
          (t.seq i).entry = { (s.seq i).entry with update := y.update + 1 })
  ∧ ∀ (s : State) (tag : Fin 256) (v : Fin 65536) (y : Variant), s.variant tag.val v.val = some y → y.hot = true → y.armed = none → max 1 y.interval ≤ y.tokens →
    y.pool.length = y.staged.length →
    ∀ grads, ∃ t, exec (.masterWeightUpdate tag v grads) s = .next t
      ∧ (∃ z, t.variant tag.val v.val = some z ∧ z.tokens = 0 ∧ z.armed = some ((y.gen + 1) % 256) ∧ z.gen = y.gen
          ∧ ∀ m x, grads = [m] → y.staged[m.elem / tierWeights]? = some x →
              let w := s.masterWeight tag.val y m.elem
              allFinite [w.toNat, y.eta.toNat, m.grad.toNat] = true →
              ∃ r, tblGet z.master (x.layer, m.elem) 0 = BitVec.ofNat 16 (FFmt.bf16.encodeSat
                ((bf16Ex w.toNat).add ((bf16Ex y.eta.toNat).mul (bf16Ex m.grad.toNat)).neg) (.stochastic r)))
      ∧ ∀ q ∈ y.pool, s.rotationAsked (poolTile q) q.2.2.2 = false →
          ∃ r ∈ t.rotWait, r.tile = poolTile q ∧ r.logical = q.2.2.2 ∧ r.kind = .update ∧ r.gen = (y.gen + 1) % 256

namespace Sys2Proof.Machine

/-! ## Felling (R309 to R316) -/

/-- R309 to R311, R313: felling an open sequence puts it in FELLING, keeps the felling with its code at the origin landing, and submits one felling word
that names it; a stand that receives the word sets the felled-map bits of all its groves, drops their translations, and owes an acknowledgement, which
goes out once no descriptor of the sequences is queued or running there. -/
def FellingsReachEveryStand : Prop :=
  (∀ (s : State) (origin : Fin 8) (i reason code : Nat), i < 32768 → (s.seq i).entry.state ≠ 0 → (s.seq i).entry.state ≠ 5 → (s.seq i).entry.specMode = 0 →
    let n := tblGet s.fellCtr origin.val 0
    let t := s.fell origin [i] reason code 0 false
    (t.seq i).entry.state = 5 ∧ tblFind t.fellings ⟨origin, n⟩ = some { entries := [i], reason := reason, code := code } ∧ tblGet t.fellCtr origin.val 0 = n + 1
    ∧ ∃ w : HrWord, w.kind = 2 ∧ w.source = 48 + origin.val ∧ w.content = fellWordList origin.val reason n [i] ∧ t.road.felling = s.road.felling ++ [w]
        ∧ t.on sqFellEvent_fellIssued origin.val = true)
  ∧ (∀ (s : State) (n : Fin 42) (origin : Fin 8) (reason num : Nat) (idx : List Nat), s.get pwStandStatus_standPower n.val ≠ 0 →
    idx.length ≤ 24 → (∀ i ∈ idx, i < 32768) → reason < 256 → num < 2 ^ 32 →
    ∃ t, exec (.fellingWordReceive n (fellWordList origin.val reason num idx)) s = .next t ∧ t = { s with groves := t.groves, standFells := t.standFells }
      ∧ (⟨origin, num⟩, idx) ∈ tblGet t.standFells n []
      ∧ (∀ k i, i ∈ (t.grove ⟨n, k⟩).felled ↔ i ∈ (s.grove ⟨n, k⟩).felled ∨ i ∈ idx)
      ∧ ∀ k, (t.grove ⟨n, k⟩).xlate = (s.grove ⟨n, k⟩).xlate.filter (fun e => e.1 ∉ idx))
  ∧ ∀ (s : State) (n : Fin 42) (id : FellId) (idx : List Nat), (tblGet s.standFells n []).find? (fun p => decide (p.1 = id)) = some (id, idx) →
    (s.standBusyWith n idx = true → exec (.fellingAckSend n id) s = .next s)
    ∧ (s.standBusyWith n idx = false → ∀ p : Nat, s.ackPort n.val id.origin.val = some p → ∃ (t : State) (w : Waiting),
      exec (.fellingAckSend n id) s = .next t ∧ Waits s t (standPort n.val p) 1 w ∧ w.arg = .ack id n.val ∧ w.flit.type = 7 ∧ w.flit.dstDie = 48 + id.origin.val
        ∧ ∀ q ∈ tblGet t.standFells n [], q.1 ≠ id)

/-- R313 to R315: an acknowledgement reaches its origin landing, which keeps the stand; with the last powered stand's the felling completes: its sequences
are CLOSED for reuse_guard and the felling is gone. At fell_timeout Forester firmware hears of the missing stands; at the end of reuse_guard the entry
can reopen. -/
def FellingsComplete : Prop :=
  (∀ (s : State) (l : Fin 8) (q c : Fin 3) (x : Flit) (n : Nat) (y : Felling) (from_ : Fin 42), let p := PortId.landing l q; let id : FellId := ⟨l, n⟩
    Accepts s p c x → x.type = 7 → tblFind s.fellings id = some y → from_.val ∉ y.acks →
    let z := { y with acks := y.acks ++ [from_.val] }
    ((∃ m ∈ s.poweredStands, m ∉ z.acks) → ∃ t, exec (.fellingAckFlit p x id from_) s = .next t ∧ TookFlit s t p c ∧ tblFind t.fellings id = some z
      ∧ t.out = s.out ++ [.credit p c] ∧ t.seqs = s.seqs)
    ∧ ((∀ m ∈ s.poweredStands, m ∈ z.acks) → ∃ u : State, exec (.fellingAckFlit p x id from_) s = .next (u.fellDone id z) ∧ u = { s with ports := u.ports, out := u.out, regs := u.regs }))
  ∧ (∀ (s : State) (id : FellId) (x : Felling), let t := s.fellDone id x
    tblFind t.fellings id = none ∧ t.on sqFellEvent_fellDone id.origin.val = true
    ∧ ∀ i ∈ x.entries, (t.seq i).entry.state = 0 ∧ (t.seq i).entry.gen = (s.seq i).entry.gen
        ∧ (t.seq i).reuseAt = s.tally + max 1 (s.get sqFellCtrl_reuseGuard (seqLanding i)) * 100000)
  ∧ (∀ (s : State) (id : FellId) (x : Felling), tblFind s.fellings id = some x → x.timedOut = false →
    ∃ t, exec (.fellTimeout id) s = .next t ∧ tblFind t.fellings id = some { x with timedOut := true } ∧ t.on sqFellEvent_fellTimeout id.origin.val = true
      ∧ ∀ n ∈ s.poweredStands, n ∉ x.acks → Out.firmware 1 id.origin.val n ∈ t.out)
  ∧ ∀ (s : State) (i : Fin 32768), (s.seq i.val).entry.state = 0 → exec (.reuseGuardExpiry i) s = .next (s.setSeq i.val { s.seq i.val with reuseAt := 0 })

end Sys2Proof.Machine

open Sys2Proof Sys2Proof.Machine in
/-- A felling reaches every stand, and completes with the last acknowledgement. -/
def Obligations.FellingsRunAndComplete : Prop :=
  Machine.FellingsReachEveryStand ∧ Machine.FellingsComplete

namespace Sys2Proof.Machine

/-! ## Daush (R318 to R361) -/

/-- A command of Daush on a function, with its code (R349 to R360); what a host, a file or an array supplies is any. -/
def DaushCommand (f : Fin 256) (c : Instr) (code : Nat) : Prop :=
  ∃ (img : ImageFile) (host : HostData) (tiers : List VariantTier) (rec_ : HostRecord) (bus : Bool) (found : List SliceFinding), (c, code) ∈
  [(.devGetInfo f, 0x0101), (.devSetOffHistory f, 0x0102), (.devSetDetMode f, 0x0103), (.devSetState f, 0x0104), (.devGetOperation f, 0x0105),
   (.devAbortOperation f, 0x0106), (.tenGetInfo f, 0x0201), (.tenSetQuota f, 0x0202), (.tenSetKey f, 0x0203), (.tenSetAdapt f, 0x0204), (.tenShed f, 0x0205),
   (.imgStageOpen f, 0x0301), (.imgStageWrite f host, 0x0302), (.imgLoad f img, 0x0303), (.imgUnload f, 0x0304), (.imgGet f, 0x0305),
   (.imgSetGolden f, 0x0306), (.varStage f tiers, 0x0307), (.varEvict f, 0x0308), (.seqOpen f, 0x0401), (.seqFell f, 0x0402), (.seqSuspend f, 0x0403),
   (.seqResume f, 0x0404), (.seqClose f, 0x0405), (.seqGet f, 0x0406), (.seqList f, 0x0407), (.polSetClass f, 0x0501), (.polGetClass f, 0x0502),
   (.polSetLanding f, 0x0503), (.polSetGrove f, 0x0504), (.telReadReg f, 0x0601), (.telGetHealth f, 0x0602), (.telReadViolLog f, 0x0603),
   (.telCopyJournal f, 0x0604), (.twinPair f, 0x0701), (.twinUnpair f, 0x0702), (.twinGet f, 0x0703), (.twinReplace f, 0x0704), (.pwrGet f, 0x0801),
   (.pwrSetLimit f, 0x0802), (.thmRead f, 0x0803), (.pwrStandService f, 0x0804), (.fwStage f rec_, 0x0901), (.fwSwap f, 0x0902), (.fwGetVersions f, 0x0903),
   (.attGetReport f bus, 0x0904), (.attGetIdentity f bus, 0x0905), (.tstLinkInject f, 0x0A01), (.tstTwinInject f, 0x0A02), (.tstInjectClear f, 0x0A03),
   (.tstSpareForce f, 0x0A04), (.tstCruise f found, 0x0A05)]

end Sys2Proof.Machine

open Sys2Proof Sys2Proof.Machine in
/-- R345: whatever the command, a request that fails one of the checks 1 to 7 answers with that check's status and has no other effect than the check's
own log; a command for which no request is ready changes nothing (the model's choice, log 8). -/
def Obligations.DaushChecksComeFirst : Prop :=
  ∀ (f : Fin 256) (c : Instr) (code : Nat) (s : State), DaushCommand f c code →
      (s.runnable f code = none → exec c s = .next s)
      ∧ ∀ r a, s.runnable f code = some (r, false) → s.headerChecks r = some a →
          exec c s = .next (a.2.answer f a.1.status a.1.detail a.1.body)
          ∧ (16 + r.bodyLen ≠ r.posted → a.1.status = 0x0101 ∧ a.2 = s)
          ∧ (16 + r.bodyLen = r.posted → s.groupRight f (code / 256) = true → code / 256 = 10 → s.service ≠ .test → a.1.status = 0x0104 ∧ a.1.detail = 5)
          ∧ (16 + r.bodyLen = r.posted → s.groupRight f (code / 256) = false → a.1.status = 0x0104 ∧ a.1.detail = 1)

namespace Sys2Proof.Machine

/-- R326, R328, R329, R331, R346: a post of a valid length copies the request, makes the mailbox BUSY and goes into the journal (R246), and one against
the rules is refused with no other effect; Forester firmware takes a request whose code is not the landing's; a response goes out with response_ready,
a record and a journal record; an abort answers a request that is not taken; writes to BAR2 reach the request slot. -/
def MailboxesCarryRequests : Prop :=
  (∀ (s : State) (f : Fin 256) (v : BitVec 32), (s.func f).exists_ = true → s.service ≠ .off → s.protLocked = true → (s.tenantOf f).isSome = true →
    let len := v.toNat % 2 ^ 13
    (len % 4 = 0 → 16 ≤ len → len ≤ 4096 → s.get mbStatus_state f.val ≠ 1 →
      ∃ t, exec (.mbPost f v) s = .next t ∧ (t.func f).copied = (s.func f).request.readN 0 len ∧ (t.func f).ready = none
        ∧ t.get mbStatus_state f.val = 1 ∧ t.on mbStatus_taken f.val = false ∧ t.get mbStatus_lastPost f.val = v.toNat / 2 ^ 16
        ∧ t = { s with regs := t.regs, funcs := t.funcs, journal := t.journal, srcCount := t.srcCount, journalLow := t.journalLow }
        ∧ ∃ r, t.journal.getLast? = some (portLanding f.val, r) ∧ r.kind = 0x0002 ∧ r.tally = s.tally ∧ r.source = 48 + portLanding f.val)
    ∧ ((len % 4 ≠ 0 ∨ len < 16 ∨ 4096 < len ∨ s.get mbStatus_state f.val = 1) → exec (.mbPost f v) s = .next (s.cpEv cpEventStatus_postRefused f)))
  ∧ (∀ (s : State) (f : Fin 256), s.get mbStatus_state f.val = 1 → s.on mbStatus_taken f.val = false → (s.func f).ready = none →
    (∃ t, exec (.mbAbort f) s = .next t ∧ Answers s t f 1 0 [] ∧ OnlyAnswered s t f ∧ t = { s with funcs := t.funcs })
    ∧ ((commandLen (parseRequest f (s.func f).copied).code).isSome = true → landingHandled (parseRequest f (s.func f).copied).code = false →
      ∃ t, exec (.mailboxTake f) s = .next t ∧ t.on mbStatus_taken f.val = true ∧ RegsOnly s t))
  ∧ (∀ (s : State) (f : Fin 256), (s.get mbStatus_state f.val ≠ 1 ∨ s.on mbStatus_taken f.val = true) → exec (.mbAbort f) s = .next s)
  ∧ (∀ (s : State) (f : Fin 256) (bs : List Byte), (s.func f).ready = some bs → bs.length ≤ 4096 →
    ∃ t, exec (.responseReady f) s = .next t ∧ (t.func f).response = bs ∧ (t.func f).ready = none ∧ t.get mbStatus_state f.val = 2
      ∧ t.get mbStatus_respLen f.val = bs.length ∧ t.on cpEventStatus_responseReady f.val = true
      ∧ (∃ r, t.journal.getLast? = some (portLanding f.val, r) ∧ r.kind = 0x0003 ∧ r.tally = s.tally ∧ r.source = 48 + portLanding f.val)
      ∧ t.get mbEventHead_number f.val = (s.get mbEventHead_number f.val + 1) % 2 ^ 64)
  ∧ ∀ (s : State) (f : Fin 256) (off : Fin 8192) (bs : List Byte), (s.func f).exists_ = true → (s.func f).request.wf = true → bs ≠ [] →
    (off.val + bs.length ≤ 4096 →
      ∃ t, exec (.bar2RequestWrite f off bs) s = .next t ∧ t = { s with funcs := t.funcs } ∧ (t.func f).request.readN off.val bs.length = bs
        ∧ ∀ a, a < off.val ∨ off.val + bs.length ≤ a → (t.func f).request.read a = (s.func f).request.read a)
    ∧ (4096 ≤ off.val → ∃ t, exec (.bar2RequestWrite f off bs) s = .next t ∧ (t.func f).request = (s.func f).request
        ∧ t.on cpEventStatus_violation f.val = true)

/-- R322, R335, R340, R341, R347: an MSI-X vector whose holdoff ends, that is unmasked or whose function returns to D0 sends; a function reset gives the
function's registers their reset values, discards an untaken request and lets a taken one end without a response; VFs appear up to the enabled number;
a host transfer ends its operation. -/
def FunctionsResetAndSignal : Prop :=
  (∀ (s : State) (f : Fin 256), (s.func f).exists_ = true →
    (∀ (vec : Fin 16), vec.val ∈ (s.func f).waitMsg → ∃ u : State, exec (.msixHoldoffEnd f vec) s = .next (u.msixRequest f vec.val)
        ∧ vec.val ∉ (u.func f).waitMsg ∧ u = { s with funcs := u.funcs })
    ∧ (∀ vec : Fin 16, (s.func f).msixPending = [] → ∃ t, exec (.msixUnmask f vec) s = .next t ∧ (t.func f).masked vec.val = false
        ∧ (∀ v, v ≠ vec.val → (t.func f).masked v = (s.func f).masked v) ∧ t = { s with funcs := t.funcs })
    ∧ (∃ t, exec (.d3hotEntry f) s = .next t ∧ (t.func f).d3hot = true ∧ t = { s with funcs := t.funcs })
    ∧ ((s.func f).msixPending = [] → ∃ t, exec (.d0Entry f) s = .next t ∧ (t.func f).d3hot = false ∧ t = { s with funcs := t.funcs })
    ∧ (∀ op rest ok o, (s.func f).transfer = op :: rest → tblFind s.ops op = some o → o.state = 0 →
        ∃ t, exec (.hostTransferComplete f ok) s = .next t ∧ (t.func f).transfer = rest ∧ (∃ p, tblFind t.ops op = some p ∧ p.state = (if ok then 1 else 2)
          ∧ p.status = (if ok then 0 else 0x0108) ∧ p.result = o.result) ∧ t = { s with funcs := t.funcs, ops := t.ops }))
  ∧ (∀ (s : State) (f : Fin 256), (s.func f).exists_ = true →
    let running := s.get mbStatus_state f.val = 1 ∧ s.on mbStatus_taken f.val = true ∧ (s.func f).ready = none ∧ (s.func f).awaits = none
    let reset (t : State) : Prop := (∀ q ∈ funcRegs, ∀ a b, t.reg ⟨q, f.val, a, b⟩ = (⟨q, f.val, a, b⟩ : RegKey).reset) ∧ (t.func f).exists_ = true
      ∧ (t.func f).copied = [] ∧ (t.func f).ready = none ∧ (t.func f).busMaster = false
      ∧ (running → (t.func f).orphans = (s.func f).orphans ++ [(s.func f).copied]) ∧ (¬ running → (t.func f).orphans = (s.func f).orphans)
    (∃ t, exec (.functionReset f) s = .next t ∧ reset t ∧ t = { s with regs := t.regs, funcs := t.funcs })
    ∧ ∀ port : Fin 4, f.val = 64 * port.val → ∃ t, exec (.pcieReset port) s = .next t ∧ reset t ∧ t = { s with regs := t.regs, funcs := t.funcs }
        ∧ ∀ g : Fin 256, g.val / 64 = port.val → g ≠ f → (t.func g).exists_ = false)
  ∧ ∀ (s : State) (port : Fin 4) (n : Fin 64), n.val ≤ bits (s.reg ⟨.cpFuncRights, 64 * port.val, 0, s.protBank⟩).toNat 32 6 →
    ∃ t, exec (.vfEnable port n) s = .next t ∧ t = { s with regs := t.regs, funcs := t.funcs }
      ∧ ∀ g : Fin 256, g.val / 64 = port.val → g.val % 64 ≠ 0 → (t.func g).exists_ = decide (g.val % 64 ≤ n.val)

end Sys2Proof.Machine

open Sys2Proof Sys2Proof.Machine in
/-- Mailboxes carry requests; functions signal, reset and change. -/
def Obligations.MailboxesAndFunctions : Prop :=
  Machine.MailboxesCarryRequests ∧ Machine.FunctionsResetAndSignal

open Sys2Proof Sys2Proof.Machine in
/-- R348, R349, R229, R469, R472: what the device commands do and answer once their checks hold. -/
def Obligations.DeviceCommands : Prop :=
  ∀ (s : State) (f : Fin 256) (r : Request),
    (Asked s f 0x0101 r → ∃ t body, exec (.devGetInfo f) s = .next t ∧ Answers s t f 0 0 body ∧ body.length = 64
      ∧ body.take 2 = [BitVec.ofNat 8 partStepping, BitVec.ofNat 8 s.service.code] ∧ OnlyAnswered s t f ∧ t = { s with funcs := t.funcs })
    ∧ (Asked s f 0x0102 r → r.field 10 1 < 2 → r.field 11 1 = 0 → s.service = .stump →
      ∃ t, exec (.devSetOffHistory f) s = .next t ∧ Answers s t f 0 0 [] ∧ t = { s with funcs := t.funcs, offHistory := t.offHistory }
        ∧ t.offHistory = some (r.field 0 8, if r.field 10 1 = 1 then some (signed 16 (r.field 8 2)) else none))
    ∧ (Asked s f 0x0103 r → r.field 0 1 < 4 → r.field 1 3 = 0 → s.service ≠ .stump → s.service ≠ .survey →
      (∀ p ∈ s.images, p.2.forbids (bit (r.field 0 1) 0) (bit (r.field 0 1) 0 || bit (r.field 0 1) 1) = false) →
      ∃ t body, exec (.devSetDetMode f) s = .next t ∧ Answers s t f 0 0 body ∧ t.lockstep = bit (r.field 0 1) 0 ∧ t.exact = bit (r.field 0 1) 1
        ∧ t.epoch = (s.epoch + 1) % 256 ∧ t.origin = (if bit (r.field 0 1) 0 then s.tally + 240 else 0)
        ∧ t.period = (if bit (r.field 0 1) 0 then t.imagePeriod else 0) ∧ body.length = 12)
    ∧ (Asked s f 0x0104 r → r.field 1 1 < 2 → r.field 2 2 = 0 →
      (r.field 0 1 = 7 → (s.service = .streaming ∨ s.service = .serving ∨ s.service = .degraded ∨ s.service = .twinSole) →
        (s.ops.filter (fun o => o.2.state = 0)).length < 64 →
        ∃ t, exec (.devSetState f) s = .next t ∧ Answers s t f 0 0 (bytesLE 4 s.nextOp) ∧ t.service = .draining
          ∧ (∃ d, t.drain = some d ∧ d.deadline = (if r.field 4 4 = 0 then none else some (s.tally + r.field 4 4 * 1000000))
              ∧ d.move = decide (r.field 1 1 = 1)))
      ∧ (r.field 0 1 = 8 → s.service = .draining → s.prot.testPermitted = true → s.ownOpen = [] →
        ∃ t, exec (.devSetState f) s = .next t ∧ Answers s t f 0 0 (bytesLE 4 0) ∧ t.service = .test ∧ t.drain = none)
      ∧ (r.field 0 1 = 4 → s.service = .test → ∃ t, exec (.devSetState f) s = .next t ∧ Answers s t f 0 0 (bytesLE 4 0)
          ∧ (t.service = .serving ∨ t.service = .degraded ∨ t.service = .twinSole) ∧ t.testSave = none)
      ∧ (r.field 0 1 ∉ [4, 7, 8] → ∃ t, exec (.devSetState f) s = .next t ∧ Answers s t f 0x0103 s.service.code [] ∧ t = { s with funcs := t.funcs }))
    ∧ (∀ o, Asked s f 0x0105 r → s.opOf r = some o →
      ∃ t, exec (.devGetOperation f) s = .next t ∧ t = { s with funcs := t.funcs } ∧ Answers s t f 0 0 (bytesLE 4 (r.field 0 4) ++ bytesLE 2 o.command
        ++ bytesLE 1 o.state ++ bytesLE 1 o.progress ++ bytesLE 2 o.status ++ bytesLE 2 o.detail ++ bytesLE 4 o.result))
    ∧ (∀ o, Asked s f 0x0106 r → s.opOf r = some o → o.state = 0 → o.command = 0x0604 →
      ∃ t, exec (.devAbortOperation f) s = .next t ∧ Answers s t f 0 0 [] ∧ (∃ p, tblFind t.ops (r.field 0 4) = some p ∧ p.state = 3 ∧ p.status = 1)
        ∧ t = { s with funcs := t.funcs, ops := t.ops })
    ∧ (∀ op o, tblFind s.ops op = some o → o.state ≠ 0 → exec (.operationRecordExpiry op) s = .next { s with ops := tblErase s.ops op })
    ∧ (∀ d at_, s.drain = some d → d.deadline = some at_ → d.move = false → s.service = .draining →
      ∃ t, exec .drainDeadline s = .next t ∧ (∃ e, t.drain = some e ∧ e.deadline = none)
        ∧ ∀ i ∈ s.ownOpen, s.isSapling i = false → (t.seq i).entry.state = 5)

open Sys2Proof Sys2Proof.Machine in
/-- R276, R295, R311, R339, R350, R355, R356, R361, R370: what the tenant, policy and telemetry commands do and answer once their checks hold. -/
def Obligations.TenantPolicyTelemetryCommands : Prop :=
  ∀ (s : State) (f : Fin 256) (r : Request), let tenant := s.actsFor r
    (Asked s f 0x0201 r → s.service ≠ .off → s.service ≠ .stump →
      ∃ t body, exec (.tenGetInfo f) s = .next t ∧ Answers s t f 0 0 body ∧ body.length = 64
        ∧ (body.drop 32).take 4 = bytesLE 4 (s.kvWindow tenant) ∧ t = { s with funcs := t.funcs })
    ∧ (Asked s f 0x0202 r → r.field 2 2 = 0 →
      (r.field 4 4 ≤ s.kvWindow tenant → ∃ t, exec (.tenSetQuota f) s = .next t ∧ Answers s t f 0 0 []
        ∧ (t.tenant tenant).maxSeqs = (if r.field 0 2 = 0 then none else some (r.field 0 2))
        ∧ (t.tenant tenant).maxPages = (if r.field 4 4 = 0 then none else some (r.field 4 4))
        ∧ (∀ x, x ≠ tenant → t.tenant x = s.tenant x) ∧ t = { s with funcs := t.funcs, tenants := t.tenants })
      ∧ (s.kvWindow tenant < r.field 4 4 → ∃ t, exec (.tenSetQuota f) s = .next t ∧ (t.func f).ready = some (responseBytes (s.func f).copied 0x0104 4 [])
        ∧ t.tenants = s.tenants))
    ∧ (Asked s f 0x0203 r → r.field 0 1 < 2 → r.field 1 1 < 2 → r.field 2 2 = 0 →
      ∃ t, exec (.tenSetKey f) s = .next t ∧ Answers s t f 0 0 []
        ∧ (∃ k, tblFind (t.tenant tenant).slots (r.field 0 1) = some k ∧ k.key = BitVec.ofNat 256 (r.field 8 32) ∧ k.sent = [])
        ∧ (t.tenant tenant).active = (if r.field 1 1 = 1 then r.field 0 1 else (s.tenant tenant).active)
        ∧ t = { s with funcs := t.funcs, tenants := t.tenants })
    ∧ (Asked s f 0x0204 r → r.field 0 1 < 2 → r.field 1 1 = 0 → 1 ≤ r.field 4 4 → r.field 4 4 ≤ 1048576 →
      ∃ t, exec (.tenSetAdapt f) s = .next t ∧ Answers s t f 0 0 [] ∧ (t.tenant tenant).adaptOn = decide (r.field 0 1 = 1)
        ∧ (t.tenant tenant).adaptEta = BitVec.ofNat 16 (r.field 2 2) ∧ (t.tenant tenant).adaptInterval = r.field 4 4
        ∧ t = { s with funcs := t.funcs, tenants := t.tenants })
    ∧ (Asked s f 0x0205 r → r.field 1 1 ≤ 7 → r.field 2 2 = 0 → (r.field 0 1 = 0 ∨ s.imageRight tenant (r.field 0 1) = true) →
      ∃ t, exec (.tenShed f) s = .next t ∧ Answers s t f 0 0 []
        ∧ (∀ i ∈ s.ownOpen, i < 32768 → (s.seq i).entry.tenant = tenant → (r.field 0 1 = 0 ∨ (s.seq i).entry.imageTag = r.field 0 1) → r.field 1 1 ≤ (s.seq i).entry.cls →
            (s.seq i).entry.openTally < s.tally → s.isSapling i = false → (t.seq i).entry.state = 5)
        ∧ (r.field 4 4 ≠ 0 → (⟨tenant, r.field 0 1, r.field 1 1, s.tally + r.field 4 4 * 1000000⟩ : ShedHold) ∈ t.sheds))
    ∧ (Asked s f 0x0501 r → r.field 0 1 < 8 → r.field 1 1 < 16 → r.field 2 2 = 0 → r.field 24 2 ≤ r.field 26 2 → r.field 28 4 = 0 →
      ∃ t, exec (.polSetClass f) s = .next t ∧ Answers s t f 0 0 [] ∧ (∀ c, c ≠ r.field 0 1 → t.classRec c = s.classRec c)
        ∧ (let c := t.classRec (r.field 0 1)
           c.mayPreempt = bit (r.field 1 1) 0 ∧ c.suspendable = bit (r.field 1 1) 1 ∧ c.overcommitOk = bit (r.field 1 1) 2 ∧ c.deckKv = bit (r.field 1 1) 3
           ∧ c.ttft = r.field 4 4 ∧ c.itl = r.field 8 4 ∧ c.expect = r.field 12 4 ∧ c.pageWait = r.field 16 4 ∧ c.suspendLimit = r.field 20 4
           ∧ c.retryMin = r.field 24 2 ∧ c.retryMax = r.field 26 2)
        ∧ t = { s with funcs := t.funcs, classes := t.classes })
    ∧ (Asked s f 0x0502 r → r.field 0 1 < 8 → r.field 1 3 = 0 →
      ∃ t, exec (.polGetClass f) s = .next t ∧ Answers s t f 0 0 (classBytes (r.field 0 1) (s.classRec (r.field 0 1))) ∧ t = { s with funcs := t.funcs })
    ∧ (Asked s f 0x0503 r → r.field 1 1 < 4 → r.field 6 2 = 0 →
      ∃ t, exec (.polSetLanding f) s = .next t ∧ Answers s t f 0 0 [] ∧ t = { s with funcs := t.funcs, regs := t.regs }
        ∧ ∀ l : Fin 8, t.get sqCtrl_mapAhead l.val = r.field 0 1 ∧ t.on sqCtrl_allocEn l.val = bit (r.field 1 1) 0 ∧ t.on sqCtrl_deckKvEn l.val = bit (r.field 1 1) 1
            ∧ t.get sqFellCtrl_reuseGuard l.val = r.field 2 2 ∧ t.get sqFellCtrl_fellTimeout l.val = r.field 4 2)
    ∧ (Asked s f 0x0504 r → r.field 3 1 < 4 → r.field 4 4 = 0 →
      ∃ t, exec (.polSetGrove f) s = .next t ∧ Answers s t f 0 0 [] ∧ t = { s with funcs := t.funcs, regs := t.regs }
        ∧ ∀ g : GroveId, t.get gvCtrl_stealMin g.num = r.field 0 1 ∧ t.get gvCtrl_stealWait g.num = r.field 1 1 ∧ t.get gvCtrl_commitTimeout g.num = r.field 2 1
            ∧ t.on gvCtrl_attnStealEn g.num = bit (r.field 3 1) 0 ∧ t.on gvCtrl_taskStealEn g.num = bit (r.field 3 1) 1)
    ∧ (Asked s f 0x0601 r → r.field 0 1 = 0 → r.field 1 1 < 42 → r.field 2 1 ≠ 0 → r.field 3 1 = 0 → r.field 4 4 % 8 = 0 → r.field 4 4 < 0x100000 →
      r.field 10 1 = 0 → r.field 11 1 = 0 →
      ∃ t, exec (.telReadReg f) s = .next t ∧ t = { s with funcs := t.funcs }
        ∧ Answers s t f 0 0 ((s.readForester (0x40000000 + r.field 1 1 * 0x100000 + r.field 4 4) (8 * r.field 2 1)).getD []))
    ∧ (Asked s f 0x0602 r → ∃ t body, exec (.telGetHealth f) s = .next t ∧ Answers s t f 0 0 body ∧ body.length = 704
        ∧ body.take 1 = [BitVec.ofNat 8 s.service.code] ∧ t = { s with funcs := t.funcs })
    ∧ (Asked s f 0x0603 r → 48 ≤ r.field 0 1 → r.field 0 1 ≤ 57 → r.field 1 3 = 0 →
      ∃ t body, exec (.telReadViolLog f) s = .next t ∧ Answers s t f 0 0 body ∧ body.length = 2056 ∧ t = { s with funcs := t.funcs }
        ∧ ∀ v, tblGet s.violLog (r.field 0 1 - 48) [] = [v] → tblGet s.violCount (r.field 0 1 - 48) 0 = 1 → body.take 40 = bytesLE 4 0 ++ bytesLE 4 1 ++ violationBytes v)
    ∧ (Asked s f 0x0604 r → r.field 22 2 = 0 → r.field 32 4 ≤ 64 * 2 ^ 20 → r.field 36 4 = 0 → (s.func f).busMaster = true → (s.func f).d3hot = false →
      (s.ops.filter (fun o => o.2.state = 0)).length < 64 →
      ∃ t bs, exec (.telCopyJournal f) s = .next t ∧ Answers s t f 0 0 (bytesLE 4 s.nextOp) ∧ t.out = s.out ++ [.host f.val bs]
        ∧ bs.length ≤ r.field 32 4 ∧ bs.length % 32 = 0 ∧ (t.func f).transfer = (s.func f).transfer ++ [s.nextOp]
        ∧ ∃ o, tblFind t.ops s.nextOp = some o ∧ o.state = 0 ∧ 32 * o.result = bs.length)
    ∧ ((∀ l, l < 8 → s.segmentYoung l = false) → exec .journalLowClear s = .next { s with journalLow := false })

open Sys2Proof Sys2Proof.Machine in
/-- R205, R240, R272, R274, R347, R351, R384, R459: what the image and variant commands do and answer once their checks hold; a load that fails a check
ends its operation with that check's status and loads nothing. -/
def Obligations.ImageAndVariantCommands : Prop :=
  ∀ (s : State) (f : Fin 256) (r : Request), let tag := r.field 0 1
    (∀ base, Asked s f 0x0301 r → r.field 8 1 < 3 → r.field 9 7 = 0 → s.freeHbm (r.field 0 8) [] = some base →
      ∃ t x, exec (.imgStageOpen f) s = .next t ∧ Answers s t f 0 0 (bytesLE 4 s.nextStaging ++ bytesLE 4 x.key.toNat ++ bytesLE 8 base)
        ∧ tblFind t.stagings s.nextStaging = some x ∧ x.length = r.field 0 8 ∧ x.source = r.field 8 1 ∧ x.base = base ∧ x.tenant = s.actsFor r
        ∧ (r.field 8 1 = 0 → x.key = 0) ∧ t.hbm = s.hbm)
    ∧ (∀ (host : HostData) x, Asked s f 0x0302 r → tblFind s.stagings (r.field 0 4) = some x → x.source = 0 → r.field 4 4 = 0 →
      r.field 8 8 + r.field 24 4 ≤ x.length → r.field 24 4 ≤ 64 * 2 ^ 20 → r.field 28 4 = 0 → s.hbm.wf = true →
      (host.ok = true → (s.func f).busMaster = true → (s.func f).d3hot = false →
        ∃ t, exec (.imgStageWrite f host) s = .next t ∧ Answers s t f 0 0 [] ∧ t.hbmRead (x.base + r.field 8 8) (r.field 24 4) = padTo (r.field 24 4) host.bytes
          ∧ (∀ a, a < x.base + r.field 8 8 ∨ x.base + r.field 8 8 + r.field 24 4 ≤ a → t.hbm.read a = s.hbm.read a)
          ∧ t = { s with funcs := t.funcs, hbm := t.hbm, stagings := t.stagings })
      ∧ (host.ok = false → ∃ t, exec (.imgStageWrite f host) s = .next t ∧ Answers s t f 0x0108 0 [] ∧ t = { s with funcs := t.funcs }))
    ∧ (∀ (img : ImageFile) op u x, Asked s f 0x0303 r → tblFind s.stagings (r.field 0 4) = some x → r.field 5 1 < 2 → r.field 6 2 = 0 → s.startOp r = some (op, u) →
      ((img.rsaOk = false ∨ img.slhOk = false) → ∃ t o, exec (.imgLoad f img) s = .next t ∧ Answers s t f 0 0 (bytesLE 4 op ++ bytesLE 4 0)
          ∧ tblFind t.ops op = some o ∧ o.state = 2 ∧ o.status = 0x0200 ∧ t.images = s.images ∧ t.hbm = s.hbm ∧ t.decks = s.decks)
      ∧ (∀ place tag dis v, place = (if r.field 4 1 = 0xFF then none else some (r.field 4 1)) →
          u.loadImage img ⟨none, place, r.field 0 4, false, s.hbmRead x.base x.length⟩ = .loaded tag dis v →
          ∃ t o y, exec (.imgLoad f img) s = .next t ∧ Answers s t f 0 0 (bytesLE 4 op ++ bytesLE 1 tag ++ bytesLE 3 0)
            ∧ tblFind t.ops op = some o ∧ o.state = 1 ∧ o.result = dis ∧ t.image tag = some y ∧ y.file = img ∧ y.state = 1 ∧ y.cleared = false))
    ∧ (∀ tag' : Fin 256, ∀ x, s.image tag'.val = some x → x.cleared = false → x.state ≠ 3 → x.uncleared = [] →
      ∃ t y, exec (.imageCleared tag') s = .next t ∧ t.image tag'.val = some y ∧ y.cleared = true ∧ y.state = 2 ∧ y.file = x.file)
    ∧ (∀ x, Asked s f 0x0304 r → s.image tag = some x → r.field 1 1 < 2 → r.field 2 2 = 0 →
      (s.usersOf tag = [] → ∃ t, exec (.imgUnload f) s = .next t ∧ Answers s t f 0 0 [] ∧ t.image tag = none ∧ tblFind t.goldens tag = none)
      ∧ (s.usersOf tag ≠ [] → r.field 1 1 = 0 → ∃ t, exec (.imgUnload f) s = .next t ∧ Answers s t f 0x0106 0 [] ∧ t = { s with funcs := t.funcs }))
    ∧ (∀ x, Asked s f 0x0305 r → s.image tag = some x → r.field 1 3 = 0 → s.imageRight (s.actsFor r) tag = true → s.service ≠ .off → s.service ≠ .stump →
      ∃ t body, exec (.imgGet f) s = .next t ∧ Answers s t f 0 0 body ∧ body.take 4 = bytesLE 1 x.code ++ bytesLE 1 x.placement ++ bytesLE 2 x.plan
        ∧ body.length = 64 ∧ t = { s with funcs := t.funcs })
    ∧ (∀ x y, Asked s f 0x0306 r → s.image tag = some x → r.field 1 1 < 2 → r.field 2 2 = 0 → r.field 20 4 = 0 →
      tblFind s.stagings (r.field 4 4) = some y → (r.field 1 1 = 0 ∨ y.source = 2) →
      ∃ t, exec (.imgSetGolden f) s = .next t ∧ Answers s t f 0 0 [] ∧ t = { s with funcs := t.funcs, goldens := t.goldens }
        ∧ tblFind t.goldens tag = some { source := r.field 1 1, staging := r.field 4 4, addr := r.field 8 8, key := BitVec.ofNat 32 (r.field 16 4) })
    ∧ (∀ tiers x y, Asked s f 0x0307 r → s.image tag = some x → r.field 1 1 = 0 → r.field 2 2 ≠ 0 → r.field 8 4 = 0 →
      tblFind s.stagings (r.field 4 4) = some y → y.tenant = s.actsFor r → s.imageRight (s.actsFor r) tag = true →
      (∀ z, s.variant tag (r.field 2 2) = some z → z.tenant = s.actsFor r ∧ z.hot = false ∧ z.loading = false) →
      ∃ t z, exec (.varStage f tiers) s = .next t ∧ Answers s t f 0 0 [] ∧ t.variant tag (r.field 2 2) = some z ∧ z.staged = tiers ∧ z.tenant = s.actsFor r
        ∧ z.hot = false ∧ t = { s with funcs := t.funcs, images := t.images })
    ∧ (∀ z, Asked s f 0x0308 r → s.variant tag (r.field 2 2) = some z → r.field 1 1 = 0 → z.tenant = s.actsFor r → s.imageRight (s.actsFor r) tag = true →
      z.loading = false →
      (s.variantUsed tag (r.field 2 2) = false → ∃ t, exec (.varEvict f) s = .next t ∧ Answers s t f 0 0 []
        ∧ t.variant tag (r.field 2 2) = some { z with hot := false, marked := false, pool := [] } ∧ t = { s with funcs := t.funcs, images := t.images })
      ∧ (s.variantUsed tag (r.field 2 2) = true → ∃ t, exec (.varEvict f) s = .next t ∧ Answers s t f 0x0106 0 [] ∧ t = { s with funcs := t.funcs }))

namespace Sys2Proof.Machine

/-- A request names an open or closed sequence of its tenant that is no mirror and no sapling (check 9 of R345). -/
def NamesSequence (s : State) (r : Request) (i : Nat) : Prop :=
  s.ofHandle (r.field 0 4) = some i ∧ (s.seq i).entry.partner = false ∧ s.isSapling i = false
  ∧ (s.tenantOf r.fn = some (s.seq i).entry.tenant ∨ s.allTenants r.fn = true)

end Sys2Proof.Machine

open Sys2Proof Sys2Proof.Machine in
/-- R252 to R256, R303, R307, R309, R353, R354: what the sequence commands do and answer once their checks hold. -/
def Obligations.SequenceCommands : Prop :=
  ∀ (s : State) (f : Fin 256) (r : Request),
    (Asked s f 0x0401 r → let q := openOf (s.actsFor r) r.field 0
      s.openBad q [r.zero 47 1, r.zero 52 12] = none →
      (∀ reason retry, s.decide_ q = .refuse reason retry → ∃ t, exec (.seqOpen f) s = .next t ∧ Answers s t f 0x0301 reason (bytesLE 4 retry)
        ∧ t.get sqAdmitCount_refuses (portLanding f.val) = (s.get sqAdmitCount_refuses (portLanding f.val) + 1) % 2 ^ 16
        ∧ t = { s with funcs := t.funcs, regs := t.regs })
      ∧ (∀ reason retry, s.decide_ q = .defer reason retry → ∃ t, exec (.seqOpen f) s = .next t ∧ Answers s t f 0x0300 reason (bytesLE 4 retry)
        ∧ t = { s with funcs := t.funcs, regs := t.regs })
      ∧ (∀ victims i v, s.decide_ q = .grant victims [i] v → q.spec = 0 → i ∉ victims → s.paired = false →
        ∃ t body, exec (.seqOpen f) s = .next t ∧ Answers s t f 0 0 body ∧ body.take 4 = bytesLE 4 (t.handle i)
          ∧ (let e := (t.seq i).entry
             e.state = 1 ∧ e.imageTag = q.tag ∧ e.tenant = q.tenant ∧ e.cls = q.cls ∧ e.promptLen = q.promptLen ∧ e.maxLen = q.maxLen
             ∧ e.gen = (s.seq i).entry.gen + 1 ∧ e.step = 0 ∧ e.length = 0 ∧ e.filled = 0 ∧ e.openTally = s.tally
             ∧ e.tokensLeft = (if q.tokensLeft = 0 then q.maxLen - q.promptLen else q.tokensLeft))
          ∧ (t.seq i).fromHost = true ∧ (t.seq i).landing = portLanding f.val))
    ∧ (∀ i, Asked s f 0x0402 r → NamesSequence s r i →
      ((s.seq i).entry.state ≠ 0 → ∃ t, exec (.seqFell f) s = .next t ∧ Answers s t f 0 0 [] ∧ (t.seq i).entry.state = 5)
      ∧ ((s.seq i).entry.state = 0 → ∃ t, exec (.seqFell f) s = .next t ∧ Answers s t f 0 0 [] ∧ t = { s with funcs := t.funcs }))
    ∧ (∀ i, Asked s f 0x0403 r → NamesSequence s r i → (s.seq i).entry.specMode = 0 → ((s.seq i).entry.state = 2 ∨ (s.seq i).entry.state = 3) →
      ((s.seq i).inFlight = none → ∃ t, exec (.seqSuspend f) s = .next t ∧ Answers s t f 0 0 [] ∧ (t.seq i).entry.state = 4 ∧ (t.seq i).cause = some .host)
      ∧ ((s.seq i).inFlight ≠ none → ∃ t, exec (.seqSuspend f) s = .next t ∧ (t.func f).awaits = some i ∧ (t.func f).ready = none
          ∧ (t.seq i).asked = some .host ∧ (t.seq i).entry = (s.seq i).entry ∧ t = { s with funcs := t.funcs, seqs := t.seqs }))
    ∧ (∀ i, Asked s f 0x0404 r → NamesSequence s r i → (s.seq i).entry.state = 4 → (s.seq i).cause = some .host →
      ∃ t, exec (.seqResume f) s = .next t ∧ Answers s t f 0 0 [] ∧ (t.seq i).rejoin = true ∧ (t.seq i).entry = (s.seq i).entry
        ∧ t = { s with funcs := t.funcs, seqs := t.seqs })
    ∧ (∀ i, Asked s f 0x0405 r → NamesSequence s r i →
      ((s.seq i).entry.state = 3 → (s.seq i).inFlight = none → ∃ t, exec (.seqClose f) s = .next t ∧ Answers s t f 0 0 [] ∧ (t.seq i).entry.state = 0)
      ∧ ((s.seq i).entry.state = 3 → (s.seq i).inFlight ≠ none → ∃ t, exec (.seqClose f) s = .next t ∧ Answers s t f 0 0 [] ∧ (t.seq i).closing = some 0
          ∧ t = { s with funcs := t.funcs, seqs := t.seqs })
      ∧ ((s.seq i).entry.state ≠ 3 → ∃ t, exec (.seqClose f) s = .next t ∧ Answers s t f 0x0103 (s.seq i).entry.state [] ∧ t = { s with funcs := t.funcs }))
    ∧ (∀ i, Asked s f 0x0406 r → NamesSequence s r i →
      ∃ t, exec (.seqGet f) s = .next t ∧ Answers s t f 0 0 (entryBytes (s.seq i).entry i) ∧ t = { s with funcs := t.funcs })
    ∧ (Asked s f 0x0406 r → s.ofHandle (r.field 0 4) = none →
      ∃ t, exec (.seqGet f) s = .next t ∧ Answers s t f 0x0105 0 [] ∧ t.on sqEvent_staleHandle (seqLanding (r.field 0 4 % 32768)) = true
        ∧ t = { s with funcs := t.funcs, regs := t.regs })
    ∧ (Asked s f 0x0407 r → r.field 0 4 < 32768 →
      let all := s.openSeqs.filter (fun i => decide (r.field 0 4 ≤ i) && (s.seq i).entry.tenant == s.actsFor r)
      ∃ t, exec (.seqList f) s = .next t ∧ t = { s with funcs := t.funcs }
        ∧ Answers s t f 0 0 (bytesLE 4 (min 1016 all.length) ++ bytesLE 4 ((all.drop 1016).headD 0xFFFFFFFF) ++ (all.take 1016).flatMap (fun i => bytesLE 4 (s.handle i))))

open Sys2Proof Sys2Proof.Machine in
/-- R224, R358 to R361, R411, R422, R431, R441 to R447, R453, R456, R461, R474: what the power, thermal, firmware, attestation and test commands do and
answer once their checks hold. -/
def Obligations.PowerFirmwareTestCommands : Prop :=
  ∀ (s : State) (f : Fin 256) (r : Request),
    (Asked s f 0x0801 r → ∃ t body, exec (.pwrGet f) s = .next t ∧ Answers s t f 0 0 body ∧ body.length = 48 ∧ t = { s with funcs := t.funcs })
    ∧ (Asked s f 0x0802 r → 8000 ≤ r.field 0 2 → r.field 0 2 ≤ s.get pwModuleLimit_configuredMax 0 → r.field 2 2 = 0 →
      (s.tokensNeeded ≤ r.field 0 2 → ∃ t, exec (.pwrSetLimit f) s = .next t ∧ Answers s t f 0 0 [] ∧ t.get pwModuleLimit_set 0 = r.field 0 2
        ∧ t.get pwModuleLimit_inForce 0 = min (r.field 0 2) (20000 - 1625 * (16 - s.get pwConverters_working 0)) ∧ t = { s with funcs := t.funcs, regs := t.regs })
      ∧ (r.field 0 2 < s.tokensNeeded → ∃ t, exec (.pwrSetLimit f) s = .next t ∧ Answers s t f 0x010A (min 65535 (s.tokensNeeded / 16)) []
        ∧ t = { s with funcs := t.funcs }))
    ∧ (Asked s f 0x0803 r → ∃ t body, exec (.thmRead f) s = .next t ∧ Answers s t f 0 0 body ∧ body.length = 1564 ∧ t = { s with funcs := t.funcs }
        ∧ ∀ k, k < 390 → (body.drop (4 + 4 * k)).take 4 = bytesLE 2 k ++ bytesLE 2 (((s.sensor k).map (unsigned 16)).getD 0x8000))
    ∧ (Asked s f 0x0804 r → r.field 0 1 < 42 → r.field 2 2 = 0 → (∀ p ∈ s.images, p.2.held = false) → (s.ops.filter (fun o => o.2.state = 0)).length < 64 →
      let n := r.field 0 1
      (r.field 1 1 = 0 → s.get pwStandStatus_standPower n ≠ 0 →
        ∃ u v : State, (u.power n).service = true ∧ v = (u.openBreaker n 4).setPower n { (u.openBreaker n 4).power n with op := s.nextOp }
          ∧ exec (.pwrStandService f) s = .next ((if v.leaving n then v else v.endService n 0).answer f 0 0 (bytesLE 4 s.nextOp)))
      ∧ (r.field 1 1 = 1 → s.get pwStandStatus_standPower n = 0 → (s.power n).returning = false →
        ∃ t, exec (.pwrStandService f) s = .next t ∧ Answers s t f 0 0 (bytesLE 4 s.nextOp) ∧ (t.power n).returning = true ∧ (t.power n).op = s.nextOp
          ∧ (s.on pwStandStatus_breakerOpen n = false → s.on thStandStatus_heatOff n = false → n ∈ t.wakeWant)))
    ∧ (∀ host : HostRecord, Asked s f 0x0901 r → r.field 0 1 < 4 → r.field 1 3 = 0 → r.field 12 4 ≤ 64 * 2 ^ 20 → r.field 16 4 = 0 → s.swap = none →
      host.ok = true → (s.func f).busMaster = true → (s.func f).d3hot = false →
      (host.rec_.fault (r.field 0 1) = none → s.rollback (r.field 0 1) ≤ host.rec_.version → host.rec_.version < 2 ^ 32 →
        ∃ t, exec (.fwStage f host) s = .next t ∧ Answers s t f 0 0 (bytesLE 4 host.rec_.version ++ bytesLE 4 0) ∧ tblFind t.staged (r.field 0 1) = some host.rec_
          ∧ t = { s with funcs := t.funcs, staged := t.staged, regs := t.regs })
      ∧ (∀ d, host.rec_.fault (r.field 0 1) = some d → ∃ t, exec (.fwStage f host) s = .next t ∧ Answers s t f 0x0500 d [] ∧ t.staged = s.staged)
      ∧ (host.rec_.fault (r.field 0 1) = none → host.rec_.version < s.rollback (r.field 0 1) →
        ∃ t, exec (.fwStage f host) s = .next t ∧ Answers s t f 0x0501 0 [] ∧ t = { s with funcs := t.funcs }))
    ∧ (Asked s f 0x0902 r → r.field 0 1 < 16 → r.field 1 3 = 0 →
      (∀ records, s.swap = none → s.unstaged (kindsOf (r.field 0 1)) = none →
        records = (kindsOf (r.field 0 1)).filterMap (fun k => (tblFind s.staged k).map (fun x => (k, x))) → s.swapFits records = true →
        (s.ops.filter (fun o => o.2.state = 0)).length < 64 →
        ∃ t, exec (.fwSwap f) s = .next t ∧ Answers s t f 0 0 (bytesLE 4 s.nextOp) ∧ t.swap = some { op := s.nextOp, records := records, stage := 0 }
          ∧ s.foresterB = t.foresterB)
      ∧ (∀ w, s.swap = some w → ∃ t, exec (.fwSwap f) s = .next t ∧ Answers s t f 0x0106 (w.op % 65536) [] ∧ t = { s with funcs := t.funcs }))
    ∧ (Asked s f 0x0903 r → ∃ t body, exec (.fwGetVersions f) s = .next t ∧ Answers s t f 0 0 body ∧ body.length = 32 ∧ t = { s with funcs := t.funcs })
    ∧ ((s.func f).busMaster = true → (s.func f).d3hot = false →
      (∀ bs, Asked s f 0x0904 r → r.field 40 4 ≤ 64 * 2 ^ 20 → r.field 44 4 = 0 →
        bs = s.report (r.body.take 32) ++ identityBlock 5 (digestOf (s.report (r.body.take 32))) → bs.length ≤ r.field 40 4 →
        ∃ t, exec (.attGetReport f true) s = .next t ∧ Answers s t f 0 0 (bytesLE 4 bs.length) ∧ t.out = s.out ++ [.host r.fn.val bs]
          ∧ t = { s with funcs := t.funcs, out := t.out })
      ∧ (∀ bs, Asked s f 0x0905 r → r.field 8 4 ≤ 64 * 2 ^ 20 → r.field 12 4 = 0 →
        bs = Config.rsaIdentity ++ Config.slhIdentity ++ Config.rsaCertificate ++ Config.slhCertificate → bs.length ≤ r.field 8 4 →
        ∃ t, exec (.attGetIdentity f true) s = .next t ∧ Answers s t f 0 0 (bytesLE 4 bs.length) ∧ t.out = s.out ++ [.host r.fn.val bs]))
    ∧ (s.service = .test →
      (Asked s f 0x0A01 r → r.field 0 1 < 42 → r.field 1 1 < 8 → r.field 2 1 < 4 → r.field 3 1 < 4 → r.field 4 4 < 2 ^ 28 →
        ∃ t, exec (.tstLinkInject f) s = .next t ∧ Answers s t f 0 0 []
          ∧ t.reg ⟨.skFaultInj, (standPort (r.field 0 1) (r.field 1 1)).num, 0, 0⟩ = BitVec.ofNat 128 r.injection
          ∧ t = { s with funcs := t.funcs, regs := t.regs, ports := t.ports })
      ∧ (Asked s f 0x0A02 r → r.field 0 1 < 2 → r.field 1 1 = 0 → r.field 2 1 < 4 → r.field 3 1 < 4 → r.field 4 4 < 2 ^ 28 →
        ∃ t, exec (.tstTwinInject f) s = .next t ∧ Answers s t f 0 0 [] ∧ t.reg ⟨.twFaultInj, twinLanding (r.field 0 1), 0, 0⟩ = BitVec.ofNat 128 r.injection
          ∧ t = { s with funcs := t.funcs, regs := t.regs, twin := t.twin })
      ∧ (Asked s f 0x0A03 r → ∃ t, exec (.tstInjectClear f) s = .next t ∧ Answers s t f 0 0 [] ∧ (∀ p : PortId, t.get skFaultInj_mode p.num = 0)
          ∧ t = { s with funcs := t.funcs, regs := t.regs })
      ∧ (Asked s f 0x0A04 r → r.field 0 1 < 42 → r.field 1 1 < 8 → r.field 2 2 < 1024 →
        ∃ u : State, u = s.forceSpare (standPort (r.field 0 1) (r.field 1 1)) (r.field 2 2 / 512) (r.field 2 2 % 512)
          ∧ exec (.tstSpareForce f) s = .next (u.answer f 0 0 []))
      ∧ (∀ found, Asked s f 0x0A05 r → r.field 0 1 < 42 → r.field 1 1 < 16 → r.field 2 2 < 2048 → r.field 4 1 < 17 → r.field 5 3 = 0 →
        ∀ t0 : TileId, t0 = ⟨Fin.ofNat 42 (r.field 0 1), Fin.ofNat 16 (r.field 1 1), Fin.ofNat 2048 (r.field 2 2)⟩ →
        ((s.tile t0).cruise ≠ none → ∃ t, exec (.tstCruise f found) s = .next t ∧ Answers s t f 0x0106 0 [] ∧ t.on tlUpkeepEvent_cruiseBusy t0.groveId.num = true
            ∧ t = { s with funcs := t.funcs, regs := t.regs })
        ∧ (∀ k, (s.tile t0).cruise = none → s.logicalOf t0 (r.field 4 1) = some k → found = [] → ∃ t body, exec (.tstCruise f found) s = .next t ∧ Answers s t f 0 0 body
            ∧ body = bytesLE 8 (t.reg ⟨.tlCruiseResult, t0.num, 0, 0⟩).toNat ∧ (t.tile t0).cruise = none ∧ t.get tlCruiseResult_phys t0.num = r.field 4 1
            ∧ t.on tlUpkeepEvent_cruiseDone t0.groveId.num = true)))

namespace Sys2Proof.Machine

/-! ## The twin (R388 to R407, R474) -/

end Sys2Proof.Machine

open Sys2Proof Sys2Proof.Machine in
/-- R357, R390 to R393, R399, R403, R472, R474: pairing by command and pair control, the heartbeat with its offset, the loss of a port or of the partner,
the reunion, the commands that end or show a pair, and an injection that meets a heartbeat (in the model's form, log 122). -/
def Obligations.TwinPairing : Prop :=
  (∀ (s : State) (f : Fin 256) (r : Request), Asked s f 0x0701 r → r.field 8 1 < 4 → r.field 9 1 < 2 → r.field 10 2 = 0 → (s.pairState = 0 ∨ s.pairState = 3) →
    (s.ops.filter (fun o => o.2.state = 0)).length < 64 →
    ∃ u : State, exec (.twinPair f) s = .next (u.follow.answer f 0 0 (bytesLE 4 s.nextOp)) ∧ u.pairState = 1 ∧ u.get twPartnerId_serial 0 = r.field 0 8
      ∧ u.twin.op = s.nextOp ∧ u.twin.inStep = decide (r.field 9 1 = 1) ∧ u.twin.wasSole = decide (s.pairState = 3))
  ∧ (∀ s : State, s.pairState = 1 → ∃ u : State, exec .twinPairTimeout s = .next u.follow ∧ u.pairState = (if s.twin.wasSole then 3 else 0) ∧ u.twin.op = 0)
  ∧ (∀ (s : State) (m : PairControl), s.pairState = 1 → m.serial.toNat = s.get twPartnerId_serial 0 → s.twin.inStep = false →
    ∃ u : State, exec (.pairControl m) s = .next (u.pairDone false) ∧ u.twin.partner = some m
      ∧ u.on twPairStatus_leader 0 = decide (Config.serial.toNat < m.serial.toNat) ∧ u = { s with twin := u.twin, regs := u.regs })
  ∧ (∀ s : State, ∃ u : State, s.pairDone false = u.resync.follow ∧ u.pairState = 2 ∧ u.twin.op = 0 ∧ u.seqs = s.seqs)
  ∧ (∀ s : State, 2 ≤ s.pairState → s.service ≠ .test → ∃ t, exec .heartbeatSend s = .next t ∧ t = { s with out := t.out }
      ∧ t.out.length = s.out.length + s.twinUp.length ∧ ∀ p ∈ s.twinUp, ∃ bs, Out.twin p 9 0 0 bs ∈ t.out ∧ bs.take 8 = bytesLE 8 s.tally)
  ∧ (∀ (s : State) (port : Fin 2) (hb : Heartbeat), s.on twPortStatus_linkUp (twinLanding port.val) = true → s.pairState = 2 → hb.state ≠ 8 → s.twin.peerTest = false → s.service ≠ .test → tblFind s.twin.injects port.val = none →
    ∃ t, exec (.heartbeatArrive port hb) s = .next t ∧ t.on twPortStatus_heartbeatOk (twinLanding port.val) = true
      ∧ t.twin.lastBeat = some (hb.send.toNat, hb.receipt.toNat) ∧ (hb.echoSend ≠ 0 → t.get twOffset_offset 0 = unsigned 64 (beatOffset hb))
      ∧ t = { s with twin := t.twin, regs := t.regs })
  ∧ (∀ (s : State) (port : Fin 2) (hb : Heartbeat), s.on twPortStatus_linkUp (twinLanding port.val) = true → s.pairState = 3 → hb.state ≠ 8 → s.twin.peerTest = false → s.service ≠ .test → tblFind s.twin.injects port.val = none →
    ∃ u : State, exec (.heartbeatArrive port hb) s = .next (u.reunite (hb.pair = 3)) ∧ u.on twEvent_reunionSeen (twinLanding port.val) = true ∧ u.seqs = s.seqs)
  ∧ (∀ (s : State) (port : Fin 2), (s.pairState = 2 ∨ s.pairState = 4) → s.on twPortStatus_heartbeatOk (twinLanding port.val) = true →
    s.on twPortStatus_heartbeatOk (twinLanding (1 - port.val)) = true →
    ∃ t, exec (.hbPortLost port) s = .next t ∧ t.on twPortStatus_heartbeatOk (twinLanding port.val) = false ∧ t.on twEvent_hbPortLost (twinLanding port.val) = true
      ∧ t.pairState = s.pairState ∧ RegsOnly s t)
  ∧ (∀ s : State, (s.pairState = 2 ∨ s.pairState = 4) → exec .partnerLost s = .next s.losePartner)
  ∧ (∀ s : State, s.twin.op = 0 → s.partnerEntries = [] → ∃ t, exec .partnerLost { s with regs := (s.put twPairStatus_state 0 2).regs } = .next t
      ∧ t.pairState = 3 ∧ t.on twEvent_partnerLost 1 = true ∧ t.on twPortStatus_heartbeatOk 1 = false ∧ t.on twPortStatus_heartbeatOk 5 = false)
  ∧ (∀ (s : State) (f : Fin 256) (r : Request), Asked s f 0x0702 r → r.field 0 1 < 2 → r.field 1 3 = 0 → s.partnerEntries = [] → (s.pairState ≠ 4 ∨ r.field 0 1 = 1) →
    ∃ u : State, exec (.twinUnpair f) s = .next (u.follow.answer f 0 0 []) ∧ u.pairState = 0 ∧ u.twin.partner = none ∧ u.get twPartnerId_serial 0 = 0)
  ∧ (∀ (s : State) (f : Fin 256) (r : Request), Asked s f 0x0703 r → ∃ t body, exec (.twinGet f) s = .next t ∧ Answers s t f 0 0 body
      ∧ body.take 2 = [BitVec.ofNat 8 s.pairState, BitVec.ofNat 8 ((s.twinUp.map (fun p => 2 ^ p)).sum)] ∧ body.length = 32 ∧ t = { s with funcs := t.funcs })
  ∧ ∀ (s : State) (port : Fin 2), let l := twinLanding port.val
    (s.on twPortStatus_linkUp l = true → ∃ t, exec (.twinPortDown port) s = .next t ∧ t.on twPortStatus_linkUp l = false ∧ t.on twPortStatus_heartbeatOk l = false
      ∧ t.on twEvent_linkDown l = true ∧ RegsOnly s t)
    ∧ (s.service ≠ .off → s.pairState ≠ 1 → ∃ t, exec (.twinPortTrained port) s = .next t ∧ t.on twPortStatus_linkUp l = true ∧ t.on twPortStatus_fecLocked l = true ∧ RegsOnly s t)
    ∧ (∀ v : BitVec 32, s.service = .test → ∃ t, exec (.twFaultInjWrite port v) s = .next t ∧ (t.reg ⟨.twFaultInj, l, 0, 0⟩).toNat = v.toNat
      ∧ tblFind t.twin.injects port.val = none ∧ t = { s with regs := t.regs, twin := t.twin })
    ∧ (∀ hb : Heartbeat, s.service = .test → s.on twPortStatus_linkUp l = true → 2 ≤ s.pairState → 0 < s.get twFaultInj_mode l → s.on twFaultInj_byRate l = false →
      tblFind s.twin.injects port.val = none → 0 < s.get twFaultInj_value l →
      (s.get twFaultInj_dir l = 1 → ∃ t, exec (.heartbeatArrive port hb) s = .next t ∧ t.on twEvent_injectActive l = true ∧ t.on twEvent_crcError l = true
        ∧ t.on twPortStatus_retryActive l = true ∧ t.twin.lastBeat = s.twin.lastBeat ∧ t = { s with regs := t.regs, twin := t.twin })
      ∧ (s.get twFaultInj_dir l = 0 → ∃ t, exec .heartbeatSend s = .next t ∧ t.on twEvent_injectActive l = true ∧ t.out.length = s.out.length + s.twinUp.length))

open Sys2Proof Sys2Proof.Machine in
/-- R394, R395, R398, R400: the records of a mirrored sequence open, fill, advance and close the partner entry that their handle names; an acknowledgement
frees the commits that waited for it. -/
def Obligations.MirrorsFollowTheirOrigin : Prop :=
  (∀ (s : State) (m : MirrorOpen) (i : Nat) (rest : List Nat) (base : Nat), s.mirrors = true → (s.image m.tag).isSome = true → m.entry.partner = false → s.mirrorOf m.handle = none →
    s.openable 0 1 = i :: rest → s.unitsAt (unitsFor (s.layers m.tag) m.entry.maxLen) = some base → m.entry.specMode = 0 → m.entry.state ≠ 0 →
    ∃ t, exec (.mirrorOpen m) s = .next t ∧ (t.seq i).partnerHandle = m.handle ∧ (let e := (t.seq i).entry
        e.partner = true ∧ e.state = m.entry.state ∧ e.imageTag = m.tag ∧ e.tenant = m.entry.tenant ∧ e.promptLen = m.entry.promptLen
        ∧ e.gen = (s.seq i).entry.gen + 1 ∧ e.pageList = 4096 * base ∧ e.deckKv = false)
      ∧ (∀ j, j ≠ i → (t.seq j).entry.state = (s.seq j).entry.state))
  ∧ (∀ (s : State) (m : MirrorPrompt) (i : Nat), s.mirrorOf m.handle = some i →
    ∃ t, exec (.mirrorPrompt m) s = .next t ∧ (t.seq i).entry = (s.seq i).entry ∧ (∀ j, j ≠ i → t.seq j = s.seq j) ∧ t = { s with seqs := t.seqs }
      ∧ ∀ p v, m.tokens = [(p, v)] → tblFind (t.seq i).tokens p = some v)
  ∧ (∀ (s : State) (m : MirrorStep) (i : Nat), s.mirrorOf m.handle = some i → s.mirrors = true →
    ∃ t, exec (.mirrorStep m) s = .next t ∧ (let e := (t.seq i).entry
        e.step = m.entry.step ∧ e.length = m.entry.length ∧ e.lastToken = m.entry.lastToken ∧ e.partner = true ∧ e.gen = (s.seq i).entry.gen
        ∧ e.pageList = (s.seq i).entry.pageList) ∧ (∃ w, t.out = s.out ++ w ∧ Out.twin s.twinPort 10 m.handle m.step [] ∈ w))
  ∧ (∀ (s : State) (m : MirrorState) (i : Nat), s.mirrorOf m.handle = some i →
    (m.state ≠ 0 → ∃ t, exec (.mirrorState m) s = .next t ∧ (t.seq i).entry.state = m.state ∧ (t.seq i).cause = (if m.state = 4 then some .preempted else none))
    ∧ (m.state = 0 → exec (.mirrorState m) s = .next (s.closeEntry i)))
  ∧ (∀ (s : State) (m : MirrorGen) (i : Nat) (y : Variant), s.mirrorOf m.handle = some i → s.variant (s.seq i).entry.imageTag m.variant = some y →
    ∃ t, exec (.mirrorGen m) s = .next t ∧ t.variant (s.seq i).entry.imageTag m.variant = some { y with gen := m.gen.toNat, armed := none } ∧ t = { s with images := t.images })
  ∧ (∀ (s : State) (m : MirrorFell) (i : Nat), s.mirrorOf m.handle = some i → exec (.mirrorFell m) s = .next (s.setSeq i { s.seq i with fellSeen := true, endCode := m.reason }))
  ∧ ∀ (s : State) (handle : BitVec 32) (step i : Nat), s.ofHandle handle.toNat = some i → s.mirrors = true → let x := s.seq i
    x.mirrored = true → x.moving = false → (∃ p ∈ x.mirrorOut, p.1 ≤ step) →
    ∃ t, exec (.mirrorAck handle step) s = .next t ∧ (t.seq i).mirrorOut = x.mirrorOut.filter (fun p => decide (step < p.1)) ∧ (t.seq i).copying = false
      ∧ (t.seq i).entry = x.entry ∧ t = { s with seqs := t.seqs, regs := t.regs }

open Sys2Proof Sys2Proof.Machine in
/-- R241, R402, R404, R405: the twin barrier releases 5 µs after the leader holds both arrivals, and the follower converts the tally; one that fails ends
the command that needed it; a sequence handed over runs on here; a replacement sends every image, and its bytes land in the staging window. -/
def Obligations.TwinBarriersMovesAndCopies : Prop :=
  (∀ s : State, s.pairState ≠ 0 → s.pairState ≠ 3 → s.on twPairStatus_leader 0 = true →
    (s.twin.ownHere = true → s.twin.peerHere = false → s.twin.replacing = false →
      ∃ u : State, exec (.twinBarrierArrival true) s = .next (u.released (s.tally + 5000)) ∧ u.twin.peerHere = true
        ∧ ∀ p ∈ s.twinUp, Out.twin p 12 0 0 (bytesLE 8 (s.tally + 5000)) ∈ u.out)
    ∧ (s.twin.ownHere = false → s.twin.peerHere = false →
      ∃ t, exec (.twinBarrierArrival false) s = .next t ∧ t.twin.ownHere = true ∧ t.twin.arrivedAt = s.tally ∧ (∀ p ∈ s.twinUp, Out.twin p 11 0 0 [] ∈ t.out)
        ∧ t = { s with twin := t.twin, out := t.out }))
  ∧ (∀ (s : State) (v : BitVec 64), s.on twPairStatus_leader 0 = false → s.twin.ownHere = true →
    exec (.twinBarrierRelease v) s = .next (s.released ((v.toNat : Int) - signed 64 (s.get twOffset_offset 0)).toNat))
  ∧ (∀ (s : State) (t : Nat), s.lockstep = false → s.pairState = 2 → s.twin.replacing = false →
    ∃ u, s.released t = u ∧ u.twin.ownHere = false ∧ u.twin.peerHere = false ∧ u.twin.release = some t ∧ u = { s with twin := u.twin })
  ∧ (∀ s : State, s.twin.ownHere = true → ∃ u : State, (exec .twinBarrierFail s = .next u ∨ exec .twinBarrierFail s = .next u.follow)
      ∧ u.on twEvent_barrierFail 1 = true ∧ u.twin.op = 0 ∧ u.twin.ownHere = false
      ∧ u.pairState = (if s.pairState = 1 then (if s.twin.wasSole then 3 else 0) else if s.pairState = 4 then 3 else s.pairState))
  ∧ (∀ (s : State) (handle : BitVec 32) (i : Nat), s.paired = true → s.mirrorOf handle = some i → (s.seq i).entry.specMode = 0 →
    exec (.moveSequence handle) s = .next ((s.restoreEntry i false).pairEv twEvent_takeover))
  ∧ (∀ (s : State) (i : Nat), s.isSapling i = false → (s.seq i).fellSeen = false → (s.classRec (s.seq i).entry.cls).mayPreempt = false → (s.seq i).entry.specMode = 0 →
    let t := s.restoreEntry i false
    (t.seq i).entry = { (s.seq i).entry with partner := false } ∧ (t.seq i).dupNext = false ∧ i ∈ t.twin.restored)
  ∧ (∀ (s : State) (f : Fin 256) (r : Request), Asked s f 0x0704 r →
    ((s.pairState ≠ 2 ∨ s.twin.wasSole = false) → ∃ t, exec (.twinReplace f) s = .next t ∧ Answers s t f 0x0103 s.pairState [] ∧ t = { s with funcs := t.funcs })
    ∧ (s.pairState = 2 → s.twin.wasSole = true → (s.ops.filter (fun o => o.2.state = 0)).length < 64 → (∃ p ∈ s.images, s.partnerTag p.1 = none) →
      ∃ u : State, exec (.twinReplace f) s = .next (u.follow.answer f 0 0 (bytesLE 4 s.nextOp)) ∧ u.pairState = 4 ∧ u.twin.op = s.nextOp
        ∧ ∀ p ∈ s.images, s.partnerTag p.1 = none → Out.twin s.twinPort 13 (BitVec.ofNat 32 p.1) 0 p.2.source ∈ u.out))
  ∧ ∀ (s : State) (off : Nat) (bytes : List Byte), (s.pairState = 2 ∨ s.pairState = 4) → off + bytes.length ≤ 2 ^ 31 → s.twin.window.wf = true →
    ∃ t, exec (.bulkCopy off bytes false none) s = .next t ∧ t.twin.window.readN off bytes.length = bytes ∧ t.twin.replacing = true
      ∧ (∀ a, a < off ∨ off + bytes.length ≤ a → t.twin.window.read a = s.twin.window.read a) ∧ t = { s with twin := t.twin }

namespace Sys2Proof.Machine

/-! ## Register writes (R8, R9, R319, R324, R338, R451) -/

/-- R8, R9: firmware writes one register of the Forester space whole. RW fields take the written bits, W1C bits that are written as 1 clear, RO fields
stay; an event bit that hardware sets in the same window ends set and its count advances by 1; no other register changes but those counts. A write
where no register stands does nothing; an address of no window ends in the fault noRegister (the model's choice, log 8). -/
def RegisterWrites : Prop :=
  (∀ (s : State) (w : RegWrite) (a : BitVec 32) (win : RegWindow) (p : RegPlace) (r : Reg) (i : Nat),
    w.target = .forester a → w.by_ ≠ .host → s.service ≠ .off → windowOf a.toNat = some win → win.place = some p →
    p.block.touched p.off w.nbytes = [(r, i)] → p.off = r.offset + i * r.step → 8 * w.nbytes = r.width →
    (∀ f ∈ r.rows, f.acc ≠ .wo ∧ f.acc ≠ .rol) → r ∉ [Reg.skFaultInj, .twFaultInj, .gvDispatchData, .gvShadow] →
    let k := s.regKey p r i
    ∃ t, exec (.registerWrite w) s = .next t ∧ RegsOnly s t
      ∧ (∀ j : RegKey, j ≠ k → some j.reg ≠ r.counts → t.reg j = s.reg j)
      ∧ ∀ f ∈ r.rows, bits (t.reg k).toNat f.lo f.len = (match f.acc with
          | .rw => bits w.data.toNat f.lo f.len
          | .w1c => if bit w.hwSets.toNat f.lo = true then 1 else if bit w.data.toNat f.lo = true then 0 else bits (s.reg k).toNat f.lo f.len
          | _ => bits (s.reg k).toNat f.lo f.len))
  ∧ (∀ (s : State) (w : RegWrite) (a : BitVec 32) (win : RegWindow) (p : RegPlace) (r c : Reg),
    w.target = .forester a → w.by_ ≠ .host → s.service ≠ .off → windowOf a.toNat = some win → win.place = some p →
    p.block.touched p.off w.nbytes = [(r, 0)] → r.counts = some c →
    ∃ t, exec (.registerWrite w) s = .next t ∧ ∀ f ∈ r.rows, f.acc = .w1c → bit w.hwSets.toNat f.lo = true →
      t.get ⟨c, 8 * f.lo, 8⟩ p.unit = (s.get ⟨c, 8 * f.lo, 8⟩ p.unit + 1) % 256 ∧ t.on ⟨r, f.lo, 1⟩ p.unit = true)
  ∧ (∀ (s : State) (w : RegWrite) (a : BitVec 32), w.target = .forester a → w.by_ ≠ .host → s.service ≠ .off →
    (windowOf a.toNat = none → exec (.registerWrite w) s = .fault (.noRegister a.toNat))
    ∧ ∀ win, windowOf a.toNat = some win → (win.place = none ∨ ∃ p, win.place = some p ∧ p.block.touched p.off w.nbytes = []) →
      exec (.registerWrite w) s = .next s)

/-- R8, R319, R324, R325, R338, R339, R451: a host reaches the Command register and BAR0 alone; an access of BAR0 registers that is not 4 or 8 bytes,
aligned, is a violation of kind 7; a write that would change an RO/L field leaves it and is a violation of kind 8, but stump code writes it in the
other bank before the lock. -/
def RightsOfRegisterWrites : Prop :=
  (∀ (s : State) (w : RegWrite) (a : BitVec 32), w.target = .forester a → w.by_ = .host → exec (.registerWrite w) s = .next s)
  ∧ (∀ (s : State) (w : RegWrite) (f : Fin 256), w.target = .pciCommand f → w.by_ = .host → (s.func f).exists_ = true → s.service ≠ .off →
    (s.func f).msixPending = [] →
    ∃ t, exec (.registerWrite w) s = .next t ∧ t.func f = { s.func f with busMaster := bit w.data.toNat 2 } ∧ t = { s with funcs := t.funcs }
      ∧ ∀ g, g ≠ f → t.func g = s.func g)
  ∧ (∀ (s : State) (w : RegWrite) (f : Fin 256) (off : BitVec 14), w.target = .bar0 f off → w.by_ = .host → (s.func f).exists_ = true →
    s.service ≠ .off → off.toNat < 0x100 → ((w.nbytes ≠ 4 ∧ w.nbytes ≠ 8) ∨ off.toNat % w.nbytes ≠ 0) →
    exec (.registerWrite w) s = .next (s.violation (portLanding f.val) (48 + portLanding f.val) 7 (some f) 0 off.toNat 0))
  ∧ (∀ (s : State) (f : Fin 256) (kind addr : Nat), let l := portLanding f.val; let t := s.violation l (48 + l) kind (some f) 0 addr 0
    ∃ v, (tblGet t.violLog l []).getLast? = some v ∧ v.kind = kind ∧ v.source = 48 + l ∧ v.func = f.val ∧ v.addr = addr ∧ t.on cpEventStatus_violation f.val = true)
  ∧ ∀ (s : State) (w : RegWrite) (a : BitVec 32) (win : RegWindow) (p : RegPlace) (r : Reg) (i lo len old : Nat),
    w.target = .forester a → w.by_ ≠ .host → s.service ≠ .off → windowOf a.toNat = some win → win.place = some p →
    p.block.touched p.off w.nbytes = [(r, i)] → p.off = r.offset + i * r.step → 8 * w.nbytes = r.width → r.rows = [⟨lo, len, .rol, old⟩] →
    let k := s.regKey p r i
    ((w.by_ = .firmware ∨ s.protLocked = true) → bits w.data.toNat lo len ≠ bits (s.reg k).toNat lo len →
      ∃ t, exec (.registerWrite w) s = .next t ∧ t.reg k = s.reg k ∧ (match win with
        | .stand m _ => t = s.foresterViolation m 8 none 0 a.toNat 0
        | .landing l _ => t = s.violation l (48 + l) 8 none 0 a.toNat 0))
    ∧ (w.by_ = .stump → s.protLocked = false → ∃ t, exec (.registerWrite w) s = .next t ∧ RegsOnly s t
      ∧ bits (t.reg { k with bank := 1 - s.protBank }).toNat lo len = bits w.data.toNat lo len
      ∧ ∀ j : RegKey, j ≠ { k with bank := 1 - s.protBank } → t.reg j = s.reg j)

end Sys2Proof.Machine

open Sys2Proof Sys2Proof.Machine in
/-- Register writes by access code, with hardware sets of the same window; who may reach and write which. -/
def Obligations.RegisterWrites : Prop :=
  Machine.RegisterWrites ∧ Machine.RightsOfRegisterWrites

namespace Sys2Proof.Machine

/-! ## Ethernet, PTP, RDMA (R242 to R244, R362 to R366, R380, R383 to R387, R485) -/

end Sys2Proof.Machine

open Sys2Proof Sys2Proof.Machine in
/-- R363 to R365, R380, R387, R485: a port that carries frames answers ARP, neighbor solicitation and echo for its own addresses and nothing else;
fragments and control frames with another DSCP set their events; ports go down and up, and a module above 25 W is held down. -/
def Obligations.PortsAnswerAndChange : Prop :=
  ∀ (s : State) (l : Fin 8),
    (∀ (target : BitVec 32) (sender : BitVec 48), exec (.arpRequest l target sender) s =
      .next (if s.portCarries l.val = true ∧ s.ipv4Of l.val = some target then
        s.emit (.frame l.val frArp (sender.setWidth 128) (bytesBE 6 (macOf l.val) ++ bytesBE 4 target.toNat)) else s))
    ∧ (∀ (target : BitVec 128) (sender : BitVec 48), exec (.neighborSolicitation l target sender) s =
      .next (if s.portCarries l.val = true ∧ target ∈ s.ipv6Of l.val then
        s.emit (.frame l.val frNeighbor (sender.setWidth 128) (bytesBE 6 (macOf l.val) ++ bytesBE 16 target.toNat)) else s))
    ∧ (∀ (dst : BitVec 128) (v6 : Bool) (sender : BitVec 48) (data : List Byte), s.portCarries l.val = true →
      ((v6 = true ∧ dst ∈ s.ipv6Of l.val) ∨ (v6 = false ∧ s.ipv4Of l.val = some (dst.setWidth 32))) →
      exec (.icmpEcho l dst v6 sender data) s = .next (s.emit (.frame l.val frEcho (sender.setWidth 128) data)))
    ∧ (∀ fr : RawFrame, s.portCarries l.val = true →
      (fr.fragment = true → ∃ t, exec (.unclassifiedFrame l fr) s = .next t ∧ t.on ldEvent_malformed l.val = true ∧ RegsOnly s t)
      ∧ (fr.fragment = false → fr.udpDst = some 47111 → fr.dscp.toNat ≠ s.get ldClass_dscpCtrl l.val →
        ∃ t, exec (.unclassifiedFrame l fr) s = .next t ∧ t.on ldEvent_wrongPort l.val = true ∧ RegsOnly s t)
      ∧ (fr.fragment = false → fr.udpDst ≠ some 47111 → exec (.unclassifiedFrame l fr) s = .next s))
    ∧ (s.on ldPortStatus_linkUp l.val = true → ∃ t, exec (.epLinkDown l) s = .next t ∧ RegsOnly s t ∧ t.on ldPortStatus_linkUp l.val = false
      ∧ t.on ldPortStatus_pcsAligned l.val = false ∧ t.on ldPortStatus_fecLocked l.val = false ∧ t.on ldEvent_linkDown l.val = true)
    ∧ (s.service ≠ .off → l.val ∉ s.landingsLost → s.on ldPortCtrl_portEn l.val = true →
      (l.val ∉ s.osfpHeld → ∃ t, exec (.epLinkUp l) s = .next t ∧ RegsOnly s t ∧ t.on ldPortStatus_linkUp l.val = true
        ∧ t.on ldPortStatus_pcsAligned l.val = true ∧ t.on ldPortStatus_fecLocked l.val = true)
      ∧ (l.val ∈ s.osfpHeld → exec (.epLinkUp l) s = .next s))
    ∧ ∀ p : Nat, s.service ≠ .off → ∃ t, exec (.osfpModulePresent l p) s = .next t ∧ t.on ldPortStatus_modulePresent l.val = true
      ∧ (l.val ∈ t.osfpHeld ↔ 250 < p) ∧ (∀ n, n ≠ l.val → (n ∈ t.osfpHeld ↔ n ∈ s.osfpHeld)) ∧ t = { s with regs := t.regs, osfpHeld := t.osfpHeld }

open Sys2Proof Sys2Proof.Machine in
/-- R242 to R244, R386: at the selected port a Sync gives an offset and sends a Delay_Req; before SURVEY ends eight that agree step the tally once, later
eight within 250 ns lock and one outside unlocks; the delay exchange, the domain, the backup port, and loss. -/
def Obligations.PtpDisciplinesTheTally : Prop :=
  (∀ (s : State) (l : Fin 8) (m : PtpSync), s.ptpTakes l.val = true → m.twoStep = false →
    let off : Int := (m.receipt.toNat : Int) - m.origin.toNat - s.ptp.delay
    let os := (s.ptp.offsets ++ [off]).drop (s.ptp.offsets.length + 1 - 8)
    (s.mayStep = false → ∃ t, exec (.ptpSync l m) s = .next t ∧ t.ptp.sync = some (m.seqId.toNat, some m.origin.toNat, m.receipt.toNat)
        ∧ t.ptp.request = some (s.ptp.nextSeq, s.tally) ∧ t.out = s.out ++ [.frame l.val frDelayReq 0 (bytesBE 2 s.ptp.nextSeq)]
        ∧ t.get ldPtpStatus_offset l.val = unsigned 32 off ∧ t.tally = s.tally
        ∧ (250 < off.natAbs → t.ptp.locked = false ∧ ∀ k, k < 8 → t.on ldPtpStatus_locked k = false)
        ∧ (os.length = 8 → (∀ o ∈ os, o.natAbs ≤ 250) → t.ptp.locked = true ∧ ∀ k, k < 8 → t.on ldPtpStatus_locked k = true)
        ∧ (250 < off.natAbs → s.ptp.locked = true → t.on ldEvent_ptpLockLost s.ptpPort = true))
    ∧ (s.mayStep = true → os.length = 8 → (∀ o ∈ os, (8 * o - os.sum).natAbs ≤ 2000) →
      ∃ t, exec (.ptpSync l m) s = .next t ∧ t.tally = ((s.tally : Int) - os.sum / 8).toNat ∧ t.ptp.stepped = true ∧ t.mayStep = false))
  ∧ (∀ (s : State) (l : Fin 8) (m : PtpSync), s.ptpTakes l.val = true → m.twoStep = true →
    exec (.ptpSync l m) s = .next { s with ptp := { s.ptp with sync := some (m.seqId.toNat, none, m.receipt.toNat) } })
  ∧ (∀ (s : State) (l : Fin 8) (seqId : BitVec 16) (origin receipt : BitVec 64), s.ptpTakes l.val = true → s.ptp.sync = some (seqId.toNat, none, receipt.toNat) →
    exec (.ptpFollowUp l seqId origin) s = exec (.ptpSync l ⟨seqId, false, origin, receipt⟩) s)
  ∧ (∀ (s : State) (l : Fin 8) (seqId : BitVec 16) (receive : BitVec 64) (n origin receipt sent : Nat), s.ptpTakes l.val = true →
    s.ptp.sync = some (n, some origin, receipt) → s.ptp.request = some (seqId.toNat, sent) →
    exec (.ptpDelayResp l seqId receive) s = .next { s with ptp := { s.ptp with request := none, delay := (((receipt : Int) - origin) + ((receive.toNat : Int) - sent)) / 2 } })
  ∧ (∀ (s : State) (l : Fin 8) (domain : BitVec 8),
    (s.ptpTakes l.val = true → domain.toNat = s.config.ptpDomain → ∃ t, exec (.ptpAnnounce l domain) s = .next t ∧ t.get ldPtpStatus_domain l.val = domain.toNat ∧ RegsOnly s t)
    ∧ (domain.toNat ≠ s.config.ptpDomain → exec (.ptpAnnounce l domain) s = .next s))
  ∧ (∀ (s : State) (b : Nat), s.config.ptpBackup = some b → s.ptp.backup = false → b < 8 →
    ∃ t, exec .ptpBackupSwitch s = .next t ∧ t.ptpPort = b ∧ t.on ldPtpStatus_backupInUse b = true ∧ t.ptp.offsets = [] ∧ t = { s with ptp := t.ptp, regs := t.regs }
      ∧ ∀ l, l < 8 → t.on ldPortStatus_ptpSelected l = decide (l = b))
  ∧ ∀ s : State, ∃ t, exec .ptpLoss s = .next t ∧ t.ptp.locked = false ∧ t.tally = s.tally ∧ (s.ptp.locked = true → t.on ldEvent_ptpLockLost s.ptpPort = true)
      ∧ (∀ k, k < 8 → t.on ldPtpStatus_locked k = false) ∧ t = { s with ptp := t.ptp, regs := t.regs }

namespace Sys2Proof.Machine

/-- R383, R384 (with the choices of log 110): a REQ gets a free queue pair or REJ; RTU brings the connection up and DREQ ends it; a WRITE in order lands
in its area and is acknowledged, a copy is acknowledged again, a gap is NAKed, and one outside the area ends in the error state. -/
def RdmaConnectionsAndWrites : Prop :=
  ∀ (s : State) (l : Fin 8), s.rdmaOpen l.val = true →
    (∀ (q : CmReq) (n : Nat), s.freeQp l.val = some n → s.reqOk q = true →
      ∃ t x, exec (.cmReq l q) s = .next t ∧ t.qp l.val n = some x ∧ x.state = 0 ∧ x.peer = q.peer ∧ x.peerQp = q.peerQp.toNat ∧ x.staging = q.stagingId.toNat
        ∧ x.mtu = q.mtu ∧ t.out = s.out ++ [.rdma l.val frRep (s.get ldClass_dscpRdma l.val) q.peer (bytesBE 3 q.peerQp.toNat ++ bytesBE 3 n)] ∧ t = { s with qps := t.qps, out := t.out })
    ∧ (∀ q : CmReq, (s.freeQp l.val = none ∨ s.reqOk q = false) →
      exec (.cmReq l q) s = .next (s.emit (.rdma l.val frRej (s.get ldClass_dscpRdma l.val) q.peer (bytesBE 3 q.peerQp.toNat))))
    ∧ (∀ (n : Nat) (x : Qp), s.qp l.val n = some x → x.state = 0 → ∃ t, exec (.cmRtu l n) s = .next t ∧ t.qp l.val n = some { x with state := 1 } ∧ t = { s with qps := t.qps })
    ∧ (∀ (n : Nat) (x : Qp), s.qp l.val n = some x → ∃ t, exec (.cmDreq l n) s = .next t ∧ t.qp l.val n = none
      ∧ t.out = s.out ++ [.rdma l.val frDrep (s.get ldClass_dscpRdma l.val) x.peer (bytesBE 3 x.peerQp)] ∧ t = { s with qps := t.qps, out := t.out })
    ∧ ∀ (n : Nat) (x : Qp) (psn : BitVec 24) (addr : Nat) (key : BitVec 32) (bs : List Byte), s.qp l.val n = some x → x.state = 1 → x.rxPsn < 2 ^ 24 →
      let ahead := (psn.toNat + 2 ^ 24 - x.rxPsn) % 2 ^ 24
      (2 ^ 23 ≤ ahead → exec (.rdmaWrite l n psn addr key bs) s = .next (s.toPeer l.val x frAck (bytesBE 3 psn.toNat)))
      ∧ (0 < ahead → ahead < 2 ^ 23 → exec (.rdmaWrite l n psn addr key bs) s = .next (s.toPeer l.val x frNakSequence (bytesBE 3 x.rxPsn)))
      ∧ (psn.toNat = x.rxPsn → s.get ldRdmaRate_rdmaRate l.val ≠ 0 →
        (∀ a, tblFind s.stagings x.staging = some a → a.source = 1 → a.key = key → a.base ≤ addr → addr + bs.length ≤ a.base + a.length →
          ∃ t, exec (.rdmaWrite l n psn addr key bs) s = .next t ∧ (s.hbm.wf = true → t.hbmRead addr bs.length = bs)
            ∧ tblFind t.stagings x.staging = some { a with got := a.got ++ [(addr - a.base, bs.length)] }
            ∧ t.qp l.val n = some { x with rxPsn := (x.rxPsn + max 1 (ceilDiv bs.length x.mtu)) % 2 ^ 24 }
            ∧ (∃ w, t.out = s.out ++ [.rdma l.val frAck (s.get ldClass_dscpRdma l.val) x.peer (bytesBE 3 x.peerQp ++ bytesBE 3 w)])
            ∧ t = { s with hbm := t.hbm, stagings := t.stagings, qps := t.qps, out := t.out })
        ∧ ((∀ a, tblFind s.stagings x.staging = some a → a.source ≠ 1 ∨ a.key ≠ key ∨ addr < a.base ∨ a.base + a.length < addr + bs.length) →
          ∃ t, exec (.rdmaWrite l n psn addr key bs) s = .next t ∧ t.qp l.val n = some { x with state := 2 } ∧ t.on ldEvent_rdmaNak l.val = true
            ∧ t.out = s.out ++ [.rdma l.val frNakAccess (s.get ldClass_dscpRdma l.val) x.peer (bytesBE 3 x.peerQp ++ bytesBE 3 psn.toNat)] ∧ t.hbm = s.hbm))

/-- R383, R384 (with the choices of log 110): READs of a remote golden image, up to 16 outstanding; their bytes land in order; lost ones are sent again
seven times at most; a CNP halves the rate and recovery doubles it back. -/
def RdmaReadsOfGoldenImages : Prop :=
  ∀ (s : State) (l : Fin 8) (n : Nat) (x : Qp), s.rdmaOpen l.val = true → s.qp l.val n = some x →
    (∀ (g : Golden) (a : Staging) (off len : Nat), x.state = 1 → s.goldenOf x = some g → tblFind s.stagings x.staging = some a → x.reads.length < 16 →
      s.get ldRdmaRate_rdmaRate l.val ≠ 0 → 0 < len → off + len ≤ a.length →
      ∃ t, exec (.goldenFetchRead l n off len) s = .next t
        ∧ t.qp l.val n = some { x with reads := x.reads ++ [(x.txPsn, off, len)], txPsn := (x.txPsn + max 1 (ceilDiv len x.mtu)) % 2 ^ 24 }
        ∧ t.out = s.out ++ [.rdma l.val frRead (s.get ldClass_dscpRdma l.val) x.peer (bytesBE 3 x.peerQp ++ (bytesBE 3 x.txPsn ++ bytesBE 8 (g.addr + off) ++ bytesBE 4 g.key.toNat ++ bytesBE 4 len))]
        ∧ t = { s with qps := t.qps, out := t.out })
    ∧ (∀ off len : Nat, 16 ≤ x.reads.length → exec (.goldenFetchRead l n off len) s = .next s)
    ∧ (∀ (a : Staging) (psn : BitVec 24) (off len : Nat) (rest : List (Nat × Nat × Nat)) (bs : List Byte), x.state = 1 → tblFind s.stagings x.staging = some a →
      x.reads = (psn.toNat, off, len) :: rest → bs ≠ [] → bs.length ≤ len →
      ∃ t, exec (.rdmaReadResponse l n psn bs) s = .next t ∧ (s.hbm.wf = true → t.hbmRead (a.base + off) bs.length = bs)
        ∧ (bs.length = len → t.qp l.val n = some { x with reads := rest, tries := 0 })
        ∧ tblFind t.stagings x.staging = some { a with got := a.got ++ [(off, bs.length)] } ∧ t = { s with hbm := t.hbm, stagings := t.stagings, qps := t.qps })
    ∧ (∀ (psn : BitVec 24) (bs : List Byte) (r : Nat × Nat × Nat) (rest : List (Nat × Nat × Nat)), x.reads = r :: rest → psn.toNat ≠ r.1 →
      exec (.rdmaReadResponse l n psn bs) s = .next s)
    ∧ (x.state = 1 → x.reads ≠ [] →
      (7 ≤ x.tries → ∃ t, exec (.rdmaAckTimeout l n) s = .next t ∧ t.qp l.val n = some { x with state := 2, reads := [] } ∧ t = { s with qps := t.qps })
      ∧ (x.tries < 7 → ∀ g, s.goldenOf x = some g → ∃ t, exec (.rdmaAckTimeout l n) s = .next t ∧ t.qp l.val n = some { x with tries := x.tries + 1 }
        ∧ t.out.length = s.out.length + x.reads.length ∧ t = { s with qps := t.qps, out := t.out }))
    ∧ (∃ t, exec (.cnpArrive l n) s = .next t ∧ t.qp l.val n = some { x with halved := x.halved + 1 } ∧ t = { s with qps := t.qps })
    ∧ ∃ t, exec (.cnpRateRecovery l n) s = .next t ∧ t.qp l.val n = some { x with halved := x.halved - 1 } ∧ t = { s with qps := t.qps }

end Sys2Proof.Machine

open Sys2Proof Sys2Proof.Machine in
/-- RDMA connections and WRITEs, and READs of a remote golden image (with the choices of log 110). -/
def Obligations.RdmaConnectionsAndReads : Prop :=
  Machine.RdmaConnectionsAndWrites ∧ Machine.RdmaReadsOfGoldenImages

namespace Sys2Proof.Machine

/-! ## Prowaelm Token Transport (R309 to R312, R365 to R382) -/

/-- The commands that a PTT frame on a port may be. -/
def PttCommand (l : Fin 8) (x : PttFrame) (c : Instr) : Prop :=
  c ∈ [Instr.pttOpen l x, .pttPrompt l x, .pttEmbed l x, .pttTarget l x, .pttFell l x, .pttShed l x, .pttResend l x]

/-- A PTT frame reaches the checks of R368: its port takes PTT, and the control port has the control DSCP. -/
def PttReaches (s : State) (l : Fin 8) (x : PttFrame) : Prop :=
  s.pttOpenPort l.val = true ∧ (x.dstPort.toNat = pttData ∨ (x.dstPort.toNat = pttControl ∧ x.dscp.toNat = s.get ldClass_dscpCtrl l.val))

end Sys2Proof.Machine

open Sys2Proof Sys2Proof.Machine in
/-- R365, R368 to R373: the checks of a received frame in their order; each drop sets its event and does nothing else; an accepted frame counts, is
written to the journal (R246), and its counter is not accepted again. -/
def Obligations.PttFramesAreChecked : Prop :=
  ∀ (s : State) (l : Fin 8) (x : PttFrame), let t := s.tenant x.tenant.toNat
    (∀ c, PttCommand l x c →
      ((s.pttOpenPort l.val = false ∨ (x.dstPort.toNat ≠ pttData ∧ x.dstPort.toNat ≠ pttControl)) → exec c s = .next s)
      ∧ (s.pttOpenPort l.val = true → x.dstPort.toNat = pttControl → x.dscp.toNat ≠ s.get ldClass_dscpCtrl l.val →
        exec c s = .next (s.ldEv ldEvent_wrongPort l.val))
      ∧ (PttReaches s l x → x.malformed = true → exec c s = .next (s.ldEv ldEvent_malformed l.val))
      ∧ (PttReaches s l x → x.malformed = false → x.wrongPort = true → exec c s = .next (s.ldEv ldEvent_wrongPort l.val))
      ∧ (PttReaches s l x → x.malformed = false → x.wrongPort = false → (tblFind t.slots x.slot = none ∨ x.tagOk = false) →
        exec c s = .next (s.ldEv ldEvent_authFail l.val))
      ∧ ∀ k, PttReaches s l x → x.malformed = false → x.wrongPort = false → tblFind t.slots x.slot = some k → x.tagOk = true →
        (s.bindOk t x.source l.val = false → exec c s = .next (s.ldEv ldEvent_bindConflict l.val))
        ∧ (s.bindOk t x.source l.val = true → k.replayed x.source x.counter.toNat = true → exec c s = .next (s.ldEv ldEvent_replayDrop l.val)))
    ∧ ∀ k, PttReaches s l x → x.malformed = false → x.wrongPort = false → tblFind t.slots x.slot = some k → x.tagOk = true →
      s.bindOk t x.source l.val = true → k.replayed x.source x.counter.toNat = false →
      ∃ u k' r, s.ingress l.val x = .accepted u
        ∧ u = { s with tenants := u.tenants, regs := u.regs, journal := u.journal, srcCount := u.srcCount, journalLow := u.journalLow }
        ∧ u.journal.getLast? = some (l.val, r) ∧ r.kind = 0x0001 ∧ r.source = 48 + l.val ∧ r.tally = s.tally ∧ r.tenant = x.tenant.toNat
        ∧ u.get ldPttStats_framesIn l.val = (s.get ldPttStats_framesIn l.val + 1) % 2 ^ ldPttStats_framesIn.len
        ∧ tblFind (u.tenant x.tenant.toNat).slots x.slot = some k' ∧ k'.replayed x.source x.counter.toNat = true ∧ k'.key = k.key
        ∧ tblFind (u.tenant x.tenant.toNat).bindings x.source = some (l.val, s.tally)

namespace Sys2Proof.Machine

/-- R303, R374, R377: an accepted OPEN is answered once: a request tag seen in the last second gets the kept answer again; in TEST, with another length,
refused, deferred or admitted it gets its OPEN_RESULT, and an admitted sequence has the sender as its client. -/
def PttOpensAreAnswered : Prop :=
  ∀ (s u : State) (l : Fin 8) (x : PttFrame), s.ingress l.val x = .accepted u → x.type.toNat = pttOpen →
    let tags := u.liveTags x.tenant.toNat x.source
    let q := openOf x.tenant.toNat x.field (x.field 64 1)
    let done (v : State) (a : List Byte) : Prop :=
      exec (.pttOpen l x) s = .next ((v.keepTag x.tenant.toNat x.source x.step a).openResult l.val x a)
    (∀ p, tags.find? (fun p => decide (p.1 = x.step)) = some p → exec (.pttOpen l x) s = .next (u.openResult l.val x p.2.2))
    ∧ (tags.find? (fun p => decide (p.1 = x.step)) = none →
      (u.service = .test → done u (openAnswer 0 stBadState 0 0 0 0))
      ∧ (u.service ≠ .test → x.payload.length ≠ 72 → done u (openAnswer 0 stBadLength 0 0 0 0))
      ∧ (u.service ≠ .test → x.payload.length = 72 → x.field 47 1 = 0 → x.field 52 12 = 0 → x.field 64 1 ≤ 64 → x.field 65 7 = 0 → u.openBad q [] = none →
        (∀ reason retry, u.decide_ q = .refuse reason retry → ∃ v, done v (openAnswer 0 0x0301 reason 0 retry 0) ∧ RegsOnly u v
          ∧ v.get sqAdmitCount_refuses l.val = (u.get sqAdmitCount_refuses l.val + 1) % 2 ^ 16)
        ∧ (∀ reason retry, u.decide_ q = .defer reason retry → ∃ v, done v (openAnswer 0 0x0300 reason 0 retry 0) ∧ RegsOnly u v
          ∧ v.get sqAdmitCount_defers l.val = (u.get sqAdmitCount_defers l.val + 1) % 2 ^ 16)
        ∧ ∀ victims i w, u.decide_ q = .grant victims [i] w → q.spec = 0 → i ∉ victims → u.mirrors = false →
          ∃ v : State, done v (openAnswer (v.handle i) stOk 0 0 0 (v.seq i).entry.firstDue)
            ∧ (let e := (v.seq i).entry
               e.state = 1 ∧ e.imageTag = q.tag ∧ e.tenant = x.tenant.toNat ∧ e.cls = q.cls ∧ e.promptLen = q.promptLen ∧ e.maxLen = q.maxLen
               ∧ e.gen = (u.seq i).entry.gen + 1 ∧ e.openTally = u.tally)
            ∧ (v.seq i).landing = l.val ∧ (v.seq i).addr = x.srcAddr ∧ (v.seq i).udp = x.srcPort ∧ (v.seq i).reqTag = x.step))

/-- An accepted frame names an open sequence of its tenant that has this client. -/
def FrameNames (u : State) (x : PttFrame) (i : Nat) : Prop :=
  u.service ≠ .test ∧ u.ofHandle x.handle.toNat = some i ∧ (u.seq i).entry.partner = false ∧ (u.seq i).entry.tenant = x.tenant.toNat ∧ u.isSapling i = false

/-- R125, R374, R375, R394: PROMPT, EMBED and TARGET fill each position once; positions beyond the prompt, wrong lengths and rejected codes are answered
with an ERROR; a closing sequence drops them; a position that does not arrive is reported. -/
def PromptsFillOnce : Prop :=
  (∀ (s u : State) (l : Fin 8) (x : PttFrame) (i : Nat), s.ingress l.val x = .accepted u → FrameNames u x i →
    let y := u.seq i
    let first := x.field 0 4
    let n := (x.payload.length - 4) / 4
    (x.type.toNat = pttPrompt →
      ((y.entry.state = 5 ∨ y.entry.state = 0) → exec (.pttPrompt l x) s = .next (u.meetClient i x))
      ∧ (y.entry.state ≠ 5 → y.entry.state ≠ 0 → y.entry.promptLen ≤ first + n - 1 →
        exec (.pttPrompt l x) s = .next ((u.meetClient i x).pttErr l.val x stBadLength 0 0))
      ∧ (y.entry.state ≠ 5 → y.entry.state ≠ 0 → first + n - 1 < y.entry.promptLen → wordsOk x = true →
        ∃ t, exec (.pttPrompt l x) s = .next t ∧ (∀ k, k < n → tblFind (t.seq i).tokens (first + k) =
            if (tblFind y.tokens (first + k)).isSome ∨ (tblFind y.embeds (first + k)).isSome then tblFind y.tokens (first + k)
            else some (BitVec.ofNat 32 (x.field (4 + 4 * k) 4)))
          ∧ (∀ p, p < first ∨ first + n ≤ p → tblFind (t.seq i).tokens p = tblFind y.tokens p) ∧ (t.seq i).embeds = y.embeds ∧ (t.seq i).targets = y.targets))
    ∧ (x.type.toNat = pttTarget → y.entry.state ≠ 5 → y.entry.state ≠ 0 → first + n - 1 < y.entry.promptLen → wordsOk x = true →
      ∃ t, exec (.pttTarget l x) s = .next t ∧ (∀ k, k < n → tblFind (t.seq i).targets (first + k) =
          if (tblFind y.targets (first + k)).isSome then tblFind y.targets (first + k) else some (BitVec.ofNat 32 (x.field (4 + 4 * k) 4)))
        ∧ (t.seq i).tokens = y.tokens ∧ (t.seq i).entry = y.entry)
    ∧ (x.type.toNat = pttEmbed → y.entry.state ≠ 5 → y.entry.state ≠ 0 → first < y.entry.promptLen → 12 < x.payload.length → x.field 8 1 < 10 → x.field 9 3 = 0 →
      let bs := x.payload.drop 12
      let off := x.field 4 4
      let dim := ((u.image y.entry.imageTag).map (fun m => m.file.modelDim)).getD 0
      off + bs.length ≤ u.embedBytes y.entry.imageTag (x.field 8 1) →
      ((∃ b ∈ bs.zipIdx, edgeRejects (x.field 8 1) (ceilDiv dim 32) (off + b.2) b.1 = true) →
        ∃ v : State, exec (.pttEmbed l x) s = .next (v.pttErr l.val x stBadField 12 0) ∧ v.on ldEvent_formatReject l.val = true
          ∧ (v.seq i).embeds = y.embeds)
      ∧ ((∀ b ∈ bs.zipIdx, edgeRejects (x.field 8 1) (ceilDiv dim 32) (off + b.2) b.1 = false) → tblFind y.tokens first = none →
        tblFind y.embeds first = none → ∃ t v, exec (.pttEmbed l x) s = .next t ∧ tblFind (t.seq i).embeds first = some (x.field 8 1, v)
          ∧ ∀ b ∈ bs.zipIdx, tblFind v (off + b.2) = some b.1)))
  ∧ (∀ (s u : State) (l : Fin 8) (x : PttFrame), s.ingress l.val x = .accepted u → u.service ≠ .test → u.ofHandle x.handle.toNat = none →
    ∀ c ∈ [(pttPrompt, Instr.pttPrompt l x), (pttEmbed, .pttEmbed l x), (pttTarget, .pttTarget l x), (pttResend, .pttResend l x)],
      x.type.toNat = c.1 → exec c.2 s = .next ((u.staleHandle x.handle.toNat).pttErr l.val x stStale 0 0))
  ∧ ∀ (s : State) (i : Fin 32768) (p : Nat), let e := (s.seq i.val).entry
    (e.state = 1 ∨ e.state = 2) → e.partner = false → s.isSapling i.val = false → s.firstMissing i.val = some p →
    exec (.promptWaitExpiry i) s = .next (s.seqFrame i.val pttError 0 0 0 (bytesBE 2 stBadLength ++ bytesBE 2 0 ++ bytesBE 8 0 ++ bytesBE 4 p))

end Sys2Proof.Machine

open Sys2Proof Sys2Proof.Machine in
/-- OPEN is answered once; PROMPT, EMBED and TARGET fill each position once. -/
def Obligations.PttOpensAndPrompts : Prop :=
  Machine.PttOpensAreAnswered ∧ Machine.PromptsFillOnce

open Sys2Proof Sys2Proof.Machine in
/-- R309, R311, R312, R376, R379, R381: FELL fells the sequence that its handle names, SHED the tenant's sequences and holds admissions, RESEND sends kept
tokens again with dup, and a takeover's notice is repeated. -/
def Obligations.PttControlActs : Prop :=
  (∀ (s u : State) (l : Fin 8) (x : PttFrame) (i : Nat), s.ingress l.val x = .accepted u → FrameNames u x i →
    (x.type.toNat = pttFell → x.payload = [] → (u.seq i).entry.state ≠ 0 →
      ∃ t, exec (.pttFell l x) s = .next t ∧ t = (u.meetClient i x).fell l [i] 0 2 0 false ∧ (t.seq i).entry.state = 5)
    ∧ (x.type.toNat = pttFell → x.payload ≠ [] → ∃ v : State, exec (.pttFell l x) s = .next (v.pttErr l.val x stBadLength 0 0)
      ∧ v.on sqFellEvent_fellRefused l.val = true ∧ v.seqs = (u.meetClient i x).seqs)
    ∧ (x.type.toNat = pttResend → x.payload = [] → ∀ o rest, (u.seq i).sent = o :: rest →
      (x.step.toNat < o.step → exec (.pttResend l x) s = .next ((u.meetClient i x).pttErr l.val x stBadState (u.seq i).entry.state o.step))
      ∧ (o.step ≤ x.step.toNat → ∀ (p : BitVec 8) (t0 : SentToken) (kept : List SentToken),
        (u.seq i).sent.filter (fun t => decide (x.step.toNat ≤ t.step)) = t0 :: kept → (∀ t ∈ t0 :: kept, t.prov = p) →
        exec (.pttResend l x) s = .next ((u.meetClient i x).seqFrame i pttToken 2 (p &&& 0x0F) t0.step
          (bytesBE 2 (kept.length + 1) ++ bytesBE 2 0 ++ bytesBE 4 ((u.seq i).entry.promptLen + t0.step - 1)
            ++ (t0 :: kept).flatMap (fun t => bytesBE 4 t.token.toNat))))))
  ∧ (∀ (s u : State) (l : Fin 8) (x : PttFrame), s.ingress l.val x = .accepted u → x.type.toNat = pttShed → u.service ≠ .test → x.payload.length = 8 →
    x.field 1 1 < 8 → x.field 2 2 = 0 → (x.field 0 1 = 0 ∨ u.imageRight x.tenant.toNat (x.field 0 1) = true) →
    ∃ t, exec (.pttShed l x) s = .next t ∧ t.on sqFellEvent_shed l.val = true
      ∧ t.sheds = (if x.field 4 4 = 0 then u.sheds else u.sheds ++ [⟨x.tenant.toNat, x.field 0 1, x.field 1 1, u.tally + x.field 4 4 * 1000000⟩])
      ∧ ∀ i ∈ u.ownOpen, i < 32768 → (let e := (u.seq i).entry
          e.state ≠ 0 → e.tenant = x.tenant.toNat → (x.field 0 1 = 0 ∨ e.imageTag = x.field 0 1) → x.field 1 1 ≤ e.cls → e.openTally < u.tally →
          u.isSapling i = false → (t.seq i).entry.state = 5))
  ∧ ∀ (s : State) (i : Fin 32768), (s.seq i.val).repeats ≠ 0 → (s.seq i.val).entry.state ≠ 0 → (s.seq i.val).entry.partner = false →
    ∃ t, exec (.takeoverRepeat i) s = .next t ∧ t.seq i.val = { s.seq i.val with repeats := (s.seq i.val).repeats - 1 }
      ∧ t.out = (s.takeoverNotice i.val).out

namespace Sys2Proof.Machine

/-! ## Boot, Foresters, losses (R44, R52, R116 to R118, R426, R437, R447, R449 to R452, R458, R461 to R468, R491, R492) -/

/-- R243, R426, R437, R449 to R452, R491, R492: when the module starts from OFF, and what stands after the steps in stump code; a module latched by a hard
shutdown or held by a request pin stays OFF. -/
def StartsFromOff : Prop :=
  (∀ (s : State) (feed : Fin 2) (env : BootEnv), s.service = .off → s.latched = false → s.pinsLow = [] → 4000 ≤ env.tenMv → env.tenMv ≤ 5900 → s.flash.slots ≠ [] →
    let fa := s.bootFault env.romOk.1 env.pufOk.1
    let fb := s.bootFault env.romOk.2 env.pufOk.2
    ((fa = 0 ∨ fb = 0) → ∃ (w : State) (c : ConfigRecord), exec (.powerUp feed env) s = .next ((w.applyConfig c).bootStep 8) ∧ w.service = .stump
      ∧ w.tally = max s.flash.lastDown s.flash.snapAt ∧ w.foresterB = decide (fa ≠ 0) ∧ w.standbyIn = decide (fa = 0 ∧ fb = 0) ∧ w.protLocked = true
      ∧ w.bankB = !s.bankB ∧ Out.pin pinPwrGood 1 ∈ w.out ∧ (∀ n, n < 42 → w.get pwStandStatus_standPower n = 3)
      ∧ (∃ k r, s.bestSlot 1 = some (k, r) ∧ w.runs w.activeForester 1 = some r))
    ∧ (fa ≠ 0 → fb ≠ 0 → ∃ t, exec (.powerUp feed env) s = .next t ∧ t.service = .stump ∧ t.get btStatus_failCode 3 = fa ∧ t.get btStatus_failCode 7 = fb
      ∧ t.protLocked = s.protLocked))
  ∧ (∀ (s : State) (env : BootEnv),
    ((s.service ≠ .off ∨ s.latched = true ∨ s.pinsLow ≠ [] ∨ env.tenMv < 4000 ∨ 5900 < env.tenMv) → ∀ feed, exec (.powerUp feed env) s = .next s)
    ∧ (s.service = .off → s.pinsLow = [] → 4000 ≤ env.tenMv → env.tenMv ≤ 5900 →
      ∃ u : State, exec (.feedsRemovedRestart env) s = .next (u.startUp env) ∧ u.latched = false ∧ u.service = .off ∧ u.feedOk 0 = true ∧ u.feedOk 1 = true ∧ u.flash = s.flash)
    ∧ (s.service = .off → s.pinsLow ≠ [] → exec (.feedsRemovedRestart env) s = .next { s with latched := false })
    ∧ (s.service = .off → exec .shutdownReq s = .next (s.pinLow 9) ∧ exec .forceOff s = .next (s.pinLow 10))
    ∧ (∀ c ∈ [(9, Instr.shutdownReqRelease env), (10, .forceOffRelease env)],
      ((s.feedValid = false ∨ s.service ≠ .off) → exec c.2 s = .next { s with pinsLow := s.pinsLow.filter (fun p => p ≠ c.1) })
      ∧ (s.service = .off → s.latched = false → s.feedValid = true → (∀ p ∈ s.pinsLow, p = c.1) → 4000 ≤ env.tenMv → env.tenMv ≤ 5900 →
        exec c.2 s = .next (({ s with pinsLow := [] } : State).startUp env))))

/-- R410, R437, R469, R491 to R493: an orderly shutdown records the residents, the snapshot and the last-shutdown tally and enters OFF; a forced one
enters OFF with a stale snapshot; cells, flash and the input side remain. -/
def ShutdownsEnterOff : Prop :=
  (∀ s : State, s.service ≠ .off →
    (∃ t, exec .shutdownReq s = .next t ∧ t.service = .off ∧ t.pinsLow = [9] ∧ t.flash.lastDown = t.tally ∧ Out.pin pinPwrGood 0 ∈ t.out
      ∧ (s.service ≠ .stump → t.flash.orderly = true ∧ t.flash.snapAt = t.tally)
      ∧ ∀ x, (t.tile x).tiers = (s.tile x).tiers ∧ (t.tile x).drift = (s.tile x).drift)
    ∧ ∃ t, exec .forceOff s = .next t ∧ t.service = .off ∧ 10 ∈ t.pinsLow ∧ t.flash = { s.flash with orderly := false } ∧ Out.pin pinPwrGood 0 ∈ t.out
      ∧ t.reg ⟨.pwFeed, 0, 0, 0⟩ = s.reg ⟨.pwFeed, 0, 0, 0⟩)
  ∧ ∀ s : State, s.service ≠ .off → ∃ t, exec .ppsEdge s = .next t ∧ t.out = s.out ++ [.pin pinPps 1, .pin pinPps 0] ∧ t = { s with out := t.out }

end Sys2Proof.Machine

open Sys2Proof Sys2Proof.Machine in
/-- Starts from OFF, orderly shutdown, and forced shutdown. -/
def Obligations.StartsAndShutdowns : Prop :=
  Machine.StartsFromOff ∧ Machine.ShutdownsEnterOff

open Sys2Proof Sys2Proof.Machine in
/-- R116 to R118, R205, R243, R458, R463, R469: SURVEY restores the tiles, counts the off-time, asks the stands to wake and opens the boot areas; a
resident image whose file is complete is loaded, or dropped where its load fails. -/
def Obligations.SurveyAndResidentImages : Prop :=
  (∀ s : State, s.service = .stump → s.protLocked = true →
    ∃ u : State, exec .surveyStart s = .next u.surveyCheck ∧ u.service = .survey ∧ u.flash.orderly = false
      ∧ u.get btStatus_step (if s.foresterB then 7 else 3) = 9 ∧ (∀ l ∈ [3, 7], u.get btBootTally_tally l = s.tally % 2 ^ 64)
      ∧ (∀ n, n ∈ u.wakeWant ↔ n < 42 ∧ n ∉ s.reserve ∧ s.get pwStandStatus_standPower n = 3)
      ∧ (∀ e ∈ u.surveyLeft, e.2 < 17 ∧ (u.drift e.1 e.2).due = true ∧ u.tierState e.1 e.2 = 1 ∧ (u.tier e.1 e.2).programmed = true)
      ∧ (∀ e ∈ u.surveyLeft, ∃ p, (e.1, p) ∈ u.surveyLeft ∧ (u.tile e.1).cruise = some { phys := p, priority := true }))
  ∧ (∀ s : State, (s.service ≠ .stump ∨ s.protLocked = false) → exec .surveyStart s = .next s)
  ∧ ∀ (s : State) (k : Nat) (img : ImageFile) (x : Staging) (tag : Nat) (r : Resident), let id := 0xFFFFFF00 + k
    tblFind s.stagings id = some x → x.boot = some tag → s.flash.resident.find? (fun r => decide (r.tag = tag)) = some r → r.tag = tag → x.full = true →
    ((img.rsaOk = false ∨ img.slhOk = false) → img.digest = r.digest → ∃ u : State, exec (.bootImageComplete k img) s = .next (u.dropResident id tag)
        ∧ u.on btEvent_verifyFail s.btLanding = true ∧ u.images = s.images ∧ u.hbm = s.hbm)
    ∧ (img.digest = r.digest → ∀ u v : State, ∀ tag' dis, u = { s with stagings := tblErase s.stagings id } →
        u.loadImage img ⟨some tag, some r.placement, id, true, s.hbmRead x.base x.length⟩ = .loaded tag' dis v →
        exec (.bootImageComplete k img) s = .next (v.bootStep 12))
    ∧ (∀ u : State, ∃ t, u.dropResident id tag = t ∧ tblFind t.stagings id = none ∧ (∀ q ∈ t.flash.resident, q.tag ≠ tag)
        ∧ t.on btEvent_residentDropped u.btLanding = true)

namespace Sys2Proof.Machine

/-- R52, R447, R461, R462: a swap runs the standby on the new records, hands over with the banks flipped at the same frame, and ends with the old Forester
as standby and the rollback counters advanced; records that do not verify, or a failed reboot, end it with its operation failed. -/
def SwapsOfForesters : Prop :=
  ∀ (s : State) (w : Swap), s.swap = some w →
    (w.stage = 0 → s.swapFault w.records = none →
      ∃ t, exec .standbyReady s = .next t ∧ t.swap = some { w with stage := 1 } ∧ t.standbyReady = true ∧ t.foresterB = s.foresterB ∧ t.bankB = s.bankB
        ∧ t.prot = s.prot ∧ t.seqs = s.seqs ∧ t.tally = s.tally)
    ∧ (w.stage = 0 → ∀ status detail, s.swapFault w.records = some (status, detail) → ∃ t, exec .standbyReady s = .next t ∧ t.swap = none ∧ t.foresterB = s.foresterB
        ∧ t.bankB = s.bankB ∧ t.standbyReady = true
        ∧ ∀ o, tblFind s.ops w.op = some o → o.state = 0 → ∃ o', tblFind t.ops w.op = some o' ∧ o'.state ≠ 0 ∧ o'.status = status)
    ∧ (w.stage = 1 → (∀ r ∈ w.records, r.1 ≠ 1) → ∃ t, exec .foresterHandover s = .next t ∧ t.swap = some { w with stage := 2 } ∧ t.foresterB = !s.foresterB
        ∧ t.bankB = !s.bankB ∧ t.prot = s.protOf s.otherForester ∧ t.protLocked = true ∧ t.seqs = s.seqs ∧ t.tally = s.tally ∧ t.images = s.images
        ∧ t.standbyReady = false)
    ∧ (w.stage ≠ 1 → exec .foresterHandover s = .next s)
    ∧ (w.stage = 2 → ∃ u : State, exec (.swapRebootDone true) s = .next u.follow ∧ u.swap = none ∧ u.standbyIn = true ∧ u.standbyReady = true
        ∧ u.foresterB = s.foresterB ∧ u.on btEvent_swapDone s.btLanding = true ∧ (∀ r ∈ w.records, r.2.version ≤ u.rollback r.1)
        ∧ (∀ k, s.rollback k ≤ u.rollback k)
        ∧ ∀ o, tblFind s.ops w.op = some o → o.state = 0 → ∃ o', tblFind u.ops w.op = some o' ∧ o'.state = 1 ∧ o'.status = 0)
    ∧ (w.stage = 2 → ∃ u : State, exec (.swapRebootDone false) s = .next u.follow ∧ u.swap = none ∧ u.standbyIn = false ∧ u.foresterB = s.foresterB
        ∧ u.on btEvent_swapFallback s.btLanding = true ∧ (∀ k, u.rollback k = s.rollback k))
    ∧ (w.stage ≠ 2 → ∀ ok, exec (.swapRebootDone ok) s = .next s)

/-- R463, R465, R467, R468, R480: the standby takes over without a change of state, or stays where it is not ready; it returns after a reboot; a lost
landing takes its Forester, moves or ends the sequences and drains the module; an uncorrectable HBM error and a starved data channel end what depends
on them. -/
def FailoverAndLosses : Prop :=
  (∀ s : State, s.swap = none →
    (s.standbyReady = true → ∃ u : State, exec .foresterFailover s = .next u.follow ∧ u.foresterB = !s.foresterB ∧ u.standbyIn = false ∧ u.standbyReady = false
      ∧ u.seqs = s.seqs ∧ u.tally = s.tally ∧ u.images = s.images ∧ u.bankB = s.bankB ∧ u.prot = s.prot)
    ∧ (s.standbyReady = false → exec .foresterFailover s = .next s)
    ∧ ((s.standbyIn = false ∨ s.standbyReady = false) → s.service ≠ .off → s.bootFault true true = 0 → s.protLocked = true →
      foresterLanding s.otherForester ∉ s.landingsLost → foresterLanding s.activeForester ∉ s.landingsLost →
      ∃ u : State, exec .standbyReady s = .next u.follow ∧ u.standbyIn = true ∧ u.standbyReady = true ∧ u.foresterB = s.foresterB ∧ u.seqs = s.seqs)
    ∧ (s.standbyIn = true → s.standbyReady = true → exec .standbyReady s = .next s))
  ∧ (∀ (s : State) (w : Swap), s.swap = some w → w.stage = 0 → exec .foresterFailover s = .next { s with swap := some { w with stage := 3 } })
  ∧ (∀ (s : State) (l : Fin 8), l.val ∉ s.landingsLost → s.service ≠ .off → ∃ t, exec (.landingLost l) s = .next t ∧ t.service = .draining
      ∧ t.landingsLost = s.landingsLost ++ [l.val] ∧ t.swap = none ∧ t.drain.isSome = true)
  ∧ (∀ (s : State) (l : Fin 8), l.val ∈ s.landingsLost → exec (.landingLost l) s = .next s)
  ∧ (∀ (s : State) (page : Fin 25165824), s.paired = false →
    ∃ t, exec (.hbmReadError page) s = .next t ∧ ∀ i ∈ s.ownOpen, (s.seq i).entry.state ≠ 0 → (s.seq i).entry.partner = false → s.mapsPage i page.val = true →
      s.targetOf i = none → (t.seq i).entry.state = 5)
  ∧ ∀ (s : State) (p : PortId) (tag : Fin 256) (x : Image), s.image tag.val = some x →
    (x.state = 3 → exec (.dataCreditStarved p tag) s = .next s)
    ∧ (x.state ≠ 3 → s.paired = false → ∃ t, exec (.dataCreditStarved p tag) s = .next t ∧ (t.image tag.val).map (fun y => y.state) = some 3
      ∧ ∀ i ∈ s.seqsOf tag.val, (s.seq i).entry.state ≠ 0 → (s.seq i).entry.partner = false → (t.seq i).entry.state = 5)

end Sys2Proof.Machine

open Sys2Proof Sys2Proof.Machine in
/-- Forester swaps and failover, and lost landings, HBM pages and data credits. -/
def Obligations.SwapsFailoverAndLosses : Prop :=
  Machine.SwapsOfForesters ∧ Machine.FailoverAndLosses

namespace Sys2Proof.Machine

/-! ## Management (R450, R457, R464, R477, R478, R488, R490) -/

/-- The module sends one management message and nothing else changes. -/
def Says (s t : State) (via : MctpVia) (bs : List Byte) : Prop := t = s.emit (.mgmt (viaCode via) bs)

end Sys2Proof.Machine

open Sys2Proof Sys2Proof.Machine in
/-- R450, R457, R490: SPDM requests are answered while Forester firmware runs, in the order of the connection's phases, and otherwise with an error; SMBus
reads show the BT registers (the message forms are the model's abbreviation, log 112). -/
def Obligations.SpdmAndSmbusAnswers : Prop :=
  (∀ (s : State) (landing : BitVec 8) (off : BitVec 16), s.service ≠ .off →
    (∀ (r : Reg) (i : Nat), (landing = 3 ∨ landing = 7) → r ∈ Block.bt.regs → i < r.count → off.toNat = r.offset + i * r.step →
      ∃ t, exec (.smbusBtRead landing off) s = .next t ∧ Says s t .smbus (bytesLE 8 (s.readKey ⟨r, landing.toNat, i, 0⟩)))
    ∧ ((∀ r ∈ Block.bt.regs, ∀ i, i < r.count → off.toNat ≠ r.offset + i * r.step) →
      ∃ t, exec (.smbusBtRead landing off) s = .next t ∧ Says s t .smbus (bytesLE 8 0))
    ∧ (landing ≠ 3 → landing ≠ 7 → ∃ t, exec (.smbusBtRead landing off) s = .next t ∧ Says s t .smbus (bytesLE 8 0)))
  ∧ ∀ (s : State) (via : MctpVia), let phase := tblGet s.spdm (viaCode via) 0
    (s.firmwareRuns = false → ∀ (flags a h : BitVec 32) (slot : BitVec 4) (o n : Nat) (nonce : BitVec 256) (index : BitVec 8) (sign : Bool),
      ∀ c ∈ [Instr.spdmGetVersion via, .spdmGetCapabilities via flags, .spdmNegotiateAlgorithms via a h, .spdmGetDigests via,
        .spdmGetCertificate via slot o n, .spdmChallenge via slot nonce, .spdmGetMeasurements via index nonce sign], exec c s = .next s)
    ∧ (s.firmwareRuns = true →
      (∃ t, exec (.spdmGetVersion via) s = .next t ∧ tblGet t.spdm (viaCode via) 0 = 1 ∧ t.out = s.out ++ [.mgmt (viaCode via) ([0x13, 0x04] ++ bytesLE 2 0x1300)]
        ∧ t = { s with spdm := t.spdm, out := t.out })
      ∧ (∀ flags, 1 ≤ phase → ∃ t, exec (.spdmGetCapabilities via flags) s = .next t ∧ tblGet t.spdm (viaCode via) 0 = 2
        ∧ t.out = s.out ++ [.mgmt (viaCode via) ([0x13, 0x61] ++ bytesLE 4 0x16)] ∧ t = { s with spdm := t.spdm, out := t.out })
      ∧ (∀ a h : BitVec 32, 2 ≤ phase →
        (bit a.toNat 3 = true → bit h.toNat 1 = true → ∃ t, exec (.spdmNegotiateAlgorithms via a h) s = .next t ∧ tblGet t.spdm (viaCode via) 0 = 3
          ∧ t = { s with spdm := t.spdm, out := t.out })
        ∧ ((bit a.toNat 3 = false ∨ bit h.toNat 1 = false) → ∃ t, exec (.spdmNegotiateAlgorithms via a h) s = .next t ∧ Says s t via [0x13, 0x7F, 1]))
      ∧ (3 ≤ phase →
        (∃ t, exec (.spdmGetDigests via) s = .next t ∧ Says s t via ([0x13, 0x01, 1] ++ digestBytes (Config.sha384 Config.certificateChain)))
        ∧ (∀ o n : Nat, o ≤ Config.certificateChain.length → ∃ t bs, exec (.spdmGetCertificate via 0 o n) s = .next t
          ∧ Says s t via ([0x13, 0x02, 0] ++ bs ++ (Config.certificateChain.drop o).take n) ∧ bs.length = 4)
        ∧ (∀ nonce, ∃ t, exec (.spdmChallenge via 0 nonce) s = .next t ∧ t.freeUses = s.freeUses + 1 ∧ t.out.length = s.out.length + 1
          ∧ t = { s with out := t.out, freeUses := t.freeUses })
        ∧ (∀ (index : BitVec 8) (nonce : BitVec 256) (sign : Bool), (index.toNat < 8 ∨ index.toNat = 0xFF) → ∃ t, exec (.spdmGetMeasurements via index nonce sign) s = .next t
          ∧ t.freeUses = s.freeUses + (if sign then 1 else 0) ∧ t.out.length = s.out.length + 1 ∧ t = { s with out := t.out, freeUses := t.freeUses })
        ∧ (∀ (slot : BitVec 4) (o n : Nat) (nonce : BitVec 256), slot ≠ 0 →
          ∀ c ∈ [Instr.spdmGetCertificate via slot o n, .spdmChallenge via slot nonce], ∃ t, exec c s = .next t ∧ Says s t via [0x13, 0x7F, 1]))
      ∧ (phase < 3 → ∀ c ∈ [Instr.spdmGetDigests via, .spdmGetCertificate via 0 0 0, .spdmChallenge via 0 0, .spdmGetMeasurements via 0 0 false],
        ∃ t, exec c s = .next t ∧ Says s t via [0x13, 0x7F, 4]))

open Sys2Proof Sys2Proof.Machine in
/-- R477, R478, R488: PLDM requests are answered from STUMP on, while no firmware runs only sensor reads; readings, the repository, the event receiver,
and the effecter of led_locate (the message forms are the model's abbreviation, log 112). -/
def Obligations.PldmAnswers : Prop :=
  ∀ (s : State) (via : MctpVia), s.service ≠ .off →
    (s.firmwareRuns = true →
      (∃ t, exec (.pldmGetTid via) s = .next t ∧ Says s t via [0, 2, 0, BitVec.ofNat 8 s.events.tid])
      ∧ (∃ t, exec (.pldmGetPldmVersion via 0) s = .next t ∧ Says s t via ([0, 3, 0] ++ bytesLE 4 0xF1F1F000))
      ∧ (∃ t, exec (.pldmGetPldmVersion via 2) s = .next t ∧ Says s t via ([0, 3, 0] ++ bytesLE 4 0xF1F2F200))
      ∧ (∀ type : BitVec 8, type ≠ 0 → type ≠ 2 → (∃ t, exec (.pldmGetPldmVersion via type) s = .next t ∧ Says s t via [0, 3, 0x83])
        ∧ ∃ t, exec (.pldmGetPldmCommands via type) s = .next t ∧ Says s t via [0, 5, 0x83])
      ∧ (∃ t, exec (.pldmGetPldmTypes via) s = .next t ∧ Says s t via ([0, 4, 0] ++ bytesLE 8 5))
      ∧ (∃ t, exec (.pldmGetPldmCommands via 0) s = .next t ∧ Says s t via ([0, 5, 0] ++ bytesLE 32 0x3C))
      ∧ (∃ t, exec (.pldmGetPldmCommands via 2) s = .next t
        ∧ Says s t via ([0, 5, 0] ++ bytesLE 32 (2 ^ 0x04 + 2 ^ 0x11 + 2 ^ 0x21 + 2 ^ 0x39 + 2 ^ 0x3A + 2 ^ 0x50 + 2 ^ 0x51)))
      ∧ (∀ address enable : BitVec 8, ∃ t, exec (.pldmSetEventReceiver via address enable) s = .next t
        ∧ t.events = { s.events with receiver := address.toNat, via := viaCode via, enabled := decide (enable ≠ 0) }
        ∧ t.out = s.out ++ [.mgmt (viaCode via) [2, 4, 0]] ∧ t = { s with events := t.events, out := t.out })
      ∧ (∃ t, exec (.pldmGetPdrRepositoryInfo via) s = .next t ∧ Says s t via ([2, 0x50, 0] ++ bytesLE 4 439))
      ∧ (∀ record : BitVec 32, (record.toNat ≤ 439 → ∃ t, exec (.pldmGetPdr via record) s = .next t ∧ Says s t via ([2, 0x51, 0] ++ pdrRecord (max 1 record.toNat)))
        ∧ (439 < record.toNat → ∃ t, exec (.pldmGetPdr via record) s = .next t ∧ Says s t via [2, 0x51, 0x82]))
      ∧ (∀ state : BitVec 8, 1 ≤ state.toNat → state.toNat ≤ 3 → ∃ t, exec (.pldmSetStateEffecterStates via 1 state) s = .next t ∧ t.events.locate = state.toNat
        ∧ t.out = s.out ++ [.pin pinLed (state.toNat - 1), .mgmt (viaCode via) [2, 0x39, 0]] ∧ t = { s with events := t.events, out := t.out })
      ∧ (∃ t, exec (.pldmGetStateEffecterStates via 1) s = .next t ∧ Says s t via [2, 0x3A, 0, 1, 0, BitVec.ofNat 8 s.events.locate])
      ∧ (∀ (effecter : BitVec 16) (state : BitVec 8), effecter ≠ 1 → (∃ t, exec (.pldmSetStateEffecterStates via effecter state) s = .next t ∧ Says s t via [2, 0x39, 0x80])
        ∧ ∃ t, exec (.pldmGetStateEffecterStates via effecter) s = .next t ∧ Says s t via [2, 0x3A, 0x80]))
    ∧ (∀ n : Nat, n < 390 →
      (∀ v, s.sensor n = some v → ∃ t, exec (.pldmGetSensorReading via (BitVec.ofNat 16 (n + 1))) s = .next t ∧ Says s t via ([2, 0x11, 0, 0] ++ bytesLE 4 (unsigned 32 v)))
      ∧ (s.sensor n = none → ∃ t, exec (.pldmGetSensorReading via (BitVec.ofNat 16 (n + 1))) s = .next t ∧ Says s t via ([2, 0x11, 0, 2] ++ bytesLE 4 0)))
    ∧ (∃ t, exec (.pldmGetSensorReading via 0x202) s = .next t ∧ Says s t via ([2, 0x11, 0, 0] ++ bytesLE 4 (unsigned 32 (s.get pwFeed_inputPower 0))))
    ∧ (∃ t, exec (.pldmGetStateSensorReadings via 0x300) s = .next t ∧ Says s t via [2, 0x21, 0, 1, 0, BitVec.ofNat 8 s.service.code])
    ∧ (∀ n : Nat, n < 42 → ∃ t, exec (.pldmGetStateSensorReadings via (BitVec.ofNat 16 (0x400 + n))) s = .next t
      ∧ Says s t via [2, 0x21, 0, 1, 0, BitVec.ofNat 8 (s.get pwStandStatus_standPower n)])
    ∧ (s.firmwareRuns = false → exec (.pldmGetTid via) s = .next s ∧ exec (.pldmGetPdrRepositoryInfo via) s = .next s)
end

