-- ==== Sys2Proof/Laws/Dispatch.lean ====
section
/-! SUPPORT. What the dispatch does with each command, so that no proof unfolds the match over all of them. -/

namespace Sys2Proof.Machine

theorem exec_registerWrite (w : RegWrite) (s : State) :
    exec (.registerWrite w) s = execRegisterWrite w s := rfl
theorem exec_deckWriteFlit (p : PortId) (x : Flit) (s : State) :
    exec (.deckWriteFlit p x) s = execDeckWriteFlit p x s := rfl
theorem exec_partialSumFlit (p : PortId) (x : Flit) (s : State) :
    exec (.partialSumFlit p x) s = execPartialSumFlit p x s := rfl
theorem exec_relayFlit (p : PortId) (x : Flit) (s : State) :
    exec (.relayFlit p x) s = execRelayFlit p x s := rfl
theorem exec_hbmReadRequest (l : Fin 8) (p : Fin 3) (x : Flit) (addr : Nat) (line : BitVec 18) (lines : Nat) (s : State) :
    exec (.hbmReadRequest l p x addr line lines) s = execHbmReadRequest l p x addr line lines s := rfl
theorem exec_hbmReadData (p : PortId) (x : Flit) (line : BitVec 18) (bytes : List Byte) (s : State) :
    exec (.hbmReadData p x line bytes) s = execHbmReadData p x line bytes s := rfl
theorem exec_hbmWrite (l : Fin 8) (p : Fin 3) (x : Flit) (addr : Nat) (bytes : List Byte) (s : State) :
    exec (.hbmWrite l p x addr bytes) s = execHbmWrite l p x addr bytes s := rfl
theorem exec_hbmReadError (page : Fin 25165824) (s : State) :
    exec (.hbmReadError page) s = execHbmReadError page s := rfl
theorem exec_flitTransmit (p : PortId) (ch : Fin 3) (s : State) :
    exec (.flitTransmit p ch) s = execFlitTransmit p ch s := rfl
theorem exec_creditReturn (p : PortId) (ch : Fin 3) (s : State) :
    exec (.creditReturn p ch) s = execCreditReturn p ch s := rfl
theorem exec_nak (p : PortId) (x : Flit) (ch : Fin 3) (failed : BitVec 8) (s : State) :
    exec (.nak p x ch failed) s = execNak p x ch failed s := rfl
theorem exec_diagnosisRequest (p : PortId) (x : Flit) (s : State) :
    exec (.diagnosisRequest p x) s = execDiagnosisRequest p x s := rfl
theorem exec_laneDiagnosisDone (p : PortId) (faulty : List (Fin 512)) (s : State) :
    exec (.laneDiagnosisDone p faulty) s = execLaneDiagnosisDone p faulty s := rfl
theorem exec_laneSpareStart (p : PortId) (lane : Fin 512) (s : State) :
    exec (.laneSpareStart p lane) s = execLaneSpareStart p lane s := rfl
theorem exec_sparingFlit (p : PortId) (lane : Fin 512) (spare : Fin 32) (s : State) :
    exec (.sparingFlit p lane spare) s = execSparingFlit p lane spare s := rfl
theorem exec_spareCompareDone (p : PortId) (mismatch : List (Fin 512)) (s : State) :
    exec (.spareCompareDone p mismatch) s = execSpareCompareDone p mismatch s := rfl
theorem exec_spareConfirm (p : PortId) (lane : Fin 512) (spare : Fin 32) (s : State) :
    exec (.spareConfirm p lane spare) s = execSpareConfirm p lane spare s := rfl
theorem exec_skSpareForce (st : Fin 42) (p : Fin 8) (v : BitVec 32) (s : State) :
    exec (.skSpareForce st p v) s = execSkSpareForce st p v s := rfl
theorem exec_skFaultInjWrite (st : Fin 42) (p : Fin 8) (v : BitVec 32) (s : State) :
    exec (.skFaultInjWrite st p v) s = execSkFaultInjWrite st p v s := rfl
theorem exec_hrWordSubmit (w : HrWord) (s : State) :
    exec (.hrWordSubmit w) s = execHrWordSubmit w s := rfl
theorem exec_hrSlotEmit (s : State) :
    exec .hrSlotEmit s = execHrSlotEmit s := rfl
theorem exec_hrWordReceive (st : Fin 42) (primary : Option HrWord) (secondary : Option HrWord) (s : State) :
    exec (.hrWordReceive st primary secondary) s = execHrWordReceive st primary secondary s := rfl
theorem exec_tallyBeacon (st : Fin 42) (tree : Fin 2) (rootTally : BitVec 64) (s : State) :
    exec (.tallyBeacon st tree rootTally) s = execTallyBeacon st tree rootTally s := rfl
theorem exec_treeSwitch (st : Fin 42) (s : State) :
    exec (.treeSwitch st) s = execTreeSwitch st s := rfl
theorem exec_bothTreesLost (st : Fin 42) (s : State) :
    exec (.bothTreesLost st) s = execBothTreesLost st s := rfl
theorem exec_hrDelayRefresh (st : Fin 42) (primary : BitVec 16) (secondary : BitVec 16) (s : State) :
    exec (.hrDelayRefresh st primary secondary) s = execHrDelayRefresh st primary secondary s := rfl
theorem exec_barrierArrival (b : Nat) (who : Participant) (xnat : Int) (s : State) :
    exec (.barrierArrival b who xnat) s = execBarrierArrival b who xnat s := rfl
theorem exec_barrierRelease (b : Nat) (who : Participant) (s : State) :
    exec (.barrierRelease b who) s = execBarrierRelease b who s := rfl
theorem exec_barrierTimeout (st : Fin 42) (b : Nat) (s : State) :
    exec (.barrierTimeout st b) s = execBarrierTimeout st b s := rfl
theorem exec_stepBeacon (st : Fin 42) (content : BitVec 448) (s : State) :
    exec (.stepBeacon st content) s = execStepBeacon st content s := rfl
theorem exec_stepTally (st : Fin 42) (s : State) :
    exec (.stepTally st) s = execStepTally st s := rfl
theorem exec_dueTally (g : GroveId) (act : Nat) (done : Bool) (s : State) :
    exec (.dueTally g act done) s = execDueTally g act done s := rfl
theorem exec_forwardMvm (g : GroveId) (env : MvmEnv) (mirror : MvmEnv) (s : State) :
    exec (.forwardMvm g env mirror) s = execForwardMvm g env mirror s := rfl
theorem exec_reverseRead (g : GroveId) (env : MvmEnv) (mirror : MvmEnv) (s : State) :
    exec (.reverseRead g env mirror) s = execReverseRead g env mirror s := rfl
theorem exec_calibrationSlot (t : TileId) (trim : BitVec 16) (s : State) :
    exec (.calibrationSlot t trim) s = execCalibrationSlot t trim s := rfl
theorem exec_tlRotateCopy (t : TileId) (v : BitVec 64) (s : State) :
    exec (.tlRotateCopy t v) s = execTlRotateCopy t v s := rfl
theorem exec_tlRotateLoad (t : TileId) (v : BitVec 64) (s : State) :
    exec (.tlRotateLoad t v) s = execTlRotateLoad t v s := rfl
theorem exec_tlRotateUpdate (t : TileId) (v : BitVec 64) (s : State) :
    exec (.tlRotateUpdate t v) s = execTlRotateUpdate t v s := rfl
theorem exec_writeSlice (t : TileId) (needed : Nat) (s : State) :
    exec (.writeSlice t needed) s = execWriteSlice t needed s := rfl
theorem exec_copyReadSlice (t : TileId) (identityHolds : Bool) (s : State) :
    exec (.copyReadSlice t identityHolds) s = execCopyReadSlice t identityHolds s := rfl
theorem exec_verifySlice (t : TileId) (pass : Bool) (s : State) :
    exec (.verifySlice t pass) s = execVerifySlice t pass s := rfl
theorem exec_swapLand (t : TileId) (s : State) :
    exec (.swapLand t) s = execSwapLand t s := rfl
theorem exec_forcedSwap (t : TileId) (env : MvmEnv) (s : State) :
    exec (.forcedSwap t env) s = execForcedSwap t env s := rfl
theorem exec_tlCruise (t : TileId) (v : BitVec 32) (s : State) :
    exec (.tlCruise t v) s = execTlCruise t v s := rfl
theorem exec_cruiseSlice (t : TileId) (found : SliceFinding) (s : State) :
    exec (.cruiseSlice t found) s = execCruiseSlice t found s := rfl
theorem exec_forcedSlice (t : TileId) (found : SliceFinding) (s : State) :
    exec (.forcedSlice t found) s = execForcedSlice t found s := rfl
theorem exec_driftClockTick (st : Fin 42) (s : State) :
    exec (.driftClockTick st) s = execDriftClockTick st s := rfl
theorem exec_earlyCruise (t : TileId) (phys : Fin 17) (cause : EarlyCause) (s : State) :
    exec (.earlyCruise t phys cause) s = execEarlyCruise t phys cause s := rfl
theorem exec_monStart (g : GroveId) (v : BitVec 32) (s : State) :
    exec (.monStart g v) s = execMonStart g v s := rfl
theorem exec_monWindowEnd (g : GroveId) (s : State) :
    exec (.monWindowEnd g) s = execMonWindowEnd g s := rfl
theorem exec_rotationDispatch (g : GroveId) (s : State) :
    exec (.rotationDispatch g) s = execRotationDispatch g s := rfl
theorem exec_remapSwitch (g : GroveId) (entry : Fin 32768) (s : State) :
    exec (.remapSwitch g entry) s = execRemapSwitch g entry s := rfl
theorem exec_standHandover (st : Fin 42) (fit : Bool) (s : State) :
    exec (.standHandover st fit) s = execStandHandover st fit s := rfl
theorem exec_driftSnapshot (s : State) :
    exec .driftSnapshot s = execDriftSnapshot s := rfl
theorem exec_scalerQuantize (g : GroveId) (s : State) :
    exec (.scalerQuantize g) s = execScalerQuantize g s := rfl
theorem exec_scaleEventAnnounce (g : GroveId) (ev : StepKey) (kind : ScaleKind) (xnat : Int) (s : State) :
    exec (.scaleEventAnnounce g ev kind xnat) s = execScaleEventAnnounce g ev kind xnat s := rfl
theorem exec_scaleEventRelease (g : GroveId) (ev : StepKey) (xmax : Int) (s : State) :
    exec (.scaleEventRelease g ev xmax) s = execScaleEventRelease g ev xmax s := rfl
theorem exec_accClear (g : GroveId) (s : State) :
    exec (.accClear g) s = execAccClear g s := rfl
theorem exec_accSend (g : GroveId) (s : State) :
    exec (.accSend g) s = execAccSend g s := rfl
theorem exec_accReceive (g : GroveId) (s : State) :
    exec (.accReceive g) s = execAccReceive g s := rfl
theorem exec_accStore (g : GroveId) (s : State) :
    exec (.accStore g) s = execAccStore g s := rfl
theorem exec_finish (g : GroveId) (s : State) :
    exec (.finish g) s = execFinish g s := rfl
theorem exec_stepReport (lead : GroveId) (rep : StepReport) (s : State) :
    exec (.stepReport lead rep) s = execStepReport lead rep s := rfl
theorem exec_commit (g : GroveId) (key : StepKey) (ctr : Fin 64) (s : State) :
    exec (.commit g key ctr) s = execCommit g key ctr s := rfl
theorem exec_commitTimeout (lead : GroveId) (key : StepKey) (s : State) :
    exec (.commitTimeout lead key) s = execCommitTimeout lead key s := rfl
theorem exec_scoreItem (g : GroveId) (engine : Fin 32) (s : State) :
    exec (.scoreItem g engine) s = execScoreItem g engine s := rfl
theorem exec_softmax (g : GroveId) (s : State) :
    exec (.softmax g) s = execSoftmax g s := rfl
theorem exec_kvAppend (g : GroveId) (s : State) :
    exec (.kvAppend g) s = execKvAppend g s := rfl
theorem exec_kvPathMove (g : GroveId) (s : State) :
    exec (.kvPathMove g) s = execKvPathMove g s := rfl
theorem exec_yarderHbmToDeck (g : GroveId) (s : State) :
    exec (.yarderHbmToDeck g) s = execYarderHbmToDeck g s := rfl
theorem exec_yarderDeckToHbm (g : GroveId) (s : State) :
    exec (.yarderDeckToHbm g) s = execYarderDeckToHbm g s := rfl
theorem exec_yarderDeckToDeck (g : GroveId) (s : State) :
    exec (.yarderDeckToDeck g) s = execYarderDeckToDeck g s := rfl
theorem exec_kvGather (g : GroveId) (s : State) :
    exec (.kvGather g) s = execKvGather g s := rfl
theorem exec_indexGather (g : GroveId) (s : State) :
    exec (.indexGather g) s = execIndexGather g s := rfl
theorem exec_deckFill (g : GroveId) (s : State) :
    exec (.deckFill g) s = execDeckFill g s := rfl
theorem exec_deckCopy (g : GroveId) (s : State) :
    exec (.deckCopy g) s = execDeckCopy g s := rfl
theorem exec_taskTake (f : FellerId) (s : State) :
    exec (.taskTake f) s = execTaskTake f s := rfl
theorem exec_taskSteal (f : FellerId) (s : State) :
    exec (.taskSteal f) s = execTaskSteal f s := rfl
theorem exec_scoreItemSteal (g : GroveId) (engine : Fin 32) (s : State) :
    exec (.scoreItemSteal g engine) s = execScoreItemSteal g engine s := rfl
theorem exec_fellerAdd (f : FellerId) (sd : Fin 32) (sa : Fin 32) (sb : Fin 32) (s : State) :
    exec (.fellerAdd f sd sa sb) s = execFellerAdd f sd sa sb s := rfl
theorem exec_fellerSub (f : FellerId) (sd : Fin 32) (sa : Fin 32) (sb : Fin 32) (s : State) :
    exec (.fellerSub f sd sa sb) s = execFellerSub f sd sa sb s := rfl
theorem exec_fellerAnd (f : FellerId) (sd : Fin 32) (sa : Fin 32) (sb : Fin 32) (s : State) :
    exec (.fellerAnd f sd sa sb) s = execFellerAnd f sd sa sb s := rfl
theorem exec_fellerOr (f : FellerId) (sd : Fin 32) (sa : Fin 32) (sb : Fin 32) (s : State) :
    exec (.fellerOr f sd sa sb) s = execFellerOr f sd sa sb s := rfl
theorem exec_fellerXor (f : FellerId) (sd : Fin 32) (sa : Fin 32) (sb : Fin 32) (s : State) :
    exec (.fellerXor f sd sa sb) s = execFellerXor f sd sa sb s := rfl
theorem exec_fellerShl (f : FellerId) (sd : Fin 32) (sa : Fin 32) (sb : Fin 32) (s : State) :
    exec (.fellerShl f sd sa sb) s = execFellerShl f sd sa sb s := rfl
theorem exec_fellerShr (f : FellerId) (sd : Fin 32) (sa : Fin 32) (sb : Fin 32) (s : State) :
    exec (.fellerShr f sd sa sb) s = execFellerShr f sd sa sb s := rfl
theorem exec_fellerSra (f : FellerId) (sd : Fin 32) (sa : Fin 32) (sb : Fin 32) (s : State) :
    exec (.fellerSra f sd sa sb) s = execFellerSra f sd sa sb s := rfl
theorem exec_fellerMul (f : FellerId) (sd : Fin 32) (sa : Fin 32) (sb : Fin 32) (s : State) :
    exec (.fellerMul f sd sa sb) s = execFellerMul f sd sa sb s := rfl
theorem exec_fellerMulh (f : FellerId) (sd : Fin 32) (sa : Fin 32) (sb : Fin 32) (s : State) :
    exec (.fellerMulh f sd sa sb) s = execFellerMulh f sd sa sb s := rfl
theorem exec_fellerMin (f : FellerId) (sd : Fin 32) (sa : Fin 32) (sb : Fin 32) (s : State) :
    exec (.fellerMin f sd sa sb) s = execFellerMin f sd sa sb s := rfl
theorem exec_fellerMax (f : FellerId) (sd : Fin 32) (sa : Fin 32) (sb : Fin 32) (s : State) :
    exec (.fellerMax f sd sa sb) s = execFellerMax f sd sa sb s := rfl
theorem exec_fellerMinu (f : FellerId) (sd : Fin 32) (sa : Fin 32) (sb : Fin 32) (s : State) :
    exec (.fellerMinu f sd sa sb) s = execFellerMinu f sd sa sb s := rfl
theorem exec_fellerMaxu (f : FellerId) (sd : Fin 32) (sa : Fin 32) (sb : Fin 32) (s : State) :
    exec (.fellerMaxu f sd sa sb) s = execFellerMaxu f sd sa sb s := rfl
theorem exec_fellerSlt (f : FellerId) (sd : Fin 32) (sa : Fin 32) (sb : Fin 32) (s : State) :
    exec (.fellerSlt f sd sa sb) s = execFellerSlt f sd sa sb s := rfl
theorem exec_fellerSltu (f : FellerId) (sd : Fin 32) (sa : Fin 32) (sb : Fin 32) (s : State) :
    exec (.fellerSltu f sd sa sb) s = execFellerSltu f sd sa sb s := rfl
theorem exec_fellerAddi (f : FellerId) (sd : Fin 32) (sa : Fin 32) (imm : BitVec 16) (s : State) :
    exec (.fellerAddi f sd sa imm) s = execFellerAddi f sd sa imm s := rfl
theorem exec_fellerAndi (f : FellerId) (sd : Fin 32) (sa : Fin 32) (imm : BitVec 16) (s : State) :
    exec (.fellerAndi f sd sa imm) s = execFellerAndi f sd sa imm s := rfl
theorem exec_fellerOri (f : FellerId) (sd : Fin 32) (sa : Fin 32) (imm : BitVec 16) (s : State) :
    exec (.fellerOri f sd sa imm) s = execFellerOri f sd sa imm s := rfl
theorem exec_fellerXori (f : FellerId) (sd : Fin 32) (sa : Fin 32) (imm : BitVec 16) (s : State) :
    exec (.fellerXori f sd sa imm) s = execFellerXori f sd sa imm s := rfl
theorem exec_fellerLui (f : FellerId) (sd : Fin 32) (imm : BitVec 16) (s : State) :
    exec (.fellerLui f sd imm) s = execFellerLui f sd imm s := rfl
theorem exec_fellerSlti (f : FellerId) (sd : Fin 32) (sa : Fin 32) (imm : BitVec 16) (s : State) :
    exec (.fellerSlti f sd sa imm) s = execFellerSlti f sd sa imm s := rfl
theorem exec_fellerLdB (f : FellerId) (sd : Fin 32) (sa : Fin 32) (imm : BitVec 16) (s : State) :
    exec (.fellerLdB f sd sa imm) s = execFellerLdB f sd sa imm s := rfl
theorem exec_fellerLdH (f : FellerId) (sd : Fin 32) (sa : Fin 32) (imm : BitVec 16) (s : State) :
    exec (.fellerLdH f sd sa imm) s = execFellerLdH f sd sa imm s := rfl
theorem exec_fellerLdW (f : FellerId) (sd : Fin 32) (sa : Fin 32) (imm : BitVec 16) (s : State) :
    exec (.fellerLdW f sd sa imm) s = execFellerLdW f sd sa imm s := rfl
theorem exec_fellerLdD (f : FellerId) (sd : Fin 32) (sa : Fin 32) (imm : BitVec 16) (s : State) :
    exec (.fellerLdD f sd sa imm) s = execFellerLdD f sd sa imm s := rfl
theorem exec_fellerStB (f : FellerId) (sd : Fin 32) (sa : Fin 32) (imm : BitVec 16) (s : State) :
    exec (.fellerStB f sd sa imm) s = execFellerStB f sd sa imm s := rfl
theorem exec_fellerStH (f : FellerId) (sd : Fin 32) (sa : Fin 32) (imm : BitVec 16) (s : State) :
    exec (.fellerStH f sd sa imm) s = execFellerStH f sd sa imm s := rfl
theorem exec_fellerStW (f : FellerId) (sd : Fin 32) (sa : Fin 32) (imm : BitVec 16) (s : State) :
    exec (.fellerStW f sd sa imm) s = execFellerStW f sd sa imm s := rfl
theorem exec_fellerStD (f : FellerId) (sd : Fin 32) (sa : Fin 32) (imm : BitVec 16) (s : State) :
    exec (.fellerStD f sd sa imm) s = execFellerStD f sd sa imm s := rfl
theorem exec_fellerBeq (f : FellerId) (sa : Fin 32) (sb : Fin 32) (off : BitVec 16) (s : State) :
    exec (.fellerBeq f sa sb off) s = execFellerBeq f sa sb off s := rfl
theorem exec_fellerBne (f : FellerId) (sa : Fin 32) (sb : Fin 32) (off : BitVec 16) (s : State) :
    exec (.fellerBne f sa sb off) s = execFellerBne f sa sb off s := rfl
theorem exec_fellerBlt (f : FellerId) (sa : Fin 32) (sb : Fin 32) (off : BitVec 16) (s : State) :
    exec (.fellerBlt f sa sb off) s = execFellerBlt f sa sb off s := rfl
theorem exec_fellerBltu (f : FellerId) (sa : Fin 32) (sb : Fin 32) (off : BitVec 16) (s : State) :
    exec (.fellerBltu f sa sb off) s = execFellerBltu f sa sb off s := rfl
theorem exec_fellerJal (f : FellerId) (off : BitVec 26) (s : State) :
    exec (.fellerJal f off) s = execFellerJal f off s := rfl
theorem exec_fellerJr (f : FellerId) (sa : Fin 32) (s : State) :
    exec (.fellerJr f sa) s = execFellerJr f sa s := rfl
theorem exec_vecAdd (f : FellerId) (vd : Fin 16) (va : Fin 16) (vb : Fin 16) (mask : Fin 4) (ty : LaneType) (s : State) :
    exec (.vecAdd f vd va vb mask ty) s = execVecAdd f vd va vb mask ty s := rfl
theorem exec_vecSub (f : FellerId) (vd : Fin 16) (va : Fin 16) (vb : Fin 16) (mask : Fin 4) (ty : LaneType) (s : State) :
    exec (.vecSub f vd va vb mask ty) s = execVecSub f vd va vb mask ty s := rfl
theorem exec_vecMul (f : FellerId) (vd : Fin 16) (va : Fin 16) (vb : Fin 16) (mask : Fin 4) (ty : LaneType) (s : State) :
    exec (.vecMul f vd va vb mask ty) s = execVecMul f vd va vb mask ty s := rfl
theorem exec_vecFma (f : FellerId) (vd : Fin 16) (va : Fin 16) (vb : Fin 16) (mask : Fin 4) (ty : LaneType) (s : State) :
    exec (.vecFma f vd va vb mask ty) s = execVecFma f vd va vb mask ty s := rfl
theorem exec_vecMin (f : FellerId) (vd : Fin 16) (va : Fin 16) (vb : Fin 16) (mask : Fin 4) (ty : LaneType) (s : State) :
    exec (.vecMin f vd va vb mask ty) s = execVecMin f vd va vb mask ty s := rfl
theorem exec_vecMax (f : FellerId) (vd : Fin 16) (va : Fin 16) (vb : Fin 16) (mask : Fin 4) (ty : LaneType) (s : State) :
    exec (.vecMax f vd va vb mask ty) s = execVecMax f vd va vb mask ty s := rfl
theorem exec_vecAbs (f : FellerId) (vd : Fin 16) (va : Fin 16) (mask : Fin 4) (ty : LaneType) (s : State) :
    exec (.vecAbs f vd va mask ty) s = execVecAbs f vd va mask ty s := rfl
theorem exec_vecNeg (f : FellerId) (vd : Fin 16) (va : Fin 16) (mask : Fin 4) (ty : LaneType) (s : State) :
    exec (.vecNeg f vd va mask ty) s = execVecNeg f vd va mask ty s := rfl
theorem exec_vecCmpEq (f : FellerId) (md : Fin 4) (va : Fin 16) (vb : Fin 16) (mask : Fin 4) (ty : LaneType) (s : State) :
    exec (.vecCmpEq f md va vb mask ty) s = execVecCmpEq f md va vb mask ty s := rfl
theorem exec_vecCmpLt (f : FellerId) (md : Fin 4) (va : Fin 16) (vb : Fin 16) (mask : Fin 4) (ty : LaneType) (s : State) :
    exec (.vecCmpLt f md va vb mask ty) s = execVecCmpLt f md va vb mask ty s := rfl
theorem exec_vecCmpLe (f : FellerId) (md : Fin 4) (va : Fin 16) (vb : Fin 16) (mask : Fin 4) (ty : LaneType) (s : State) :
    exec (.vecCmpLe f md va vb mask ty) s = execVecCmpLe f md va vb mask ty s := rfl
theorem exec_vecSelect (f : FellerId) (vd : Fin 16) (va : Fin 16) (vb : Fin 16) (mask : Fin 4) (ty : LaneType) (s : State) :
    exec (.vecSelect f vd va vb mask ty) s = execVecSelect f vd va vb mask ty s := rfl
theorem exec_vecAnd (f : FellerId) (vd : Fin 16) (va : Fin 16) (vb : Fin 16) (mask : Fin 4) (ty : LaneType) (s : State) :
    exec (.vecAnd f vd va vb mask ty) s = execVecAnd f vd va vb mask ty s := rfl
theorem exec_vecOr (f : FellerId) (vd : Fin 16) (va : Fin 16) (vb : Fin 16) (mask : Fin 4) (ty : LaneType) (s : State) :
    exec (.vecOr f vd va vb mask ty) s = execVecOr f vd va vb mask ty s := rfl
theorem exec_vecXor (f : FellerId) (vd : Fin 16) (va : Fin 16) (vb : Fin 16) (mask : Fin 4) (ty : LaneType) (s : State) :
    exec (.vecXor f vd va vb mask ty) s = execVecXor f vd va vb mask ty s := rfl
theorem exec_vecShl (f : FellerId) (vd : Fin 16) (va : Fin 16) (vb : Fin 16) (mask : Fin 4) (ty : LaneType) (s : State) :
    exec (.vecShl f vd va vb mask ty) s = execVecShl f vd va vb mask ty s := rfl
theorem exec_vecShr (f : FellerId) (vd : Fin 16) (va : Fin 16) (vb : Fin 16) (mask : Fin 4) (ty : LaneType) (s : State) :
    exec (.vecShr f vd va vb mask ty) s = execVecShr f vd va vb mask ty s := rfl
theorem exec_vecSra (f : FellerId) (vd : Fin 16) (va : Fin 16) (vb : Fin 16) (mask : Fin 4) (ty : LaneType) (s : State) :
    exec (.vecSra f vd va vb mask ty) s = execVecSra f vd va vb mask ty s := rfl
theorem exec_vecSum (f : FellerId) (sd : Fin 32) (va : Fin 16) (mask : Fin 4) (ty : LaneType) (s : State) :
    exec (.vecSum f sd va mask ty) s = execVecSum f sd va mask ty s := rfl
theorem exec_vecReduceMax (f : FellerId) (sd : Fin 32) (va : Fin 16) (mask : Fin 4) (ty : LaneType) (s : State) :
    exec (.vecReduceMax f sd va mask ty) s = execVecReduceMax f sd va mask ty s := rfl
theorem exec_vecReduceMin (f : FellerId) (sd : Fin 32) (va : Fin 16) (mask : Fin 4) (ty : LaneType) (s : State) :
    exec (.vecReduceMin f sd va mask ty) s = execVecReduceMin f sd va mask ty s := rfl
theorem exec_vbcast (f : FellerId) (sd : Fin 32) (va : Fin 16) (mask : Fin 4) (ty : LaneType) (s : State) :
    exec (.vbcast f sd va mask ty) s = execVbcast f sd va mask ty s := rfl
theorem exec_vld (f : FellerId) (vd : Fin 16) (sa : Fin 32) (sb : Fin 32) (ty : LaneType) (s : State) :
    exec (.vld f vd sa sb ty) s = execVld f vd sa sb ty s := rfl
theorem exec_vst (f : FellerId) (vd : Fin 16) (sa : Fin 32) (sb : Fin 32) (ty : LaneType) (s : State) :
    exec (.vst f vd sa sb ty) s = execVst f vd sa sb ty s := rfl
theorem exec_vecConvert (f : FellerId) (vd : Fin 16) (va : Fin 16) (mask : Fin 4) (ty : LaneType) (dst : LaneType) (s : State) :
    exec (.vecConvert f vd va mask ty dst) s = execVecConvert f vd va mask ty dst s := rfl
theorem exec_vecUnpackMx (f : FellerId) (vd : Fin 16) (va : Fin 16) (mask : Fin 4) (fmt : Fin 6) (s : State) :
    exec (.vecUnpackMx f vd va mask fmt) s = execVecUnpackMx f vd va mask fmt s := rfl
theorem exec_vecPackMx (f : FellerId) (vd : Fin 16) (va : Fin 16) (mask : Fin 4) (ty : LaneType) (fmt : Fin 6) (s : State) :
    exec (.vecPackMx f vd va mask ty fmt) s = execVecPackMx f vd va mask ty fmt s := rfl
theorem exec_issue (f : FellerId) (sa : Fin 32) (sb : Fin 32) (s : State) :
    exec (.issue f sa sb) s = execIssue f sa sb s := rfl
theorem exec_issueStallRelease (f : FellerId) (s : State) :
    exec (.issueStallRelease f) s = execIssueStallRelease f s := rfl
theorem exec_ctrWait (f : FellerId) (sa : Fin 32) (ctr : Fin 64) (s : State) :
    exec (.ctrWait f sa ctr) s = execCtrWait f sa ctr s := rfl
theorem exec_ctrWaitRelease (w : Waiter) (s : State) :
    exec (.ctrWaitRelease w) s = execCtrWaitRelease w s := rfl
theorem exec_ctrAdd (f : FellerId) (ctr : Fin 64) (imm : BitVec 10) (s : State) :
    exec (.ctrAdd f ctr imm) s = execCtrAdd f ctr imm s := rfl
theorem exec_ctrRead (f : FellerId) (sa : Fin 32) (ctr : Fin 64) (s : State) :
    exec (.ctrRead f sa ctr) s = execCtrRead f sa ctr s := rfl
theorem exec_fence (f : FellerId) (s : State) :
    exec (.fence f) s = execFence f s := rfl
theorem exec_taskPush (f : FellerId) (sa : Fin 32) (s : State) :
    exec (.taskPush f sa) s = execTaskPush f sa s := rfl
theorem exec_taskEnd (f : FellerId) (s : State) :
    exec (.taskEnd f) s = execTaskEnd f s := rfl
theorem exec_fellerHalt (f : FellerId) (s : State) :
    exec (.fellerHalt f) s = execFellerHalt f s := rfl
theorem exec_fellerTrap (f : FellerId) (s : State) :
    exec (.fellerTrap f) s = execFellerTrap f s := rfl
theorem exec_csrRead (f : FellerId) (sd : Fin 32) (csr : Fin 32) (s : State) :
    exec (.csrRead f sd csr) s = execCsrRead f sd csr s := rfl
theorem exec_csrWrite (f : FellerId) (sa : Fin 32) (csr : Fin 32) (s : State) :
    exec (.csrWrite f sa csr) s = execCsrWrite f sa csr s := rfl
theorem exec_fellerNop (f : FellerId) (s : State) :
    exec (.fellerNop f) s = execFellerNop f s := rfl
theorem exec_illegalInstruction (f : FellerId) (word : BitVec 32) (s : State) :
    exec (.illegalInstruction f word) s = execIllegalInstruction f word s := rfl
theorem exec_activityStartAfterThin (st : Fin 42) (s : State) :
    exec (.activityStartAfterThin st) s = execActivityStartAfterThin st s := rfl
theorem exec_bandEvaluation (b : Fin 7) (s : State) :
    exec (.bandEvaluation b) s = execBandEvaluation b s := rfl
theorem exec_moduleEvaluation (s : State) :
    exec .moduleEvaluation s = execModuleEvaluation s := rfl
theorem exec_standDark (st : Fin 42) (cause : DarkCause) (s : State) :
    exec (.standDark st cause) s = execStandDark st cause s := rfl
theorem exec_replacementRelease (tag : Fin 256) (s : State) :
    exec (.replacementRelease tag) s = execReplacementRelease tag s := rfl
theorem exec_planReturn (st : Fin 42) (s : State) :
    exec (.planReturn st) s = execPlanReturn st s := rfl
theorem exec_ptpSync (l : Fin 8) (m : PtpSync) (s : State) :
    exec (.ptpSync l m) s = execPtpSync l m s := rfl
theorem exec_ptpFollowUp (l : Fin 8) (seqId : BitVec 16) (origin : BitVec 64) (s : State) :
    exec (.ptpFollowUp l seqId origin) s = execPtpFollowUp l seqId origin s := rfl
theorem exec_ptpDelayResp (l : Fin 8) (seqId : BitVec 16) (receive : BitVec 64) (s : State) :
    exec (.ptpDelayResp l seqId receive) s = execPtpDelayResp l seqId receive s := rfl
theorem exec_ptpAnnounce (l : Fin 8) (domain : BitVec 8) (s : State) :
    exec (.ptpAnnounce l domain) s = execPtpAnnounce l domain s := rfl
theorem exec_ptpBackupSwitch (s : State) :
    exec .ptpBackupSwitch s = execPtpBackupSwitch s := rfl
theorem exec_ptpLoss (s : State) :
    exec .ptpLoss s = execPtpLoss s := rfl
theorem exec_layer0Entry (n : Fin 32768) (g : GroveId) (ctr : Fin 64) (s : State) :
    exec (.layer0Entry n g ctr) s = execLayer0Entry n g ctr s := rfl
theorem exec_mapAhead (n : Fin 32768) (s : State) :
    exec (.mapAhead n) s = execMapAhead n s := rfl
theorem exec_pageWaitResume (n : Fin 32768) (s : State) :
    exec (.pageWaitResume n) s = execPageWaitResume n s := rfl
theorem exec_pageWaitTimeout (n : Fin 32768) (s : State) :
    exec (.pageWaitTimeout n) s = execPageWaitTimeout n s := rfl
theorem exec_pageMove (n : Fin 32768) (page : Nat) (toDeck : Bool) (s : State) :
    exec (.pageMove n page toDeck) s = execPageMove n page toDeck s := rfl
theorem exec_pageFree (n : Fin 32768) (page : Nat) (s : State) :
    exec (.pageFree n page) s = execPageFree n page s := rfl
theorem exec_tokenCommit (n : Fin 32768) (out : HeadOutput) (s : State) :
    exec (.tokenCommit n out) s = execTokenCommit n out s := rfl
theorem exec_prefillChunkCommit (n : Fin 32768) (s : State) :
    exec (.prefillChunkCommit n) s = execPrefillChunkCommit n s := rfl
theorem exec_variantLoad (tag : Fin 256) (variant : Fin 65536) (s : State) :
    exec (.variantLoad tag variant) s = execVariantLoad tag variant s := rfl
theorem exec_genHandover (tag : Fin 256) (variant : Fin 65536) (s : State) :
    exec (.genHandover tag variant) s = execGenHandover tag variant s := rfl
theorem exec_masterWeightUpdate (tag : Fin 256) (variant : Fin 65536) (grads : List MasterGrad) (s : State) :
    exec (.masterWeightUpdate tag variant grads) s = execMasterWeightUpdate tag variant grads s := rfl
theorem exec_resumeSequence (n : Fin 32768) (s : State) :
    exec (.resumeSequence n) s = execResumeSequence n s := rfl
theorem exec_suspendLimit (n : Fin 32768) (s : State) :
    exec (.suspendLimit n) s = execSuspendLimit n s := rfl
theorem exec_suspensionLand (n : Fin 32768) (s : State) :
    exec (.suspensionLand n) s = execSuspensionLand n s := rfl
theorem exec_fellingWordReceive (st : Fin 42) (content : BitVec 448) (s : State) :
    exec (.fellingWordReceive st content) s = execFellingWordReceive st content s := rfl
theorem exec_fellingAckSend (st : Fin 42) (id : FellId) (s : State) :
    exec (.fellingAckSend st id) s = execFellingAckSend st id s := rfl
theorem exec_fellingAckFlit (at_ : PortId) (x : Flit) (id : FellId) (fromStand : Fin 42) (s : State) :
    exec (.fellingAckFlit at_ x id fromStand) s = execFellingAckFlit at_ x id fromStand s := rfl
theorem exec_fellTimeout (id : FellId) (s : State) :
    exec (.fellTimeout id) s = execFellTimeout id s := rfl
theorem exec_reuseGuardExpiry (n : Fin 32768) (s : State) :
    exec (.reuseGuardExpiry n) s = execReuseGuardExpiry n s := rfl
theorem exec_mbPost (f : Fin 256) (v : BitVec 32) (s : State) :
    exec (.mbPost f v) s = execMbPost f v s := rfl
theorem exec_mbAbort (f : Fin 256) (s : State) :
    exec (.mbAbort f) s = execMbAbort f s := rfl
theorem exec_mailboxTake (f : Fin 256) (s : State) :
    exec (.mailboxTake f) s = execMailboxTake f s := rfl
theorem exec_responseReady (f : Fin 256) (s : State) :
    exec (.responseReady f) s = execResponseReady f s := rfl
theorem exec_msixHoldoffEnd (f : Fin 256) (vec : Fin 16) (s : State) :
    exec (.msixHoldoffEnd f vec) s = execMsixHoldoffEnd f vec s := rfl
theorem exec_msixUnmask (f : Fin 256) (vec : Fin 16) (s : State) :
    exec (.msixUnmask f vec) s = execMsixUnmask f vec s := rfl
theorem exec_functionReset (f : Fin 256) (s : State) :
    exec (.functionReset f) s = execFunctionReset f s := rfl
theorem exec_pcieReset (port : Fin 4) (s : State) :
    exec (.pcieReset port) s = execPcieReset port s := rfl
theorem exec_vfEnable (port : Fin 4) (numVfs : Fin 64) (s : State) :
    exec (.vfEnable port numVfs) s = execVfEnable port numVfs s := rfl
theorem exec_d3hotEntry (f : Fin 256) (s : State) :
    exec (.d3hotEntry f) s = execD3hotEntry f s := rfl
theorem exec_bar2RequestWrite (f : Fin 256) (offset : Fin 8192) (bytes : List Byte) (s : State) :
    exec (.bar2RequestWrite f offset bytes) s = execBar2RequestWrite f offset bytes s := rfl
theorem exec_devGetInfo (f : Fin 256) (s : State) :
    exec (.devGetInfo f) s = execDevGetInfo f s := rfl
theorem exec_devSetOffHistory (f : Fin 256) (s : State) :
    exec (.devSetOffHistory f) s = execDevSetOffHistory f s := rfl
theorem exec_devSetDetMode (f : Fin 256) (s : State) :
    exec (.devSetDetMode f) s = execDevSetDetMode f s := rfl
theorem exec_devSetState (f : Fin 256) (s : State) :
    exec (.devSetState f) s = execDevSetState f s := rfl
theorem exec_drainDeadline (s : State) :
    exec .drainDeadline s = execDrainDeadline s := rfl
theorem exec_devGetOperation (f : Fin 256) (s : State) :
    exec (.devGetOperation f) s = execDevGetOperation f s := rfl
theorem exec_devAbortOperation (f : Fin 256) (s : State) :
    exec (.devAbortOperation f) s = execDevAbortOperation f s := rfl
theorem exec_operationRecordExpiry (op : Nat) (s : State) :
    exec (.operationRecordExpiry op) s = execOperationRecordExpiry op s := rfl
theorem exec_tenGetInfo (f : Fin 256) (s : State) :
    exec (.tenGetInfo f) s = execTenGetInfo f s := rfl
theorem exec_tenSetQuota (f : Fin 256) (s : State) :
    exec (.tenSetQuota f) s = execTenSetQuota f s := rfl
theorem exec_tenSetKey (f : Fin 256) (s : State) :
    exec (.tenSetKey f) s = execTenSetKey f s := rfl
theorem exec_tenSetAdapt (f : Fin 256) (s : State) :
    exec (.tenSetAdapt f) s = execTenSetAdapt f s := rfl
theorem exec_tenShed (f : Fin 256) (s : State) :
    exec (.tenShed f) s = execTenShed f s := rfl
theorem exec_imgStageOpen (f : Fin 256) (s : State) :
    exec (.imgStageOpen f) s = execImgStageOpen f s := rfl
theorem exec_imgStageWrite (f : Fin 256) (host : HostData) (s : State) :
    exec (.imgStageWrite f host) s = execImgStageWrite f host s := rfl
theorem exec_imgLoad (f : Fin 256) (img : ImageFile) (s : State) :
    exec (.imgLoad f img) s = execImgLoad f img s := rfl
theorem exec_imageCleared (tag : Fin 256) (s : State) :
    exec (.imageCleared tag) s = execImageCleared tag s := rfl
theorem exec_imgUnload (f : Fin 256) (s : State) :
    exec (.imgUnload f) s = execImgUnload f s := rfl
theorem exec_imgGet (f : Fin 256) (s : State) :
    exec (.imgGet f) s = execImgGet f s := rfl
theorem exec_imgSetGolden (f : Fin 256) (s : State) :
    exec (.imgSetGolden f) s = execImgSetGolden f s := rfl
theorem exec_varStage (f : Fin 256) (tiers : List VariantTier) (s : State) :
    exec (.varStage f tiers) s = execVarStage f tiers s := rfl
theorem exec_varEvict (f : Fin 256) (s : State) :
    exec (.varEvict f) s = execVarEvict f s := rfl
theorem exec_seqOpen (f : Fin 256) (s : State) :
    exec (.seqOpen f) s = execSeqOpen f s := rfl
theorem exec_seqFell (f : Fin 256) (s : State) :
    exec (.seqFell f) s = execSeqFell f s := rfl
theorem exec_seqSuspend (f : Fin 256) (s : State) :
    exec (.seqSuspend f) s = execSeqSuspend f s := rfl
theorem exec_seqResume (f : Fin 256) (s : State) :
    exec (.seqResume f) s = execSeqResume f s := rfl
theorem exec_seqClose (f : Fin 256) (s : State) :
    exec (.seqClose f) s = execSeqClose f s := rfl
theorem exec_seqGet (f : Fin 256) (s : State) :
    exec (.seqGet f) s = execSeqGet f s := rfl
theorem exec_seqList (f : Fin 256) (s : State) :
    exec (.seqList f) s = execSeqList f s := rfl
theorem exec_polSetClass (f : Fin 256) (s : State) :
    exec (.polSetClass f) s = execPolSetClass f s := rfl
theorem exec_polGetClass (f : Fin 256) (s : State) :
    exec (.polGetClass f) s = execPolGetClass f s := rfl
theorem exec_polSetLanding (f : Fin 256) (s : State) :
    exec (.polSetLanding f) s = execPolSetLanding f s := rfl
theorem exec_polSetGrove (f : Fin 256) (s : State) :
    exec (.polSetGrove f) s = execPolSetGrove f s := rfl
theorem exec_telReadReg (f : Fin 256) (s : State) :
    exec (.telReadReg f) s = execTelReadReg f s := rfl
theorem exec_telGetHealth (f : Fin 256) (s : State) :
    exec (.telGetHealth f) s = execTelGetHealth f s := rfl
theorem exec_telReadViolLog (f : Fin 256) (s : State) :
    exec (.telReadViolLog f) s = execTelReadViolLog f s := rfl
theorem exec_telCopyJournal (f : Fin 256) (s : State) :
    exec (.telCopyJournal f) s = execTelCopyJournal f s := rfl
theorem exec_twinPair (f : Fin 256) (s : State) :
    exec (.twinPair f) s = execTwinPair f s := rfl
theorem exec_twinPairTimeout (s : State) :
    exec .twinPairTimeout s = execTwinPairTimeout s := rfl
theorem exec_twinUnpair (f : Fin 256) (s : State) :
    exec (.twinUnpair f) s = execTwinUnpair f s := rfl
theorem exec_twinGet (f : Fin 256) (s : State) :
    exec (.twinGet f) s = execTwinGet f s := rfl
theorem exec_twinReplace (f : Fin 256) (s : State) :
    exec (.twinReplace f) s = execTwinReplace f s := rfl
theorem exec_pwrGet (f : Fin 256) (s : State) :
    exec (.pwrGet f) s = execPwrGet f s := rfl
theorem exec_pwrSetLimit (f : Fin 256) (s : State) :
    exec (.pwrSetLimit f) s = execPwrSetLimit f s := rfl
theorem exec_thmRead (f : Fin 256) (s : State) :
    exec (.thmRead f) s = execThmRead f s := rfl
theorem exec_pwrStandService (f : Fin 256) (s : State) :
    exec (.pwrStandService f) s = execPwrStandService f s := rfl
theorem exec_fwStage (f : Fin 256) (host : HostRecord) (s : State) :
    exec (.fwStage f host) s = execFwStage f host s := rfl
theorem exec_fwSwap (f : Fin 256) (s : State) :
    exec (.fwSwap f) s = execFwSwap f s := rfl
theorem exec_fwGetVersions (f : Fin 256) (s : State) :
    exec (.fwGetVersions f) s = execFwGetVersions f s := rfl
theorem exec_attGetReport (f : Fin 256) (busOk : Bool) (s : State) :
    exec (.attGetReport f busOk) s = execAttGetReport f busOk s := rfl
theorem exec_attGetIdentity (f : Fin 256) (busOk : Bool) (s : State) :
    exec (.attGetIdentity f busOk) s = execAttGetIdentity f busOk s := rfl
theorem exec_tstLinkInject (f : Fin 256) (s : State) :
    exec (.tstLinkInject f) s = execTstLinkInject f s := rfl
theorem exec_tstTwinInject (f : Fin 256) (s : State) :
    exec (.tstTwinInject f) s = execTstTwinInject f s := rfl
theorem exec_tstInjectClear (f : Fin 256) (s : State) :
    exec (.tstInjectClear f) s = execTstInjectClear f s := rfl
theorem exec_tstSpareForce (f : Fin 256) (s : State) :
    exec (.tstSpareForce f) s = execTstSpareForce f s := rfl
theorem exec_tstCruise (f : Fin 256) (found : List SliceFinding) (s : State) :
    exec (.tstCruise f found) s = execTstCruise f found s := rfl
theorem exec_pttOpen (l : Fin 8) (x : PttFrame) (s : State) :
    exec (.pttOpen l x) s = execPttOpen l x s := rfl
theorem exec_pttPrompt (l : Fin 8) (x : PttFrame) (s : State) :
    exec (.pttPrompt l x) s = execPttPrompt l x s := rfl
theorem exec_pttEmbed (l : Fin 8) (x : PttFrame) (s : State) :
    exec (.pttEmbed l x) s = execPttEmbed l x s := rfl
theorem exec_pttTarget (l : Fin 8) (x : PttFrame) (s : State) :
    exec (.pttTarget l x) s = execPttTarget l x s := rfl
theorem exec_pttFell (l : Fin 8) (x : PttFrame) (s : State) :
    exec (.pttFell l x) s = execPttFell l x s := rfl
theorem exec_pttShed (l : Fin 8) (x : PttFrame) (s : State) :
    exec (.pttShed l x) s = execPttShed l x s := rfl
theorem exec_pttResend (l : Fin 8) (x : PttFrame) (s : State) :
    exec (.pttResend l x) s = execPttResend l x s := rfl
theorem exec_promptWaitExpiry (n : Fin 32768) (s : State) :
    exec (.promptWaitExpiry n) s = execPromptWaitExpiry n s := rfl
theorem exec_takeoverRepeat (n : Fin 32768) (s : State) :
    exec (.takeoverRepeat n) s = execTakeoverRepeat n s := rfl
theorem exec_arpRequest (l : Fin 8) (target : BitVec 32) (sender : BitVec 48) (s : State) :
    exec (.arpRequest l target sender) s = execArpRequest l target sender s := rfl
theorem exec_neighborSolicitation (l : Fin 8) (target : BitVec 128) (sender : BitVec 48) (s : State) :
    exec (.neighborSolicitation l target sender) s = execNeighborSolicitation l target sender s := rfl
theorem exec_icmpEcho (l : Fin 8) (dst : BitVec 128) (v6 : Bool) (sender : BitVec 48) (data : List Byte) (s : State) :
    exec (.icmpEcho l dst v6 sender data) s = execIcmpEcho l dst v6 sender data s := rfl
theorem exec_unclassifiedFrame (l : Fin 8) (fr : RawFrame) (s : State) :
    exec (.unclassifiedFrame l fr) s = execUnclassifiedFrame l fr s := rfl
theorem exec_epLinkDown (l : Fin 8) (s : State) :
    exec (.epLinkDown l) s = execEpLinkDown l s := rfl
theorem exec_epLinkUp (l : Fin 8) (s : State) :
    exec (.epLinkUp l) s = execEpLinkUp l s := rfl
theorem exec_cmReq (l : Fin 8) (req : CmReq) (s : State) :
    exec (.cmReq l req) s = execCmReq l req s := rfl
theorem exec_cmDreq (l : Fin 8) (qp : Nat) (s : State) :
    exec (.cmDreq l qp) s = execCmDreq l qp s := rfl
theorem exec_rdmaWrite (l : Fin 8) (qp : Nat) (psn : BitVec 24) (addr : Nat) (key : BitVec 32) (bytes : List Byte) (s : State) :
    exec (.rdmaWrite l qp psn addr key bytes) s = execRdmaWrite l qp psn addr key bytes s := rfl
theorem exec_goldenFetchRead (l : Fin 8) (qp : Nat) (offset : Nat) (len : Nat) (s : State) :
    exec (.goldenFetchRead l qp offset len) s = execGoldenFetchRead l qp offset len s := rfl
theorem exec_rdmaReadResponse (l : Fin 8) (qp : Nat) (psn : BitVec 24) (bytes : List Byte) (s : State) :
    exec (.rdmaReadResponse l qp psn bytes) s = execRdmaReadResponse l qp psn bytes s := rfl
theorem exec_cnpArrive (l : Fin 8) (qp : Nat) (s : State) :
    exec (.cnpArrive l qp) s = execCnpArrive l qp s := rfl
theorem exec_cnpRateRecovery (l : Fin 8) (qp : Nat) (s : State) :
    exec (.cnpRateRecovery l qp) s = execCnpRateRecovery l qp s := rfl
theorem exec_rdmaAckTimeout (l : Fin 8) (qp : Nat) (s : State) :
    exec (.rdmaAckTimeout l qp) s = execRdmaAckTimeout l qp s := rfl
theorem exec_heartbeatSend (s : State) :
    exec .heartbeatSend s = execHeartbeatSend s := rfl
theorem exec_heartbeatArrive (port : Fin 2) (hb : Heartbeat) (s : State) :
    exec (.heartbeatArrive port hb) s = execHeartbeatArrive port hb s := rfl
theorem exec_partnerLost (s : State) :
    exec .partnerLost s = execPartnerLost s := rfl
theorem exec_hbPortLost (port : Fin 2) (s : State) :
    exec (.hbPortLost port) s = execHbPortLost port s := rfl
theorem exec_mirrorOpen (m : MirrorOpen) (s : State) :
    exec (.mirrorOpen m) s = execMirrorOpen m s := rfl
theorem exec_mirrorPrompt (m : MirrorPrompt) (s : State) :
    exec (.mirrorPrompt m) s = execMirrorPrompt m s := rfl
theorem exec_mirrorStep (m : MirrorStep) (s : State) :
    exec (.mirrorStep m) s = execMirrorStep m s := rfl
theorem exec_mirrorState (m : MirrorState) (s : State) :
    exec (.mirrorState m) s = execMirrorState m s := rfl
theorem exec_mirrorGen (m : MirrorGen) (s : State) :
    exec (.mirrorGen m) s = execMirrorGen m s := rfl
theorem exec_mirrorFell (m : MirrorFell) (s : State) :
    exec (.mirrorFell m) s = execMirrorFell m s := rfl
theorem exec_mirrorAck (handle : BitVec 32) (step : Nat) (s : State) :
    exec (.mirrorAck handle step) s = execMirrorAck handle step s := rfl
theorem exec_twinBarrierArrival (fromPartner : Bool) (s : State) :
    exec (.twinBarrierArrival fromPartner) s = execTwinBarrierArrival fromPartner s := rfl
theorem exec_twinBarrierRelease (releaseTally : BitVec 64) (s : State) :
    exec (.twinBarrierRelease releaseTally) s = execTwinBarrierRelease releaseTally s := rfl
theorem exec_twinBarrierFail (s : State) :
    exec .twinBarrierFail s = execTwinBarrierFail s := rfl
theorem exec_pairControl (m : PairControl) (s : State) :
    exec (.pairControl m) s = execPairControl m s := rfl
theorem exec_moveSequence (handle : BitVec 32) (s : State) :
    exec (.moveSequence handle) s = execMoveSequence handle s := rfl
theorem exec_bulkCopy (off : Nat) (bytes : List Byte) (last : Bool) (img : Option ImageFile) (s : State) :
    exec (.bulkCopy off bytes last img) s = execBulkCopy off bytes last img s := rfl
theorem exec_twinPortDown (port : Fin 2) (s : State) :
    exec (.twinPortDown port) s = execTwinPortDown port s := rfl
theorem exec_twFaultInjWrite (port : Fin 2) (v : BitVec 32) (s : State) :
    exec (.twFaultInjWrite port v) s = execTwFaultInjWrite port v s := rfl
theorem exec_feedLost (feed : Fin 2) (mv : Nat) (s : State) :
    exec (.feedLost feed mv) s = execFeedLost feed mv s := rfl
theorem exec_feedRestored (feed : Fin 2) (mv : Nat) (s : State) :
    exec (.feedRestored feed mv) s = execFeedRestored feed mv s := rfl
theorem exec_rideThroughEnd (s : State) :
    exec .rideThroughEnd s = execRideThroughEnd s := rfl
theorem exec_converterLost (n : Fin 18) (s : State) :
    exec (.converterLost n) s = execConverterLost n s := rfl
theorem exec_segmentOpen (b : Fin 7) (s : State) :
    exec (.segmentOpen b) s = execSegmentOpen b s := rfl
theorem exec_vlogAdjust (st : Fin 42) (monitorUp : Int) (s : State) :
    exec (.vlogAdjust st monitorUp) s = execVlogAdjust st monitorUp s := rfl
theorem exec_elecThin (st : Fin 42) (vlogTenthsA : Nat) (inputPermille : Nat) (s : State) :
    exec (.elecThin st vlogTenthsA inputPermille) s = execElecThin st vlogTenthsA inputPermille s := rfl
theorem exec_wakeEvaluation (st : Fin 42) (s : State) :
    exec (.wakeEvaluation st) s = execWakeEvaluation st s := rfl
theorem exec_wakeDeferRetry (st : Fin 42) (s : State) :
    exec (.wakeDeferRetry st) s = execWakeDeferRetry st s := rfl
theorem exec_groveWakeStage (g : GroveId) (railOk : Bool) (s : State) :
    exec (.groveWakeStage g railOk) s = execGroveWakeStage g railOk s := rfl
theorem exec_phaseLost (st : Fin 42) (p : Fin 18) (reported : Bool) (s : State) :
    exec (.phaseLost st p reported) s = execPhaseLost st p reported s := rfl
theorem exec_phaseShort (st : Fin 42) (p : Fin 18) (amps : Nat) (s : State) :
    exec (.phaseShort st p amps) s = execPhaseShort st p amps s := rfl
theorem exec_isolationCheck (st : Fin 42) (p : Fin 18) (amps : Nat) (s : State) :
    exec (.isolationCheck st p amps) s = execIsolationCheck st p amps s := rfl
theorem exec_breakerTrip (st : Fin 42) (cause : TripCause) (s : State) :
    exec (.breakerTrip st cause) s = execBreakerTrip st cause s := rfl
theorem exec_breakerRetest (st : Fin 42) (percent : Nat) (s : State) :
    exec (.breakerRetest st percent) s = execBreakerRetest st percent s := rfl
theorem exec_pwBreakerClose (st : Fin 42) (v : BitVec 32) (s : State) :
    exec (.pwBreakerClose st v) s = execPwBreakerClose st v s := rfl
theorem exec_headerStuckClosed (g : GroveId) (s : State) :
    exec (.headerStuckClosed g) s = execHeaderStuckClosed g s := rfl
theorem exec_powerUp (feed : Fin 2) (env : BootEnv) (s : State) :
    exec (.powerUp feed env) s = execPowerUp feed env s := rfl
theorem exec_sensorSample (id : Fin 390) (reading : Option Int) (s : State) :
    exec (.sensorSample id reading) s = execSensorSample id reading s := rfl
theorem exec_coolantSample (inletA : Option Int) (inletB : Option Int) (outlet : Int) (flow : Nat) (s : State) :
    exec (.coolantSample inletA inletB outlet flow) s = execCoolantSample inletA inletB outlet flow s := rfl
theorem exec_heatFactorStep (st : Fin 42) (s : State) :
    exec (.heatFactorStep st) s = execHeatFactorStep st s := rfl
theorem exec_heatSwitchOff (st : Fin 42) (s : State) :
    exec (.heatSwitchOff st) s = execHeatSwitchOff st s := rfl
theorem exec_hardShutdown (cause : HardCause) (s : State) :
    exec (.hardShutdown cause) s = execHardShutdown cause s := rfl
theorem exec_heatReturn (st : Fin 42) (s : State) :
    exec (.heatReturn st) s = execHeatReturn st s := rfl
theorem exec_surveyStart (s : State) :
    exec .surveyStart s = execSurveyStart s := rfl
theorem exec_bootImageComplete (k : Nat) (img : ImageFile) (s : State) :
    exec (.bootImageComplete k img) s = execBootImageComplete k img s := rfl
theorem exec_foresterHandover (s : State) :
    exec .foresterHandover s = execForesterHandover s := rfl
theorem exec_standbyReady (s : State) :
    exec .standbyReady s = execStandbyReady s := rfl
theorem exec_swapRebootDone (ok : Bool) (s : State) :
    exec (.swapRebootDone ok) s = execSwapRebootDone ok s := rfl
theorem exec_foresterFailover (s : State) :
    exec .foresterFailover s = execForesterFailover s := rfl
theorem exec_landingLost (l : Fin 8) (s : State) :
    exec (.landingLost l) s = execLandingLost l s := rfl
theorem exec_smbusBtRead (landing : BitVec 8) (offset : BitVec 16) (s : State) :
    exec (.smbusBtRead landing offset) s = execSmbusBtRead landing offset s := rfl
theorem exec_spdmGetVersion (via : MctpVia) (s : State) :
    exec (.spdmGetVersion via) s = execSpdmGetVersion via s := rfl
theorem exec_spdmGetCapabilities (via : MctpVia) (flags : BitVec 32) (s : State) :
    exec (.spdmGetCapabilities via flags) s = execSpdmGetCapabilities via flags s := rfl
theorem exec_spdmNegotiateAlgorithms (via : MctpVia) (asym : BitVec 32) (hash : BitVec 32) (s : State) :
    exec (.spdmNegotiateAlgorithms via asym hash) s = execSpdmNegotiateAlgorithms via asym hash s := rfl
theorem exec_spdmGetDigests (via : MctpVia) (s : State) :
    exec (.spdmGetDigests via) s = execSpdmGetDigests via s := rfl
theorem exec_spdmGetCertificate (via : MctpVia) (slot : BitVec 4) (offset : Nat) (len : Nat) (s : State) :
    exec (.spdmGetCertificate via slot offset len) s = execSpdmGetCertificate via slot offset len s := rfl
theorem exec_spdmChallenge (via : MctpVia) (slot : BitVec 4) (nonce : BitVec 256) (s : State) :
    exec (.spdmChallenge via slot nonce) s = execSpdmChallenge via slot nonce s := rfl
theorem exec_spdmGetMeasurements (via : MctpVia) (index : BitVec 8) (nonce : BitVec 256) (sign : Bool) (s : State) :
    exec (.spdmGetMeasurements via index nonce sign) s = execSpdmGetMeasurements via index nonce sign s := rfl
theorem exec_pldmGetTid (via : MctpVia) (s : State) :
    exec (.pldmGetTid via) s = execPldmGetTid via s := rfl
theorem exec_pldmGetPldmVersion (via : MctpVia) (type : BitVec 8) (s : State) :
    exec (.pldmGetPldmVersion via type) s = execPldmGetPldmVersion via type s := rfl
theorem exec_pldmGetPldmTypes (via : MctpVia) (s : State) :
    exec (.pldmGetPldmTypes via) s = execPldmGetPldmTypes via s := rfl
theorem exec_pldmGetPldmCommands (via : MctpVia) (type : BitVec 8) (s : State) :
    exec (.pldmGetPldmCommands via type) s = execPldmGetPldmCommands via type s := rfl
theorem exec_pldmSetEventReceiver (via : MctpVia) (address : BitVec 8) (enable : BitVec 8) (s : State) :
    exec (.pldmSetEventReceiver via address enable) s = execPldmSetEventReceiver via address enable s := rfl
theorem exec_pldmGetPdrRepositoryInfo (via : MctpVia) (s : State) :
    exec (.pldmGetPdrRepositoryInfo via) s = execPldmGetPdrRepositoryInfo via s := rfl
theorem exec_pldmGetPdr (via : MctpVia) (record : BitVec 32) (s : State) :
    exec (.pldmGetPdr via record) s = execPldmGetPdr via record s := rfl
theorem exec_pldmGetSensorReading (via : MctpVia) (sensor : BitVec 16) (s : State) :
    exec (.pldmGetSensorReading via sensor) s = execPldmGetSensorReading via sensor s := rfl
theorem exec_pldmGetStateSensorReadings (via : MctpVia) (sensor : BitVec 16) (s : State) :
    exec (.pldmGetStateSensorReadings via sensor) s = execPldmGetStateSensorReadings via sensor s := rfl
theorem exec_pldmSetStateEffecterStates (via : MctpVia) (effecter : BitVec 16) (state : BitVec 8) (s : State) :
    exec (.pldmSetStateEffecterStates via effecter state) s = execPldmSetStateEffecterStates via effecter state s := rfl
theorem exec_pldmGetStateEffecterStates (via : MctpVia) (effecter : BitVec 16) (s : State) :
    exec (.pldmGetStateEffecterStates via effecter) s = execPldmGetStateEffecterStates via effecter s := rfl
theorem exec_shutdownReq (s : State) :
    exec .shutdownReq s = execShutdownReq s := rfl
theorem exec_shutdownReqRelease (env : BootEnv) (s : State) :
    exec (.shutdownReqRelease env) s = execShutdownReqRelease env s := rfl
theorem exec_forceOff (s : State) :
    exec .forceOff s = execForceOff s := rfl
theorem exec_forceOffRelease (env : BootEnv) (s : State) :
    exec (.forceOffRelease env) s = execForceOffRelease env s := rfl
theorem exec_bladeUnseated (s : State) :
    exec .bladeUnseated s = execBladeUnseated s := rfl
theorem exec_feedsRemovedRestart (env : BootEnv) (s : State) :
    exec (.feedsRemovedRestart env) s = execFeedsRemovedRestart env s := rfl
theorem exec_ppsEdge (s : State) :
    exec .ppsEdge s = execPpsEdge s := rfl
theorem exec_dataCreditStarved (p : PortId) (tag : Fin 256) (s : State) :
    exec (.dataCreditStarved p tag) s = execDataCreditStarved p tag s := rfl
theorem exec_tallyBeaconMissed (st : Fin 42) (s : State) :
    exec (.tallyBeaconMissed st) s = execTallyBeaconMissed st s := rfl
theorem exec_carrierReferenceBackup (s : State) :
    exec .carrierReferenceBackup s = execCarrierReferenceBackup s := rfl
theorem exec_hostTransferComplete (f : Fin 256) (ok : Bool) (s : State) :
    exec (.hostTransferComplete f ok) s = execHostTransferComplete f ok s := rfl
theorem exec_journalLowClear (s : State) :
    exec .journalLowClear s = execJournalLowClear s := rfl
theorem exec_cmRtu (l : Fin 8) (qp : Nat) (s : State) :
    exec (.cmRtu l qp) s = execCmRtu l qp s := rfl
theorem exec_osfpModulePresent (l : Fin 8) (powerTenthsW : Nat) (s : State) :
    exec (.osfpModulePresent l powerTenthsW) s = execOsfpModulePresent l powerTenthsW s := rfl
theorem exec_twinPortTrained (port : Fin 2) (s : State) :
    exec (.twinPortTrained port) s = execTwinPortTrained port s := rfl
theorem exec_d0Entry (f : Fin 256) (s : State) :
    exec (.d0Entry f) s = execD0Entry f s := rfl

end Sys2Proof.Machine
end

