-- ==== Sys2Proof/Laws/Memory.lean ====
section
/-! SUPPORT. Laws of the byte memories: a read after a write, and that every memory operation keeps the canonical form. -/

namespace Sys2Proof.Machine

/-! ## Reads -/

@[simp] theorem Memory.read_nil (x : Nat) : Memory.read [] x = 0 := rfl

/-- An address below every listed one reads as 0. -/
theorem Memory.read_below {m : Memory} {lo x : Nat} (h : Memory.wfFrom lo m = true) (hx : x < lo) : Memory.read m x = 0 := by
  cases m with
  | nil => rfl
  | cons p r =>
    obtain ⟨a, b⟩ := p
    simp only [Memory.wfFrom, Bool.and_eq_true, decide_eq_true_eq] at h
    have : a ≠ x := by omega
    have : x < a := by omega
    simp [Memory.read, *]

/-- Canonical from a bound means canonical from every smaller bound. -/
theorem Memory.wfFrom_mono {m : Memory} {lo lo' : Nat} (h : Memory.wfFrom lo m = true) (hle : lo' ≤ lo) :
    Memory.wfFrom lo' m = true := by
  cases m with
  | nil => rfl
  | cons p r =>
    obtain ⟨a, b⟩ := p
    simp only [Memory.wfFrom, Bool.and_eq_true, decide_eq_true_eq] at h ⊢
    exact ⟨⟨by omega, h.1.2⟩, h.2⟩

/-! ## Writes keep the canonical form -/

theorem Memory.write_wfFrom {m : Memory} {lo x : Nat} {v : Byte} (h : Memory.wfFrom lo m = true) (hx : lo ≤ x) :
    Memory.wfFrom lo (Memory.write m x v) = true := by
  induction m generalizing lo with
  | nil =>
    by_cases hv : v = 0#8 <;> simp [Memory.write, hv, Memory.wfFrom, hx]
  | cons p r ih =>
    obtain ⟨a, b⟩ := p
    simp only [Memory.wfFrom, Bool.and_eq_true, decide_eq_true_eq] at h
    obtain ⟨⟨h1, h2⟩, h3⟩ := h
    have h2 : ¬ b = 0#8 := h2
    by_cases hlt : x < a
    · by_cases hv : v = 0#8
      · simp [Memory.write, hlt, hv, Memory.wfFrom, h1, h2, h3]
      · have : x + 1 ≤ a := hlt
        simp [Memory.write, hlt, hv, Memory.wfFrom, hx, this, h2, h3]
    · by_cases he : x = a
      · subst he
        by_cases hv : v = 0#8
        · simpa [Memory.write, hv] using Memory.wfFrom_mono h3 (by omega)
        · simp [Memory.write, hv, Memory.wfFrom, hx, h3]
      · have ha : a + 1 ≤ x := by omega
        simp [Memory.write, hlt, he, Memory.wfFrom, h1, h2, ih h3 ha]

theorem Memory.write_wf {m : Memory} (x : Nat) (v : Byte) (h : m.wf = true) : (m.write x v).wf = true :=
  Memory.write_wfFrom h (Nat.zero_le x)

theorem Memory.writeN_wf {m : Memory} (a : Nat) (bs : List Byte) (h : m.wf = true) : (m.writeN a bs).wf = true := by
  induction bs generalizing m a with
  | nil => exact h
  | cons b r ih => exact ih _ (Memory.write_wf a b h)

/-! ## A read after a write -/

theorem Memory.read_write_from {m : Memory} {lo : Nat} (x y : Nat) (v : Byte) (h : Memory.wfFrom lo m = true) :
    (Memory.write m x v).read y = if y = x then v else Memory.read m y := by
  induction m generalizing lo with
  | nil =>
    by_cases hv : v = 0#8 <;> by_cases hy : y = x
    · simp [Memory.write, hv, hy]
    · simp [Memory.write, hv, hy]
    · simp [Memory.write, hv, Memory.read, hy]
    · have : x ≠ y := fun e => hy e.symm
      simp [Memory.write, hv, Memory.read, hy, this]
  | cons p r ih =>
    obtain ⟨a, b⟩ := p
    simp only [Memory.wfFrom, Bool.and_eq_true, decide_eq_true_eq] at h
    obtain ⟨⟨h1, h2⟩, h3⟩ := h
    by_cases hlt : x < a
    · by_cases hv : v = 0#8
      · by_cases hy : y = x
        · subst hy; have : a ≠ y := by omega
          simp [Memory.write, hlt, hv, Memory.read, this]
        · simp [Memory.write, hlt, hv, hy]
      · by_cases hy : y = x
        · simp [Memory.write, hlt, hv, Memory.read, hy]
        · have hyx : x ≠ y := fun e => hy e.symm
          by_cases hyl : y < x
          · have ha : a ≠ y := by omega
            have hb : y < a := by omega
            simp [Memory.write, hlt, hv, Memory.read, hyx, hyl, hy, ha, hb]
          · simp [Memory.write, hlt, hv, Memory.read, hyx, hyl, hy]
    · by_cases he : x = a
      · subst he
        by_cases hv : v = 0#8
        · by_cases hy : y = x
          · subst hy
            simpa [Memory.write, hv] using Memory.read_below h3 (Nat.lt_succ_self y)
          · have hyx : x ≠ y := fun e => hy e.symm
            by_cases hyl : y < x
            · have := Memory.read_below h3 (show y < x + 1 by omega)
              simp [Memory.write, hv, hy, Memory.read, hyx, hyl, this]
            · simp [Memory.write, hv, hy, Memory.read, hyx, hyl]
        · by_cases hy : y = x
          · simp [Memory.write, hv, Memory.read, hy]
          · have hyx : x ≠ y := fun e => hy e.symm
            simp [Memory.write, hv, Memory.read, hy, hyx]
      · by_cases hy : a = y
        · subst hy
          have : ¬ a = x := fun e => he e.symm
          simp [Memory.write, hlt, he, Memory.read, this]
        · have := ih h3
          by_cases hyl : y < a
          · have : ¬ y = x := by omega
            simp [Memory.write, hlt, he, Memory.read, hy, hyl, this]
          · simp [Memory.write, hlt, he, Memory.read, hy, hyl, this]

/-- A read after a write of one byte to a canonical memory. -/
theorem Memory.read_write {m : Memory} (x y : Nat) (v : Byte) (h : m.wf = true) :
    (m.write x v).read y = if y = x then v else m.read y :=
  Memory.read_write_from x y v h

/-- A byte outside the written ones is unchanged. -/
theorem Memory.read_writeN_out {m : Memory} (a y : Nat) (bs : List Byte) (h : m.wf = true)
    (hy : y < a ∨ a + bs.length ≤ y) : (m.writeN a bs).read y = m.read y := by
  induction bs generalizing m a with
  | nil => rfl
  | cons b r ih =>
    simp only [List.length_cons] at hy
    have hne : y ≠ a := by omega
    rw [Memory.writeN, ih (a + 1) (Memory.write_wf a b h) (by omega), Memory.read_write a y b h, if_neg hne]

/-- A written byte reads back. -/
theorem Memory.read_writeN_in {m : Memory} (a i : Nat) (bs : List Byte) (h : m.wf = true) (hi : i < bs.length) :
    (m.writeN a bs).read (a + i) = bs[i] := by
  induction bs generalizing m a i with
  | nil => simp at hi
  | cons b r ih =>
    cases i with
    | zero =>
      have h1 := Memory.read_writeN_out (a + 1) a r (Memory.write_wf a b h) (Or.inl (Nat.lt_succ_self a))
      simpa [Memory.writeN, Memory.read_write a a b h] using h1
    | succ i =>
      have := ih (a + 1) i (Memory.write_wf a b h) (by simpa using hi)
      rw [Memory.writeN, show a + (i + 1) = a + 1 + i by omega, this]
      simp

@[simp] theorem Memory.readN_length (m : Memory) (a n : Nat) : (m.readN a n).length = n := by
  induction n generalizing a with
  | zero => rfl
  | succ n ih => simp [Memory.readN, ih]

/-- Bytes written read back as they were written. -/
theorem Memory.readN_writeN {m : Memory} (a : Nat) (bs : List Byte) (h : m.wf = true) :
    (m.writeN a bs).readN a bs.length = bs := by
  induction bs generalizing m a with
  | nil => rfl
  | cons b r ih =>
    have h0 : (m.writeN a (b :: r)).read a = b := by
      have := Memory.read_writeN_in a 0 (b :: r) h (by simp)
      simpa using this
    rw [List.length_cons, Memory.readN, h0, Memory.writeN, ih (a + 1) (Memory.write_wf a b h)]

end Sys2Proof.Machine
end

