-- ==== Sys2Proof/Laws/State.lean ====
section
/-! SUPPORT. Field by field, what the named updates of the state leave as it is, so that no proof unfolds a record update. -/

namespace Sys2Proof.Machine

variable (s : State)

/-! ## setReg -/

@[simp] theorem State.setReg_pending (k : RegKey) (v : RegVal) : (s.setReg k v).pending = s.pending := rfl
@[simp] theorem State.setReg_tally (k : RegKey) (v : RegVal) : (s.setReg k v).tally = s.tally := rfl
@[simp] theorem State.setReg_freeUses (k : RegKey) (v : RegVal) : (s.setReg k v).freeUses = s.freeUses := rfl
@[simp] theorem State.setReg_out (k : RegKey) (v : RegVal) : (s.setReg k v).out = s.out := rfl
@[simp] theorem State.setReg_service (k : RegKey) (v : RegVal) : (s.setReg k v).service = s.service := rfl
@[simp] theorem State.setReg_decks (k : RegKey) (v : RegVal) : (s.setReg k v).decks = s.decks := rfl
@[simp] theorem State.setReg_hbm (k : RegKey) (v : RegVal) : (s.setReg k v).hbm = s.hbm := rfl
@[simp] theorem State.setReg_istore (k : RegKey) (v : RegVal) : (s.setReg k v).istore = s.istore := rfl
@[simp] theorem State.setReg_ports (k : RegKey) (v : RegVal) : (s.setReg k v).ports = s.ports := rfl
@[simp] theorem State.setReg_road (k : RegKey) (v : RegVal) : (s.setReg k v).road = s.road := rfl
@[simp] theorem State.setReg_roads (k : RegKey) (v : RegVal) : (s.setReg k v).roads = s.roads := rfl
@[simp] theorem State.setReg_barriers (k : RegKey) (v : RegVal) : (s.setReg k v).barriers = s.barriers := rfl
@[simp] theorem State.setReg_tiles (k : RegKey) (v : RegVal) : (s.setReg k v).tiles = s.tiles := rfl
@[simp] theorem State.setReg_groves (k : RegKey) (v : RegVal) : (s.setReg k v).groves = s.groves := rfl
@[simp] theorem State.setReg_fellers (k : RegKey) (v : RegVal) : (s.setReg k v).fellers = s.fellers := rfl
@[simp] theorem State.setReg_rotWait (k : RegKey) (v : RegVal) : (s.setReg k v).rotWait = s.rotWait := rfl
@[simp] theorem State.setReg_remaps (k : RegKey) (v : RegVal) : (s.setReg k v).remaps = s.remaps := rfl
@[simp] theorem State.setReg_handover (k : RegKey) (v : RegVal) : (s.setReg k v).handover = s.handover := rfl
@[simp] theorem State.setReg_journal (k : RegKey) (v : RegVal) : (s.setReg k v).journal = s.journal := rfl
@[simp] theorem State.setReg_srcCount (k : RegKey) (v : RegVal) : (s.setReg k v).srcCount = s.srcCount := rfl
@[simp] theorem State.setReg_funcs (k : RegKey) (v : RegVal) : (s.setReg k v).funcs = s.funcs := rfl
@[simp] theorem State.setReg_violLog (k : RegKey) (v : RegVal) : (s.setReg k v).violLog = s.violLog := rfl
@[simp] theorem State.setReg_violCount (k : RegKey) (v : RegVal) : (s.setReg k v).violCount = s.violCount := rfl
@[simp] theorem State.setReg_seqs (k : RegKey) (v : RegVal) : (s.setReg k v).seqs = s.seqs := rfl
@[simp] theorem State.setReg_fellings (k : RegKey) (v : RegVal) : (s.setReg k v).fellings = s.fellings := rfl
@[simp] theorem State.setReg_fellCtr (k : RegKey) (v : RegVal) : (s.setReg k v).fellCtr = s.fellCtr := rfl
@[simp] theorem State.setReg_standFells (k : RegKey) (v : RegVal) : (s.setReg k v).standFells = s.standFells := rfl
@[simp] theorem State.setReg_sheds (k : RegKey) (v : RegVal) : (s.setReg k v).sheds = s.sheds := rfl
@[simp] theorem State.setReg_classes (k : RegKey) (v : RegVal) : (s.setReg k v).classes = s.classes := rfl
@[simp] theorem State.setReg_images (k : RegKey) (v : RegVal) : (s.setReg k v).images = s.images := rfl
@[simp] theorem State.setReg_usedPages (k : RegKey) (v : RegVal) : (s.setReg k v).usedPages = s.usedPages := rfl
@[simp] theorem State.setReg_usedUnits (k : RegKey) (v : RegVal) : (s.setReg k v).usedUnits = s.usedUnits := rfl
@[simp] theorem State.setReg_usedDeckPages (k : RegKey) (v : RegVal) : (s.setReg k v).usedDeckPages = s.usedDeckPages := rfl
@[simp] theorem State.setReg_tenants (k : RegKey) (v : RegVal) : (s.setReg k v).tenants = s.tenants := rfl
@[simp] theorem State.setReg_foresterB (k : RegKey) (v : RegVal) : (s.setReg k v).foresterB = s.foresterB := rfl
@[simp] theorem State.setReg_standbyIn (k : RegKey) (v : RegVal) : (s.setReg k v).standbyIn = s.standbyIn := rfl
@[simp] theorem State.setReg_reserve (k : RegKey) (v : RegVal) : (s.setReg k v).reserve = s.reserve := rfl
@[simp] theorem State.setReg_landingsLost (k : RegKey) (v : RegVal) : (s.setReg k v).landingsLost = s.landingsLost := rfl
@[simp] theorem State.setReg_config (k : RegKey) (v : RegVal) : (s.setReg k v).config = s.config := rfl
@[simp] theorem State.setReg_prot (k : RegKey) (v : RegVal) : (s.setReg k v).prot = s.prot := rfl
@[simp] theorem State.setReg_bankB (k : RegKey) (v : RegVal) : (s.setReg k v).bankB = s.bankB := rfl
@[simp] theorem State.setReg_events (k : RegKey) (v : RegVal) : (s.setReg k v).events = s.events := rfl
@[simp] theorem State.setReg_lockstep (k : RegKey) (v : RegVal) : (s.setReg k v).lockstep = s.lockstep := rfl
@[simp] theorem State.setReg_exact (k : RegKey) (v : RegVal) : (s.setReg k v).exact = s.exact := rfl
@[simp] theorem State.setReg_period (k : RegKey) (v : RegVal) : (s.setReg k v).period = s.period := rfl
@[simp] theorem State.setReg_epoch (k : RegKey) (v : RegVal) : (s.setReg k v).epoch = s.epoch := rfl
@[simp] theorem State.setReg_origin (k : RegKey) (v : RegVal) : (s.setReg k v).origin = s.origin := rfl
@[simp] theorem State.setReg_wakeWant (k : RegKey) (v : RegVal) : (s.setReg k v).wakeWant = s.wakeWant := rfl
@[simp] theorem State.setReg_powers (k : RegKey) (v : RegVal) : (s.setReg k v).powers = s.powers := rfl
@[simp] theorem State.setReg_sensors (k : RegKey) (v : RegVal) : (s.setReg k v).sensors = s.sensors := rfl
@[simp] theorem State.setReg_flowLow (k : RegKey) (v : RegVal) : (s.setReg k v).flowLow = s.flowLow := rfl
@[simp] theorem State.setReg_latched (k : RegKey) (v : RegVal) : (s.setReg k v).latched = s.latched := rfl
@[simp] theorem State.setReg_protLocked (k : RegKey) (v : RegVal) : (s.setReg k v).protLocked = s.protLocked := rfl
@[simp] theorem State.setReg_flash (k : RegKey) (v : RegVal) : (s.setReg k v).flash = s.flash := rfl
@[simp] theorem State.setReg_refBackup (k : RegKey) (v : RegVal) : (s.setReg k v).refBackup = s.refBackup := rfl
@[simp] theorem State.setReg_twin (k : RegKey) (v : RegVal) : (s.setReg k v).twin = s.twin := rfl
@[simp] theorem State.setReg_drain (k : RegKey) (v : RegVal) : (s.setReg k v).drain = s.drain := rfl
@[simp] theorem State.setReg_ops (k : RegKey) (v : RegVal) : (s.setReg k v).ops = s.ops := rfl
@[simp] theorem State.setReg_nextOp (k : RegKey) (v : RegVal) : (s.setReg k v).nextOp = s.nextOp := rfl
@[simp] theorem State.setReg_misses (k : RegKey) (v : RegVal) : (s.setReg k v).misses = s.misses := rfl
@[simp] theorem State.setReg_thinWaits (k : RegKey) (v : RegVal) : (s.setReg k v).thinWaits = s.thinWaits := rfl
@[simp] theorem State.setReg_testSave (k : RegKey) (v : RegVal) : (s.setReg k v).testSave = s.testSave := rfl
@[simp] theorem State.setReg_offHistory (k : RegKey) (v : RegVal) : (s.setReg k v).offHistory = s.offHistory := rfl
@[simp] theorem State.setReg_journalLow (k : RegKey) (v : RegVal) : (s.setReg k v).journalLow = s.journalLow := rfl
@[simp] theorem State.setReg_stagings (k : RegKey) (v : RegVal) : (s.setReg k v).stagings = s.stagings := rfl
@[simp] theorem State.setReg_nextStaging (k : RegKey) (v : RegVal) : (s.setReg k v).nextStaging = s.nextStaging := rfl
@[simp] theorem State.setReg_goldens (k : RegKey) (v : RegVal) : (s.setReg k v).goldens = s.goldens := rfl
@[simp] theorem State.setReg_qps (k : RegKey) (v : RegVal) : (s.setReg k v).qps = s.qps := rfl
@[simp] theorem State.setReg_ptp (k : RegKey) (v : RegVal) : (s.setReg k v).ptp = s.ptp := rfl
@[simp] theorem State.setReg_swap (k : RegKey) (v : RegVal) : (s.setReg k v).swap = s.swap := rfl
@[simp] theorem State.setReg_staged (k : RegKey) (v : RegVal) : (s.setReg k v).staged = s.staged := rfl
@[simp] theorem State.setReg_running_ (k : RegKey) (v : RegVal) : (s.setReg k v).running_ = s.running_ := rfl
@[simp] theorem State.setReg_spdm (k : RegKey) (v : RegVal) : (s.setReg k v).spdm = s.spdm := rfl
@[simp] theorem State.setReg_osfpHeld (k : RegKey) (v : RegVal) : (s.setReg k v).osfpHeld = s.osfpHeld := rfl
@[simp] theorem State.setReg_pinsLow (k : RegKey) (v : RegVal) : (s.setReg k v).pinsLow = s.pinsLow := rfl
@[simp] theorem State.setReg_surveyLeft (k : RegKey) (v : RegVal) : (s.setReg k v).surveyLeft = s.surveyLeft := rfl

/-! ## putAt -/

@[simp] theorem State.putAt_pending (f : Fld) (u i x : Nat) : (s.putAt f u i x).pending = s.pending := rfl
@[simp] theorem State.putAt_tally (f : Fld) (u i x : Nat) : (s.putAt f u i x).tally = s.tally := rfl
@[simp] theorem State.putAt_freeUses (f : Fld) (u i x : Nat) : (s.putAt f u i x).freeUses = s.freeUses := rfl
@[simp] theorem State.putAt_out (f : Fld) (u i x : Nat) : (s.putAt f u i x).out = s.out := rfl
@[simp] theorem State.putAt_service (f : Fld) (u i x : Nat) : (s.putAt f u i x).service = s.service := rfl
@[simp] theorem State.putAt_decks (f : Fld) (u i x : Nat) : (s.putAt f u i x).decks = s.decks := rfl
@[simp] theorem State.putAt_hbm (f : Fld) (u i x : Nat) : (s.putAt f u i x).hbm = s.hbm := rfl
@[simp] theorem State.putAt_istore (f : Fld) (u i x : Nat) : (s.putAt f u i x).istore = s.istore := rfl
@[simp] theorem State.putAt_ports (f : Fld) (u i x : Nat) : (s.putAt f u i x).ports = s.ports := rfl
@[simp] theorem State.putAt_road (f : Fld) (u i x : Nat) : (s.putAt f u i x).road = s.road := rfl
@[simp] theorem State.putAt_roads (f : Fld) (u i x : Nat) : (s.putAt f u i x).roads = s.roads := rfl
@[simp] theorem State.putAt_barriers (f : Fld) (u i x : Nat) : (s.putAt f u i x).barriers = s.barriers := rfl
@[simp] theorem State.putAt_tiles (f : Fld) (u i x : Nat) : (s.putAt f u i x).tiles = s.tiles := rfl
@[simp] theorem State.putAt_groves (f : Fld) (u i x : Nat) : (s.putAt f u i x).groves = s.groves := rfl
@[simp] theorem State.putAt_fellers (f : Fld) (u i x : Nat) : (s.putAt f u i x).fellers = s.fellers := rfl
@[simp] theorem State.putAt_rotWait (f : Fld) (u i x : Nat) : (s.putAt f u i x).rotWait = s.rotWait := rfl
@[simp] theorem State.putAt_remaps (f : Fld) (u i x : Nat) : (s.putAt f u i x).remaps = s.remaps := rfl
@[simp] theorem State.putAt_handover (f : Fld) (u i x : Nat) : (s.putAt f u i x).handover = s.handover := rfl
@[simp] theorem State.putAt_journal (f : Fld) (u i x : Nat) : (s.putAt f u i x).journal = s.journal := rfl
@[simp] theorem State.putAt_srcCount (f : Fld) (u i x : Nat) : (s.putAt f u i x).srcCount = s.srcCount := rfl
@[simp] theorem State.putAt_funcs (f : Fld) (u i x : Nat) : (s.putAt f u i x).funcs = s.funcs := rfl
@[simp] theorem State.putAt_violLog (f : Fld) (u i x : Nat) : (s.putAt f u i x).violLog = s.violLog := rfl
@[simp] theorem State.putAt_violCount (f : Fld) (u i x : Nat) : (s.putAt f u i x).violCount = s.violCount := rfl
@[simp] theorem State.putAt_seqs (f : Fld) (u i x : Nat) : (s.putAt f u i x).seqs = s.seqs := rfl
@[simp] theorem State.putAt_fellings (f : Fld) (u i x : Nat) : (s.putAt f u i x).fellings = s.fellings := rfl
@[simp] theorem State.putAt_fellCtr (f : Fld) (u i x : Nat) : (s.putAt f u i x).fellCtr = s.fellCtr := rfl
@[simp] theorem State.putAt_standFells (f : Fld) (u i x : Nat) : (s.putAt f u i x).standFells = s.standFells := rfl
@[simp] theorem State.putAt_sheds (f : Fld) (u i x : Nat) : (s.putAt f u i x).sheds = s.sheds := rfl
@[simp] theorem State.putAt_classes (f : Fld) (u i x : Nat) : (s.putAt f u i x).classes = s.classes := rfl
@[simp] theorem State.putAt_images (f : Fld) (u i x : Nat) : (s.putAt f u i x).images = s.images := rfl
@[simp] theorem State.putAt_usedPages (f : Fld) (u i x : Nat) : (s.putAt f u i x).usedPages = s.usedPages := rfl
@[simp] theorem State.putAt_usedUnits (f : Fld) (u i x : Nat) : (s.putAt f u i x).usedUnits = s.usedUnits := rfl
@[simp] theorem State.putAt_usedDeckPages (f : Fld) (u i x : Nat) : (s.putAt f u i x).usedDeckPages = s.usedDeckPages := rfl
@[simp] theorem State.putAt_tenants (f : Fld) (u i x : Nat) : (s.putAt f u i x).tenants = s.tenants := rfl
@[simp] theorem State.putAt_foresterB (f : Fld) (u i x : Nat) : (s.putAt f u i x).foresterB = s.foresterB := rfl
@[simp] theorem State.putAt_standbyIn (f : Fld) (u i x : Nat) : (s.putAt f u i x).standbyIn = s.standbyIn := rfl
@[simp] theorem State.putAt_reserve (f : Fld) (u i x : Nat) : (s.putAt f u i x).reserve = s.reserve := rfl
@[simp] theorem State.putAt_landingsLost (f : Fld) (u i x : Nat) : (s.putAt f u i x).landingsLost = s.landingsLost := rfl
@[simp] theorem State.putAt_config (f : Fld) (u i x : Nat) : (s.putAt f u i x).config = s.config := rfl
@[simp] theorem State.putAt_prot (f : Fld) (u i x : Nat) : (s.putAt f u i x).prot = s.prot := rfl
@[simp] theorem State.putAt_bankB (f : Fld) (u i x : Nat) : (s.putAt f u i x).bankB = s.bankB := rfl
@[simp] theorem State.putAt_events (f : Fld) (u i x : Nat) : (s.putAt f u i x).events = s.events := rfl
@[simp] theorem State.putAt_lockstep (f : Fld) (u i x : Nat) : (s.putAt f u i x).lockstep = s.lockstep := rfl
@[simp] theorem State.putAt_exact (f : Fld) (u i x : Nat) : (s.putAt f u i x).exact = s.exact := rfl
@[simp] theorem State.putAt_period (f : Fld) (u i x : Nat) : (s.putAt f u i x).period = s.period := rfl
@[simp] theorem State.putAt_epoch (f : Fld) (u i x : Nat) : (s.putAt f u i x).epoch = s.epoch := rfl
@[simp] theorem State.putAt_origin (f : Fld) (u i x : Nat) : (s.putAt f u i x).origin = s.origin := rfl
@[simp] theorem State.putAt_wakeWant (f : Fld) (u i x : Nat) : (s.putAt f u i x).wakeWant = s.wakeWant := rfl
@[simp] theorem State.putAt_powers (f : Fld) (u i x : Nat) : (s.putAt f u i x).powers = s.powers := rfl
@[simp] theorem State.putAt_sensors (f : Fld) (u i x : Nat) : (s.putAt f u i x).sensors = s.sensors := rfl
@[simp] theorem State.putAt_flowLow (f : Fld) (u i x : Nat) : (s.putAt f u i x).flowLow = s.flowLow := rfl
@[simp] theorem State.putAt_latched (f : Fld) (u i x : Nat) : (s.putAt f u i x).latched = s.latched := rfl
@[simp] theorem State.putAt_protLocked (f : Fld) (u i x : Nat) : (s.putAt f u i x).protLocked = s.protLocked := rfl
@[simp] theorem State.putAt_flash (f : Fld) (u i x : Nat) : (s.putAt f u i x).flash = s.flash := rfl
@[simp] theorem State.putAt_refBackup (f : Fld) (u i x : Nat) : (s.putAt f u i x).refBackup = s.refBackup := rfl
@[simp] theorem State.putAt_twin (f : Fld) (u i x : Nat) : (s.putAt f u i x).twin = s.twin := rfl
@[simp] theorem State.putAt_drain (f : Fld) (u i x : Nat) : (s.putAt f u i x).drain = s.drain := rfl
@[simp] theorem State.putAt_ops (f : Fld) (u i x : Nat) : (s.putAt f u i x).ops = s.ops := rfl
@[simp] theorem State.putAt_nextOp (f : Fld) (u i x : Nat) : (s.putAt f u i x).nextOp = s.nextOp := rfl
@[simp] theorem State.putAt_misses (f : Fld) (u i x : Nat) : (s.putAt f u i x).misses = s.misses := rfl
@[simp] theorem State.putAt_thinWaits (f : Fld) (u i x : Nat) : (s.putAt f u i x).thinWaits = s.thinWaits := rfl
@[simp] theorem State.putAt_testSave (f : Fld) (u i x : Nat) : (s.putAt f u i x).testSave = s.testSave := rfl
@[simp] theorem State.putAt_offHistory (f : Fld) (u i x : Nat) : (s.putAt f u i x).offHistory = s.offHistory := rfl
@[simp] theorem State.putAt_journalLow (f : Fld) (u i x : Nat) : (s.putAt f u i x).journalLow = s.journalLow := rfl
@[simp] theorem State.putAt_stagings (f : Fld) (u i x : Nat) : (s.putAt f u i x).stagings = s.stagings := rfl
@[simp] theorem State.putAt_nextStaging (f : Fld) (u i x : Nat) : (s.putAt f u i x).nextStaging = s.nextStaging := rfl
@[simp] theorem State.putAt_goldens (f : Fld) (u i x : Nat) : (s.putAt f u i x).goldens = s.goldens := rfl
@[simp] theorem State.putAt_qps (f : Fld) (u i x : Nat) : (s.putAt f u i x).qps = s.qps := rfl
@[simp] theorem State.putAt_ptp (f : Fld) (u i x : Nat) : (s.putAt f u i x).ptp = s.ptp := rfl
@[simp] theorem State.putAt_swap (f : Fld) (u i x : Nat) : (s.putAt f u i x).swap = s.swap := rfl
@[simp] theorem State.putAt_staged (f : Fld) (u i x : Nat) : (s.putAt f u i x).staged = s.staged := rfl
@[simp] theorem State.putAt_running_ (f : Fld) (u i x : Nat) : (s.putAt f u i x).running_ = s.running_ := rfl
@[simp] theorem State.putAt_spdm (f : Fld) (u i x : Nat) : (s.putAt f u i x).spdm = s.spdm := rfl
@[simp] theorem State.putAt_osfpHeld (f : Fld) (u i x : Nat) : (s.putAt f u i x).osfpHeld = s.osfpHeld := rfl
@[simp] theorem State.putAt_pinsLow (f : Fld) (u i x : Nat) : (s.putAt f u i x).pinsLow = s.pinsLow := rfl
@[simp] theorem State.putAt_surveyLeft (f : Fld) (u i x : Nat) : (s.putAt f u i x).surveyLeft = s.surveyLeft := rfl

/-! ## put -/

@[simp] theorem State.put_pending (f : Fld) (u x : Nat) : (s.put f u x).pending = s.pending := rfl
@[simp] theorem State.put_tally (f : Fld) (u x : Nat) : (s.put f u x).tally = s.tally := rfl
@[simp] theorem State.put_freeUses (f : Fld) (u x : Nat) : (s.put f u x).freeUses = s.freeUses := rfl
@[simp] theorem State.put_out (f : Fld) (u x : Nat) : (s.put f u x).out = s.out := rfl
@[simp] theorem State.put_service (f : Fld) (u x : Nat) : (s.put f u x).service = s.service := rfl
@[simp] theorem State.put_decks (f : Fld) (u x : Nat) : (s.put f u x).decks = s.decks := rfl
@[simp] theorem State.put_hbm (f : Fld) (u x : Nat) : (s.put f u x).hbm = s.hbm := rfl
@[simp] theorem State.put_istore (f : Fld) (u x : Nat) : (s.put f u x).istore = s.istore := rfl
@[simp] theorem State.put_ports (f : Fld) (u x : Nat) : (s.put f u x).ports = s.ports := rfl
@[simp] theorem State.put_road (f : Fld) (u x : Nat) : (s.put f u x).road = s.road := rfl
@[simp] theorem State.put_roads (f : Fld) (u x : Nat) : (s.put f u x).roads = s.roads := rfl
@[simp] theorem State.put_barriers (f : Fld) (u x : Nat) : (s.put f u x).barriers = s.barriers := rfl
@[simp] theorem State.put_tiles (f : Fld) (u x : Nat) : (s.put f u x).tiles = s.tiles := rfl
@[simp] theorem State.put_groves (f : Fld) (u x : Nat) : (s.put f u x).groves = s.groves := rfl
@[simp] theorem State.put_fellers (f : Fld) (u x : Nat) : (s.put f u x).fellers = s.fellers := rfl
@[simp] theorem State.put_rotWait (f : Fld) (u x : Nat) : (s.put f u x).rotWait = s.rotWait := rfl
@[simp] theorem State.put_remaps (f : Fld) (u x : Nat) : (s.put f u x).remaps = s.remaps := rfl
@[simp] theorem State.put_handover (f : Fld) (u x : Nat) : (s.put f u x).handover = s.handover := rfl
@[simp] theorem State.put_journal (f : Fld) (u x : Nat) : (s.put f u x).journal = s.journal := rfl
@[simp] theorem State.put_srcCount (f : Fld) (u x : Nat) : (s.put f u x).srcCount = s.srcCount := rfl
@[simp] theorem State.put_funcs (f : Fld) (u x : Nat) : (s.put f u x).funcs = s.funcs := rfl
@[simp] theorem State.put_violLog (f : Fld) (u x : Nat) : (s.put f u x).violLog = s.violLog := rfl
@[simp] theorem State.put_violCount (f : Fld) (u x : Nat) : (s.put f u x).violCount = s.violCount := rfl
@[simp] theorem State.put_seqs (f : Fld) (u x : Nat) : (s.put f u x).seqs = s.seqs := rfl
@[simp] theorem State.put_fellings (f : Fld) (u x : Nat) : (s.put f u x).fellings = s.fellings := rfl
@[simp] theorem State.put_fellCtr (f : Fld) (u x : Nat) : (s.put f u x).fellCtr = s.fellCtr := rfl
@[simp] theorem State.put_standFells (f : Fld) (u x : Nat) : (s.put f u x).standFells = s.standFells := rfl
@[simp] theorem State.put_sheds (f : Fld) (u x : Nat) : (s.put f u x).sheds = s.sheds := rfl
@[simp] theorem State.put_classes (f : Fld) (u x : Nat) : (s.put f u x).classes = s.classes := rfl
@[simp] theorem State.put_images (f : Fld) (u x : Nat) : (s.put f u x).images = s.images := rfl
@[simp] theorem State.put_usedPages (f : Fld) (u x : Nat) : (s.put f u x).usedPages = s.usedPages := rfl
@[simp] theorem State.put_usedUnits (f : Fld) (u x : Nat) : (s.put f u x).usedUnits = s.usedUnits := rfl
@[simp] theorem State.put_usedDeckPages (f : Fld) (u x : Nat) : (s.put f u x).usedDeckPages = s.usedDeckPages := rfl
@[simp] theorem State.put_tenants (f : Fld) (u x : Nat) : (s.put f u x).tenants = s.tenants := rfl
@[simp] theorem State.put_foresterB (f : Fld) (u x : Nat) : (s.put f u x).foresterB = s.foresterB := rfl
@[simp] theorem State.put_standbyIn (f : Fld) (u x : Nat) : (s.put f u x).standbyIn = s.standbyIn := rfl
@[simp] theorem State.put_reserve (f : Fld) (u x : Nat) : (s.put f u x).reserve = s.reserve := rfl
@[simp] theorem State.put_landingsLost (f : Fld) (u x : Nat) : (s.put f u x).landingsLost = s.landingsLost := rfl
@[simp] theorem State.put_config (f : Fld) (u x : Nat) : (s.put f u x).config = s.config := rfl
@[simp] theorem State.put_prot (f : Fld) (u x : Nat) : (s.put f u x).prot = s.prot := rfl
@[simp] theorem State.put_bankB (f : Fld) (u x : Nat) : (s.put f u x).bankB = s.bankB := rfl
@[simp] theorem State.put_events (f : Fld) (u x : Nat) : (s.put f u x).events = s.events := rfl
@[simp] theorem State.put_lockstep (f : Fld) (u x : Nat) : (s.put f u x).lockstep = s.lockstep := rfl
@[simp] theorem State.put_exact (f : Fld) (u x : Nat) : (s.put f u x).exact = s.exact := rfl
@[simp] theorem State.put_period (f : Fld) (u x : Nat) : (s.put f u x).period = s.period := rfl
@[simp] theorem State.put_epoch (f : Fld) (u x : Nat) : (s.put f u x).epoch = s.epoch := rfl
@[simp] theorem State.put_origin (f : Fld) (u x : Nat) : (s.put f u x).origin = s.origin := rfl
@[simp] theorem State.put_wakeWant (f : Fld) (u x : Nat) : (s.put f u x).wakeWant = s.wakeWant := rfl
@[simp] theorem State.put_powers (f : Fld) (u x : Nat) : (s.put f u x).powers = s.powers := rfl
@[simp] theorem State.put_sensors (f : Fld) (u x : Nat) : (s.put f u x).sensors = s.sensors := rfl
@[simp] theorem State.put_flowLow (f : Fld) (u x : Nat) : (s.put f u x).flowLow = s.flowLow := rfl
@[simp] theorem State.put_latched (f : Fld) (u x : Nat) : (s.put f u x).latched = s.latched := rfl
@[simp] theorem State.put_protLocked (f : Fld) (u x : Nat) : (s.put f u x).protLocked = s.protLocked := rfl
@[simp] theorem State.put_flash (f : Fld) (u x : Nat) : (s.put f u x).flash = s.flash := rfl
@[simp] theorem State.put_refBackup (f : Fld) (u x : Nat) : (s.put f u x).refBackup = s.refBackup := rfl
@[simp] theorem State.put_twin (f : Fld) (u x : Nat) : (s.put f u x).twin = s.twin := rfl
@[simp] theorem State.put_drain (f : Fld) (u x : Nat) : (s.put f u x).drain = s.drain := rfl
@[simp] theorem State.put_ops (f : Fld) (u x : Nat) : (s.put f u x).ops = s.ops := rfl
@[simp] theorem State.put_nextOp (f : Fld) (u x : Nat) : (s.put f u x).nextOp = s.nextOp := rfl
@[simp] theorem State.put_misses (f : Fld) (u x : Nat) : (s.put f u x).misses = s.misses := rfl
@[simp] theorem State.put_thinWaits (f : Fld) (u x : Nat) : (s.put f u x).thinWaits = s.thinWaits := rfl
@[simp] theorem State.put_testSave (f : Fld) (u x : Nat) : (s.put f u x).testSave = s.testSave := rfl
@[simp] theorem State.put_offHistory (f : Fld) (u x : Nat) : (s.put f u x).offHistory = s.offHistory := rfl
@[simp] theorem State.put_journalLow (f : Fld) (u x : Nat) : (s.put f u x).journalLow = s.journalLow := rfl
@[simp] theorem State.put_stagings (f : Fld) (u x : Nat) : (s.put f u x).stagings = s.stagings := rfl
@[simp] theorem State.put_nextStaging (f : Fld) (u x : Nat) : (s.put f u x).nextStaging = s.nextStaging := rfl
@[simp] theorem State.put_goldens (f : Fld) (u x : Nat) : (s.put f u x).goldens = s.goldens := rfl
@[simp] theorem State.put_qps (f : Fld) (u x : Nat) : (s.put f u x).qps = s.qps := rfl
@[simp] theorem State.put_ptp (f : Fld) (u x : Nat) : (s.put f u x).ptp = s.ptp := rfl
@[simp] theorem State.put_swap (f : Fld) (u x : Nat) : (s.put f u x).swap = s.swap := rfl
@[simp] theorem State.put_staged (f : Fld) (u x : Nat) : (s.put f u x).staged = s.staged := rfl
@[simp] theorem State.put_running_ (f : Fld) (u x : Nat) : (s.put f u x).running_ = s.running_ := rfl
@[simp] theorem State.put_spdm (f : Fld) (u x : Nat) : (s.put f u x).spdm = s.spdm := rfl
@[simp] theorem State.put_osfpHeld (f : Fld) (u x : Nat) : (s.put f u x).osfpHeld = s.osfpHeld := rfl
@[simp] theorem State.put_pinsLow (f : Fld) (u x : Nat) : (s.put f u x).pinsLow = s.pinsLow := rfl
@[simp] theorem State.put_surveyLeft (f : Fld) (u x : Nat) : (s.put f u x).surveyLeft = s.surveyLeft := rfl

/-! ## emit -/

@[simp] theorem State.emit_pending (o : Out) : (s.emit o).pending = s.pending := rfl
@[simp] theorem State.emit_tally (o : Out) : (s.emit o).tally = s.tally := rfl
@[simp] theorem State.emit_freeUses (o : Out) : (s.emit o).freeUses = s.freeUses := rfl
@[simp] theorem State.emit_service (o : Out) : (s.emit o).service = s.service := rfl
@[simp] theorem State.emit_regs (o : Out) : (s.emit o).regs = s.regs := rfl
@[simp] theorem State.emit_decks (o : Out) : (s.emit o).decks = s.decks := rfl
@[simp] theorem State.emit_hbm (o : Out) : (s.emit o).hbm = s.hbm := rfl
@[simp] theorem State.emit_istore (o : Out) : (s.emit o).istore = s.istore := rfl
@[simp] theorem State.emit_ports (o : Out) : (s.emit o).ports = s.ports := rfl
@[simp] theorem State.emit_road (o : Out) : (s.emit o).road = s.road := rfl
@[simp] theorem State.emit_roads (o : Out) : (s.emit o).roads = s.roads := rfl
@[simp] theorem State.emit_barriers (o : Out) : (s.emit o).barriers = s.barriers := rfl
@[simp] theorem State.emit_tiles (o : Out) : (s.emit o).tiles = s.tiles := rfl
@[simp] theorem State.emit_groves (o : Out) : (s.emit o).groves = s.groves := rfl
@[simp] theorem State.emit_fellers (o : Out) : (s.emit o).fellers = s.fellers := rfl
@[simp] theorem State.emit_rotWait (o : Out) : (s.emit o).rotWait = s.rotWait := rfl
@[simp] theorem State.emit_remaps (o : Out) : (s.emit o).remaps = s.remaps := rfl
@[simp] theorem State.emit_handover (o : Out) : (s.emit o).handover = s.handover := rfl
@[simp] theorem State.emit_journal (o : Out) : (s.emit o).journal = s.journal := rfl
@[simp] theorem State.emit_srcCount (o : Out) : (s.emit o).srcCount = s.srcCount := rfl
@[simp] theorem State.emit_funcs (o : Out) : (s.emit o).funcs = s.funcs := rfl
@[simp] theorem State.emit_violLog (o : Out) : (s.emit o).violLog = s.violLog := rfl
@[simp] theorem State.emit_violCount (o : Out) : (s.emit o).violCount = s.violCount := rfl
@[simp] theorem State.emit_seqs (o : Out) : (s.emit o).seqs = s.seqs := rfl
@[simp] theorem State.emit_fellings (o : Out) : (s.emit o).fellings = s.fellings := rfl
@[simp] theorem State.emit_fellCtr (o : Out) : (s.emit o).fellCtr = s.fellCtr := rfl
@[simp] theorem State.emit_standFells (o : Out) : (s.emit o).standFells = s.standFells := rfl
@[simp] theorem State.emit_sheds (o : Out) : (s.emit o).sheds = s.sheds := rfl
@[simp] theorem State.emit_classes (o : Out) : (s.emit o).classes = s.classes := rfl
@[simp] theorem State.emit_images (o : Out) : (s.emit o).images = s.images := rfl
@[simp] theorem State.emit_usedPages (o : Out) : (s.emit o).usedPages = s.usedPages := rfl
@[simp] theorem State.emit_usedUnits (o : Out) : (s.emit o).usedUnits = s.usedUnits := rfl
@[simp] theorem State.emit_usedDeckPages (o : Out) : (s.emit o).usedDeckPages = s.usedDeckPages := rfl
@[simp] theorem State.emit_tenants (o : Out) : (s.emit o).tenants = s.tenants := rfl
@[simp] theorem State.emit_foresterB (o : Out) : (s.emit o).foresterB = s.foresterB := rfl
@[simp] theorem State.emit_standbyIn (o : Out) : (s.emit o).standbyIn = s.standbyIn := rfl
@[simp] theorem State.emit_reserve (o : Out) : (s.emit o).reserve = s.reserve := rfl
@[simp] theorem State.emit_landingsLost (o : Out) : (s.emit o).landingsLost = s.landingsLost := rfl
@[simp] theorem State.emit_config (o : Out) : (s.emit o).config = s.config := rfl
@[simp] theorem State.emit_prot (o : Out) : (s.emit o).prot = s.prot := rfl
@[simp] theorem State.emit_bankB (o : Out) : (s.emit o).bankB = s.bankB := rfl
@[simp] theorem State.emit_events (o : Out) : (s.emit o).events = s.events := rfl
@[simp] theorem State.emit_lockstep (o : Out) : (s.emit o).lockstep = s.lockstep := rfl
@[simp] theorem State.emit_exact (o : Out) : (s.emit o).exact = s.exact := rfl
@[simp] theorem State.emit_period (o : Out) : (s.emit o).period = s.period := rfl
@[simp] theorem State.emit_epoch (o : Out) : (s.emit o).epoch = s.epoch := rfl
@[simp] theorem State.emit_origin (o : Out) : (s.emit o).origin = s.origin := rfl
@[simp] theorem State.emit_wakeWant (o : Out) : (s.emit o).wakeWant = s.wakeWant := rfl
@[simp] theorem State.emit_powers (o : Out) : (s.emit o).powers = s.powers := rfl
@[simp] theorem State.emit_sensors (o : Out) : (s.emit o).sensors = s.sensors := rfl
@[simp] theorem State.emit_flowLow (o : Out) : (s.emit o).flowLow = s.flowLow := rfl
@[simp] theorem State.emit_latched (o : Out) : (s.emit o).latched = s.latched := rfl
@[simp] theorem State.emit_protLocked (o : Out) : (s.emit o).protLocked = s.protLocked := rfl
@[simp] theorem State.emit_flash (o : Out) : (s.emit o).flash = s.flash := rfl
@[simp] theorem State.emit_refBackup (o : Out) : (s.emit o).refBackup = s.refBackup := rfl
@[simp] theorem State.emit_twin (o : Out) : (s.emit o).twin = s.twin := rfl
@[simp] theorem State.emit_drain (o : Out) : (s.emit o).drain = s.drain := rfl
@[simp] theorem State.emit_ops (o : Out) : (s.emit o).ops = s.ops := rfl
@[simp] theorem State.emit_nextOp (o : Out) : (s.emit o).nextOp = s.nextOp := rfl
@[simp] theorem State.emit_misses (o : Out) : (s.emit o).misses = s.misses := rfl
@[simp] theorem State.emit_thinWaits (o : Out) : (s.emit o).thinWaits = s.thinWaits := rfl
@[simp] theorem State.emit_testSave (o : Out) : (s.emit o).testSave = s.testSave := rfl
@[simp] theorem State.emit_offHistory (o : Out) : (s.emit o).offHistory = s.offHistory := rfl
@[simp] theorem State.emit_journalLow (o : Out) : (s.emit o).journalLow = s.journalLow := rfl
@[simp] theorem State.emit_stagings (o : Out) : (s.emit o).stagings = s.stagings := rfl
@[simp] theorem State.emit_nextStaging (o : Out) : (s.emit o).nextStaging = s.nextStaging := rfl
@[simp] theorem State.emit_goldens (o : Out) : (s.emit o).goldens = s.goldens := rfl
@[simp] theorem State.emit_qps (o : Out) : (s.emit o).qps = s.qps := rfl
@[simp] theorem State.emit_ptp (o : Out) : (s.emit o).ptp = s.ptp := rfl
@[simp] theorem State.emit_swap (o : Out) : (s.emit o).swap = s.swap := rfl
@[simp] theorem State.emit_staged (o : Out) : (s.emit o).staged = s.staged := rfl
@[simp] theorem State.emit_running_ (o : Out) : (s.emit o).running_ = s.running_ := rfl
@[simp] theorem State.emit_spdm (o : Out) : (s.emit o).spdm = s.spdm := rfl
@[simp] theorem State.emit_osfpHeld (o : Out) : (s.emit o).osfpHeld = s.osfpHeld := rfl
@[simp] theorem State.emit_pinsLow (o : Out) : (s.emit o).pinsLow = s.pinsLow := rfl
@[simp] theorem State.emit_surveyLeft (o : Out) : (s.emit o).surveyLeft = s.surveyLeft := rfl

/-! ## setFunc -/

@[simp] theorem State.setFunc_pending (f : Fin 256) (x : Func) : (s.setFunc f x).pending = s.pending := rfl
@[simp] theorem State.setFunc_tally (f : Fin 256) (x : Func) : (s.setFunc f x).tally = s.tally := rfl
@[simp] theorem State.setFunc_freeUses (f : Fin 256) (x : Func) : (s.setFunc f x).freeUses = s.freeUses := rfl
@[simp] theorem State.setFunc_out (f : Fin 256) (x : Func) : (s.setFunc f x).out = s.out := rfl
@[simp] theorem State.setFunc_service (f : Fin 256) (x : Func) : (s.setFunc f x).service = s.service := rfl
@[simp] theorem State.setFunc_regs (f : Fin 256) (x : Func) : (s.setFunc f x).regs = s.regs := rfl
@[simp] theorem State.setFunc_decks (f : Fin 256) (x : Func) : (s.setFunc f x).decks = s.decks := rfl
@[simp] theorem State.setFunc_hbm (f : Fin 256) (x : Func) : (s.setFunc f x).hbm = s.hbm := rfl
@[simp] theorem State.setFunc_istore (f : Fin 256) (x : Func) : (s.setFunc f x).istore = s.istore := rfl
@[simp] theorem State.setFunc_ports (f : Fin 256) (x : Func) : (s.setFunc f x).ports = s.ports := rfl
@[simp] theorem State.setFunc_road (f : Fin 256) (x : Func) : (s.setFunc f x).road = s.road := rfl
@[simp] theorem State.setFunc_roads (f : Fin 256) (x : Func) : (s.setFunc f x).roads = s.roads := rfl
@[simp] theorem State.setFunc_barriers (f : Fin 256) (x : Func) : (s.setFunc f x).barriers = s.barriers := rfl
@[simp] theorem State.setFunc_tiles (f : Fin 256) (x : Func) : (s.setFunc f x).tiles = s.tiles := rfl
@[simp] theorem State.setFunc_groves (f : Fin 256) (x : Func) : (s.setFunc f x).groves = s.groves := rfl
@[simp] theorem State.setFunc_fellers (f : Fin 256) (x : Func) : (s.setFunc f x).fellers = s.fellers := rfl
@[simp] theorem State.setFunc_rotWait (f : Fin 256) (x : Func) : (s.setFunc f x).rotWait = s.rotWait := rfl
@[simp] theorem State.setFunc_remaps (f : Fin 256) (x : Func) : (s.setFunc f x).remaps = s.remaps := rfl
@[simp] theorem State.setFunc_handover (f : Fin 256) (x : Func) : (s.setFunc f x).handover = s.handover := rfl
@[simp] theorem State.setFunc_journal (f : Fin 256) (x : Func) : (s.setFunc f x).journal = s.journal := rfl
@[simp] theorem State.setFunc_srcCount (f : Fin 256) (x : Func) : (s.setFunc f x).srcCount = s.srcCount := rfl
@[simp] theorem State.setFunc_violLog (f : Fin 256) (x : Func) : (s.setFunc f x).violLog = s.violLog := rfl
@[simp] theorem State.setFunc_violCount (f : Fin 256) (x : Func) : (s.setFunc f x).violCount = s.violCount := rfl
@[simp] theorem State.setFunc_seqs (f : Fin 256) (x : Func) : (s.setFunc f x).seqs = s.seqs := rfl
@[simp] theorem State.setFunc_fellings (f : Fin 256) (x : Func) : (s.setFunc f x).fellings = s.fellings := rfl
@[simp] theorem State.setFunc_fellCtr (f : Fin 256) (x : Func) : (s.setFunc f x).fellCtr = s.fellCtr := rfl
@[simp] theorem State.setFunc_standFells (f : Fin 256) (x : Func) : (s.setFunc f x).standFells = s.standFells := rfl
@[simp] theorem State.setFunc_sheds (f : Fin 256) (x : Func) : (s.setFunc f x).sheds = s.sheds := rfl
@[simp] theorem State.setFunc_classes (f : Fin 256) (x : Func) : (s.setFunc f x).classes = s.classes := rfl
@[simp] theorem State.setFunc_images (f : Fin 256) (x : Func) : (s.setFunc f x).images = s.images := rfl
@[simp] theorem State.setFunc_usedPages (f : Fin 256) (x : Func) : (s.setFunc f x).usedPages = s.usedPages := rfl
@[simp] theorem State.setFunc_usedUnits (f : Fin 256) (x : Func) : (s.setFunc f x).usedUnits = s.usedUnits := rfl
@[simp] theorem State.setFunc_usedDeckPages (f : Fin 256) (x : Func) : (s.setFunc f x).usedDeckPages = s.usedDeckPages := rfl
@[simp] theorem State.setFunc_tenants (f : Fin 256) (x : Func) : (s.setFunc f x).tenants = s.tenants := rfl
@[simp] theorem State.setFunc_foresterB (f : Fin 256) (x : Func) : (s.setFunc f x).foresterB = s.foresterB := rfl
@[simp] theorem State.setFunc_standbyIn (f : Fin 256) (x : Func) : (s.setFunc f x).standbyIn = s.standbyIn := rfl
@[simp] theorem State.setFunc_reserve (f : Fin 256) (x : Func) : (s.setFunc f x).reserve = s.reserve := rfl
@[simp] theorem State.setFunc_landingsLost (f : Fin 256) (x : Func) : (s.setFunc f x).landingsLost = s.landingsLost := rfl
@[simp] theorem State.setFunc_config (f : Fin 256) (x : Func) : (s.setFunc f x).config = s.config := rfl
@[simp] theorem State.setFunc_prot (f : Fin 256) (x : Func) : (s.setFunc f x).prot = s.prot := rfl
@[simp] theorem State.setFunc_bankB (f : Fin 256) (x : Func) : (s.setFunc f x).bankB = s.bankB := rfl
@[simp] theorem State.setFunc_events (f : Fin 256) (x : Func) : (s.setFunc f x).events = s.events := rfl
@[simp] theorem State.setFunc_lockstep (f : Fin 256) (x : Func) : (s.setFunc f x).lockstep = s.lockstep := rfl
@[simp] theorem State.setFunc_exact (f : Fin 256) (x : Func) : (s.setFunc f x).exact = s.exact := rfl
@[simp] theorem State.setFunc_period (f : Fin 256) (x : Func) : (s.setFunc f x).period = s.period := rfl
@[simp] theorem State.setFunc_epoch (f : Fin 256) (x : Func) : (s.setFunc f x).epoch = s.epoch := rfl
@[simp] theorem State.setFunc_origin (f : Fin 256) (x : Func) : (s.setFunc f x).origin = s.origin := rfl
@[simp] theorem State.setFunc_wakeWant (f : Fin 256) (x : Func) : (s.setFunc f x).wakeWant = s.wakeWant := rfl
@[simp] theorem State.setFunc_powers (f : Fin 256) (x : Func) : (s.setFunc f x).powers = s.powers := rfl
@[simp] theorem State.setFunc_sensors (f : Fin 256) (x : Func) : (s.setFunc f x).sensors = s.sensors := rfl
@[simp] theorem State.setFunc_flowLow (f : Fin 256) (x : Func) : (s.setFunc f x).flowLow = s.flowLow := rfl
@[simp] theorem State.setFunc_latched (f : Fin 256) (x : Func) : (s.setFunc f x).latched = s.latched := rfl
@[simp] theorem State.setFunc_protLocked (f : Fin 256) (x : Func) : (s.setFunc f x).protLocked = s.protLocked := rfl
@[simp] theorem State.setFunc_flash (f : Fin 256) (x : Func) : (s.setFunc f x).flash = s.flash := rfl
@[simp] theorem State.setFunc_refBackup (f : Fin 256) (x : Func) : (s.setFunc f x).refBackup = s.refBackup := rfl
@[simp] theorem State.setFunc_twin (f : Fin 256) (x : Func) : (s.setFunc f x).twin = s.twin := rfl
@[simp] theorem State.setFunc_drain (f : Fin 256) (x : Func) : (s.setFunc f x).drain = s.drain := rfl
@[simp] theorem State.setFunc_ops (f : Fin 256) (x : Func) : (s.setFunc f x).ops = s.ops := rfl
@[simp] theorem State.setFunc_nextOp (f : Fin 256) (x : Func) : (s.setFunc f x).nextOp = s.nextOp := rfl
@[simp] theorem State.setFunc_misses (f : Fin 256) (x : Func) : (s.setFunc f x).misses = s.misses := rfl
@[simp] theorem State.setFunc_thinWaits (f : Fin 256) (x : Func) : (s.setFunc f x).thinWaits = s.thinWaits := rfl
@[simp] theorem State.setFunc_testSave (f : Fin 256) (x : Func) : (s.setFunc f x).testSave = s.testSave := rfl
@[simp] theorem State.setFunc_offHistory (f : Fin 256) (x : Func) : (s.setFunc f x).offHistory = s.offHistory := rfl
@[simp] theorem State.setFunc_journalLow (f : Fin 256) (x : Func) : (s.setFunc f x).journalLow = s.journalLow := rfl
@[simp] theorem State.setFunc_stagings (f : Fin 256) (x : Func) : (s.setFunc f x).stagings = s.stagings := rfl
@[simp] theorem State.setFunc_nextStaging (f : Fin 256) (x : Func) : (s.setFunc f x).nextStaging = s.nextStaging := rfl
@[simp] theorem State.setFunc_goldens (f : Fin 256) (x : Func) : (s.setFunc f x).goldens = s.goldens := rfl
@[simp] theorem State.setFunc_qps (f : Fin 256) (x : Func) : (s.setFunc f x).qps = s.qps := rfl
@[simp] theorem State.setFunc_ptp (f : Fin 256) (x : Func) : (s.setFunc f x).ptp = s.ptp := rfl
@[simp] theorem State.setFunc_swap (f : Fin 256) (x : Func) : (s.setFunc f x).swap = s.swap := rfl
@[simp] theorem State.setFunc_staged (f : Fin 256) (x : Func) : (s.setFunc f x).staged = s.staged := rfl
@[simp] theorem State.setFunc_running_ (f : Fin 256) (x : Func) : (s.setFunc f x).running_ = s.running_ := rfl
@[simp] theorem State.setFunc_spdm (f : Fin 256) (x : Func) : (s.setFunc f x).spdm = s.spdm := rfl
@[simp] theorem State.setFunc_osfpHeld (f : Fin 256) (x : Func) : (s.setFunc f x).osfpHeld = s.osfpHeld := rfl
@[simp] theorem State.setFunc_pinsLow (f : Fin 256) (x : Func) : (s.setFunc f x).pinsLow = s.pinsLow := rfl
@[simp] theorem State.setFunc_surveyLeft (f : Fin 256) (x : Func) : (s.setFunc f x).surveyLeft = s.surveyLeft := rfl

/-! ## setTile -/

@[simp] theorem State.setTile_pending (t : TileId) (x : Tile) : (s.setTile t x).pending = s.pending := rfl
@[simp] theorem State.setTile_tally (t : TileId) (x : Tile) : (s.setTile t x).tally = s.tally := rfl
@[simp] theorem State.setTile_freeUses (t : TileId) (x : Tile) : (s.setTile t x).freeUses = s.freeUses := rfl
@[simp] theorem State.setTile_out (t : TileId) (x : Tile) : (s.setTile t x).out = s.out := rfl
@[simp] theorem State.setTile_service (t : TileId) (x : Tile) : (s.setTile t x).service = s.service := rfl
@[simp] theorem State.setTile_regs (t : TileId) (x : Tile) : (s.setTile t x).regs = s.regs := rfl
@[simp] theorem State.setTile_decks (t : TileId) (x : Tile) : (s.setTile t x).decks = s.decks := rfl
@[simp] theorem State.setTile_hbm (t : TileId) (x : Tile) : (s.setTile t x).hbm = s.hbm := rfl
@[simp] theorem State.setTile_istore (t : TileId) (x : Tile) : (s.setTile t x).istore = s.istore := rfl
@[simp] theorem State.setTile_ports (t : TileId) (x : Tile) : (s.setTile t x).ports = s.ports := rfl
@[simp] theorem State.setTile_road (t : TileId) (x : Tile) : (s.setTile t x).road = s.road := rfl
@[simp] theorem State.setTile_roads (t : TileId) (x : Tile) : (s.setTile t x).roads = s.roads := rfl
@[simp] theorem State.setTile_barriers (t : TileId) (x : Tile) : (s.setTile t x).barriers = s.barriers := rfl
@[simp] theorem State.setTile_groves (t : TileId) (x : Tile) : (s.setTile t x).groves = s.groves := rfl
@[simp] theorem State.setTile_fellers (t : TileId) (x : Tile) : (s.setTile t x).fellers = s.fellers := rfl
@[simp] theorem State.setTile_rotWait (t : TileId) (x : Tile) : (s.setTile t x).rotWait = s.rotWait := rfl
@[simp] theorem State.setTile_remaps (t : TileId) (x : Tile) : (s.setTile t x).remaps = s.remaps := rfl
@[simp] theorem State.setTile_handover (t : TileId) (x : Tile) : (s.setTile t x).handover = s.handover := rfl
@[simp] theorem State.setTile_journal (t : TileId) (x : Tile) : (s.setTile t x).journal = s.journal := rfl
@[simp] theorem State.setTile_srcCount (t : TileId) (x : Tile) : (s.setTile t x).srcCount = s.srcCount := rfl
@[simp] theorem State.setTile_funcs (t : TileId) (x : Tile) : (s.setTile t x).funcs = s.funcs := rfl
@[simp] theorem State.setTile_violLog (t : TileId) (x : Tile) : (s.setTile t x).violLog = s.violLog := rfl
@[simp] theorem State.setTile_violCount (t : TileId) (x : Tile) : (s.setTile t x).violCount = s.violCount := rfl
@[simp] theorem State.setTile_seqs (t : TileId) (x : Tile) : (s.setTile t x).seqs = s.seqs := rfl
@[simp] theorem State.setTile_fellings (t : TileId) (x : Tile) : (s.setTile t x).fellings = s.fellings := rfl
@[simp] theorem State.setTile_fellCtr (t : TileId) (x : Tile) : (s.setTile t x).fellCtr = s.fellCtr := rfl
@[simp] theorem State.setTile_standFells (t : TileId) (x : Tile) : (s.setTile t x).standFells = s.standFells := rfl
@[simp] theorem State.setTile_sheds (t : TileId) (x : Tile) : (s.setTile t x).sheds = s.sheds := rfl
@[simp] theorem State.setTile_classes (t : TileId) (x : Tile) : (s.setTile t x).classes = s.classes := rfl
@[simp] theorem State.setTile_images (t : TileId) (x : Tile) : (s.setTile t x).images = s.images := rfl
@[simp] theorem State.setTile_usedPages (t : TileId) (x : Tile) : (s.setTile t x).usedPages = s.usedPages := rfl
@[simp] theorem State.setTile_usedUnits (t : TileId) (x : Tile) : (s.setTile t x).usedUnits = s.usedUnits := rfl
@[simp] theorem State.setTile_usedDeckPages (t : TileId) (x : Tile) : (s.setTile t x).usedDeckPages = s.usedDeckPages := rfl
@[simp] theorem State.setTile_tenants (t : TileId) (x : Tile) : (s.setTile t x).tenants = s.tenants := rfl
@[simp] theorem State.setTile_foresterB (t : TileId) (x : Tile) : (s.setTile t x).foresterB = s.foresterB := rfl
@[simp] theorem State.setTile_standbyIn (t : TileId) (x : Tile) : (s.setTile t x).standbyIn = s.standbyIn := rfl
@[simp] theorem State.setTile_reserve (t : TileId) (x : Tile) : (s.setTile t x).reserve = s.reserve := rfl
@[simp] theorem State.setTile_landingsLost (t : TileId) (x : Tile) : (s.setTile t x).landingsLost = s.landingsLost := rfl
@[simp] theorem State.setTile_config (t : TileId) (x : Tile) : (s.setTile t x).config = s.config := rfl
@[simp] theorem State.setTile_prot (t : TileId) (x : Tile) : (s.setTile t x).prot = s.prot := rfl
@[simp] theorem State.setTile_bankB (t : TileId) (x : Tile) : (s.setTile t x).bankB = s.bankB := rfl
@[simp] theorem State.setTile_events (t : TileId) (x : Tile) : (s.setTile t x).events = s.events := rfl
@[simp] theorem State.setTile_lockstep (t : TileId) (x : Tile) : (s.setTile t x).lockstep = s.lockstep := rfl
@[simp] theorem State.setTile_exact (t : TileId) (x : Tile) : (s.setTile t x).exact = s.exact := rfl
@[simp] theorem State.setTile_period (t : TileId) (x : Tile) : (s.setTile t x).period = s.period := rfl
@[simp] theorem State.setTile_epoch (t : TileId) (x : Tile) : (s.setTile t x).epoch = s.epoch := rfl
@[simp] theorem State.setTile_origin (t : TileId) (x : Tile) : (s.setTile t x).origin = s.origin := rfl
@[simp] theorem State.setTile_wakeWant (t : TileId) (x : Tile) : (s.setTile t x).wakeWant = s.wakeWant := rfl
@[simp] theorem State.setTile_powers (t : TileId) (x : Tile) : (s.setTile t x).powers = s.powers := rfl
@[simp] theorem State.setTile_sensors (t : TileId) (x : Tile) : (s.setTile t x).sensors = s.sensors := rfl
@[simp] theorem State.setTile_flowLow (t : TileId) (x : Tile) : (s.setTile t x).flowLow = s.flowLow := rfl
@[simp] theorem State.setTile_latched (t : TileId) (x : Tile) : (s.setTile t x).latched = s.latched := rfl
@[simp] theorem State.setTile_protLocked (t : TileId) (x : Tile) : (s.setTile t x).protLocked = s.protLocked := rfl
@[simp] theorem State.setTile_flash (t : TileId) (x : Tile) : (s.setTile t x).flash = s.flash := rfl
@[simp] theorem State.setTile_refBackup (t : TileId) (x : Tile) : (s.setTile t x).refBackup = s.refBackup := rfl
@[simp] theorem State.setTile_twin (t : TileId) (x : Tile) : (s.setTile t x).twin = s.twin := rfl
@[simp] theorem State.setTile_drain (t : TileId) (x : Tile) : (s.setTile t x).drain = s.drain := rfl
@[simp] theorem State.setTile_ops (t : TileId) (x : Tile) : (s.setTile t x).ops = s.ops := rfl
@[simp] theorem State.setTile_nextOp (t : TileId) (x : Tile) : (s.setTile t x).nextOp = s.nextOp := rfl
@[simp] theorem State.setTile_misses (t : TileId) (x : Tile) : (s.setTile t x).misses = s.misses := rfl
@[simp] theorem State.setTile_thinWaits (t : TileId) (x : Tile) : (s.setTile t x).thinWaits = s.thinWaits := rfl
@[simp] theorem State.setTile_testSave (t : TileId) (x : Tile) : (s.setTile t x).testSave = s.testSave := rfl
@[simp] theorem State.setTile_offHistory (t : TileId) (x : Tile) : (s.setTile t x).offHistory = s.offHistory := rfl
@[simp] theorem State.setTile_journalLow (t : TileId) (x : Tile) : (s.setTile t x).journalLow = s.journalLow := rfl
@[simp] theorem State.setTile_stagings (t : TileId) (x : Tile) : (s.setTile t x).stagings = s.stagings := rfl
@[simp] theorem State.setTile_nextStaging (t : TileId) (x : Tile) : (s.setTile t x).nextStaging = s.nextStaging := rfl
@[simp] theorem State.setTile_goldens (t : TileId) (x : Tile) : (s.setTile t x).goldens = s.goldens := rfl
@[simp] theorem State.setTile_qps (t : TileId) (x : Tile) : (s.setTile t x).qps = s.qps := rfl
@[simp] theorem State.setTile_ptp (t : TileId) (x : Tile) : (s.setTile t x).ptp = s.ptp := rfl
@[simp] theorem State.setTile_swap (t : TileId) (x : Tile) : (s.setTile t x).swap = s.swap := rfl
@[simp] theorem State.setTile_staged (t : TileId) (x : Tile) : (s.setTile t x).staged = s.staged := rfl
@[simp] theorem State.setTile_running_ (t : TileId) (x : Tile) : (s.setTile t x).running_ = s.running_ := rfl
@[simp] theorem State.setTile_spdm (t : TileId) (x : Tile) : (s.setTile t x).spdm = s.spdm := rfl
@[simp] theorem State.setTile_osfpHeld (t : TileId) (x : Tile) : (s.setTile t x).osfpHeld = s.osfpHeld := rfl
@[simp] theorem State.setTile_pinsLow (t : TileId) (x : Tile) : (s.setTile t x).pinsLow = s.pinsLow := rfl
@[simp] theorem State.setTile_surveyLeft (t : TileId) (x : Tile) : (s.setTile t x).surveyLeft = s.surveyLeft := rfl

/-! ## setGrove -/

@[simp] theorem State.setGrove_pending (g : GroveId) (x : Grove) : (s.setGrove g x).pending = s.pending := rfl
@[simp] theorem State.setGrove_tally (g : GroveId) (x : Grove) : (s.setGrove g x).tally = s.tally := rfl
@[simp] theorem State.setGrove_freeUses (g : GroveId) (x : Grove) : (s.setGrove g x).freeUses = s.freeUses := rfl
@[simp] theorem State.setGrove_out (g : GroveId) (x : Grove) : (s.setGrove g x).out = s.out := rfl
@[simp] theorem State.setGrove_service (g : GroveId) (x : Grove) : (s.setGrove g x).service = s.service := rfl
@[simp] theorem State.setGrove_regs (g : GroveId) (x : Grove) : (s.setGrove g x).regs = s.regs := rfl
@[simp] theorem State.setGrove_decks (g : GroveId) (x : Grove) : (s.setGrove g x).decks = s.decks := rfl
@[simp] theorem State.setGrove_hbm (g : GroveId) (x : Grove) : (s.setGrove g x).hbm = s.hbm := rfl
@[simp] theorem State.setGrove_istore (g : GroveId) (x : Grove) : (s.setGrove g x).istore = s.istore := rfl
@[simp] theorem State.setGrove_ports (g : GroveId) (x : Grove) : (s.setGrove g x).ports = s.ports := rfl
@[simp] theorem State.setGrove_road (g : GroveId) (x : Grove) : (s.setGrove g x).road = s.road := rfl
@[simp] theorem State.setGrove_roads (g : GroveId) (x : Grove) : (s.setGrove g x).roads = s.roads := rfl
@[simp] theorem State.setGrove_barriers (g : GroveId) (x : Grove) : (s.setGrove g x).barriers = s.barriers := rfl
@[simp] theorem State.setGrove_tiles (g : GroveId) (x : Grove) : (s.setGrove g x).tiles = s.tiles := rfl
@[simp] theorem State.setGrove_fellers (g : GroveId) (x : Grove) : (s.setGrove g x).fellers = s.fellers := rfl
@[simp] theorem State.setGrove_rotWait (g : GroveId) (x : Grove) : (s.setGrove g x).rotWait = s.rotWait := rfl
@[simp] theorem State.setGrove_remaps (g : GroveId) (x : Grove) : (s.setGrove g x).remaps = s.remaps := rfl
@[simp] theorem State.setGrove_handover (g : GroveId) (x : Grove) : (s.setGrove g x).handover = s.handover := rfl
@[simp] theorem State.setGrove_journal (g : GroveId) (x : Grove) : (s.setGrove g x).journal = s.journal := rfl
@[simp] theorem State.setGrove_srcCount (g : GroveId) (x : Grove) : (s.setGrove g x).srcCount = s.srcCount := rfl
@[simp] theorem State.setGrove_funcs (g : GroveId) (x : Grove) : (s.setGrove g x).funcs = s.funcs := rfl
@[simp] theorem State.setGrove_violLog (g : GroveId) (x : Grove) : (s.setGrove g x).violLog = s.violLog := rfl
@[simp] theorem State.setGrove_violCount (g : GroveId) (x : Grove) : (s.setGrove g x).violCount = s.violCount := rfl
@[simp] theorem State.setGrove_seqs (g : GroveId) (x : Grove) : (s.setGrove g x).seqs = s.seqs := rfl
@[simp] theorem State.setGrove_fellings (g : GroveId) (x : Grove) : (s.setGrove g x).fellings = s.fellings := rfl
@[simp] theorem State.setGrove_fellCtr (g : GroveId) (x : Grove) : (s.setGrove g x).fellCtr = s.fellCtr := rfl
@[simp] theorem State.setGrove_standFells (g : GroveId) (x : Grove) : (s.setGrove g x).standFells = s.standFells := rfl
@[simp] theorem State.setGrove_sheds (g : GroveId) (x : Grove) : (s.setGrove g x).sheds = s.sheds := rfl
@[simp] theorem State.setGrove_classes (g : GroveId) (x : Grove) : (s.setGrove g x).classes = s.classes := rfl
@[simp] theorem State.setGrove_images (g : GroveId) (x : Grove) : (s.setGrove g x).images = s.images := rfl
@[simp] theorem State.setGrove_usedPages (g : GroveId) (x : Grove) : (s.setGrove g x).usedPages = s.usedPages := rfl
@[simp] theorem State.setGrove_usedUnits (g : GroveId) (x : Grove) : (s.setGrove g x).usedUnits = s.usedUnits := rfl
@[simp] theorem State.setGrove_usedDeckPages (g : GroveId) (x : Grove) : (s.setGrove g x).usedDeckPages = s.usedDeckPages := rfl
@[simp] theorem State.setGrove_tenants (g : GroveId) (x : Grove) : (s.setGrove g x).tenants = s.tenants := rfl
@[simp] theorem State.setGrove_foresterB (g : GroveId) (x : Grove) : (s.setGrove g x).foresterB = s.foresterB := rfl
@[simp] theorem State.setGrove_standbyIn (g : GroveId) (x : Grove) : (s.setGrove g x).standbyIn = s.standbyIn := rfl
@[simp] theorem State.setGrove_reserve (g : GroveId) (x : Grove) : (s.setGrove g x).reserve = s.reserve := rfl
@[simp] theorem State.setGrove_landingsLost (g : GroveId) (x : Grove) : (s.setGrove g x).landingsLost = s.landingsLost := rfl
@[simp] theorem State.setGrove_config (g : GroveId) (x : Grove) : (s.setGrove g x).config = s.config := rfl
@[simp] theorem State.setGrove_prot (g : GroveId) (x : Grove) : (s.setGrove g x).prot = s.prot := rfl
@[simp] theorem State.setGrove_bankB (g : GroveId) (x : Grove) : (s.setGrove g x).bankB = s.bankB := rfl
@[simp] theorem State.setGrove_events (g : GroveId) (x : Grove) : (s.setGrove g x).events = s.events := rfl
@[simp] theorem State.setGrove_lockstep (g : GroveId) (x : Grove) : (s.setGrove g x).lockstep = s.lockstep := rfl
@[simp] theorem State.setGrove_exact (g : GroveId) (x : Grove) : (s.setGrove g x).exact = s.exact := rfl
@[simp] theorem State.setGrove_period (g : GroveId) (x : Grove) : (s.setGrove g x).period = s.period := rfl
@[simp] theorem State.setGrove_epoch (g : GroveId) (x : Grove) : (s.setGrove g x).epoch = s.epoch := rfl
@[simp] theorem State.setGrove_origin (g : GroveId) (x : Grove) : (s.setGrove g x).origin = s.origin := rfl
@[simp] theorem State.setGrove_wakeWant (g : GroveId) (x : Grove) : (s.setGrove g x).wakeWant = s.wakeWant := rfl
@[simp] theorem State.setGrove_powers (g : GroveId) (x : Grove) : (s.setGrove g x).powers = s.powers := rfl
@[simp] theorem State.setGrove_sensors (g : GroveId) (x : Grove) : (s.setGrove g x).sensors = s.sensors := rfl
@[simp] theorem State.setGrove_flowLow (g : GroveId) (x : Grove) : (s.setGrove g x).flowLow = s.flowLow := rfl
@[simp] theorem State.setGrove_latched (g : GroveId) (x : Grove) : (s.setGrove g x).latched = s.latched := rfl
@[simp] theorem State.setGrove_protLocked (g : GroveId) (x : Grove) : (s.setGrove g x).protLocked = s.protLocked := rfl
@[simp] theorem State.setGrove_flash (g : GroveId) (x : Grove) : (s.setGrove g x).flash = s.flash := rfl
@[simp] theorem State.setGrove_refBackup (g : GroveId) (x : Grove) : (s.setGrove g x).refBackup = s.refBackup := rfl
@[simp] theorem State.setGrove_twin (g : GroveId) (x : Grove) : (s.setGrove g x).twin = s.twin := rfl
@[simp] theorem State.setGrove_drain (g : GroveId) (x : Grove) : (s.setGrove g x).drain = s.drain := rfl
@[simp] theorem State.setGrove_ops (g : GroveId) (x : Grove) : (s.setGrove g x).ops = s.ops := rfl
@[simp] theorem State.setGrove_nextOp (g : GroveId) (x : Grove) : (s.setGrove g x).nextOp = s.nextOp := rfl
@[simp] theorem State.setGrove_misses (g : GroveId) (x : Grove) : (s.setGrove g x).misses = s.misses := rfl
@[simp] theorem State.setGrove_thinWaits (g : GroveId) (x : Grove) : (s.setGrove g x).thinWaits = s.thinWaits := rfl
@[simp] theorem State.setGrove_testSave (g : GroveId) (x : Grove) : (s.setGrove g x).testSave = s.testSave := rfl
@[simp] theorem State.setGrove_offHistory (g : GroveId) (x : Grove) : (s.setGrove g x).offHistory = s.offHistory := rfl
@[simp] theorem State.setGrove_journalLow (g : GroveId) (x : Grove) : (s.setGrove g x).journalLow = s.journalLow := rfl
@[simp] theorem State.setGrove_stagings (g : GroveId) (x : Grove) : (s.setGrove g x).stagings = s.stagings := rfl
@[simp] theorem State.setGrove_nextStaging (g : GroveId) (x : Grove) : (s.setGrove g x).nextStaging = s.nextStaging := rfl
@[simp] theorem State.setGrove_goldens (g : GroveId) (x : Grove) : (s.setGrove g x).goldens = s.goldens := rfl
@[simp] theorem State.setGrove_qps (g : GroveId) (x : Grove) : (s.setGrove g x).qps = s.qps := rfl
@[simp] theorem State.setGrove_ptp (g : GroveId) (x : Grove) : (s.setGrove g x).ptp = s.ptp := rfl
@[simp] theorem State.setGrove_swap (g : GroveId) (x : Grove) : (s.setGrove g x).swap = s.swap := rfl
@[simp] theorem State.setGrove_staged (g : GroveId) (x : Grove) : (s.setGrove g x).staged = s.staged := rfl
@[simp] theorem State.setGrove_running_ (g : GroveId) (x : Grove) : (s.setGrove g x).running_ = s.running_ := rfl
@[simp] theorem State.setGrove_spdm (g : GroveId) (x : Grove) : (s.setGrove g x).spdm = s.spdm := rfl
@[simp] theorem State.setGrove_osfpHeld (g : GroveId) (x : Grove) : (s.setGrove g x).osfpHeld = s.osfpHeld := rfl
@[simp] theorem State.setGrove_pinsLow (g : GroveId) (x : Grove) : (s.setGrove g x).pinsLow = s.pinsLow := rfl
@[simp] theorem State.setGrove_surveyLeft (g : GroveId) (x : Grove) : (s.setGrove g x).surveyLeft = s.surveyLeft := rfl

/-! ## setFeller -/

@[simp] theorem State.setFeller_pending (f : FellerId) (x : Feller) : (s.setFeller f x).pending = s.pending := rfl
@[simp] theorem State.setFeller_tally (f : FellerId) (x : Feller) : (s.setFeller f x).tally = s.tally := rfl
@[simp] theorem State.setFeller_freeUses (f : FellerId) (x : Feller) : (s.setFeller f x).freeUses = s.freeUses := rfl
@[simp] theorem State.setFeller_out (f : FellerId) (x : Feller) : (s.setFeller f x).out = s.out := rfl
@[simp] theorem State.setFeller_service (f : FellerId) (x : Feller) : (s.setFeller f x).service = s.service := rfl
@[simp] theorem State.setFeller_regs (f : FellerId) (x : Feller) : (s.setFeller f x).regs = s.regs := rfl
@[simp] theorem State.setFeller_decks (f : FellerId) (x : Feller) : (s.setFeller f x).decks = s.decks := rfl
@[simp] theorem State.setFeller_hbm (f : FellerId) (x : Feller) : (s.setFeller f x).hbm = s.hbm := rfl
@[simp] theorem State.setFeller_istore (f : FellerId) (x : Feller) : (s.setFeller f x).istore = s.istore := rfl
@[simp] theorem State.setFeller_ports (f : FellerId) (x : Feller) : (s.setFeller f x).ports = s.ports := rfl
@[simp] theorem State.setFeller_road (f : FellerId) (x : Feller) : (s.setFeller f x).road = s.road := rfl
@[simp] theorem State.setFeller_roads (f : FellerId) (x : Feller) : (s.setFeller f x).roads = s.roads := rfl
@[simp] theorem State.setFeller_barriers (f : FellerId) (x : Feller) : (s.setFeller f x).barriers = s.barriers := rfl
@[simp] theorem State.setFeller_tiles (f : FellerId) (x : Feller) : (s.setFeller f x).tiles = s.tiles := rfl
@[simp] theorem State.setFeller_groves (f : FellerId) (x : Feller) : (s.setFeller f x).groves = s.groves := rfl
@[simp] theorem State.setFeller_rotWait (f : FellerId) (x : Feller) : (s.setFeller f x).rotWait = s.rotWait := rfl
@[simp] theorem State.setFeller_remaps (f : FellerId) (x : Feller) : (s.setFeller f x).remaps = s.remaps := rfl
@[simp] theorem State.setFeller_handover (f : FellerId) (x : Feller) : (s.setFeller f x).handover = s.handover := rfl
@[simp] theorem State.setFeller_journal (f : FellerId) (x : Feller) : (s.setFeller f x).journal = s.journal := rfl
@[simp] theorem State.setFeller_srcCount (f : FellerId) (x : Feller) : (s.setFeller f x).srcCount = s.srcCount := rfl
@[simp] theorem State.setFeller_funcs (f : FellerId) (x : Feller) : (s.setFeller f x).funcs = s.funcs := rfl
@[simp] theorem State.setFeller_violLog (f : FellerId) (x : Feller) : (s.setFeller f x).violLog = s.violLog := rfl
@[simp] theorem State.setFeller_violCount (f : FellerId) (x : Feller) : (s.setFeller f x).violCount = s.violCount := rfl
@[simp] theorem State.setFeller_seqs (f : FellerId) (x : Feller) : (s.setFeller f x).seqs = s.seqs := rfl
@[simp] theorem State.setFeller_fellings (f : FellerId) (x : Feller) : (s.setFeller f x).fellings = s.fellings := rfl
@[simp] theorem State.setFeller_fellCtr (f : FellerId) (x : Feller) : (s.setFeller f x).fellCtr = s.fellCtr := rfl
@[simp] theorem State.setFeller_standFells (f : FellerId) (x : Feller) : (s.setFeller f x).standFells = s.standFells := rfl
@[simp] theorem State.setFeller_sheds (f : FellerId) (x : Feller) : (s.setFeller f x).sheds = s.sheds := rfl
@[simp] theorem State.setFeller_classes (f : FellerId) (x : Feller) : (s.setFeller f x).classes = s.classes := rfl
@[simp] theorem State.setFeller_images (f : FellerId) (x : Feller) : (s.setFeller f x).images = s.images := rfl
@[simp] theorem State.setFeller_usedPages (f : FellerId) (x : Feller) : (s.setFeller f x).usedPages = s.usedPages := rfl
@[simp] theorem State.setFeller_usedUnits (f : FellerId) (x : Feller) : (s.setFeller f x).usedUnits = s.usedUnits := rfl
@[simp] theorem State.setFeller_usedDeckPages (f : FellerId) (x : Feller) : (s.setFeller f x).usedDeckPages = s.usedDeckPages := rfl
@[simp] theorem State.setFeller_tenants (f : FellerId) (x : Feller) : (s.setFeller f x).tenants = s.tenants := rfl
@[simp] theorem State.setFeller_foresterB (f : FellerId) (x : Feller) : (s.setFeller f x).foresterB = s.foresterB := rfl
@[simp] theorem State.setFeller_standbyIn (f : FellerId) (x : Feller) : (s.setFeller f x).standbyIn = s.standbyIn := rfl
@[simp] theorem State.setFeller_reserve (f : FellerId) (x : Feller) : (s.setFeller f x).reserve = s.reserve := rfl
@[simp] theorem State.setFeller_landingsLost (f : FellerId) (x : Feller) : (s.setFeller f x).landingsLost = s.landingsLost := rfl
@[simp] theorem State.setFeller_config (f : FellerId) (x : Feller) : (s.setFeller f x).config = s.config := rfl
@[simp] theorem State.setFeller_prot (f : FellerId) (x : Feller) : (s.setFeller f x).prot = s.prot := rfl
@[simp] theorem State.setFeller_bankB (f : FellerId) (x : Feller) : (s.setFeller f x).bankB = s.bankB := rfl
@[simp] theorem State.setFeller_events (f : FellerId) (x : Feller) : (s.setFeller f x).events = s.events := rfl
@[simp] theorem State.setFeller_lockstep (f : FellerId) (x : Feller) : (s.setFeller f x).lockstep = s.lockstep := rfl
@[simp] theorem State.setFeller_exact (f : FellerId) (x : Feller) : (s.setFeller f x).exact = s.exact := rfl
@[simp] theorem State.setFeller_period (f : FellerId) (x : Feller) : (s.setFeller f x).period = s.period := rfl
@[simp] theorem State.setFeller_epoch (f : FellerId) (x : Feller) : (s.setFeller f x).epoch = s.epoch := rfl
@[simp] theorem State.setFeller_origin (f : FellerId) (x : Feller) : (s.setFeller f x).origin = s.origin := rfl
@[simp] theorem State.setFeller_wakeWant (f : FellerId) (x : Feller) : (s.setFeller f x).wakeWant = s.wakeWant := rfl
@[simp] theorem State.setFeller_powers (f : FellerId) (x : Feller) : (s.setFeller f x).powers = s.powers := rfl
@[simp] theorem State.setFeller_sensors (f : FellerId) (x : Feller) : (s.setFeller f x).sensors = s.sensors := rfl
@[simp] theorem State.setFeller_flowLow (f : FellerId) (x : Feller) : (s.setFeller f x).flowLow = s.flowLow := rfl
@[simp] theorem State.setFeller_latched (f : FellerId) (x : Feller) : (s.setFeller f x).latched = s.latched := rfl
@[simp] theorem State.setFeller_protLocked (f : FellerId) (x : Feller) : (s.setFeller f x).protLocked = s.protLocked := rfl
@[simp] theorem State.setFeller_flash (f : FellerId) (x : Feller) : (s.setFeller f x).flash = s.flash := rfl
@[simp] theorem State.setFeller_refBackup (f : FellerId) (x : Feller) : (s.setFeller f x).refBackup = s.refBackup := rfl
@[simp] theorem State.setFeller_twin (f : FellerId) (x : Feller) : (s.setFeller f x).twin = s.twin := rfl
@[simp] theorem State.setFeller_drain (f : FellerId) (x : Feller) : (s.setFeller f x).drain = s.drain := rfl
@[simp] theorem State.setFeller_ops (f : FellerId) (x : Feller) : (s.setFeller f x).ops = s.ops := rfl
@[simp] theorem State.setFeller_nextOp (f : FellerId) (x : Feller) : (s.setFeller f x).nextOp = s.nextOp := rfl
@[simp] theorem State.setFeller_misses (f : FellerId) (x : Feller) : (s.setFeller f x).misses = s.misses := rfl
@[simp] theorem State.setFeller_thinWaits (f : FellerId) (x : Feller) : (s.setFeller f x).thinWaits = s.thinWaits := rfl
@[simp] theorem State.setFeller_testSave (f : FellerId) (x : Feller) : (s.setFeller f x).testSave = s.testSave := rfl
@[simp] theorem State.setFeller_offHistory (f : FellerId) (x : Feller) : (s.setFeller f x).offHistory = s.offHistory := rfl
@[simp] theorem State.setFeller_journalLow (f : FellerId) (x : Feller) : (s.setFeller f x).journalLow = s.journalLow := rfl
@[simp] theorem State.setFeller_stagings (f : FellerId) (x : Feller) : (s.setFeller f x).stagings = s.stagings := rfl
@[simp] theorem State.setFeller_nextStaging (f : FellerId) (x : Feller) : (s.setFeller f x).nextStaging = s.nextStaging := rfl
@[simp] theorem State.setFeller_goldens (f : FellerId) (x : Feller) : (s.setFeller f x).goldens = s.goldens := rfl
@[simp] theorem State.setFeller_qps (f : FellerId) (x : Feller) : (s.setFeller f x).qps = s.qps := rfl
@[simp] theorem State.setFeller_ptp (f : FellerId) (x : Feller) : (s.setFeller f x).ptp = s.ptp := rfl
@[simp] theorem State.setFeller_swap (f : FellerId) (x : Feller) : (s.setFeller f x).swap = s.swap := rfl
@[simp] theorem State.setFeller_staged (f : FellerId) (x : Feller) : (s.setFeller f x).staged = s.staged := rfl
@[simp] theorem State.setFeller_running_ (f : FellerId) (x : Feller) : (s.setFeller f x).running_ = s.running_ := rfl
@[simp] theorem State.setFeller_spdm (f : FellerId) (x : Feller) : (s.setFeller f x).spdm = s.spdm := rfl
@[simp] theorem State.setFeller_osfpHeld (f : FellerId) (x : Feller) : (s.setFeller f x).osfpHeld = s.osfpHeld := rfl
@[simp] theorem State.setFeller_pinsLow (f : FellerId) (x : Feller) : (s.setFeller f x).pinsLow = s.pinsLow := rfl
@[simp] theorem State.setFeller_surveyLeft (f : FellerId) (x : Feller) : (s.setFeller f x).surveyLeft = s.surveyLeft := rfl

/-! ## deckWrite -/

@[simp] theorem State.deckWrite_pending (g : GroveId) (a : Nat) (bs : List Byte) : (s.deckWrite g a bs).pending = s.pending := rfl
@[simp] theorem State.deckWrite_tally (g : GroveId) (a : Nat) (bs : List Byte) : (s.deckWrite g a bs).tally = s.tally := rfl
@[simp] theorem State.deckWrite_freeUses (g : GroveId) (a : Nat) (bs : List Byte) : (s.deckWrite g a bs).freeUses = s.freeUses := rfl
@[simp] theorem State.deckWrite_out (g : GroveId) (a : Nat) (bs : List Byte) : (s.deckWrite g a bs).out = s.out := rfl
@[simp] theorem State.deckWrite_service (g : GroveId) (a : Nat) (bs : List Byte) : (s.deckWrite g a bs).service = s.service := rfl
@[simp] theorem State.deckWrite_regs (g : GroveId) (a : Nat) (bs : List Byte) : (s.deckWrite g a bs).regs = s.regs := rfl
@[simp] theorem State.deckWrite_hbm (g : GroveId) (a : Nat) (bs : List Byte) : (s.deckWrite g a bs).hbm = s.hbm := rfl
@[simp] theorem State.deckWrite_istore (g : GroveId) (a : Nat) (bs : List Byte) : (s.deckWrite g a bs).istore = s.istore := rfl
@[simp] theorem State.deckWrite_ports (g : GroveId) (a : Nat) (bs : List Byte) : (s.deckWrite g a bs).ports = s.ports := rfl
@[simp] theorem State.deckWrite_road (g : GroveId) (a : Nat) (bs : List Byte) : (s.deckWrite g a bs).road = s.road := rfl
@[simp] theorem State.deckWrite_roads (g : GroveId) (a : Nat) (bs : List Byte) : (s.deckWrite g a bs).roads = s.roads := rfl
@[simp] theorem State.deckWrite_barriers (g : GroveId) (a : Nat) (bs : List Byte) : (s.deckWrite g a bs).barriers = s.barriers := rfl
@[simp] theorem State.deckWrite_tiles (g : GroveId) (a : Nat) (bs : List Byte) : (s.deckWrite g a bs).tiles = s.tiles := rfl
@[simp] theorem State.deckWrite_groves (g : GroveId) (a : Nat) (bs : List Byte) : (s.deckWrite g a bs).groves = s.groves := rfl
@[simp] theorem State.deckWrite_fellers (g : GroveId) (a : Nat) (bs : List Byte) : (s.deckWrite g a bs).fellers = s.fellers := rfl
@[simp] theorem State.deckWrite_rotWait (g : GroveId) (a : Nat) (bs : List Byte) : (s.deckWrite g a bs).rotWait = s.rotWait := rfl
@[simp] theorem State.deckWrite_remaps (g : GroveId) (a : Nat) (bs : List Byte) : (s.deckWrite g a bs).remaps = s.remaps := rfl
@[simp] theorem State.deckWrite_handover (g : GroveId) (a : Nat) (bs : List Byte) : (s.deckWrite g a bs).handover = s.handover := rfl
@[simp] theorem State.deckWrite_journal (g : GroveId) (a : Nat) (bs : List Byte) : (s.deckWrite g a bs).journal = s.journal := rfl
@[simp] theorem State.deckWrite_srcCount (g : GroveId) (a : Nat) (bs : List Byte) : (s.deckWrite g a bs).srcCount = s.srcCount := rfl
@[simp] theorem State.deckWrite_funcs (g : GroveId) (a : Nat) (bs : List Byte) : (s.deckWrite g a bs).funcs = s.funcs := rfl
@[simp] theorem State.deckWrite_violLog (g : GroveId) (a : Nat) (bs : List Byte) : (s.deckWrite g a bs).violLog = s.violLog := rfl
@[simp] theorem State.deckWrite_violCount (g : GroveId) (a : Nat) (bs : List Byte) : (s.deckWrite g a bs).violCount = s.violCount := rfl
@[simp] theorem State.deckWrite_seqs (g : GroveId) (a : Nat) (bs : List Byte) : (s.deckWrite g a bs).seqs = s.seqs := rfl
@[simp] theorem State.deckWrite_fellings (g : GroveId) (a : Nat) (bs : List Byte) : (s.deckWrite g a bs).fellings = s.fellings := rfl
@[simp] theorem State.deckWrite_fellCtr (g : GroveId) (a : Nat) (bs : List Byte) : (s.deckWrite g a bs).fellCtr = s.fellCtr := rfl
@[simp] theorem State.deckWrite_standFells (g : GroveId) (a : Nat) (bs : List Byte) : (s.deckWrite g a bs).standFells = s.standFells := rfl
@[simp] theorem State.deckWrite_sheds (g : GroveId) (a : Nat) (bs : List Byte) : (s.deckWrite g a bs).sheds = s.sheds := rfl
@[simp] theorem State.deckWrite_classes (g : GroveId) (a : Nat) (bs : List Byte) : (s.deckWrite g a bs).classes = s.classes := rfl
@[simp] theorem State.deckWrite_images (g : GroveId) (a : Nat) (bs : List Byte) : (s.deckWrite g a bs).images = s.images := rfl
@[simp] theorem State.deckWrite_usedPages (g : GroveId) (a : Nat) (bs : List Byte) : (s.deckWrite g a bs).usedPages = s.usedPages := rfl
@[simp] theorem State.deckWrite_usedUnits (g : GroveId) (a : Nat) (bs : List Byte) : (s.deckWrite g a bs).usedUnits = s.usedUnits := rfl
@[simp] theorem State.deckWrite_usedDeckPages (g : GroveId) (a : Nat) (bs : List Byte) : (s.deckWrite g a bs).usedDeckPages = s.usedDeckPages := rfl
@[simp] theorem State.deckWrite_tenants (g : GroveId) (a : Nat) (bs : List Byte) : (s.deckWrite g a bs).tenants = s.tenants := rfl
@[simp] theorem State.deckWrite_foresterB (g : GroveId) (a : Nat) (bs : List Byte) : (s.deckWrite g a bs).foresterB = s.foresterB := rfl
@[simp] theorem State.deckWrite_standbyIn (g : GroveId) (a : Nat) (bs : List Byte) : (s.deckWrite g a bs).standbyIn = s.standbyIn := rfl
@[simp] theorem State.deckWrite_reserve (g : GroveId) (a : Nat) (bs : List Byte) : (s.deckWrite g a bs).reserve = s.reserve := rfl
@[simp] theorem State.deckWrite_landingsLost (g : GroveId) (a : Nat) (bs : List Byte) : (s.deckWrite g a bs).landingsLost = s.landingsLost := rfl
@[simp] theorem State.deckWrite_config (g : GroveId) (a : Nat) (bs : List Byte) : (s.deckWrite g a bs).config = s.config := rfl
@[simp] theorem State.deckWrite_prot (g : GroveId) (a : Nat) (bs : List Byte) : (s.deckWrite g a bs).prot = s.prot := rfl
@[simp] theorem State.deckWrite_bankB (g : GroveId) (a : Nat) (bs : List Byte) : (s.deckWrite g a bs).bankB = s.bankB := rfl
@[simp] theorem State.deckWrite_events (g : GroveId) (a : Nat) (bs : List Byte) : (s.deckWrite g a bs).events = s.events := rfl
@[simp] theorem State.deckWrite_lockstep (g : GroveId) (a : Nat) (bs : List Byte) : (s.deckWrite g a bs).lockstep = s.lockstep := rfl
@[simp] theorem State.deckWrite_exact (g : GroveId) (a : Nat) (bs : List Byte) : (s.deckWrite g a bs).exact = s.exact := rfl
@[simp] theorem State.deckWrite_period (g : GroveId) (a : Nat) (bs : List Byte) : (s.deckWrite g a bs).period = s.period := rfl
@[simp] theorem State.deckWrite_epoch (g : GroveId) (a : Nat) (bs : List Byte) : (s.deckWrite g a bs).epoch = s.epoch := rfl
@[simp] theorem State.deckWrite_origin (g : GroveId) (a : Nat) (bs : List Byte) : (s.deckWrite g a bs).origin = s.origin := rfl
@[simp] theorem State.deckWrite_wakeWant (g : GroveId) (a : Nat) (bs : List Byte) : (s.deckWrite g a bs).wakeWant = s.wakeWant := rfl
@[simp] theorem State.deckWrite_powers (g : GroveId) (a : Nat) (bs : List Byte) : (s.deckWrite g a bs).powers = s.powers := rfl
@[simp] theorem State.deckWrite_sensors (g : GroveId) (a : Nat) (bs : List Byte) : (s.deckWrite g a bs).sensors = s.sensors := rfl
@[simp] theorem State.deckWrite_flowLow (g : GroveId) (a : Nat) (bs : List Byte) : (s.deckWrite g a bs).flowLow = s.flowLow := rfl
@[simp] theorem State.deckWrite_latched (g : GroveId) (a : Nat) (bs : List Byte) : (s.deckWrite g a bs).latched = s.latched := rfl
@[simp] theorem State.deckWrite_protLocked (g : GroveId) (a : Nat) (bs : List Byte) : (s.deckWrite g a bs).protLocked = s.protLocked := rfl
@[simp] theorem State.deckWrite_flash (g : GroveId) (a : Nat) (bs : List Byte) : (s.deckWrite g a bs).flash = s.flash := rfl
@[simp] theorem State.deckWrite_refBackup (g : GroveId) (a : Nat) (bs : List Byte) : (s.deckWrite g a bs).refBackup = s.refBackup := rfl
@[simp] theorem State.deckWrite_twin (g : GroveId) (a : Nat) (bs : List Byte) : (s.deckWrite g a bs).twin = s.twin := rfl
@[simp] theorem State.deckWrite_drain (g : GroveId) (a : Nat) (bs : List Byte) : (s.deckWrite g a bs).drain = s.drain := rfl
@[simp] theorem State.deckWrite_ops (g : GroveId) (a : Nat) (bs : List Byte) : (s.deckWrite g a bs).ops = s.ops := rfl
@[simp] theorem State.deckWrite_nextOp (g : GroveId) (a : Nat) (bs : List Byte) : (s.deckWrite g a bs).nextOp = s.nextOp := rfl
@[simp] theorem State.deckWrite_misses (g : GroveId) (a : Nat) (bs : List Byte) : (s.deckWrite g a bs).misses = s.misses := rfl
@[simp] theorem State.deckWrite_thinWaits (g : GroveId) (a : Nat) (bs : List Byte) : (s.deckWrite g a bs).thinWaits = s.thinWaits := rfl
@[simp] theorem State.deckWrite_testSave (g : GroveId) (a : Nat) (bs : List Byte) : (s.deckWrite g a bs).testSave = s.testSave := rfl
@[simp] theorem State.deckWrite_offHistory (g : GroveId) (a : Nat) (bs : List Byte) : (s.deckWrite g a bs).offHistory = s.offHistory := rfl
@[simp] theorem State.deckWrite_journalLow (g : GroveId) (a : Nat) (bs : List Byte) : (s.deckWrite g a bs).journalLow = s.journalLow := rfl
@[simp] theorem State.deckWrite_stagings (g : GroveId) (a : Nat) (bs : List Byte) : (s.deckWrite g a bs).stagings = s.stagings := rfl
@[simp] theorem State.deckWrite_nextStaging (g : GroveId) (a : Nat) (bs : List Byte) : (s.deckWrite g a bs).nextStaging = s.nextStaging := rfl
@[simp] theorem State.deckWrite_goldens (g : GroveId) (a : Nat) (bs : List Byte) : (s.deckWrite g a bs).goldens = s.goldens := rfl
@[simp] theorem State.deckWrite_qps (g : GroveId) (a : Nat) (bs : List Byte) : (s.deckWrite g a bs).qps = s.qps := rfl
@[simp] theorem State.deckWrite_ptp (g : GroveId) (a : Nat) (bs : List Byte) : (s.deckWrite g a bs).ptp = s.ptp := rfl
@[simp] theorem State.deckWrite_swap (g : GroveId) (a : Nat) (bs : List Byte) : (s.deckWrite g a bs).swap = s.swap := rfl
@[simp] theorem State.deckWrite_staged (g : GroveId) (a : Nat) (bs : List Byte) : (s.deckWrite g a bs).staged = s.staged := rfl
@[simp] theorem State.deckWrite_running_ (g : GroveId) (a : Nat) (bs : List Byte) : (s.deckWrite g a bs).running_ = s.running_ := rfl
@[simp] theorem State.deckWrite_spdm (g : GroveId) (a : Nat) (bs : List Byte) : (s.deckWrite g a bs).spdm = s.spdm := rfl
@[simp] theorem State.deckWrite_osfpHeld (g : GroveId) (a : Nat) (bs : List Byte) : (s.deckWrite g a bs).osfpHeld = s.osfpHeld := rfl
@[simp] theorem State.deckWrite_pinsLow (g : GroveId) (a : Nat) (bs : List Byte) : (s.deckWrite g a bs).pinsLow = s.pinsLow := rfl
@[simp] theorem State.deckWrite_surveyLeft (g : GroveId) (a : Nat) (bs : List Byte) : (s.deckWrite g a bs).surveyLeft = s.surveyLeft := rfl

/-! ## hbmWrite -/

@[simp] theorem State.hbmWrite_pending (a : Nat) (bs : List Byte) : (s.hbmWrite a bs).pending = s.pending := rfl
@[simp] theorem State.hbmWrite_tally (a : Nat) (bs : List Byte) : (s.hbmWrite a bs).tally = s.tally := rfl
@[simp] theorem State.hbmWrite_freeUses (a : Nat) (bs : List Byte) : (s.hbmWrite a bs).freeUses = s.freeUses := rfl
@[simp] theorem State.hbmWrite_out (a : Nat) (bs : List Byte) : (s.hbmWrite a bs).out = s.out := rfl
@[simp] theorem State.hbmWrite_service (a : Nat) (bs : List Byte) : (s.hbmWrite a bs).service = s.service := rfl
@[simp] theorem State.hbmWrite_regs (a : Nat) (bs : List Byte) : (s.hbmWrite a bs).regs = s.regs := rfl
@[simp] theorem State.hbmWrite_decks (a : Nat) (bs : List Byte) : (s.hbmWrite a bs).decks = s.decks := rfl
@[simp] theorem State.hbmWrite_istore (a : Nat) (bs : List Byte) : (s.hbmWrite a bs).istore = s.istore := rfl
@[simp] theorem State.hbmWrite_ports (a : Nat) (bs : List Byte) : (s.hbmWrite a bs).ports = s.ports := rfl
@[simp] theorem State.hbmWrite_road (a : Nat) (bs : List Byte) : (s.hbmWrite a bs).road = s.road := rfl
@[simp] theorem State.hbmWrite_roads (a : Nat) (bs : List Byte) : (s.hbmWrite a bs).roads = s.roads := rfl
@[simp] theorem State.hbmWrite_barriers (a : Nat) (bs : List Byte) : (s.hbmWrite a bs).barriers = s.barriers := rfl
@[simp] theorem State.hbmWrite_tiles (a : Nat) (bs : List Byte) : (s.hbmWrite a bs).tiles = s.tiles := rfl
@[simp] theorem State.hbmWrite_groves (a : Nat) (bs : List Byte) : (s.hbmWrite a bs).groves = s.groves := rfl
@[simp] theorem State.hbmWrite_fellers (a : Nat) (bs : List Byte) : (s.hbmWrite a bs).fellers = s.fellers := rfl
@[simp] theorem State.hbmWrite_rotWait (a : Nat) (bs : List Byte) : (s.hbmWrite a bs).rotWait = s.rotWait := rfl
@[simp] theorem State.hbmWrite_remaps (a : Nat) (bs : List Byte) : (s.hbmWrite a bs).remaps = s.remaps := rfl
@[simp] theorem State.hbmWrite_handover (a : Nat) (bs : List Byte) : (s.hbmWrite a bs).handover = s.handover := rfl
@[simp] theorem State.hbmWrite_journal (a : Nat) (bs : List Byte) : (s.hbmWrite a bs).journal = s.journal := rfl
@[simp] theorem State.hbmWrite_srcCount (a : Nat) (bs : List Byte) : (s.hbmWrite a bs).srcCount = s.srcCount := rfl
@[simp] theorem State.hbmWrite_funcs (a : Nat) (bs : List Byte) : (s.hbmWrite a bs).funcs = s.funcs := rfl
@[simp] theorem State.hbmWrite_violLog (a : Nat) (bs : List Byte) : (s.hbmWrite a bs).violLog = s.violLog := rfl
@[simp] theorem State.hbmWrite_violCount (a : Nat) (bs : List Byte) : (s.hbmWrite a bs).violCount = s.violCount := rfl
@[simp] theorem State.hbmWrite_seqs (a : Nat) (bs : List Byte) : (s.hbmWrite a bs).seqs = s.seqs := rfl
@[simp] theorem State.hbmWrite_fellings (a : Nat) (bs : List Byte) : (s.hbmWrite a bs).fellings = s.fellings := rfl
@[simp] theorem State.hbmWrite_fellCtr (a : Nat) (bs : List Byte) : (s.hbmWrite a bs).fellCtr = s.fellCtr := rfl
@[simp] theorem State.hbmWrite_standFells (a : Nat) (bs : List Byte) : (s.hbmWrite a bs).standFells = s.standFells := rfl
@[simp] theorem State.hbmWrite_sheds (a : Nat) (bs : List Byte) : (s.hbmWrite a bs).sheds = s.sheds := rfl
@[simp] theorem State.hbmWrite_classes (a : Nat) (bs : List Byte) : (s.hbmWrite a bs).classes = s.classes := rfl
@[simp] theorem State.hbmWrite_images (a : Nat) (bs : List Byte) : (s.hbmWrite a bs).images = s.images := rfl
@[simp] theorem State.hbmWrite_usedPages (a : Nat) (bs : List Byte) : (s.hbmWrite a bs).usedPages = s.usedPages := rfl
@[simp] theorem State.hbmWrite_usedUnits (a : Nat) (bs : List Byte) : (s.hbmWrite a bs).usedUnits = s.usedUnits := rfl
@[simp] theorem State.hbmWrite_usedDeckPages (a : Nat) (bs : List Byte) : (s.hbmWrite a bs).usedDeckPages = s.usedDeckPages := rfl
@[simp] theorem State.hbmWrite_tenants (a : Nat) (bs : List Byte) : (s.hbmWrite a bs).tenants = s.tenants := rfl
@[simp] theorem State.hbmWrite_foresterB (a : Nat) (bs : List Byte) : (s.hbmWrite a bs).foresterB = s.foresterB := rfl
@[simp] theorem State.hbmWrite_standbyIn (a : Nat) (bs : List Byte) : (s.hbmWrite a bs).standbyIn = s.standbyIn := rfl
@[simp] theorem State.hbmWrite_reserve (a : Nat) (bs : List Byte) : (s.hbmWrite a bs).reserve = s.reserve := rfl
@[simp] theorem State.hbmWrite_landingsLost (a : Nat) (bs : List Byte) : (s.hbmWrite a bs).landingsLost = s.landingsLost := rfl
@[simp] theorem State.hbmWrite_config (a : Nat) (bs : List Byte) : (s.hbmWrite a bs).config = s.config := rfl
@[simp] theorem State.hbmWrite_prot (a : Nat) (bs : List Byte) : (s.hbmWrite a bs).prot = s.prot := rfl
@[simp] theorem State.hbmWrite_bankB (a : Nat) (bs : List Byte) : (s.hbmWrite a bs).bankB = s.bankB := rfl
@[simp] theorem State.hbmWrite_events (a : Nat) (bs : List Byte) : (s.hbmWrite a bs).events = s.events := rfl
@[simp] theorem State.hbmWrite_lockstep (a : Nat) (bs : List Byte) : (s.hbmWrite a bs).lockstep = s.lockstep := rfl
@[simp] theorem State.hbmWrite_exact (a : Nat) (bs : List Byte) : (s.hbmWrite a bs).exact = s.exact := rfl
@[simp] theorem State.hbmWrite_period (a : Nat) (bs : List Byte) : (s.hbmWrite a bs).period = s.period := rfl
@[simp] theorem State.hbmWrite_epoch (a : Nat) (bs : List Byte) : (s.hbmWrite a bs).epoch = s.epoch := rfl
@[simp] theorem State.hbmWrite_origin (a : Nat) (bs : List Byte) : (s.hbmWrite a bs).origin = s.origin := rfl
@[simp] theorem State.hbmWrite_wakeWant (a : Nat) (bs : List Byte) : (s.hbmWrite a bs).wakeWant = s.wakeWant := rfl
@[simp] theorem State.hbmWrite_powers (a : Nat) (bs : List Byte) : (s.hbmWrite a bs).powers = s.powers := rfl
@[simp] theorem State.hbmWrite_sensors (a : Nat) (bs : List Byte) : (s.hbmWrite a bs).sensors = s.sensors := rfl
@[simp] theorem State.hbmWrite_flowLow (a : Nat) (bs : List Byte) : (s.hbmWrite a bs).flowLow = s.flowLow := rfl
@[simp] theorem State.hbmWrite_latched (a : Nat) (bs : List Byte) : (s.hbmWrite a bs).latched = s.latched := rfl
@[simp] theorem State.hbmWrite_protLocked (a : Nat) (bs : List Byte) : (s.hbmWrite a bs).protLocked = s.protLocked := rfl
@[simp] theorem State.hbmWrite_flash (a : Nat) (bs : List Byte) : (s.hbmWrite a bs).flash = s.flash := rfl
@[simp] theorem State.hbmWrite_refBackup (a : Nat) (bs : List Byte) : (s.hbmWrite a bs).refBackup = s.refBackup := rfl
@[simp] theorem State.hbmWrite_twin (a : Nat) (bs : List Byte) : (s.hbmWrite a bs).twin = s.twin := rfl
@[simp] theorem State.hbmWrite_drain (a : Nat) (bs : List Byte) : (s.hbmWrite a bs).drain = s.drain := rfl
@[simp] theorem State.hbmWrite_ops (a : Nat) (bs : List Byte) : (s.hbmWrite a bs).ops = s.ops := rfl
@[simp] theorem State.hbmWrite_nextOp (a : Nat) (bs : List Byte) : (s.hbmWrite a bs).nextOp = s.nextOp := rfl
@[simp] theorem State.hbmWrite_misses (a : Nat) (bs : List Byte) : (s.hbmWrite a bs).misses = s.misses := rfl
@[simp] theorem State.hbmWrite_thinWaits (a : Nat) (bs : List Byte) : (s.hbmWrite a bs).thinWaits = s.thinWaits := rfl
@[simp] theorem State.hbmWrite_testSave (a : Nat) (bs : List Byte) : (s.hbmWrite a bs).testSave = s.testSave := rfl
@[simp] theorem State.hbmWrite_offHistory (a : Nat) (bs : List Byte) : (s.hbmWrite a bs).offHistory = s.offHistory := rfl
@[simp] theorem State.hbmWrite_journalLow (a : Nat) (bs : List Byte) : (s.hbmWrite a bs).journalLow = s.journalLow := rfl
@[simp] theorem State.hbmWrite_stagings (a : Nat) (bs : List Byte) : (s.hbmWrite a bs).stagings = s.stagings := rfl
@[simp] theorem State.hbmWrite_nextStaging (a : Nat) (bs : List Byte) : (s.hbmWrite a bs).nextStaging = s.nextStaging := rfl
@[simp] theorem State.hbmWrite_goldens (a : Nat) (bs : List Byte) : (s.hbmWrite a bs).goldens = s.goldens := rfl
@[simp] theorem State.hbmWrite_qps (a : Nat) (bs : List Byte) : (s.hbmWrite a bs).qps = s.qps := rfl
@[simp] theorem State.hbmWrite_ptp (a : Nat) (bs : List Byte) : (s.hbmWrite a bs).ptp = s.ptp := rfl
@[simp] theorem State.hbmWrite_swap (a : Nat) (bs : List Byte) : (s.hbmWrite a bs).swap = s.swap := rfl
@[simp] theorem State.hbmWrite_staged (a : Nat) (bs : List Byte) : (s.hbmWrite a bs).staged = s.staged := rfl
@[simp] theorem State.hbmWrite_running_ (a : Nat) (bs : List Byte) : (s.hbmWrite a bs).running_ = s.running_ := rfl
@[simp] theorem State.hbmWrite_spdm (a : Nat) (bs : List Byte) : (s.hbmWrite a bs).spdm = s.spdm := rfl
@[simp] theorem State.hbmWrite_osfpHeld (a : Nat) (bs : List Byte) : (s.hbmWrite a bs).osfpHeld = s.osfpHeld := rfl
@[simp] theorem State.hbmWrite_pinsLow (a : Nat) (bs : List Byte) : (s.hbmWrite a bs).pinsLow = s.pinsLow := rfl
@[simp] theorem State.hbmWrite_surveyLeft (a : Nat) (bs : List Byte) : (s.hbmWrite a bs).surveyLeft = s.surveyLeft := rfl

/-! ## setSeq -/

@[simp] theorem State.setSeq_pending (i : Nat) (x : Seq) : (s.setSeq i x).pending = s.pending := rfl
@[simp] theorem State.setSeq_tally (i : Nat) (x : Seq) : (s.setSeq i x).tally = s.tally := rfl
@[simp] theorem State.setSeq_freeUses (i : Nat) (x : Seq) : (s.setSeq i x).freeUses = s.freeUses := rfl
@[simp] theorem State.setSeq_out (i : Nat) (x : Seq) : (s.setSeq i x).out = s.out := rfl
@[simp] theorem State.setSeq_service (i : Nat) (x : Seq) : (s.setSeq i x).service = s.service := rfl
@[simp] theorem State.setSeq_regs (i : Nat) (x : Seq) : (s.setSeq i x).regs = s.regs := rfl
@[simp] theorem State.setSeq_decks (i : Nat) (x : Seq) : (s.setSeq i x).decks = s.decks := rfl
@[simp] theorem State.setSeq_hbm (i : Nat) (x : Seq) : (s.setSeq i x).hbm = s.hbm := rfl
@[simp] theorem State.setSeq_istore (i : Nat) (x : Seq) : (s.setSeq i x).istore = s.istore := rfl
@[simp] theorem State.setSeq_ports (i : Nat) (x : Seq) : (s.setSeq i x).ports = s.ports := rfl
@[simp] theorem State.setSeq_road (i : Nat) (x : Seq) : (s.setSeq i x).road = s.road := rfl
@[simp] theorem State.setSeq_roads (i : Nat) (x : Seq) : (s.setSeq i x).roads = s.roads := rfl
@[simp] theorem State.setSeq_barriers (i : Nat) (x : Seq) : (s.setSeq i x).barriers = s.barriers := rfl
@[simp] theorem State.setSeq_tiles (i : Nat) (x : Seq) : (s.setSeq i x).tiles = s.tiles := rfl
@[simp] theorem State.setSeq_groves (i : Nat) (x : Seq) : (s.setSeq i x).groves = s.groves := rfl
@[simp] theorem State.setSeq_fellers (i : Nat) (x : Seq) : (s.setSeq i x).fellers = s.fellers := rfl
@[simp] theorem State.setSeq_rotWait (i : Nat) (x : Seq) : (s.setSeq i x).rotWait = s.rotWait := rfl
@[simp] theorem State.setSeq_remaps (i : Nat) (x : Seq) : (s.setSeq i x).remaps = s.remaps := rfl
@[simp] theorem State.setSeq_handover (i : Nat) (x : Seq) : (s.setSeq i x).handover = s.handover := rfl
@[simp] theorem State.setSeq_journal (i : Nat) (x : Seq) : (s.setSeq i x).journal = s.journal := rfl
@[simp] theorem State.setSeq_srcCount (i : Nat) (x : Seq) : (s.setSeq i x).srcCount = s.srcCount := rfl
@[simp] theorem State.setSeq_funcs (i : Nat) (x : Seq) : (s.setSeq i x).funcs = s.funcs := rfl
@[simp] theorem State.setSeq_violLog (i : Nat) (x : Seq) : (s.setSeq i x).violLog = s.violLog := rfl
@[simp] theorem State.setSeq_violCount (i : Nat) (x : Seq) : (s.setSeq i x).violCount = s.violCount := rfl
@[simp] theorem State.setSeq_fellings (i : Nat) (x : Seq) : (s.setSeq i x).fellings = s.fellings := rfl
@[simp] theorem State.setSeq_fellCtr (i : Nat) (x : Seq) : (s.setSeq i x).fellCtr = s.fellCtr := rfl
@[simp] theorem State.setSeq_standFells (i : Nat) (x : Seq) : (s.setSeq i x).standFells = s.standFells := rfl
@[simp] theorem State.setSeq_sheds (i : Nat) (x : Seq) : (s.setSeq i x).sheds = s.sheds := rfl
@[simp] theorem State.setSeq_classes (i : Nat) (x : Seq) : (s.setSeq i x).classes = s.classes := rfl
@[simp] theorem State.setSeq_images (i : Nat) (x : Seq) : (s.setSeq i x).images = s.images := rfl
@[simp] theorem State.setSeq_usedPages (i : Nat) (x : Seq) : (s.setSeq i x).usedPages = s.usedPages := rfl
@[simp] theorem State.setSeq_usedUnits (i : Nat) (x : Seq) : (s.setSeq i x).usedUnits = s.usedUnits := rfl
@[simp] theorem State.setSeq_usedDeckPages (i : Nat) (x : Seq) : (s.setSeq i x).usedDeckPages = s.usedDeckPages := rfl
@[simp] theorem State.setSeq_tenants (i : Nat) (x : Seq) : (s.setSeq i x).tenants = s.tenants := rfl
@[simp] theorem State.setSeq_foresterB (i : Nat) (x : Seq) : (s.setSeq i x).foresterB = s.foresterB := rfl
@[simp] theorem State.setSeq_standbyIn (i : Nat) (x : Seq) : (s.setSeq i x).standbyIn = s.standbyIn := rfl
@[simp] theorem State.setSeq_reserve (i : Nat) (x : Seq) : (s.setSeq i x).reserve = s.reserve := rfl
@[simp] theorem State.setSeq_landingsLost (i : Nat) (x : Seq) : (s.setSeq i x).landingsLost = s.landingsLost := rfl
@[simp] theorem State.setSeq_config (i : Nat) (x : Seq) : (s.setSeq i x).config = s.config := rfl
@[simp] theorem State.setSeq_prot (i : Nat) (x : Seq) : (s.setSeq i x).prot = s.prot := rfl
@[simp] theorem State.setSeq_bankB (i : Nat) (x : Seq) : (s.setSeq i x).bankB = s.bankB := rfl
@[simp] theorem State.setSeq_events (i : Nat) (x : Seq) : (s.setSeq i x).events = s.events := rfl
@[simp] theorem State.setSeq_lockstep (i : Nat) (x : Seq) : (s.setSeq i x).lockstep = s.lockstep := rfl
@[simp] theorem State.setSeq_exact (i : Nat) (x : Seq) : (s.setSeq i x).exact = s.exact := rfl
@[simp] theorem State.setSeq_period (i : Nat) (x : Seq) : (s.setSeq i x).period = s.period := rfl
@[simp] theorem State.setSeq_epoch (i : Nat) (x : Seq) : (s.setSeq i x).epoch = s.epoch := rfl
@[simp] theorem State.setSeq_origin (i : Nat) (x : Seq) : (s.setSeq i x).origin = s.origin := rfl
@[simp] theorem State.setSeq_wakeWant (i : Nat) (x : Seq) : (s.setSeq i x).wakeWant = s.wakeWant := rfl
@[simp] theorem State.setSeq_powers (i : Nat) (x : Seq) : (s.setSeq i x).powers = s.powers := rfl
@[simp] theorem State.setSeq_sensors (i : Nat) (x : Seq) : (s.setSeq i x).sensors = s.sensors := rfl
@[simp] theorem State.setSeq_flowLow (i : Nat) (x : Seq) : (s.setSeq i x).flowLow = s.flowLow := rfl
@[simp] theorem State.setSeq_latched (i : Nat) (x : Seq) : (s.setSeq i x).latched = s.latched := rfl
@[simp] theorem State.setSeq_protLocked (i : Nat) (x : Seq) : (s.setSeq i x).protLocked = s.protLocked := rfl
@[simp] theorem State.setSeq_flash (i : Nat) (x : Seq) : (s.setSeq i x).flash = s.flash := rfl
@[simp] theorem State.setSeq_refBackup (i : Nat) (x : Seq) : (s.setSeq i x).refBackup = s.refBackup := rfl
@[simp] theorem State.setSeq_twin (i : Nat) (x : Seq) : (s.setSeq i x).twin = s.twin := rfl
@[simp] theorem State.setSeq_drain (i : Nat) (x : Seq) : (s.setSeq i x).drain = s.drain := rfl
@[simp] theorem State.setSeq_ops (i : Nat) (x : Seq) : (s.setSeq i x).ops = s.ops := rfl
@[simp] theorem State.setSeq_nextOp (i : Nat) (x : Seq) : (s.setSeq i x).nextOp = s.nextOp := rfl
@[simp] theorem State.setSeq_misses (i : Nat) (x : Seq) : (s.setSeq i x).misses = s.misses := rfl
@[simp] theorem State.setSeq_thinWaits (i : Nat) (x : Seq) : (s.setSeq i x).thinWaits = s.thinWaits := rfl
@[simp] theorem State.setSeq_testSave (i : Nat) (x : Seq) : (s.setSeq i x).testSave = s.testSave := rfl
@[simp] theorem State.setSeq_offHistory (i : Nat) (x : Seq) : (s.setSeq i x).offHistory = s.offHistory := rfl
@[simp] theorem State.setSeq_journalLow (i : Nat) (x : Seq) : (s.setSeq i x).journalLow = s.journalLow := rfl
@[simp] theorem State.setSeq_stagings (i : Nat) (x : Seq) : (s.setSeq i x).stagings = s.stagings := rfl
@[simp] theorem State.setSeq_nextStaging (i : Nat) (x : Seq) : (s.setSeq i x).nextStaging = s.nextStaging := rfl
@[simp] theorem State.setSeq_goldens (i : Nat) (x : Seq) : (s.setSeq i x).goldens = s.goldens := rfl
@[simp] theorem State.setSeq_qps (i : Nat) (x : Seq) : (s.setSeq i x).qps = s.qps := rfl
@[simp] theorem State.setSeq_ptp (i : Nat) (x : Seq) : (s.setSeq i x).ptp = s.ptp := rfl
@[simp] theorem State.setSeq_swap (i : Nat) (x : Seq) : (s.setSeq i x).swap = s.swap := rfl
@[simp] theorem State.setSeq_staged (i : Nat) (x : Seq) : (s.setSeq i x).staged = s.staged := rfl
@[simp] theorem State.setSeq_running_ (i : Nat) (x : Seq) : (s.setSeq i x).running_ = s.running_ := rfl
@[simp] theorem State.setSeq_spdm (i : Nat) (x : Seq) : (s.setSeq i x).spdm = s.spdm := rfl
@[simp] theorem State.setSeq_osfpHeld (i : Nat) (x : Seq) : (s.setSeq i x).osfpHeld = s.osfpHeld := rfl
@[simp] theorem State.setSeq_pinsLow (i : Nat) (x : Seq) : (s.setSeq i x).pinsLow = s.pinsLow := rfl
@[simp] theorem State.setSeq_surveyLeft (i : Nat) (x : Seq) : (s.setSeq i x).surveyLeft = s.surveyLeft := rfl

/-! ## setTenant -/

@[simp] theorem State.setTenant_pending (n : Nat) (x : Tenant) : (s.setTenant n x).pending = s.pending := rfl
@[simp] theorem State.setTenant_tally (n : Nat) (x : Tenant) : (s.setTenant n x).tally = s.tally := rfl
@[simp] theorem State.setTenant_freeUses (n : Nat) (x : Tenant) : (s.setTenant n x).freeUses = s.freeUses := rfl
@[simp] theorem State.setTenant_out (n : Nat) (x : Tenant) : (s.setTenant n x).out = s.out := rfl
@[simp] theorem State.setTenant_service (n : Nat) (x : Tenant) : (s.setTenant n x).service = s.service := rfl
@[simp] theorem State.setTenant_regs (n : Nat) (x : Tenant) : (s.setTenant n x).regs = s.regs := rfl
@[simp] theorem State.setTenant_decks (n : Nat) (x : Tenant) : (s.setTenant n x).decks = s.decks := rfl
@[simp] theorem State.setTenant_hbm (n : Nat) (x : Tenant) : (s.setTenant n x).hbm = s.hbm := rfl
@[simp] theorem State.setTenant_istore (n : Nat) (x : Tenant) : (s.setTenant n x).istore = s.istore := rfl
@[simp] theorem State.setTenant_ports (n : Nat) (x : Tenant) : (s.setTenant n x).ports = s.ports := rfl
@[simp] theorem State.setTenant_road (n : Nat) (x : Tenant) : (s.setTenant n x).road = s.road := rfl
@[simp] theorem State.setTenant_roads (n : Nat) (x : Tenant) : (s.setTenant n x).roads = s.roads := rfl
@[simp] theorem State.setTenant_barriers (n : Nat) (x : Tenant) : (s.setTenant n x).barriers = s.barriers := rfl
@[simp] theorem State.setTenant_tiles (n : Nat) (x : Tenant) : (s.setTenant n x).tiles = s.tiles := rfl
@[simp] theorem State.setTenant_groves (n : Nat) (x : Tenant) : (s.setTenant n x).groves = s.groves := rfl
@[simp] theorem State.setTenant_fellers (n : Nat) (x : Tenant) : (s.setTenant n x).fellers = s.fellers := rfl
@[simp] theorem State.setTenant_rotWait (n : Nat) (x : Tenant) : (s.setTenant n x).rotWait = s.rotWait := rfl
@[simp] theorem State.setTenant_remaps (n : Nat) (x : Tenant) : (s.setTenant n x).remaps = s.remaps := rfl
@[simp] theorem State.setTenant_handover (n : Nat) (x : Tenant) : (s.setTenant n x).handover = s.handover := rfl
@[simp] theorem State.setTenant_journal (n : Nat) (x : Tenant) : (s.setTenant n x).journal = s.journal := rfl
@[simp] theorem State.setTenant_srcCount (n : Nat) (x : Tenant) : (s.setTenant n x).srcCount = s.srcCount := rfl
@[simp] theorem State.setTenant_funcs (n : Nat) (x : Tenant) : (s.setTenant n x).funcs = s.funcs := rfl
@[simp] theorem State.setTenant_violLog (n : Nat) (x : Tenant) : (s.setTenant n x).violLog = s.violLog := rfl
@[simp] theorem State.setTenant_violCount (n : Nat) (x : Tenant) : (s.setTenant n x).violCount = s.violCount := rfl
@[simp] theorem State.setTenant_seqs (n : Nat) (x : Tenant) : (s.setTenant n x).seqs = s.seqs := rfl
@[simp] theorem State.setTenant_fellings (n : Nat) (x : Tenant) : (s.setTenant n x).fellings = s.fellings := rfl
@[simp] theorem State.setTenant_fellCtr (n : Nat) (x : Tenant) : (s.setTenant n x).fellCtr = s.fellCtr := rfl
@[simp] theorem State.setTenant_standFells (n : Nat) (x : Tenant) : (s.setTenant n x).standFells = s.standFells := rfl
@[simp] theorem State.setTenant_sheds (n : Nat) (x : Tenant) : (s.setTenant n x).sheds = s.sheds := rfl
@[simp] theorem State.setTenant_classes (n : Nat) (x : Tenant) : (s.setTenant n x).classes = s.classes := rfl
@[simp] theorem State.setTenant_images (n : Nat) (x : Tenant) : (s.setTenant n x).images = s.images := rfl
@[simp] theorem State.setTenant_usedPages (n : Nat) (x : Tenant) : (s.setTenant n x).usedPages = s.usedPages := rfl
@[simp] theorem State.setTenant_usedUnits (n : Nat) (x : Tenant) : (s.setTenant n x).usedUnits = s.usedUnits := rfl
@[simp] theorem State.setTenant_usedDeckPages (n : Nat) (x : Tenant) : (s.setTenant n x).usedDeckPages = s.usedDeckPages := rfl
@[simp] theorem State.setTenant_foresterB (n : Nat) (x : Tenant) : (s.setTenant n x).foresterB = s.foresterB := rfl
@[simp] theorem State.setTenant_standbyIn (n : Nat) (x : Tenant) : (s.setTenant n x).standbyIn = s.standbyIn := rfl
@[simp] theorem State.setTenant_reserve (n : Nat) (x : Tenant) : (s.setTenant n x).reserve = s.reserve := rfl
@[simp] theorem State.setTenant_landingsLost (n : Nat) (x : Tenant) : (s.setTenant n x).landingsLost = s.landingsLost := rfl
@[simp] theorem State.setTenant_config (n : Nat) (x : Tenant) : (s.setTenant n x).config = s.config := rfl
@[simp] theorem State.setTenant_prot (n : Nat) (x : Tenant) : (s.setTenant n x).prot = s.prot := rfl
@[simp] theorem State.setTenant_bankB (n : Nat) (x : Tenant) : (s.setTenant n x).bankB = s.bankB := rfl
@[simp] theorem State.setTenant_events (n : Nat) (x : Tenant) : (s.setTenant n x).events = s.events := rfl
@[simp] theorem State.setTenant_lockstep (n : Nat) (x : Tenant) : (s.setTenant n x).lockstep = s.lockstep := rfl
@[simp] theorem State.setTenant_exact (n : Nat) (x : Tenant) : (s.setTenant n x).exact = s.exact := rfl
@[simp] theorem State.setTenant_period (n : Nat) (x : Tenant) : (s.setTenant n x).period = s.period := rfl
@[simp] theorem State.setTenant_epoch (n : Nat) (x : Tenant) : (s.setTenant n x).epoch = s.epoch := rfl
@[simp] theorem State.setTenant_origin (n : Nat) (x : Tenant) : (s.setTenant n x).origin = s.origin := rfl
@[simp] theorem State.setTenant_wakeWant (n : Nat) (x : Tenant) : (s.setTenant n x).wakeWant = s.wakeWant := rfl
@[simp] theorem State.setTenant_powers (n : Nat) (x : Tenant) : (s.setTenant n x).powers = s.powers := rfl
@[simp] theorem State.setTenant_sensors (n : Nat) (x : Tenant) : (s.setTenant n x).sensors = s.sensors := rfl
@[simp] theorem State.setTenant_flowLow (n : Nat) (x : Tenant) : (s.setTenant n x).flowLow = s.flowLow := rfl
@[simp] theorem State.setTenant_latched (n : Nat) (x : Tenant) : (s.setTenant n x).latched = s.latched := rfl
@[simp] theorem State.setTenant_protLocked (n : Nat) (x : Tenant) : (s.setTenant n x).protLocked = s.protLocked := rfl
@[simp] theorem State.setTenant_flash (n : Nat) (x : Tenant) : (s.setTenant n x).flash = s.flash := rfl
@[simp] theorem State.setTenant_refBackup (n : Nat) (x : Tenant) : (s.setTenant n x).refBackup = s.refBackup := rfl
@[simp] theorem State.setTenant_twin (n : Nat) (x : Tenant) : (s.setTenant n x).twin = s.twin := rfl
@[simp] theorem State.setTenant_drain (n : Nat) (x : Tenant) : (s.setTenant n x).drain = s.drain := rfl
@[simp] theorem State.setTenant_ops (n : Nat) (x : Tenant) : (s.setTenant n x).ops = s.ops := rfl
@[simp] theorem State.setTenant_nextOp (n : Nat) (x : Tenant) : (s.setTenant n x).nextOp = s.nextOp := rfl
@[simp] theorem State.setTenant_misses (n : Nat) (x : Tenant) : (s.setTenant n x).misses = s.misses := rfl
@[simp] theorem State.setTenant_thinWaits (n : Nat) (x : Tenant) : (s.setTenant n x).thinWaits = s.thinWaits := rfl
@[simp] theorem State.setTenant_testSave (n : Nat) (x : Tenant) : (s.setTenant n x).testSave = s.testSave := rfl
@[simp] theorem State.setTenant_offHistory (n : Nat) (x : Tenant) : (s.setTenant n x).offHistory = s.offHistory := rfl
@[simp] theorem State.setTenant_journalLow (n : Nat) (x : Tenant) : (s.setTenant n x).journalLow = s.journalLow := rfl
@[simp] theorem State.setTenant_stagings (n : Nat) (x : Tenant) : (s.setTenant n x).stagings = s.stagings := rfl
@[simp] theorem State.setTenant_nextStaging (n : Nat) (x : Tenant) : (s.setTenant n x).nextStaging = s.nextStaging := rfl
@[simp] theorem State.setTenant_goldens (n : Nat) (x : Tenant) : (s.setTenant n x).goldens = s.goldens := rfl
@[simp] theorem State.setTenant_qps (n : Nat) (x : Tenant) : (s.setTenant n x).qps = s.qps := rfl
@[simp] theorem State.setTenant_ptp (n : Nat) (x : Tenant) : (s.setTenant n x).ptp = s.ptp := rfl
@[simp] theorem State.setTenant_swap (n : Nat) (x : Tenant) : (s.setTenant n x).swap = s.swap := rfl
@[simp] theorem State.setTenant_staged (n : Nat) (x : Tenant) : (s.setTenant n x).staged = s.staged := rfl
@[simp] theorem State.setTenant_running_ (n : Nat) (x : Tenant) : (s.setTenant n x).running_ = s.running_ := rfl
@[simp] theorem State.setTenant_spdm (n : Nat) (x : Tenant) : (s.setTenant n x).spdm = s.spdm := rfl
@[simp] theorem State.setTenant_osfpHeld (n : Nat) (x : Tenant) : (s.setTenant n x).osfpHeld = s.osfpHeld := rfl
@[simp] theorem State.setTenant_pinsLow (n : Nat) (x : Tenant) : (s.setTenant n x).pinsLow = s.pinsLow := rfl
@[simp] theorem State.setTenant_surveyLeft (n : Nat) (x : Tenant) : (s.setTenant n x).surveyLeft = s.surveyLeft := rfl

/-! ## setImage -/

@[simp] theorem State.setImage_pending (n : Nat) (x : Image) : (s.setImage n x).pending = s.pending := rfl
@[simp] theorem State.setImage_tally (n : Nat) (x : Image) : (s.setImage n x).tally = s.tally := rfl
@[simp] theorem State.setImage_freeUses (n : Nat) (x : Image) : (s.setImage n x).freeUses = s.freeUses := rfl
@[simp] theorem State.setImage_out (n : Nat) (x : Image) : (s.setImage n x).out = s.out := rfl
@[simp] theorem State.setImage_service (n : Nat) (x : Image) : (s.setImage n x).service = s.service := rfl
@[simp] theorem State.setImage_regs (n : Nat) (x : Image) : (s.setImage n x).regs = s.regs := rfl
@[simp] theorem State.setImage_decks (n : Nat) (x : Image) : (s.setImage n x).decks = s.decks := rfl
@[simp] theorem State.setImage_hbm (n : Nat) (x : Image) : (s.setImage n x).hbm = s.hbm := rfl
@[simp] theorem State.setImage_istore (n : Nat) (x : Image) : (s.setImage n x).istore = s.istore := rfl
@[simp] theorem State.setImage_ports (n : Nat) (x : Image) : (s.setImage n x).ports = s.ports := rfl
@[simp] theorem State.setImage_road (n : Nat) (x : Image) : (s.setImage n x).road = s.road := rfl
@[simp] theorem State.setImage_roads (n : Nat) (x : Image) : (s.setImage n x).roads = s.roads := rfl
@[simp] theorem State.setImage_barriers (n : Nat) (x : Image) : (s.setImage n x).barriers = s.barriers := rfl
@[simp] theorem State.setImage_tiles (n : Nat) (x : Image) : (s.setImage n x).tiles = s.tiles := rfl
@[simp] theorem State.setImage_groves (n : Nat) (x : Image) : (s.setImage n x).groves = s.groves := rfl
@[simp] theorem State.setImage_fellers (n : Nat) (x : Image) : (s.setImage n x).fellers = s.fellers := rfl
@[simp] theorem State.setImage_rotWait (n : Nat) (x : Image) : (s.setImage n x).rotWait = s.rotWait := rfl
@[simp] theorem State.setImage_remaps (n : Nat) (x : Image) : (s.setImage n x).remaps = s.remaps := rfl
@[simp] theorem State.setImage_handover (n : Nat) (x : Image) : (s.setImage n x).handover = s.handover := rfl
@[simp] theorem State.setImage_journal (n : Nat) (x : Image) : (s.setImage n x).journal = s.journal := rfl
@[simp] theorem State.setImage_srcCount (n : Nat) (x : Image) : (s.setImage n x).srcCount = s.srcCount := rfl
@[simp] theorem State.setImage_funcs (n : Nat) (x : Image) : (s.setImage n x).funcs = s.funcs := rfl
@[simp] theorem State.setImage_violLog (n : Nat) (x : Image) : (s.setImage n x).violLog = s.violLog := rfl
@[simp] theorem State.setImage_violCount (n : Nat) (x : Image) : (s.setImage n x).violCount = s.violCount := rfl
@[simp] theorem State.setImage_seqs (n : Nat) (x : Image) : (s.setImage n x).seqs = s.seqs := rfl
@[simp] theorem State.setImage_fellings (n : Nat) (x : Image) : (s.setImage n x).fellings = s.fellings := rfl
@[simp] theorem State.setImage_fellCtr (n : Nat) (x : Image) : (s.setImage n x).fellCtr = s.fellCtr := rfl
@[simp] theorem State.setImage_standFells (n : Nat) (x : Image) : (s.setImage n x).standFells = s.standFells := rfl
@[simp] theorem State.setImage_sheds (n : Nat) (x : Image) : (s.setImage n x).sheds = s.sheds := rfl
@[simp] theorem State.setImage_classes (n : Nat) (x : Image) : (s.setImage n x).classes = s.classes := rfl
@[simp] theorem State.setImage_usedPages (n : Nat) (x : Image) : (s.setImage n x).usedPages = s.usedPages := rfl
@[simp] theorem State.setImage_usedUnits (n : Nat) (x : Image) : (s.setImage n x).usedUnits = s.usedUnits := rfl
@[simp] theorem State.setImage_usedDeckPages (n : Nat) (x : Image) : (s.setImage n x).usedDeckPages = s.usedDeckPages := rfl
@[simp] theorem State.setImage_tenants (n : Nat) (x : Image) : (s.setImage n x).tenants = s.tenants := rfl
@[simp] theorem State.setImage_foresterB (n : Nat) (x : Image) : (s.setImage n x).foresterB = s.foresterB := rfl
@[simp] theorem State.setImage_standbyIn (n : Nat) (x : Image) : (s.setImage n x).standbyIn = s.standbyIn := rfl
@[simp] theorem State.setImage_reserve (n : Nat) (x : Image) : (s.setImage n x).reserve = s.reserve := rfl
@[simp] theorem State.setImage_landingsLost (n : Nat) (x : Image) : (s.setImage n x).landingsLost = s.landingsLost := rfl
@[simp] theorem State.setImage_config (n : Nat) (x : Image) : (s.setImage n x).config = s.config := rfl
@[simp] theorem State.setImage_prot (n : Nat) (x : Image) : (s.setImage n x).prot = s.prot := rfl
@[simp] theorem State.setImage_bankB (n : Nat) (x : Image) : (s.setImage n x).bankB = s.bankB := rfl
@[simp] theorem State.setImage_events (n : Nat) (x : Image) : (s.setImage n x).events = s.events := rfl
@[simp] theorem State.setImage_lockstep (n : Nat) (x : Image) : (s.setImage n x).lockstep = s.lockstep := rfl
@[simp] theorem State.setImage_exact (n : Nat) (x : Image) : (s.setImage n x).exact = s.exact := rfl
@[simp] theorem State.setImage_period (n : Nat) (x : Image) : (s.setImage n x).period = s.period := rfl
@[simp] theorem State.setImage_epoch (n : Nat) (x : Image) : (s.setImage n x).epoch = s.epoch := rfl
@[simp] theorem State.setImage_origin (n : Nat) (x : Image) : (s.setImage n x).origin = s.origin := rfl
@[simp] theorem State.setImage_wakeWant (n : Nat) (x : Image) : (s.setImage n x).wakeWant = s.wakeWant := rfl
@[simp] theorem State.setImage_powers (n : Nat) (x : Image) : (s.setImage n x).powers = s.powers := rfl
@[simp] theorem State.setImage_sensors (n : Nat) (x : Image) : (s.setImage n x).sensors = s.sensors := rfl
@[simp] theorem State.setImage_flowLow (n : Nat) (x : Image) : (s.setImage n x).flowLow = s.flowLow := rfl
@[simp] theorem State.setImage_latched (n : Nat) (x : Image) : (s.setImage n x).latched = s.latched := rfl
@[simp] theorem State.setImage_protLocked (n : Nat) (x : Image) : (s.setImage n x).protLocked = s.protLocked := rfl
@[simp] theorem State.setImage_flash (n : Nat) (x : Image) : (s.setImage n x).flash = s.flash := rfl
@[simp] theorem State.setImage_refBackup (n : Nat) (x : Image) : (s.setImage n x).refBackup = s.refBackup := rfl
@[simp] theorem State.setImage_twin (n : Nat) (x : Image) : (s.setImage n x).twin = s.twin := rfl
@[simp] theorem State.setImage_drain (n : Nat) (x : Image) : (s.setImage n x).drain = s.drain := rfl
@[simp] theorem State.setImage_ops (n : Nat) (x : Image) : (s.setImage n x).ops = s.ops := rfl
@[simp] theorem State.setImage_nextOp (n : Nat) (x : Image) : (s.setImage n x).nextOp = s.nextOp := rfl
@[simp] theorem State.setImage_misses (n : Nat) (x : Image) : (s.setImage n x).misses = s.misses := rfl
@[simp] theorem State.setImage_thinWaits (n : Nat) (x : Image) : (s.setImage n x).thinWaits = s.thinWaits := rfl
@[simp] theorem State.setImage_testSave (n : Nat) (x : Image) : (s.setImage n x).testSave = s.testSave := rfl
@[simp] theorem State.setImage_offHistory (n : Nat) (x : Image) : (s.setImage n x).offHistory = s.offHistory := rfl
@[simp] theorem State.setImage_journalLow (n : Nat) (x : Image) : (s.setImage n x).journalLow = s.journalLow := rfl
@[simp] theorem State.setImage_stagings (n : Nat) (x : Image) : (s.setImage n x).stagings = s.stagings := rfl
@[simp] theorem State.setImage_nextStaging (n : Nat) (x : Image) : (s.setImage n x).nextStaging = s.nextStaging := rfl
@[simp] theorem State.setImage_goldens (n : Nat) (x : Image) : (s.setImage n x).goldens = s.goldens := rfl
@[simp] theorem State.setImage_qps (n : Nat) (x : Image) : (s.setImage n x).qps = s.qps := rfl
@[simp] theorem State.setImage_ptp (n : Nat) (x : Image) : (s.setImage n x).ptp = s.ptp := rfl
@[simp] theorem State.setImage_swap (n : Nat) (x : Image) : (s.setImage n x).swap = s.swap := rfl
@[simp] theorem State.setImage_staged (n : Nat) (x : Image) : (s.setImage n x).staged = s.staged := rfl
@[simp] theorem State.setImage_running_ (n : Nat) (x : Image) : (s.setImage n x).running_ = s.running_ := rfl
@[simp] theorem State.setImage_spdm (n : Nat) (x : Image) : (s.setImage n x).spdm = s.spdm := rfl
@[simp] theorem State.setImage_osfpHeld (n : Nat) (x : Image) : (s.setImage n x).osfpHeld = s.osfpHeld := rfl
@[simp] theorem State.setImage_pinsLow (n : Nat) (x : Image) : (s.setImage n x).pinsLow = s.pinsLow := rfl
@[simp] theorem State.setImage_surveyLeft (n : Nat) (x : Image) : (s.setImage n x).surveyLeft = s.surveyLeft := rfl

/-! ## setPort -/

@[simp] theorem State.setPort_pending (p : PortId) (x : Port) : (s.setPort p x).pending = s.pending := rfl
@[simp] theorem State.setPort_tally (p : PortId) (x : Port) : (s.setPort p x).tally = s.tally := rfl
@[simp] theorem State.setPort_freeUses (p : PortId) (x : Port) : (s.setPort p x).freeUses = s.freeUses := rfl
@[simp] theorem State.setPort_out (p : PortId) (x : Port) : (s.setPort p x).out = s.out := rfl
@[simp] theorem State.setPort_service (p : PortId) (x : Port) : (s.setPort p x).service = s.service := rfl
@[simp] theorem State.setPort_regs (p : PortId) (x : Port) : (s.setPort p x).regs = s.regs := rfl
@[simp] theorem State.setPort_decks (p : PortId) (x : Port) : (s.setPort p x).decks = s.decks := rfl
@[simp] theorem State.setPort_hbm (p : PortId) (x : Port) : (s.setPort p x).hbm = s.hbm := rfl
@[simp] theorem State.setPort_istore (p : PortId) (x : Port) : (s.setPort p x).istore = s.istore := rfl
@[simp] theorem State.setPort_road (p : PortId) (x : Port) : (s.setPort p x).road = s.road := rfl
@[simp] theorem State.setPort_roads (p : PortId) (x : Port) : (s.setPort p x).roads = s.roads := rfl
@[simp] theorem State.setPort_barriers (p : PortId) (x : Port) : (s.setPort p x).barriers = s.barriers := rfl
@[simp] theorem State.setPort_tiles (p : PortId) (x : Port) : (s.setPort p x).tiles = s.tiles := rfl
@[simp] theorem State.setPort_groves (p : PortId) (x : Port) : (s.setPort p x).groves = s.groves := rfl
@[simp] theorem State.setPort_fellers (p : PortId) (x : Port) : (s.setPort p x).fellers = s.fellers := rfl
@[simp] theorem State.setPort_rotWait (p : PortId) (x : Port) : (s.setPort p x).rotWait = s.rotWait := rfl
@[simp] theorem State.setPort_remaps (p : PortId) (x : Port) : (s.setPort p x).remaps = s.remaps := rfl
@[simp] theorem State.setPort_handover (p : PortId) (x : Port) : (s.setPort p x).handover = s.handover := rfl
@[simp] theorem State.setPort_journal (p : PortId) (x : Port) : (s.setPort p x).journal = s.journal := rfl
@[simp] theorem State.setPort_srcCount (p : PortId) (x : Port) : (s.setPort p x).srcCount = s.srcCount := rfl
@[simp] theorem State.setPort_funcs (p : PortId) (x : Port) : (s.setPort p x).funcs = s.funcs := rfl
@[simp] theorem State.setPort_violLog (p : PortId) (x : Port) : (s.setPort p x).violLog = s.violLog := rfl
@[simp] theorem State.setPort_violCount (p : PortId) (x : Port) : (s.setPort p x).violCount = s.violCount := rfl
@[simp] theorem State.setPort_seqs (p : PortId) (x : Port) : (s.setPort p x).seqs = s.seqs := rfl
@[simp] theorem State.setPort_fellings (p : PortId) (x : Port) : (s.setPort p x).fellings = s.fellings := rfl
@[simp] theorem State.setPort_fellCtr (p : PortId) (x : Port) : (s.setPort p x).fellCtr = s.fellCtr := rfl
@[simp] theorem State.setPort_standFells (p : PortId) (x : Port) : (s.setPort p x).standFells = s.standFells := rfl
@[simp] theorem State.setPort_sheds (p : PortId) (x : Port) : (s.setPort p x).sheds = s.sheds := rfl
@[simp] theorem State.setPort_classes (p : PortId) (x : Port) : (s.setPort p x).classes = s.classes := rfl
@[simp] theorem State.setPort_images (p : PortId) (x : Port) : (s.setPort p x).images = s.images := rfl
@[simp] theorem State.setPort_usedPages (p : PortId) (x : Port) : (s.setPort p x).usedPages = s.usedPages := rfl
@[simp] theorem State.setPort_usedUnits (p : PortId) (x : Port) : (s.setPort p x).usedUnits = s.usedUnits := rfl
@[simp] theorem State.setPort_usedDeckPages (p : PortId) (x : Port) : (s.setPort p x).usedDeckPages = s.usedDeckPages := rfl
@[simp] theorem State.setPort_tenants (p : PortId) (x : Port) : (s.setPort p x).tenants = s.tenants := rfl
@[simp] theorem State.setPort_foresterB (p : PortId) (x : Port) : (s.setPort p x).foresterB = s.foresterB := rfl
@[simp] theorem State.setPort_standbyIn (p : PortId) (x : Port) : (s.setPort p x).standbyIn = s.standbyIn := rfl
@[simp] theorem State.setPort_reserve (p : PortId) (x : Port) : (s.setPort p x).reserve = s.reserve := rfl
@[simp] theorem State.setPort_landingsLost (p : PortId) (x : Port) : (s.setPort p x).landingsLost = s.landingsLost := rfl
@[simp] theorem State.setPort_config (p : PortId) (x : Port) : (s.setPort p x).config = s.config := rfl
@[simp] theorem State.setPort_prot (p : PortId) (x : Port) : (s.setPort p x).prot = s.prot := rfl
@[simp] theorem State.setPort_bankB (p : PortId) (x : Port) : (s.setPort p x).bankB = s.bankB := rfl
@[simp] theorem State.setPort_events (p : PortId) (x : Port) : (s.setPort p x).events = s.events := rfl
@[simp] theorem State.setPort_lockstep (p : PortId) (x : Port) : (s.setPort p x).lockstep = s.lockstep := rfl
@[simp] theorem State.setPort_exact (p : PortId) (x : Port) : (s.setPort p x).exact = s.exact := rfl
@[simp] theorem State.setPort_period (p : PortId) (x : Port) : (s.setPort p x).period = s.period := rfl
@[simp] theorem State.setPort_epoch (p : PortId) (x : Port) : (s.setPort p x).epoch = s.epoch := rfl
@[simp] theorem State.setPort_origin (p : PortId) (x : Port) : (s.setPort p x).origin = s.origin := rfl
@[simp] theorem State.setPort_wakeWant (p : PortId) (x : Port) : (s.setPort p x).wakeWant = s.wakeWant := rfl
@[simp] theorem State.setPort_powers (p : PortId) (x : Port) : (s.setPort p x).powers = s.powers := rfl
@[simp] theorem State.setPort_sensors (p : PortId) (x : Port) : (s.setPort p x).sensors = s.sensors := rfl
@[simp] theorem State.setPort_flowLow (p : PortId) (x : Port) : (s.setPort p x).flowLow = s.flowLow := rfl
@[simp] theorem State.setPort_latched (p : PortId) (x : Port) : (s.setPort p x).latched = s.latched := rfl
@[simp] theorem State.setPort_protLocked (p : PortId) (x : Port) : (s.setPort p x).protLocked = s.protLocked := rfl
@[simp] theorem State.setPort_flash (p : PortId) (x : Port) : (s.setPort p x).flash = s.flash := rfl
@[simp] theorem State.setPort_refBackup (p : PortId) (x : Port) : (s.setPort p x).refBackup = s.refBackup := rfl
@[simp] theorem State.setPort_twin (p : PortId) (x : Port) : (s.setPort p x).twin = s.twin := rfl
@[simp] theorem State.setPort_drain (p : PortId) (x : Port) : (s.setPort p x).drain = s.drain := rfl
@[simp] theorem State.setPort_ops (p : PortId) (x : Port) : (s.setPort p x).ops = s.ops := rfl
@[simp] theorem State.setPort_nextOp (p : PortId) (x : Port) : (s.setPort p x).nextOp = s.nextOp := rfl
@[simp] theorem State.setPort_misses (p : PortId) (x : Port) : (s.setPort p x).misses = s.misses := rfl
@[simp] theorem State.setPort_thinWaits (p : PortId) (x : Port) : (s.setPort p x).thinWaits = s.thinWaits := rfl
@[simp] theorem State.setPort_testSave (p : PortId) (x : Port) : (s.setPort p x).testSave = s.testSave := rfl
@[simp] theorem State.setPort_offHistory (p : PortId) (x : Port) : (s.setPort p x).offHistory = s.offHistory := rfl
@[simp] theorem State.setPort_journalLow (p : PortId) (x : Port) : (s.setPort p x).journalLow = s.journalLow := rfl
@[simp] theorem State.setPort_stagings (p : PortId) (x : Port) : (s.setPort p x).stagings = s.stagings := rfl
@[simp] theorem State.setPort_nextStaging (p : PortId) (x : Port) : (s.setPort p x).nextStaging = s.nextStaging := rfl
@[simp] theorem State.setPort_goldens (p : PortId) (x : Port) : (s.setPort p x).goldens = s.goldens := rfl
@[simp] theorem State.setPort_qps (p : PortId) (x : Port) : (s.setPort p x).qps = s.qps := rfl
@[simp] theorem State.setPort_ptp (p : PortId) (x : Port) : (s.setPort p x).ptp = s.ptp := rfl
@[simp] theorem State.setPort_swap (p : PortId) (x : Port) : (s.setPort p x).swap = s.swap := rfl
@[simp] theorem State.setPort_staged (p : PortId) (x : Port) : (s.setPort p x).staged = s.staged := rfl
@[simp] theorem State.setPort_running_ (p : PortId) (x : Port) : (s.setPort p x).running_ = s.running_ := rfl
@[simp] theorem State.setPort_spdm (p : PortId) (x : Port) : (s.setPort p x).spdm = s.spdm := rfl
@[simp] theorem State.setPort_osfpHeld (p : PortId) (x : Port) : (s.setPort p x).osfpHeld = s.osfpHeld := rfl
@[simp] theorem State.setPort_pinsLow (p : PortId) (x : Port) : (s.setPort p x).pinsLow = s.pinsLow := rfl
@[simp] theorem State.setPort_surveyLeft (p : PortId) (x : Port) : (s.setPort p x).surveyLeft = s.surveyLeft := rfl

/-! ## setRoad -/

@[simp] theorem State.setRoad_pending (n : Fin 42) (x : StandRoad) : (s.setRoad n x).pending = s.pending := rfl
@[simp] theorem State.setRoad_tally (n : Fin 42) (x : StandRoad) : (s.setRoad n x).tally = s.tally := rfl
@[simp] theorem State.setRoad_freeUses (n : Fin 42) (x : StandRoad) : (s.setRoad n x).freeUses = s.freeUses := rfl
@[simp] theorem State.setRoad_out (n : Fin 42) (x : StandRoad) : (s.setRoad n x).out = s.out := rfl
@[simp] theorem State.setRoad_service (n : Fin 42) (x : StandRoad) : (s.setRoad n x).service = s.service := rfl
@[simp] theorem State.setRoad_regs (n : Fin 42) (x : StandRoad) : (s.setRoad n x).regs = s.regs := rfl
@[simp] theorem State.setRoad_decks (n : Fin 42) (x : StandRoad) : (s.setRoad n x).decks = s.decks := rfl
@[simp] theorem State.setRoad_hbm (n : Fin 42) (x : StandRoad) : (s.setRoad n x).hbm = s.hbm := rfl
@[simp] theorem State.setRoad_istore (n : Fin 42) (x : StandRoad) : (s.setRoad n x).istore = s.istore := rfl
@[simp] theorem State.setRoad_ports (n : Fin 42) (x : StandRoad) : (s.setRoad n x).ports = s.ports := rfl
@[simp] theorem State.setRoad_road (n : Fin 42) (x : StandRoad) : (s.setRoad n x).road = s.road := rfl
@[simp] theorem State.setRoad_barriers (n : Fin 42) (x : StandRoad) : (s.setRoad n x).barriers = s.barriers := rfl
@[simp] theorem State.setRoad_tiles (n : Fin 42) (x : StandRoad) : (s.setRoad n x).tiles = s.tiles := rfl
@[simp] theorem State.setRoad_groves (n : Fin 42) (x : StandRoad) : (s.setRoad n x).groves = s.groves := rfl
@[simp] theorem State.setRoad_fellers (n : Fin 42) (x : StandRoad) : (s.setRoad n x).fellers = s.fellers := rfl
@[simp] theorem State.setRoad_rotWait (n : Fin 42) (x : StandRoad) : (s.setRoad n x).rotWait = s.rotWait := rfl
@[simp] theorem State.setRoad_remaps (n : Fin 42) (x : StandRoad) : (s.setRoad n x).remaps = s.remaps := rfl
@[simp] theorem State.setRoad_handover (n : Fin 42) (x : StandRoad) : (s.setRoad n x).handover = s.handover := rfl
@[simp] theorem State.setRoad_journal (n : Fin 42) (x : StandRoad) : (s.setRoad n x).journal = s.journal := rfl
@[simp] theorem State.setRoad_srcCount (n : Fin 42) (x : StandRoad) : (s.setRoad n x).srcCount = s.srcCount := rfl
@[simp] theorem State.setRoad_funcs (n : Fin 42) (x : StandRoad) : (s.setRoad n x).funcs = s.funcs := rfl
@[simp] theorem State.setRoad_violLog (n : Fin 42) (x : StandRoad) : (s.setRoad n x).violLog = s.violLog := rfl
@[simp] theorem State.setRoad_violCount (n : Fin 42) (x : StandRoad) : (s.setRoad n x).violCount = s.violCount := rfl
@[simp] theorem State.setRoad_seqs (n : Fin 42) (x : StandRoad) : (s.setRoad n x).seqs = s.seqs := rfl
@[simp] theorem State.setRoad_fellings (n : Fin 42) (x : StandRoad) : (s.setRoad n x).fellings = s.fellings := rfl
@[simp] theorem State.setRoad_fellCtr (n : Fin 42) (x : StandRoad) : (s.setRoad n x).fellCtr = s.fellCtr := rfl
@[simp] theorem State.setRoad_standFells (n : Fin 42) (x : StandRoad) : (s.setRoad n x).standFells = s.standFells := rfl
@[simp] theorem State.setRoad_sheds (n : Fin 42) (x : StandRoad) : (s.setRoad n x).sheds = s.sheds := rfl
@[simp] theorem State.setRoad_classes (n : Fin 42) (x : StandRoad) : (s.setRoad n x).classes = s.classes := rfl
@[simp] theorem State.setRoad_images (n : Fin 42) (x : StandRoad) : (s.setRoad n x).images = s.images := rfl
@[simp] theorem State.setRoad_usedPages (n : Fin 42) (x : StandRoad) : (s.setRoad n x).usedPages = s.usedPages := rfl
@[simp] theorem State.setRoad_usedUnits (n : Fin 42) (x : StandRoad) : (s.setRoad n x).usedUnits = s.usedUnits := rfl
@[simp] theorem State.setRoad_usedDeckPages (n : Fin 42) (x : StandRoad) : (s.setRoad n x).usedDeckPages = s.usedDeckPages := rfl
@[simp] theorem State.setRoad_tenants (n : Fin 42) (x : StandRoad) : (s.setRoad n x).tenants = s.tenants := rfl
@[simp] theorem State.setRoad_foresterB (n : Fin 42) (x : StandRoad) : (s.setRoad n x).foresterB = s.foresterB := rfl
@[simp] theorem State.setRoad_standbyIn (n : Fin 42) (x : StandRoad) : (s.setRoad n x).standbyIn = s.standbyIn := rfl
@[simp] theorem State.setRoad_reserve (n : Fin 42) (x : StandRoad) : (s.setRoad n x).reserve = s.reserve := rfl
@[simp] theorem State.setRoad_landingsLost (n : Fin 42) (x : StandRoad) : (s.setRoad n x).landingsLost = s.landingsLost := rfl
@[simp] theorem State.setRoad_config (n : Fin 42) (x : StandRoad) : (s.setRoad n x).config = s.config := rfl
@[simp] theorem State.setRoad_prot (n : Fin 42) (x : StandRoad) : (s.setRoad n x).prot = s.prot := rfl
@[simp] theorem State.setRoad_bankB (n : Fin 42) (x : StandRoad) : (s.setRoad n x).bankB = s.bankB := rfl
@[simp] theorem State.setRoad_events (n : Fin 42) (x : StandRoad) : (s.setRoad n x).events = s.events := rfl
@[simp] theorem State.setRoad_lockstep (n : Fin 42) (x : StandRoad) : (s.setRoad n x).lockstep = s.lockstep := rfl
@[simp] theorem State.setRoad_exact (n : Fin 42) (x : StandRoad) : (s.setRoad n x).exact = s.exact := rfl
@[simp] theorem State.setRoad_period (n : Fin 42) (x : StandRoad) : (s.setRoad n x).period = s.period := rfl
@[simp] theorem State.setRoad_epoch (n : Fin 42) (x : StandRoad) : (s.setRoad n x).epoch = s.epoch := rfl
@[simp] theorem State.setRoad_origin (n : Fin 42) (x : StandRoad) : (s.setRoad n x).origin = s.origin := rfl
@[simp] theorem State.setRoad_wakeWant (n : Fin 42) (x : StandRoad) : (s.setRoad n x).wakeWant = s.wakeWant := rfl
@[simp] theorem State.setRoad_powers (n : Fin 42) (x : StandRoad) : (s.setRoad n x).powers = s.powers := rfl
@[simp] theorem State.setRoad_sensors (n : Fin 42) (x : StandRoad) : (s.setRoad n x).sensors = s.sensors := rfl
@[simp] theorem State.setRoad_flowLow (n : Fin 42) (x : StandRoad) : (s.setRoad n x).flowLow = s.flowLow := rfl
@[simp] theorem State.setRoad_latched (n : Fin 42) (x : StandRoad) : (s.setRoad n x).latched = s.latched := rfl
@[simp] theorem State.setRoad_protLocked (n : Fin 42) (x : StandRoad) : (s.setRoad n x).protLocked = s.protLocked := rfl
@[simp] theorem State.setRoad_flash (n : Fin 42) (x : StandRoad) : (s.setRoad n x).flash = s.flash := rfl
@[simp] theorem State.setRoad_refBackup (n : Fin 42) (x : StandRoad) : (s.setRoad n x).refBackup = s.refBackup := rfl
@[simp] theorem State.setRoad_twin (n : Fin 42) (x : StandRoad) : (s.setRoad n x).twin = s.twin := rfl
@[simp] theorem State.setRoad_drain (n : Fin 42) (x : StandRoad) : (s.setRoad n x).drain = s.drain := rfl
@[simp] theorem State.setRoad_ops (n : Fin 42) (x : StandRoad) : (s.setRoad n x).ops = s.ops := rfl
@[simp] theorem State.setRoad_nextOp (n : Fin 42) (x : StandRoad) : (s.setRoad n x).nextOp = s.nextOp := rfl
@[simp] theorem State.setRoad_misses (n : Fin 42) (x : StandRoad) : (s.setRoad n x).misses = s.misses := rfl
@[simp] theorem State.setRoad_thinWaits (n : Fin 42) (x : StandRoad) : (s.setRoad n x).thinWaits = s.thinWaits := rfl
@[simp] theorem State.setRoad_testSave (n : Fin 42) (x : StandRoad) : (s.setRoad n x).testSave = s.testSave := rfl
@[simp] theorem State.setRoad_offHistory (n : Fin 42) (x : StandRoad) : (s.setRoad n x).offHistory = s.offHistory := rfl
@[simp] theorem State.setRoad_journalLow (n : Fin 42) (x : StandRoad) : (s.setRoad n x).journalLow = s.journalLow := rfl
@[simp] theorem State.setRoad_stagings (n : Fin 42) (x : StandRoad) : (s.setRoad n x).stagings = s.stagings := rfl
@[simp] theorem State.setRoad_nextStaging (n : Fin 42) (x : StandRoad) : (s.setRoad n x).nextStaging = s.nextStaging := rfl
@[simp] theorem State.setRoad_goldens (n : Fin 42) (x : StandRoad) : (s.setRoad n x).goldens = s.goldens := rfl
@[simp] theorem State.setRoad_qps (n : Fin 42) (x : StandRoad) : (s.setRoad n x).qps = s.qps := rfl
@[simp] theorem State.setRoad_ptp (n : Fin 42) (x : StandRoad) : (s.setRoad n x).ptp = s.ptp := rfl
@[simp] theorem State.setRoad_swap (n : Fin 42) (x : StandRoad) : (s.setRoad n x).swap = s.swap := rfl
@[simp] theorem State.setRoad_staged (n : Fin 42) (x : StandRoad) : (s.setRoad n x).staged = s.staged := rfl
@[simp] theorem State.setRoad_running_ (n : Fin 42) (x : StandRoad) : (s.setRoad n x).running_ = s.running_ := rfl
@[simp] theorem State.setRoad_spdm (n : Fin 42) (x : StandRoad) : (s.setRoad n x).spdm = s.spdm := rfl
@[simp] theorem State.setRoad_osfpHeld (n : Fin 42) (x : StandRoad) : (s.setRoad n x).osfpHeld = s.osfpHeld := rfl
@[simp] theorem State.setRoad_pinsLow (n : Fin 42) (x : StandRoad) : (s.setRoad n x).pinsLow = s.pinsLow := rfl
@[simp] theorem State.setRoad_surveyLeft (n : Fin 42) (x : StandRoad) : (s.setRoad n x).surveyLeft = s.surveyLeft := rfl

/-! ## setPower -/

@[simp] theorem State.setPower_pending (n : Nat) (x : StandPower) : (s.setPower n x).pending = s.pending := rfl
@[simp] theorem State.setPower_tally (n : Nat) (x : StandPower) : (s.setPower n x).tally = s.tally := rfl
@[simp] theorem State.setPower_freeUses (n : Nat) (x : StandPower) : (s.setPower n x).freeUses = s.freeUses := rfl
@[simp] theorem State.setPower_out (n : Nat) (x : StandPower) : (s.setPower n x).out = s.out := rfl
@[simp] theorem State.setPower_service (n : Nat) (x : StandPower) : (s.setPower n x).service = s.service := rfl
@[simp] theorem State.setPower_regs (n : Nat) (x : StandPower) : (s.setPower n x).regs = s.regs := rfl
@[simp] theorem State.setPower_decks (n : Nat) (x : StandPower) : (s.setPower n x).decks = s.decks := rfl
@[simp] theorem State.setPower_hbm (n : Nat) (x : StandPower) : (s.setPower n x).hbm = s.hbm := rfl
@[simp] theorem State.setPower_istore (n : Nat) (x : StandPower) : (s.setPower n x).istore = s.istore := rfl
@[simp] theorem State.setPower_ports (n : Nat) (x : StandPower) : (s.setPower n x).ports = s.ports := rfl
@[simp] theorem State.setPower_road (n : Nat) (x : StandPower) : (s.setPower n x).road = s.road := rfl
@[simp] theorem State.setPower_roads (n : Nat) (x : StandPower) : (s.setPower n x).roads = s.roads := rfl
@[simp] theorem State.setPower_barriers (n : Nat) (x : StandPower) : (s.setPower n x).barriers = s.barriers := rfl
@[simp] theorem State.setPower_tiles (n : Nat) (x : StandPower) : (s.setPower n x).tiles = s.tiles := rfl
@[simp] theorem State.setPower_groves (n : Nat) (x : StandPower) : (s.setPower n x).groves = s.groves := rfl
@[simp] theorem State.setPower_fellers (n : Nat) (x : StandPower) : (s.setPower n x).fellers = s.fellers := rfl
@[simp] theorem State.setPower_rotWait (n : Nat) (x : StandPower) : (s.setPower n x).rotWait = s.rotWait := rfl
@[simp] theorem State.setPower_remaps (n : Nat) (x : StandPower) : (s.setPower n x).remaps = s.remaps := rfl
@[simp] theorem State.setPower_handover (n : Nat) (x : StandPower) : (s.setPower n x).handover = s.handover := rfl
@[simp] theorem State.setPower_journal (n : Nat) (x : StandPower) : (s.setPower n x).journal = s.journal := rfl
@[simp] theorem State.setPower_srcCount (n : Nat) (x : StandPower) : (s.setPower n x).srcCount = s.srcCount := rfl
@[simp] theorem State.setPower_funcs (n : Nat) (x : StandPower) : (s.setPower n x).funcs = s.funcs := rfl
@[simp] theorem State.setPower_violLog (n : Nat) (x : StandPower) : (s.setPower n x).violLog = s.violLog := rfl
@[simp] theorem State.setPower_violCount (n : Nat) (x : StandPower) : (s.setPower n x).violCount = s.violCount := rfl
@[simp] theorem State.setPower_seqs (n : Nat) (x : StandPower) : (s.setPower n x).seqs = s.seqs := rfl
@[simp] theorem State.setPower_fellings (n : Nat) (x : StandPower) : (s.setPower n x).fellings = s.fellings := rfl
@[simp] theorem State.setPower_fellCtr (n : Nat) (x : StandPower) : (s.setPower n x).fellCtr = s.fellCtr := rfl
@[simp] theorem State.setPower_standFells (n : Nat) (x : StandPower) : (s.setPower n x).standFells = s.standFells := rfl
@[simp] theorem State.setPower_sheds (n : Nat) (x : StandPower) : (s.setPower n x).sheds = s.sheds := rfl
@[simp] theorem State.setPower_classes (n : Nat) (x : StandPower) : (s.setPower n x).classes = s.classes := rfl
@[simp] theorem State.setPower_images (n : Nat) (x : StandPower) : (s.setPower n x).images = s.images := rfl
@[simp] theorem State.setPower_usedPages (n : Nat) (x : StandPower) : (s.setPower n x).usedPages = s.usedPages := rfl
@[simp] theorem State.setPower_usedUnits (n : Nat) (x : StandPower) : (s.setPower n x).usedUnits = s.usedUnits := rfl
@[simp] theorem State.setPower_usedDeckPages (n : Nat) (x : StandPower) : (s.setPower n x).usedDeckPages = s.usedDeckPages := rfl
@[simp] theorem State.setPower_tenants (n : Nat) (x : StandPower) : (s.setPower n x).tenants = s.tenants := rfl
@[simp] theorem State.setPower_foresterB (n : Nat) (x : StandPower) : (s.setPower n x).foresterB = s.foresterB := rfl
@[simp] theorem State.setPower_standbyIn (n : Nat) (x : StandPower) : (s.setPower n x).standbyIn = s.standbyIn := rfl
@[simp] theorem State.setPower_reserve (n : Nat) (x : StandPower) : (s.setPower n x).reserve = s.reserve := rfl
@[simp] theorem State.setPower_landingsLost (n : Nat) (x : StandPower) : (s.setPower n x).landingsLost = s.landingsLost := rfl
@[simp] theorem State.setPower_config (n : Nat) (x : StandPower) : (s.setPower n x).config = s.config := rfl
@[simp] theorem State.setPower_prot (n : Nat) (x : StandPower) : (s.setPower n x).prot = s.prot := rfl
@[simp] theorem State.setPower_bankB (n : Nat) (x : StandPower) : (s.setPower n x).bankB = s.bankB := rfl
@[simp] theorem State.setPower_events (n : Nat) (x : StandPower) : (s.setPower n x).events = s.events := rfl
@[simp] theorem State.setPower_lockstep (n : Nat) (x : StandPower) : (s.setPower n x).lockstep = s.lockstep := rfl
@[simp] theorem State.setPower_exact (n : Nat) (x : StandPower) : (s.setPower n x).exact = s.exact := rfl
@[simp] theorem State.setPower_period (n : Nat) (x : StandPower) : (s.setPower n x).period = s.period := rfl
@[simp] theorem State.setPower_epoch (n : Nat) (x : StandPower) : (s.setPower n x).epoch = s.epoch := rfl
@[simp] theorem State.setPower_origin (n : Nat) (x : StandPower) : (s.setPower n x).origin = s.origin := rfl
@[simp] theorem State.setPower_wakeWant (n : Nat) (x : StandPower) : (s.setPower n x).wakeWant = s.wakeWant := rfl
@[simp] theorem State.setPower_sensors (n : Nat) (x : StandPower) : (s.setPower n x).sensors = s.sensors := rfl
@[simp] theorem State.setPower_flowLow (n : Nat) (x : StandPower) : (s.setPower n x).flowLow = s.flowLow := rfl
@[simp] theorem State.setPower_latched (n : Nat) (x : StandPower) : (s.setPower n x).latched = s.latched := rfl
@[simp] theorem State.setPower_protLocked (n : Nat) (x : StandPower) : (s.setPower n x).protLocked = s.protLocked := rfl
@[simp] theorem State.setPower_flash (n : Nat) (x : StandPower) : (s.setPower n x).flash = s.flash := rfl
@[simp] theorem State.setPower_refBackup (n : Nat) (x : StandPower) : (s.setPower n x).refBackup = s.refBackup := rfl
@[simp] theorem State.setPower_twin (n : Nat) (x : StandPower) : (s.setPower n x).twin = s.twin := rfl
@[simp] theorem State.setPower_drain (n : Nat) (x : StandPower) : (s.setPower n x).drain = s.drain := rfl
@[simp] theorem State.setPower_ops (n : Nat) (x : StandPower) : (s.setPower n x).ops = s.ops := rfl
@[simp] theorem State.setPower_nextOp (n : Nat) (x : StandPower) : (s.setPower n x).nextOp = s.nextOp := rfl
@[simp] theorem State.setPower_misses (n : Nat) (x : StandPower) : (s.setPower n x).misses = s.misses := rfl
@[simp] theorem State.setPower_thinWaits (n : Nat) (x : StandPower) : (s.setPower n x).thinWaits = s.thinWaits := rfl
@[simp] theorem State.setPower_testSave (n : Nat) (x : StandPower) : (s.setPower n x).testSave = s.testSave := rfl
@[simp] theorem State.setPower_offHistory (n : Nat) (x : StandPower) : (s.setPower n x).offHistory = s.offHistory := rfl
@[simp] theorem State.setPower_journalLow (n : Nat) (x : StandPower) : (s.setPower n x).journalLow = s.journalLow := rfl
@[simp] theorem State.setPower_stagings (n : Nat) (x : StandPower) : (s.setPower n x).stagings = s.stagings := rfl
@[simp] theorem State.setPower_nextStaging (n : Nat) (x : StandPower) : (s.setPower n x).nextStaging = s.nextStaging := rfl
@[simp] theorem State.setPower_goldens (n : Nat) (x : StandPower) : (s.setPower n x).goldens = s.goldens := rfl
@[simp] theorem State.setPower_qps (n : Nat) (x : StandPower) : (s.setPower n x).qps = s.qps := rfl
@[simp] theorem State.setPower_ptp (n : Nat) (x : StandPower) : (s.setPower n x).ptp = s.ptp := rfl
@[simp] theorem State.setPower_swap (n : Nat) (x : StandPower) : (s.setPower n x).swap = s.swap := rfl
@[simp] theorem State.setPower_staged (n : Nat) (x : StandPower) : (s.setPower n x).staged = s.staged := rfl
@[simp] theorem State.setPower_running_ (n : Nat) (x : StandPower) : (s.setPower n x).running_ = s.running_ := rfl
@[simp] theorem State.setPower_spdm (n : Nat) (x : StandPower) : (s.setPower n x).spdm = s.spdm := rfl
@[simp] theorem State.setPower_osfpHeld (n : Nat) (x : StandPower) : (s.setPower n x).osfpHeld = s.osfpHeld := rfl
@[simp] theorem State.setPower_pinsLow (n : Nat) (x : StandPower) : (s.setPower n x).pinsLow = s.pinsLow := rfl
@[simp] theorem State.setPower_surveyLeft (n : Nat) (x : StandPower) : (s.setPower n x).surveyLeft = s.surveyLeft := rfl

end Sys2Proof.Machine
end

