-- ==== Sys2Proof/Laws/Tables.lean ====
section
/-! SUPPORT. Laws of tables: what a lookup answers after an entry was set or erased. -/

namespace Sys2Proof.Machine

variable {κ α : Type} [DecidableEq κ]

@[simp] theorem tblFind_nil (k : κ) : tblFind ([] : Tbl κ α) k = none := rfl

@[simp] theorem tblGet_nil (k : κ) (d : α) : tblGet ([] : Tbl κ α) k d = d := rfl

@[simp] theorem tblFind_tblSet_self (t : Tbl κ α) (k : κ) (a : α) : tblFind (tblSet t k a) k = some a := by
  induction t with
  | nil => simp [tblSet, tblFind]
  | cons p r ih =>
    obtain ⟨k', a'⟩ := p
    by_cases h : k' = k <;> simp [tblSet, tblFind, h, ih]

theorem tblFind_tblSet_ne (t : Tbl κ α) {k j : κ} (a : α) (h : k ≠ j) : tblFind (tblSet t k a) j = tblFind t j := by
  induction t with
  | nil => simp [tblSet, tblFind, h]
  | cons p r ih =>
    obtain ⟨k', a'⟩ := p
    by_cases hk : k' = k
    · subst hk; simp [tblSet, tblFind, h]
    · by_cases hj : k' = j
      · subst hj; simp [tblSet, tblFind, hk]
      · simp [tblSet, tblFind, hk, hj, ih]

@[simp] theorem tblGet_tblSet_self (t : Tbl κ α) (k : κ) (a d : α) : tblGet (tblSet t k a) k d = a := by
  simp [tblGet]

theorem tblGet_tblSet_ne (t : Tbl κ α) {k j : κ} (a d : α) (h : k ≠ j) : tblGet (tblSet t k a) j d = tblGet t j d := by
  simp [tblGet, tblFind_tblSet_ne t a h]

@[simp] theorem tblFind_tblErase_self (t : Tbl κ α) (k : κ) : tblFind (tblErase t k) k = none := by
  induction t with
  | nil => rfl
  | cons p r ih =>
    obtain ⟨k', a'⟩ := p
    by_cases h : k' = k
    · simpa [tblErase, List.filter_cons, h] using ih
    · simpa [tblErase, List.filter_cons, h, tblFind] using ih

theorem tblFind_tblErase_ne (t : Tbl κ α) {k j : κ} (h : k ≠ j) : tblFind (tblErase t k) j = tblFind t j := by
  induction t with
  | nil => rfl
  | cons p r ih =>
    obtain ⟨k', a'⟩ := p
    by_cases hk : k' = k
    · subst hk; simpa [tblErase, List.filter_cons, tblFind, h] using ih
    · by_cases hj : k' = j
      · subst hj; simp [tblErase, hk, tblFind]
      · simpa [tblErase, List.filter_cons, hk, tblFind, hj] using ih

/-! ## Lists in order -/

@[simp] theorem mem_insertBy {β : Type} (le : β → β → Bool) (x a : β) (l : List β) : a ∈ insertBy le x l ↔ a = x ∨ a ∈ l := by
  induction l with
  | nil => simp [insertBy]
  | cons y r ih => simp only [insertBy]; split <;> simp [ih, or_left_comm]

@[simp] theorem mem_sortBy {β : Type} (l : List β) (le : β → β → Bool) (a : β) : a ∈ sortBy l le ↔ a ∈ l := by
  induction l with
  | nil => simp [sortBy]
  | cons x r ih => rw [show sortBy (x :: r) le = insertBy le x (sortBy r le) from rfl, mem_insertBy, ih, List.mem_cons]

@[simp] theorem length_insertBy {β : Type} (le : β → β → Bool) (x : β) (l : List β) : (insertBy le x l).length = l.length + 1 := by
  induction l with
  | nil => rfl
  | cons y r ih => simp only [insertBy]; split <;> simp [ih]

@[simp] theorem length_sortBy {β : Type} (l : List β) (le : β → β → Bool) : (sortBy l le).length = l.length := by
  induction l with
  | nil => rfl
  | cons x r ih => rw [show sortBy (x :: r) le = insertBy le x (sortBy r le) from rfl, length_insertBy, ih, List.length_cons]

end Sys2Proof.Machine
end

