-- ==== Sys2Proof/Laws/Views.lean ====
section
/-! SUPPORT. What the named reads of the state answer after a named update: the value written, or what they answered before. -/

namespace Sys2Proof.Machine

variable (s : State)

/-! ## setReg -/

@[simp] theorem State.setReg_tile (k : RegKey) (v : RegVal) (t' : TileId) : (s.setReg k v).tile t' = s.tile t' := rfl
@[simp] theorem State.setReg_grove (k : RegKey) (v : RegVal) (g' : GroveId) : (s.setReg k v).grove g' = s.grove g' := rfl
@[simp] theorem State.setReg_feller (k : RegKey) (v : RegVal) (r : FellerId) : (s.setReg k v).feller r = s.feller r := rfl
@[simp] theorem State.setReg_func (k : RegKey) (v : RegVal) (q : Fin 256) : (s.setReg k v).func q = s.func q := rfl
@[simp] theorem State.setReg_seq (k : RegKey) (v : RegVal) (j : Nat) : (s.setReg k v).seq j = s.seq j := rfl
@[simp] theorem State.setReg_port (k : RegKey) (v : RegVal) (q : PortId) : (s.setReg k v).port q = s.port q := rfl
@[simp] theorem State.setReg_tenant (k : RegKey) (v : RegVal) (j : Nat) : (s.setReg k v).tenant j = s.tenant j := rfl
@[simp] theorem State.setReg_image (k : RegKey) (v : RegVal) (j : Nat) : (s.setReg k v).image j = s.image j := rfl
@[simp] theorem State.setReg_deckRead (k : RegKey) (v : RegVal) (g' : GroveId) (a' n' : Nat) : (s.setReg k v).deckRead g' a' n' = s.deckRead g' a' n' := rfl
@[simp] theorem State.setReg_hbmRead (k : RegKey) (v : RegVal) (a' n' : Nat) : (s.setReg k v).hbmRead a' n' = s.hbmRead a' n' := rfl
@[simp] theorem State.setReg_roadView (k : RegKey) (v : RegVal) (m : Fin 42) : (s.setReg k v).road' m = s.road' m := rfl

/-! ## emit -/

@[simp] theorem State.emit_reg (o : Out) (k' : RegKey) : (s.emit o).reg k' = s.reg k' := rfl
@[simp] theorem State.emit_getAt (o : Out) (q : Fld) (m j : Nat) : (s.emit o).getAt q m j = s.getAt q m j := rfl
@[simp] theorem State.emit_get (o : Out) (q : Fld) (m : Nat) : (s.emit o).get q m = s.get q m := rfl
@[simp] theorem State.emit_on (o : Out) (q : Fld) (m : Nat) : (s.emit o).on q m = s.on q m := rfl
@[simp] theorem State.emit_tile (o : Out) (t' : TileId) : (s.emit o).tile t' = s.tile t' := rfl
@[simp] theorem State.emit_grove (o : Out) (g' : GroveId) : (s.emit o).grove g' = s.grove g' := rfl
@[simp] theorem State.emit_feller (o : Out) (r : FellerId) : (s.emit o).feller r = s.feller r := rfl
@[simp] theorem State.emit_func (o : Out) (q : Fin 256) : (s.emit o).func q = s.func q := rfl
@[simp] theorem State.emit_seq (o : Out) (j : Nat) : (s.emit o).seq j = s.seq j := rfl
@[simp] theorem State.emit_port (o : Out) (q : PortId) : (s.emit o).port q = s.port q := rfl
@[simp] theorem State.emit_tenant (o : Out) (j : Nat) : (s.emit o).tenant j = s.tenant j := rfl
@[simp] theorem State.emit_image (o : Out) (j : Nat) : (s.emit o).image j = s.image j := rfl
@[simp] theorem State.emit_deckRead (o : Out) (g' : GroveId) (a' n' : Nat) : (s.emit o).deckRead g' a' n' = s.deckRead g' a' n' := rfl
@[simp] theorem State.emit_hbmRead (o : Out) (a' n' : Nat) : (s.emit o).hbmRead a' n' = s.hbmRead a' n' := rfl
@[simp] theorem State.emit_roadView (o : Out) (m : Fin 42) : (s.emit o).road' m = s.road' m := rfl

/-! ## setFunc -/

@[simp] theorem State.setFunc_reg (f : Fin 256) (x : Func) (k' : RegKey) : (s.setFunc f x).reg k' = s.reg k' := rfl
@[simp] theorem State.setFunc_getAt (f : Fin 256) (x : Func) (q : Fld) (m j : Nat) : (s.setFunc f x).getAt q m j = s.getAt q m j := rfl
@[simp] theorem State.setFunc_get (f : Fin 256) (x : Func) (q : Fld) (m : Nat) : (s.setFunc f x).get q m = s.get q m := rfl
@[simp] theorem State.setFunc_on (f : Fin 256) (x : Func) (q : Fld) (m : Nat) : (s.setFunc f x).on q m = s.on q m := rfl
@[simp] theorem State.setFunc_tile (f : Fin 256) (x : Func) (t' : TileId) : (s.setFunc f x).tile t' = s.tile t' := rfl
@[simp] theorem State.setFunc_grove (f : Fin 256) (x : Func) (g' : GroveId) : (s.setFunc f x).grove g' = s.grove g' := rfl
@[simp] theorem State.setFunc_feller (f : Fin 256) (x : Func) (r : FellerId) : (s.setFunc f x).feller r = s.feller r := rfl
@[simp] theorem State.setFunc_seq (f : Fin 256) (x : Func) (j : Nat) : (s.setFunc f x).seq j = s.seq j := rfl
@[simp] theorem State.setFunc_port (f : Fin 256) (x : Func) (q : PortId) : (s.setFunc f x).port q = s.port q := rfl
@[simp] theorem State.setFunc_tenant (f : Fin 256) (x : Func) (j : Nat) : (s.setFunc f x).tenant j = s.tenant j := rfl
@[simp] theorem State.setFunc_image (f : Fin 256) (x : Func) (j : Nat) : (s.setFunc f x).image j = s.image j := rfl
@[simp] theorem State.setFunc_deckRead (f : Fin 256) (x : Func) (g' : GroveId) (a' n' : Nat) : (s.setFunc f x).deckRead g' a' n' = s.deckRead g' a' n' := rfl
@[simp] theorem State.setFunc_hbmRead (f : Fin 256) (x : Func) (a' n' : Nat) : (s.setFunc f x).hbmRead a' n' = s.hbmRead a' n' := rfl
@[simp] theorem State.setFunc_roadView (f : Fin 256) (x : Func) (m : Fin 42) : (s.setFunc f x).road' m = s.road' m := rfl

/-! ## setTile -/

@[simp] theorem State.setTile_reg (t : TileId) (x : Tile) (k' : RegKey) : (s.setTile t x).reg k' = s.reg k' := rfl
@[simp] theorem State.setTile_getAt (t : TileId) (x : Tile) (q : Fld) (m j : Nat) : (s.setTile t x).getAt q m j = s.getAt q m j := rfl
@[simp] theorem State.setTile_get (t : TileId) (x : Tile) (q : Fld) (m : Nat) : (s.setTile t x).get q m = s.get q m := rfl
@[simp] theorem State.setTile_on (t : TileId) (x : Tile) (q : Fld) (m : Nat) : (s.setTile t x).on q m = s.on q m := rfl
@[simp] theorem State.setTile_grove (t : TileId) (x : Tile) (g' : GroveId) : (s.setTile t x).grove g' = s.grove g' := rfl
@[simp] theorem State.setTile_feller (t : TileId) (x : Tile) (r : FellerId) : (s.setTile t x).feller r = s.feller r := rfl
@[simp] theorem State.setTile_func (t : TileId) (x : Tile) (q : Fin 256) : (s.setTile t x).func q = s.func q := rfl
@[simp] theorem State.setTile_seq (t : TileId) (x : Tile) (j : Nat) : (s.setTile t x).seq j = s.seq j := rfl
@[simp] theorem State.setTile_port (t : TileId) (x : Tile) (q : PortId) : (s.setTile t x).port q = s.port q := rfl
@[simp] theorem State.setTile_tenant (t : TileId) (x : Tile) (j : Nat) : (s.setTile t x).tenant j = s.tenant j := rfl
@[simp] theorem State.setTile_image (t : TileId) (x : Tile) (j : Nat) : (s.setTile t x).image j = s.image j := rfl
@[simp] theorem State.setTile_deckRead (t : TileId) (x : Tile) (g' : GroveId) (a' n' : Nat) : (s.setTile t x).deckRead g' a' n' = s.deckRead g' a' n' := rfl
@[simp] theorem State.setTile_hbmRead (t : TileId) (x : Tile) (a' n' : Nat) : (s.setTile t x).hbmRead a' n' = s.hbmRead a' n' := rfl
@[simp] theorem State.setTile_roadView (t : TileId) (x : Tile) (m : Fin 42) : (s.setTile t x).road' m = s.road' m := rfl

/-! ## setGrove -/

@[simp] theorem State.setGrove_reg (g : GroveId) (x : Grove) (k' : RegKey) : (s.setGrove g x).reg k' = s.reg k' := rfl
@[simp] theorem State.setGrove_getAt (g : GroveId) (x : Grove) (q : Fld) (m j : Nat) : (s.setGrove g x).getAt q m j = s.getAt q m j := rfl
@[simp] theorem State.setGrove_get (g : GroveId) (x : Grove) (q : Fld) (m : Nat) : (s.setGrove g x).get q m = s.get q m := rfl
@[simp] theorem State.setGrove_on (g : GroveId) (x : Grove) (q : Fld) (m : Nat) : (s.setGrove g x).on q m = s.on q m := rfl
@[simp] theorem State.setGrove_tile (g : GroveId) (x : Grove) (t' : TileId) : (s.setGrove g x).tile t' = s.tile t' := rfl
@[simp] theorem State.setGrove_feller (g : GroveId) (x : Grove) (r : FellerId) : (s.setGrove g x).feller r = s.feller r := rfl
@[simp] theorem State.setGrove_func (g : GroveId) (x : Grove) (q : Fin 256) : (s.setGrove g x).func q = s.func q := rfl
@[simp] theorem State.setGrove_seq (g : GroveId) (x : Grove) (j : Nat) : (s.setGrove g x).seq j = s.seq j := rfl
@[simp] theorem State.setGrove_port (g : GroveId) (x : Grove) (q : PortId) : (s.setGrove g x).port q = s.port q := rfl
@[simp] theorem State.setGrove_tenant (g : GroveId) (x : Grove) (j : Nat) : (s.setGrove g x).tenant j = s.tenant j := rfl
@[simp] theorem State.setGrove_image (g : GroveId) (x : Grove) (j : Nat) : (s.setGrove g x).image j = s.image j := rfl
@[simp] theorem State.setGrove_deckRead (g : GroveId) (x : Grove) (g' : GroveId) (a' n' : Nat) : (s.setGrove g x).deckRead g' a' n' = s.deckRead g' a' n' := rfl
@[simp] theorem State.setGrove_hbmRead (g : GroveId) (x : Grove) (a' n' : Nat) : (s.setGrove g x).hbmRead a' n' = s.hbmRead a' n' := rfl
@[simp] theorem State.setGrove_roadView (g : GroveId) (x : Grove) (m : Fin 42) : (s.setGrove g x).road' m = s.road' m := rfl

/-! ## setFeller -/

@[simp] theorem State.setFeller_reg (f : FellerId) (x : Feller) (k' : RegKey) : (s.setFeller f x).reg k' = s.reg k' := rfl
@[simp] theorem State.setFeller_getAt (f : FellerId) (x : Feller) (q : Fld) (m j : Nat) : (s.setFeller f x).getAt q m j = s.getAt q m j := rfl
@[simp] theorem State.setFeller_get (f : FellerId) (x : Feller) (q : Fld) (m : Nat) : (s.setFeller f x).get q m = s.get q m := rfl
@[simp] theorem State.setFeller_on (f : FellerId) (x : Feller) (q : Fld) (m : Nat) : (s.setFeller f x).on q m = s.on q m := rfl
@[simp] theorem State.setFeller_tile (f : FellerId) (x : Feller) (t' : TileId) : (s.setFeller f x).tile t' = s.tile t' := rfl
@[simp] theorem State.setFeller_grove (f : FellerId) (x : Feller) (g' : GroveId) : (s.setFeller f x).grove g' = s.grove g' := rfl
@[simp] theorem State.setFeller_func (f : FellerId) (x : Feller) (q : Fin 256) : (s.setFeller f x).func q = s.func q := rfl
@[simp] theorem State.setFeller_seq (f : FellerId) (x : Feller) (j : Nat) : (s.setFeller f x).seq j = s.seq j := rfl
@[simp] theorem State.setFeller_port (f : FellerId) (x : Feller) (q : PortId) : (s.setFeller f x).port q = s.port q := rfl
@[simp] theorem State.setFeller_tenant (f : FellerId) (x : Feller) (j : Nat) : (s.setFeller f x).tenant j = s.tenant j := rfl
@[simp] theorem State.setFeller_image (f : FellerId) (x : Feller) (j : Nat) : (s.setFeller f x).image j = s.image j := rfl
@[simp] theorem State.setFeller_deckRead (f : FellerId) (x : Feller) (g' : GroveId) (a' n' : Nat) : (s.setFeller f x).deckRead g' a' n' = s.deckRead g' a' n' := rfl
@[simp] theorem State.setFeller_hbmRead (f : FellerId) (x : Feller) (a' n' : Nat) : (s.setFeller f x).hbmRead a' n' = s.hbmRead a' n' := rfl
@[simp] theorem State.setFeller_roadView (f : FellerId) (x : Feller) (m : Fin 42) : (s.setFeller f x).road' m = s.road' m := rfl

/-! ## deckWrite -/

@[simp] theorem State.deckWrite_reg (g : GroveId) (a : Nat) (bs : List Byte) (k' : RegKey) : (s.deckWrite g a bs).reg k' = s.reg k' := rfl
@[simp] theorem State.deckWrite_getAt (g : GroveId) (a : Nat) (bs : List Byte) (q : Fld) (m j : Nat) : (s.deckWrite g a bs).getAt q m j = s.getAt q m j := rfl
@[simp] theorem State.deckWrite_get (g : GroveId) (a : Nat) (bs : List Byte) (q : Fld) (m : Nat) : (s.deckWrite g a bs).get q m = s.get q m := rfl
@[simp] theorem State.deckWrite_on (g : GroveId) (a : Nat) (bs : List Byte) (q : Fld) (m : Nat) : (s.deckWrite g a bs).on q m = s.on q m := rfl
@[simp] theorem State.deckWrite_tile (g : GroveId) (a : Nat) (bs : List Byte) (t' : TileId) : (s.deckWrite g a bs).tile t' = s.tile t' := rfl
@[simp] theorem State.deckWrite_grove (g : GroveId) (a : Nat) (bs : List Byte) (g' : GroveId) : (s.deckWrite g a bs).grove g' = s.grove g' := rfl
@[simp] theorem State.deckWrite_feller (g : GroveId) (a : Nat) (bs : List Byte) (r : FellerId) : (s.deckWrite g a bs).feller r = s.feller r := rfl
@[simp] theorem State.deckWrite_func (g : GroveId) (a : Nat) (bs : List Byte) (q : Fin 256) : (s.deckWrite g a bs).func q = s.func q := rfl
@[simp] theorem State.deckWrite_seq (g : GroveId) (a : Nat) (bs : List Byte) (j : Nat) : (s.deckWrite g a bs).seq j = s.seq j := rfl
@[simp] theorem State.deckWrite_port (g : GroveId) (a : Nat) (bs : List Byte) (q : PortId) : (s.deckWrite g a bs).port q = s.port q := rfl
@[simp] theorem State.deckWrite_tenant (g : GroveId) (a : Nat) (bs : List Byte) (j : Nat) : (s.deckWrite g a bs).tenant j = s.tenant j := rfl
@[simp] theorem State.deckWrite_image (g : GroveId) (a : Nat) (bs : List Byte) (j : Nat) : (s.deckWrite g a bs).image j = s.image j := rfl
@[simp] theorem State.deckWrite_hbmRead (g : GroveId) (a : Nat) (bs : List Byte) (a' n' : Nat) : (s.deckWrite g a bs).hbmRead a' n' = s.hbmRead a' n' := rfl
@[simp] theorem State.deckWrite_roadView (g : GroveId) (a : Nat) (bs : List Byte) (m : Fin 42) : (s.deckWrite g a bs).road' m = s.road' m := rfl

/-! ## hbmWrite -/

@[simp] theorem State.hbmWrite_reg (a : Nat) (bs : List Byte) (k' : RegKey) : (s.hbmWrite a bs).reg k' = s.reg k' := rfl
@[simp] theorem State.hbmWrite_getAt (a : Nat) (bs : List Byte) (q : Fld) (m j : Nat) : (s.hbmWrite a bs).getAt q m j = s.getAt q m j := rfl
@[simp] theorem State.hbmWrite_get (a : Nat) (bs : List Byte) (q : Fld) (m : Nat) : (s.hbmWrite a bs).get q m = s.get q m := rfl
@[simp] theorem State.hbmWrite_on (a : Nat) (bs : List Byte) (q : Fld) (m : Nat) : (s.hbmWrite a bs).on q m = s.on q m := rfl
@[simp] theorem State.hbmWrite_tile (a : Nat) (bs : List Byte) (t' : TileId) : (s.hbmWrite a bs).tile t' = s.tile t' := rfl
@[simp] theorem State.hbmWrite_grove (a : Nat) (bs : List Byte) (g' : GroveId) : (s.hbmWrite a bs).grove g' = s.grove g' := rfl
@[simp] theorem State.hbmWrite_feller (a : Nat) (bs : List Byte) (r : FellerId) : (s.hbmWrite a bs).feller r = s.feller r := rfl
@[simp] theorem State.hbmWrite_func (a : Nat) (bs : List Byte) (q : Fin 256) : (s.hbmWrite a bs).func q = s.func q := rfl
@[simp] theorem State.hbmWrite_seq (a : Nat) (bs : List Byte) (j : Nat) : (s.hbmWrite a bs).seq j = s.seq j := rfl
@[simp] theorem State.hbmWrite_port (a : Nat) (bs : List Byte) (q : PortId) : (s.hbmWrite a bs).port q = s.port q := rfl
@[simp] theorem State.hbmWrite_tenant (a : Nat) (bs : List Byte) (j : Nat) : (s.hbmWrite a bs).tenant j = s.tenant j := rfl
@[simp] theorem State.hbmWrite_image (a : Nat) (bs : List Byte) (j : Nat) : (s.hbmWrite a bs).image j = s.image j := rfl
@[simp] theorem State.hbmWrite_deckRead (a : Nat) (bs : List Byte) (g' : GroveId) (a' n' : Nat) : (s.hbmWrite a bs).deckRead g' a' n' = s.deckRead g' a' n' := rfl
@[simp] theorem State.hbmWrite_roadView (a : Nat) (bs : List Byte) (m : Fin 42) : (s.hbmWrite a bs).road' m = s.road' m := rfl

/-! ## setSeq -/

@[simp] theorem State.setSeq_reg (i : Nat) (x : Seq) (k' : RegKey) : (s.setSeq i x).reg k' = s.reg k' := rfl
@[simp] theorem State.setSeq_getAt (i : Nat) (x : Seq) (q : Fld) (m j : Nat) : (s.setSeq i x).getAt q m j = s.getAt q m j := rfl
@[simp] theorem State.setSeq_get (i : Nat) (x : Seq) (q : Fld) (m : Nat) : (s.setSeq i x).get q m = s.get q m := rfl
@[simp] theorem State.setSeq_on (i : Nat) (x : Seq) (q : Fld) (m : Nat) : (s.setSeq i x).on q m = s.on q m := rfl
@[simp] theorem State.setSeq_tile (i : Nat) (x : Seq) (t' : TileId) : (s.setSeq i x).tile t' = s.tile t' := rfl
@[simp] theorem State.setSeq_grove (i : Nat) (x : Seq) (g' : GroveId) : (s.setSeq i x).grove g' = s.grove g' := rfl
@[simp] theorem State.setSeq_feller (i : Nat) (x : Seq) (r : FellerId) : (s.setSeq i x).feller r = s.feller r := rfl
@[simp] theorem State.setSeq_func (i : Nat) (x : Seq) (q : Fin 256) : (s.setSeq i x).func q = s.func q := rfl
@[simp] theorem State.setSeq_port (i : Nat) (x : Seq) (q : PortId) : (s.setSeq i x).port q = s.port q := rfl
@[simp] theorem State.setSeq_tenant (i : Nat) (x : Seq) (j : Nat) : (s.setSeq i x).tenant j = s.tenant j := rfl
@[simp] theorem State.setSeq_image (i : Nat) (x : Seq) (j : Nat) : (s.setSeq i x).image j = s.image j := rfl
@[simp] theorem State.setSeq_deckRead (i : Nat) (x : Seq) (g' : GroveId) (a' n' : Nat) : (s.setSeq i x).deckRead g' a' n' = s.deckRead g' a' n' := rfl
@[simp] theorem State.setSeq_hbmRead (i : Nat) (x : Seq) (a' n' : Nat) : (s.setSeq i x).hbmRead a' n' = s.hbmRead a' n' := rfl
@[simp] theorem State.setSeq_roadView (i : Nat) (x : Seq) (m : Fin 42) : (s.setSeq i x).road' m = s.road' m := rfl

/-! ## setTenant -/

@[simp] theorem State.setTenant_reg (n : Nat) (x : Tenant) (k' : RegKey) : (s.setTenant n x).reg k' = s.reg k' := rfl
@[simp] theorem State.setTenant_getAt (n : Nat) (x : Tenant) (q : Fld) (m j : Nat) : (s.setTenant n x).getAt q m j = s.getAt q m j := rfl
@[simp] theorem State.setTenant_get (n : Nat) (x : Tenant) (q : Fld) (m : Nat) : (s.setTenant n x).get q m = s.get q m := rfl
@[simp] theorem State.setTenant_on (n : Nat) (x : Tenant) (q : Fld) (m : Nat) : (s.setTenant n x).on q m = s.on q m := rfl
@[simp] theorem State.setTenant_tile (n : Nat) (x : Tenant) (t' : TileId) : (s.setTenant n x).tile t' = s.tile t' := rfl
@[simp] theorem State.setTenant_grove (n : Nat) (x : Tenant) (g' : GroveId) : (s.setTenant n x).grove g' = s.grove g' := rfl
@[simp] theorem State.setTenant_feller (n : Nat) (x : Tenant) (r : FellerId) : (s.setTenant n x).feller r = s.feller r := rfl
@[simp] theorem State.setTenant_func (n : Nat) (x : Tenant) (q : Fin 256) : (s.setTenant n x).func q = s.func q := rfl
@[simp] theorem State.setTenant_seq (n : Nat) (x : Tenant) (j : Nat) : (s.setTenant n x).seq j = s.seq j := rfl
@[simp] theorem State.setTenant_port (n : Nat) (x : Tenant) (q : PortId) : (s.setTenant n x).port q = s.port q := rfl
@[simp] theorem State.setTenant_image (n : Nat) (x : Tenant) (j : Nat) : (s.setTenant n x).image j = s.image j := rfl
@[simp] theorem State.setTenant_deckRead (n : Nat) (x : Tenant) (g' : GroveId) (a' n' : Nat) : (s.setTenant n x).deckRead g' a' n' = s.deckRead g' a' n' := rfl
@[simp] theorem State.setTenant_hbmRead (n : Nat) (x : Tenant) (a' n' : Nat) : (s.setTenant n x).hbmRead a' n' = s.hbmRead a' n' := rfl
@[simp] theorem State.setTenant_roadView (n : Nat) (x : Tenant) (m : Fin 42) : (s.setTenant n x).road' m = s.road' m := rfl

/-! ## setImage -/

@[simp] theorem State.setImage_reg (n : Nat) (x : Image) (k' : RegKey) : (s.setImage n x).reg k' = s.reg k' := rfl
@[simp] theorem State.setImage_getAt (n : Nat) (x : Image) (q : Fld) (m j : Nat) : (s.setImage n x).getAt q m j = s.getAt q m j := rfl
@[simp] theorem State.setImage_get (n : Nat) (x : Image) (q : Fld) (m : Nat) : (s.setImage n x).get q m = s.get q m := rfl
@[simp] theorem State.setImage_on (n : Nat) (x : Image) (q : Fld) (m : Nat) : (s.setImage n x).on q m = s.on q m := rfl
@[simp] theorem State.setImage_tile (n : Nat) (x : Image) (t' : TileId) : (s.setImage n x).tile t' = s.tile t' := rfl
@[simp] theorem State.setImage_grove (n : Nat) (x : Image) (g' : GroveId) : (s.setImage n x).grove g' = s.grove g' := rfl
@[simp] theorem State.setImage_feller (n : Nat) (x : Image) (r : FellerId) : (s.setImage n x).feller r = s.feller r := rfl
@[simp] theorem State.setImage_func (n : Nat) (x : Image) (q : Fin 256) : (s.setImage n x).func q = s.func q := rfl
@[simp] theorem State.setImage_seq (n : Nat) (x : Image) (j : Nat) : (s.setImage n x).seq j = s.seq j := rfl
@[simp] theorem State.setImage_port (n : Nat) (x : Image) (q : PortId) : (s.setImage n x).port q = s.port q := rfl
@[simp] theorem State.setImage_tenant (n : Nat) (x : Image) (j : Nat) : (s.setImage n x).tenant j = s.tenant j := rfl
@[simp] theorem State.setImage_deckRead (n : Nat) (x : Image) (g' : GroveId) (a' n' : Nat) : (s.setImage n x).deckRead g' a' n' = s.deckRead g' a' n' := rfl
@[simp] theorem State.setImage_hbmRead (n : Nat) (x : Image) (a' n' : Nat) : (s.setImage n x).hbmRead a' n' = s.hbmRead a' n' := rfl
@[simp] theorem State.setImage_roadView (n : Nat) (x : Image) (m : Fin 42) : (s.setImage n x).road' m = s.road' m := rfl

/-! ## setPort -/

@[simp] theorem State.setPort_reg (p : PortId) (x : Port) (k' : RegKey) : (s.setPort p x).reg k' = s.reg k' := rfl
@[simp] theorem State.setPort_getAt (p : PortId) (x : Port) (q : Fld) (m j : Nat) : (s.setPort p x).getAt q m j = s.getAt q m j := rfl
@[simp] theorem State.setPort_get (p : PortId) (x : Port) (q : Fld) (m : Nat) : (s.setPort p x).get q m = s.get q m := rfl
@[simp] theorem State.setPort_on (p : PortId) (x : Port) (q : Fld) (m : Nat) : (s.setPort p x).on q m = s.on q m := rfl
@[simp] theorem State.setPort_tile (p : PortId) (x : Port) (t' : TileId) : (s.setPort p x).tile t' = s.tile t' := rfl
@[simp] theorem State.setPort_grove (p : PortId) (x : Port) (g' : GroveId) : (s.setPort p x).grove g' = s.grove g' := rfl
@[simp] theorem State.setPort_feller (p : PortId) (x : Port) (r : FellerId) : (s.setPort p x).feller r = s.feller r := rfl
@[simp] theorem State.setPort_func (p : PortId) (x : Port) (q : Fin 256) : (s.setPort p x).func q = s.func q := rfl
@[simp] theorem State.setPort_seq (p : PortId) (x : Port) (j : Nat) : (s.setPort p x).seq j = s.seq j := rfl
@[simp] theorem State.setPort_tenant (p : PortId) (x : Port) (j : Nat) : (s.setPort p x).tenant j = s.tenant j := rfl
@[simp] theorem State.setPort_image (p : PortId) (x : Port) (j : Nat) : (s.setPort p x).image j = s.image j := rfl
@[simp] theorem State.setPort_deckRead (p : PortId) (x : Port) (g' : GroveId) (a' n' : Nat) : (s.setPort p x).deckRead g' a' n' = s.deckRead g' a' n' := rfl
@[simp] theorem State.setPort_hbmRead (p : PortId) (x : Port) (a' n' : Nat) : (s.setPort p x).hbmRead a' n' = s.hbmRead a' n' := rfl
@[simp] theorem State.setPort_roadView (p : PortId) (x : Port) (m : Fin 42) : (s.setPort p x).road' m = s.road' m := rfl

/-! ## setRoad -/

@[simp] theorem State.setRoad_reg (n : Fin 42) (x : StandRoad) (k' : RegKey) : (s.setRoad n x).reg k' = s.reg k' := rfl
@[simp] theorem State.setRoad_getAt (n : Fin 42) (x : StandRoad) (q : Fld) (m j : Nat) : (s.setRoad n x).getAt q m j = s.getAt q m j := rfl
@[simp] theorem State.setRoad_get (n : Fin 42) (x : StandRoad) (q : Fld) (m : Nat) : (s.setRoad n x).get q m = s.get q m := rfl
@[simp] theorem State.setRoad_on (n : Fin 42) (x : StandRoad) (q : Fld) (m : Nat) : (s.setRoad n x).on q m = s.on q m := rfl
@[simp] theorem State.setRoad_tile (n : Fin 42) (x : StandRoad) (t' : TileId) : (s.setRoad n x).tile t' = s.tile t' := rfl
@[simp] theorem State.setRoad_grove (n : Fin 42) (x : StandRoad) (g' : GroveId) : (s.setRoad n x).grove g' = s.grove g' := rfl
@[simp] theorem State.setRoad_feller (n : Fin 42) (x : StandRoad) (r : FellerId) : (s.setRoad n x).feller r = s.feller r := rfl
@[simp] theorem State.setRoad_func (n : Fin 42) (x : StandRoad) (q : Fin 256) : (s.setRoad n x).func q = s.func q := rfl
@[simp] theorem State.setRoad_seq (n : Fin 42) (x : StandRoad) (j : Nat) : (s.setRoad n x).seq j = s.seq j := rfl
@[simp] theorem State.setRoad_port (n : Fin 42) (x : StandRoad) (q : PortId) : (s.setRoad n x).port q = s.port q := rfl
@[simp] theorem State.setRoad_tenant (n : Fin 42) (x : StandRoad) (j : Nat) : (s.setRoad n x).tenant j = s.tenant j := rfl
@[simp] theorem State.setRoad_image (n : Fin 42) (x : StandRoad) (j : Nat) : (s.setRoad n x).image j = s.image j := rfl
@[simp] theorem State.setRoad_deckRead (n : Fin 42) (x : StandRoad) (g' : GroveId) (a' n' : Nat) : (s.setRoad n x).deckRead g' a' n' = s.deckRead g' a' n' := rfl
@[simp] theorem State.setRoad_hbmRead (n : Fin 42) (x : StandRoad) (a' n' : Nat) : (s.setRoad n x).hbmRead a' n' = s.hbmRead a' n' := rfl

/-! ## setPower -/

@[simp] theorem State.setPower_reg (n : Nat) (x : StandPower) (k' : RegKey) : (s.setPower n x).reg k' = s.reg k' := rfl
@[simp] theorem State.setPower_getAt (n : Nat) (x : StandPower) (q : Fld) (m j : Nat) : (s.setPower n x).getAt q m j = s.getAt q m j := rfl
@[simp] theorem State.setPower_get (n : Nat) (x : StandPower) (q : Fld) (m : Nat) : (s.setPower n x).get q m = s.get q m := rfl
@[simp] theorem State.setPower_on (n : Nat) (x : StandPower) (q : Fld) (m : Nat) : (s.setPower n x).on q m = s.on q m := rfl
@[simp] theorem State.setPower_tile (n : Nat) (x : StandPower) (t' : TileId) : (s.setPower n x).tile t' = s.tile t' := rfl
@[simp] theorem State.setPower_grove (n : Nat) (x : StandPower) (g' : GroveId) : (s.setPower n x).grove g' = s.grove g' := rfl
@[simp] theorem State.setPower_feller (n : Nat) (x : StandPower) (r : FellerId) : (s.setPower n x).feller r = s.feller r := rfl
@[simp] theorem State.setPower_func (n : Nat) (x : StandPower) (q : Fin 256) : (s.setPower n x).func q = s.func q := rfl
@[simp] theorem State.setPower_seq (n : Nat) (x : StandPower) (j : Nat) : (s.setPower n x).seq j = s.seq j := rfl
@[simp] theorem State.setPower_port (n : Nat) (x : StandPower) (q : PortId) : (s.setPower n x).port q = s.port q := rfl
@[simp] theorem State.setPower_tenant (n : Nat) (x : StandPower) (j : Nat) : (s.setPower n x).tenant j = s.tenant j := rfl
@[simp] theorem State.setPower_image (n : Nat) (x : StandPower) (j : Nat) : (s.setPower n x).image j = s.image j := rfl
@[simp] theorem State.setPower_deckRead (n : Nat) (x : StandPower) (g' : GroveId) (a' n' : Nat) : (s.setPower n x).deckRead g' a' n' = s.deckRead g' a' n' := rfl
@[simp] theorem State.setPower_hbmRead (n : Nat) (x : StandPower) (a' n' : Nat) : (s.setPower n x).hbmRead a' n' = s.hbmRead a' n' := rfl
@[simp] theorem State.setPower_roadView (n : Nat) (x : StandPower) (m : Fin 42) : (s.setPower n x).road' m = s.road' m := rfl

/-! ## putAt -/

@[simp] theorem State.putAt_tile (f : Fld) (u i x : Nat) (t' : TileId) : (s.putAt f u i x).tile t' = s.tile t' := rfl
@[simp] theorem State.putAt_grove (f : Fld) (u i x : Nat) (g' : GroveId) : (s.putAt f u i x).grove g' = s.grove g' := rfl
@[simp] theorem State.putAt_feller (f : Fld) (u i x : Nat) (r : FellerId) : (s.putAt f u i x).feller r = s.feller r := rfl
@[simp] theorem State.putAt_func (f : Fld) (u i x : Nat) (q : Fin 256) : (s.putAt f u i x).func q = s.func q := rfl
@[simp] theorem State.putAt_seq (f : Fld) (u i x : Nat) (j : Nat) : (s.putAt f u i x).seq j = s.seq j := rfl
@[simp] theorem State.putAt_port (f : Fld) (u i x : Nat) (q : PortId) : (s.putAt f u i x).port q = s.port q := rfl
@[simp] theorem State.putAt_tenant (f : Fld) (u i x : Nat) (j : Nat) : (s.putAt f u i x).tenant j = s.tenant j := rfl
@[simp] theorem State.putAt_image (f : Fld) (u i x : Nat) (j : Nat) : (s.putAt f u i x).image j = s.image j := rfl
@[simp] theorem State.putAt_deckRead (f : Fld) (u i x : Nat) (g' : GroveId) (a' n' : Nat) : (s.putAt f u i x).deckRead g' a' n' = s.deckRead g' a' n' := rfl
@[simp] theorem State.putAt_hbmRead (f : Fld) (u i x : Nat) (a' n' : Nat) : (s.putAt f u i x).hbmRead a' n' = s.hbmRead a' n' := rfl
@[simp] theorem State.putAt_roadView (f : Fld) (u i x : Nat) (m : Fin 42) : (s.putAt f u i x).road' m = s.road' m := rfl

/-! ## put -/

@[simp] theorem State.put_tile (f : Fld) (u x : Nat) (t' : TileId) : (s.put f u x).tile t' = s.tile t' := rfl
@[simp] theorem State.put_grove (f : Fld) (u x : Nat) (g' : GroveId) : (s.put f u x).grove g' = s.grove g' := rfl
@[simp] theorem State.put_feller (f : Fld) (u x : Nat) (r : FellerId) : (s.put f u x).feller r = s.feller r := rfl
@[simp] theorem State.put_func (f : Fld) (u x : Nat) (q : Fin 256) : (s.put f u x).func q = s.func q := rfl
@[simp] theorem State.put_seq (f : Fld) (u x : Nat) (j : Nat) : (s.put f u x).seq j = s.seq j := rfl
@[simp] theorem State.put_port (f : Fld) (u x : Nat) (q : PortId) : (s.put f u x).port q = s.port q := rfl
@[simp] theorem State.put_tenant (f : Fld) (u x : Nat) (j : Nat) : (s.put f u x).tenant j = s.tenant j := rfl
@[simp] theorem State.put_image (f : Fld) (u x : Nat) (j : Nat) : (s.put f u x).image j = s.image j := rfl
@[simp] theorem State.put_deckRead (f : Fld) (u x : Nat) (g' : GroveId) (a' n' : Nat) : (s.put f u x).deckRead g' a' n' = s.deckRead g' a' n' := rfl
@[simp] theorem State.put_hbmRead (f : Fld) (u x : Nat) (a' n' : Nat) : (s.put f u x).hbmRead a' n' = s.hbmRead a' n' := rfl
@[simp] theorem State.put_roadView (f : Fld) (u x : Nat) (m : Fin 42) : (s.put f u x).road' m = s.road' m := rfl

/-! ## A read of what was written -/

@[simp] theorem State.setReg_reg_self (k : RegKey) (x : RegVal) : (s.setReg k x).reg k = x := by simp [State.setReg, State.reg]

theorem State.setReg_reg_ne {k j : RegKey} (x : RegVal) (h : k ≠ j) : (s.setReg k x).reg j = s.reg j := by
  simp [State.setReg, State.reg, tblGet_tblSet_ne _ _ _ h]

@[simp] theorem State.setTile_tile_self (k : TileId) (x : Tile) : (s.setTile k x).tile k = x := by simp [State.setTile, State.tile]

theorem State.setTile_tile_ne {k j : TileId} (x : Tile) (h : k ≠ j) : (s.setTile k x).tile j = s.tile j := by
  simp [State.setTile, State.tile, tblGet_tblSet_ne _ _ _ h]

@[simp] theorem State.setGrove_grove_self (k : GroveId) (x : Grove) : (s.setGrove k x).grove k = x := by simp [State.setGrove, State.grove]

theorem State.setGrove_grove_ne {k j : GroveId} (x : Grove) (h : k ≠ j) : (s.setGrove k x).grove j = s.grove j := by
  simp [State.setGrove, State.grove, tblGet_tblSet_ne _ _ _ h]

@[simp] theorem State.setFeller_feller_self (k : FellerId) (x : Feller) : (s.setFeller k x).feller k = x := by simp [State.setFeller, State.feller]

theorem State.setFeller_feller_ne {k j : FellerId} (x : Feller) (h : k ≠ j) : (s.setFeller k x).feller j = s.feller j := by
  simp [State.setFeller, State.feller, tblGet_tblSet_ne _ _ _ h]

@[simp] theorem State.setFunc_func_self (k : Fin 256) (x : Func) : (s.setFunc k x).func k = x := by simp [State.setFunc, State.func]

theorem State.setFunc_func_ne {k j : Fin 256} (x : Func) (h : k ≠ j) : (s.setFunc k x).func j = s.func j := by
  simp [State.setFunc, State.func, tblGet_tblSet_ne _ _ _ h]

@[simp] theorem State.setSeq_seq_self (k : Nat) (x : Seq) : (s.setSeq k x).seq k = x := by simp [State.setSeq, State.seq]

theorem State.setSeq_seq_ne {k j : Nat} (x : Seq) (h : k ≠ j) : (s.setSeq k x).seq j = s.seq j := by
  simp [State.setSeq, State.seq, tblGet_tblSet_ne _ _ _ h]

@[simp] theorem State.setTenant_tenant_self (k : Nat) (x : Tenant) : (s.setTenant k x).tenant k = x := by simp [State.setTenant, State.tenant]

theorem State.setTenant_tenant_ne {k j : Nat} (x : Tenant) (h : k ≠ j) : (s.setTenant k x).tenant j = s.tenant j := by
  simp [State.setTenant, State.tenant, tblGet_tblSet_ne _ _ _ h]

@[simp] theorem State.setPort_port_self (k : PortId) (x : Port) : (s.setPort k x).port k = x := by simp [State.setPort, State.port]

theorem State.setPort_port_ne {k j : PortId} (x : Port) (h : k ≠ j) : (s.setPort k x).port j = s.port j := by
  simp [State.setPort, State.port, tblGet_tblSet_ne _ _ _ h]

@[simp] theorem State.setImage_image_self (n : Nat) (x : Image) : (s.setImage n x).image n = some x := by
  simp [State.setImage, State.image]

end Sys2Proof.Machine
end

