-- ==== Sys2Proof/Laws/Registers.lean ====
section
/-! SUPPORT. Laws of bit fields and register fields: a field that was written reads as the value's low bits, and every other field reads as
before. -/

namespace Sys2Proof.Machine

/-! ## Bit fields -/

theorem bits_eq (v lo len : Nat) : bits v lo len = v % 2 ^ (lo + len) / 2 ^ lo := by
  rw [bits, Nat.pow_add, Nat.mod_mul_right_div_self]

theorem bits_lt (v lo len : Nat) : bits v lo len < 2 ^ len := Nat.mod_lt _ (Nat.two_pow_pos len)

/-- A field of a number cut to `n` bits that lies within them. -/
theorem bits_mod (v n lo len : Nat) (h : lo + len ≤ n) : bits (v % 2 ^ n) lo len = bits v lo len := by
  rw [bits_eq, bits_eq, Nat.mod_mod_of_dvd v (Nat.pow_dvd_pow 2 h)]

/-- The three parts of a number whose field was replaced. -/
theorem putBits_eq (v lo len x : Nat) :
    putBits v lo len x = 2 ^ lo * (2 ^ len * (v / 2 ^ lo / 2 ^ len) + x % 2 ^ len) + v % 2 ^ lo := by
  have h1 := Nat.div_add_mod v (2 ^ lo)
  have h2 := Nat.div_add_mod (v / 2 ^ lo) (2 ^ len)
  have h3 : v = 2 ^ lo * (2 ^ len * (v / 2 ^ lo / 2 ^ len)) + bits v lo len * 2 ^ lo + v % 2 ^ lo := by
    rw [bits, Nat.mul_comm (v / 2 ^ lo % 2 ^ len), ← Nat.mul_add, h2, h1]
  have h4 : v - bits v lo len * 2 ^ lo = 2 ^ lo * (2 ^ len * (v / 2 ^ lo / 2 ^ len)) + v % 2 ^ lo := by omega
  rw [putBits, h4, Nat.mul_add, Nat.mul_comm (x % 2 ^ len)]
  omega

@[simp] theorem bits_putBits_self (v lo len x : Nat) : bits (putBits v lo len x) lo len = x % 2 ^ len := by
  rw [bits, putBits_eq, Nat.mul_add_div (Nat.two_pow_pos lo), Nat.div_eq_of_lt (Nat.mod_lt v (Nat.two_pow_pos lo)), Nat.add_zero,
    Nat.mul_add_mod, Nat.mod_mod]

theorem bits_putBits_high (v lo len x lo' len' : Nat) (h : lo + len ≤ lo') :
    bits (putBits v lo len x) lo' len' = bits v lo' len' := by
  obtain ⟨d, rfl⟩ := Nat.exists_eq_add_of_le h
  have e (w : Nat) : w / 2 ^ (lo + len + d) = w / 2 ^ lo / 2 ^ len / 2 ^ d := by
    rw [Nat.pow_add, Nat.pow_add, Nat.div_div_eq_div_mul, Nat.div_div_eq_div_mul, Nat.mul_assoc]
  rw [bits, bits, e, e, putBits_eq, Nat.mul_add_div (Nat.two_pow_pos lo), Nat.div_eq_of_lt (Nat.mod_lt v (Nat.two_pow_pos lo)),
    Nat.add_zero, Nat.mul_add_div (Nat.two_pow_pos len), Nat.div_eq_of_lt (Nat.mod_lt x (Nat.two_pow_pos len)), Nat.add_zero]

theorem bits_putBits_low (v lo len x lo' len' : Nat) (h : lo' + len' ≤ lo) :
    bits (putBits v lo len x) lo' len' = bits v lo' len' := by
  rw [← bits_mod _ lo lo' len' h, ← bits_mod v lo lo' len' h, putBits_eq, Nat.mul_add_mod, Nat.mod_mod]

/-! ## Register fields -/

/-- A register's bits as a number of 128 bits hold every field that lies within them. -/
theorem bits_ofNat (v lo len : Nat) (h : lo + len ≤ 128) : bits (BitVec.ofNat 128 v).toNat lo len = bits v lo len := by
  rw [BitVec.toNat_ofNat, bits_mod v 128 lo len h]

variable (s : State)

theorem State.getAt_putAt_self (f : Fld) (u i x : Nat) (h : f.lo + f.len ≤ 128) :
    (s.putAt f u i x).getAt f u i = x % 2 ^ f.len := by
  rw [State.getAt, State.putAt, State.setReg_reg_self, bits_ofNat _ _ _ h, bits_putBits_self]

theorem State.get_put_self (f : Fld) (u x : Nat) (h : f.lo + f.len ≤ 128) : (s.put f u x).get f u = x % 2 ^ f.len :=
  s.getAt_putAt_self f u 0 x h

/-- A field of another register, unit or index is unchanged. -/
theorem State.getAt_putAt_key {f g : Fld} {u i v j : Nat} (x : Nat) (h : f.key u i ≠ g.key v j) :
    (s.putAt f u i x).getAt g v j = s.getAt g v j := by
  rw [State.getAt, State.putAt, State.setReg_reg_ne s _ h, ← State.getAt]

/-- A field of other bits is unchanged, in the same register or another. -/
theorem State.getAt_putAt_field {f g : Fld} (u i x v j : Nat) (hg : g.lo + g.len ≤ 128)
    (h : f.lo + f.len ≤ g.lo ∨ g.lo + g.len ≤ f.lo) : (s.putAt f u i x).getAt g v j = s.getAt g v j := by
  by_cases hk : f.key u i = g.key v j
  · rw [State.getAt, State.putAt, ← hk, State.setReg_reg_self, bits_ofNat _ _ _ hg, State.getAt, ← hk]
    exact h.elim (bits_putBits_high _ _ _ _ _ _) (bits_putBits_low _ _ _ _ _ _)
  · exact State.getAt_putAt_key s x hk

/-- Another register is unchanged. -/
theorem State.getAt_putAt_reg {f g : Fld} (u i x v j : Nat) (h : f.reg ≠ g.reg) :
    (s.putAt f u i x).getAt g v j = s.getAt g v j :=
  State.getAt_putAt_key s x (fun e => h (congrArg RegKey.reg e))

theorem State.get_put_field {f g : Fld} (u x v : Nat) (hg : g.lo + g.len ≤ 128)
    (h : f.lo + f.len ≤ g.lo ∨ g.lo + g.len ≤ f.lo) : (s.put f u x).get g v = s.get g v :=
  s.getAt_putAt_field u 0 x v 0 hg h

theorem State.get_put_reg {f g : Fld} (u x v : Nat) (h : f.reg ≠ g.reg) : (s.put f u x).get g v = s.get g v :=
  s.getAt_putAt_reg u 0 x v 0 h

theorem State.get_put_unit {f g : Fld} {u v : Nat} (x : Nat) (h : u ≠ v) : (s.put f u x).get g v = s.get g v :=
  State.getAt_putAt_key s x (fun e => h (congrArg RegKey.unit e))

/-- An event bit that hardware sets reads as set (R9). -/
theorem State.on_raise_self (f : Fld) (c : Reg) (u : Nat) (hl : f.len = 1) (h : f.lo + 1 ≤ 128) (hc : f.reg ≠ c) :
    (s.raise f c u).on f u = true := by
  have h1 : ((s.put f u 1).wrapUp ⟨c, 8 * f.lo, 8⟩ u).get f u = (s.put f u 1).get f u :=
    State.get_put_reg _ u _ u (fun e => hc e.symm)
  rw [State.on, State.raise, h1, State.get_put_self s f u 1 (by omega), hl]
  rfl

end Sys2Proof.Machine
end

