-- ==== Sys2Proof/Laws/Fellers.lean ====
section
/-! SUPPORT. What the shared operations of the feller instructions do: the pc, scalar results, loads, stores and branches. -/

namespace Sys2Proof.Machine

variable (s : State) (f : FellerId)

/-- The state with a number of uses of free values. -/
def State.used (s : State) (n : Nat) : State := { s with freeUses := n }

theorem free_snd (w : Nat) : (s.free w).2 = s.used (s.freeUses + 1) := rfl
theorem used_self : s.used s.freeUses = s := rfl
@[simp] theorem used_feller (n : Nat) (r : FellerId) : (s.used n).feller r = s.feller r := rfl
@[simp] theorem used_pc (n : Nat) : (s.used n).pc f = s.pc f := rfl
@[simp] theorem used_decks (n : Nat) : (s.used n).decks = s.decks := rfl

/-- Writing a pc within the store changes the pc and nothing else. -/
theorem setPc_wentTo (a : Nat) (h : a < storeBytes) : WentTo s (s.setPc f a) f a := by
  refine ⟨?_, ?_, fun k hk => State.setReg_reg_ne s _ (Ne.symm hk)⟩
  · show (s.putAt _ _ _ _).getAt _ _ _ = _
    rw [State.getAt_putAt_self s _ _ _ _ (by decide)]
    exact Nat.mod_eq_of_lt h
  · intro q hq
    refine State.getAt_putAt_field s _ _ _ _ _ ?_ ?_
    all_goals (simp only [List.mem_cons, List.not_mem_nil, or_false] at hq; rcases hq with rfl | rfl | rfl <;> decide)

/-- A jump within the store. -/
theorem jump_in (a : Nat) (h : a + 4 ≤ storeBytes) : s.jump f a = s.setPc f a := by
  simp [State.jump, Int.ofNat_le.symm] at *
  omega

/-- The next instruction lies in the store. -/
theorem advance_in (h : s.pc f + 8 ≤ storeBytes) : s.advance f = s.setPc f (s.pc f + 4) := by
  have := jump_in s f (s.pc f + 4) (by omega)
  simpa [State.advance] using this

theorem FellerRuns.runs {s : State} {f : FellerId} (h : FellerRuns s f) : s.fellerRuns f = true := by
  simp [State.fellerRuns, h.1]

/-- A change of a feller's record leaves its pc. -/
theorem setFeller_advance (x : Feller) (h : FellerRuns s f) :
    (s.setFeller f x).advance f = (s.setFeller f x).setPc f (s.pc f + 4) := advance_in _ f h.2

/-- A new record for a feller that goes on. -/
theorem setFeller_stepped (n : Nat) (x : Feller) (h : FellerRuns s f) :
    FellerStepped s (((s.used n).setFeller f x).setPc f (s.pc f + 4)) f := by
  refine ⟨setPc_wentTo ((s.used n).setFeller f x) f _ (by have := h.2; omega), ?_, rfl⟩
  intro r hr
  exact State.setFeller_feller_ne _ _ (Ne.symm hr)

theorem setScalar_scalar (x : Feller) (rd r : Fin 32) (v : BitVec 64) :
    (x.setScalar rd v).scalar r = if r = rd ∧ r ≠ 0 then v else x.scalar r := by
  unfold Feller.setScalar Feller.scalar
  by_cases h0 : r = 0
  · simp [h0]
  · by_cases hd : rd = 0
    · have : ¬ r = rd := fun e => h0 (e.trans hd)
      simp [h0, hd]
    · by_cases he : r = rd
      · subst he
        simp [h0]
      · simp [h0, hd, he, tblGet_tblSet_ne _ _ _ (Ne.symm he)]

/-- A scalar result, with the free values used so far. -/
theorem setScalar_wrote (n : Nat) (rd : Fin 32) (v : BitVec 64) (h : FellerRuns s f) :
    WroteScalar s (((s.used n).setScalar f rd v).advance f) f rd v := by
  have e : ((s.used n).setScalar f rd v).advance f
      = (((s.used n).setFeller f ((s.feller f).setScalar rd v)).setPc f (s.pc f + 4)) :=
    setFeller_advance (s.used n) f _ h
  have hs : (((s.used n).setFeller f ((s.feller f).setScalar rd v)).setPc f (s.pc f + 4)).feller f = (s.feller f).setScalar rd v :=
    State.setFeller_feller_self (s.used n) f _
  rw [e]
  refine ⟨fun r => ?_, ?_, setFeller_stepped s f n _ h⟩
  · unfold State.scalar
    rw [hs]
    exact setScalar_scalar _ _ _ _
  · rw [hs]
    unfold Feller.setScalar
    split <;> rfl

/-- What `scalarOp` does (R185). -/
theorem scalarOp_wrote (rd : Fin 32) (v : State → BitVec 64) (h : FellerRuns s f) :
    WroteScalar s (s.scalarOp f rd v) f rd (v s) := by
  have e : s.scalarOp f rd v = (s.setScalar f rd (v s)).advance f := by simp [State.scalarOp, State.plainOp, h.runs]
  rw [e]
  exact setScalar_wrote s f s.freeUses rd (v s) h

end Sys2Proof.Machine
end

