-- ==== Sys2Proof/Laws/Words.lean ====
section
/-! SUPPORT. The fields of feller instruction words, format by format (R187): each field of a word that a format builds reads as the value
that was put there. -/

namespace Sys2Proof

open Machine (bits)

@[simp] theorem regAt_of_bits (n : Nat) [NeZero n] (w lo len : Nat) (r : Fin n) (h : bits w lo len = r.val) :
    regAt n w lo len = r := by
  simp [regAt, h]

theorem wordA_fields (op sd sa sb fn : Nat) (ho : op < 64) (h1 : sd < 32) (h2 : sa < 32) (h3 : sb < 32) (h4 : fn < 2048) :
    bits (wordA op sd sa sb fn).toNat 26 6 = op ∧ bits (wordA op sd sa sb fn).toNat 21 5 = sd ∧
    bits (wordA op sd sa sb fn).toNat 16 5 = sa ∧ bits (wordA op sd sa sb fn).toNat 11 5 = sb ∧
    bits (wordA op sd sa sb fn).toNat 0 11 = fn := by
  simp only [wordA, bits, BitVec.toNat_ofNat]
  omega

theorem wordI_fields (op r1 r2 imm : Nat) (ho : op < 64) (h1 : r1 < 32) (h2 : r2 < 32) (h3 : imm < 65536) :
    bits (wordI op r1 r2 imm).toNat 26 6 = op ∧ bits (wordI op r1 r2 imm).toNat 21 5 = r1 ∧
    bits (wordI op r1 r2 imm).toNat 16 5 = r2 ∧ (wordI op r1 r2 imm).toNat % 65536 = imm := by
  simp only [wordI, bits, BitVec.toNat_ofNat]
  omega

theorem wordJ_fields (op off : Nat) (ho : op < 64) (h1 : off < 67108864) :
    bits (wordJ op off).toNat 26 6 = op ∧ (wordJ op off).toNat % 67108864 = off := by
  simp only [wordJ, bits, BitVec.toNat_ofNat]
  omega

theorem wordV_fields (op vd va vb m ty fn : Nat) (ho : op < 64) (h1 : vd < 16) (h2 : va < 16) (h3 : vb < 16) (h4 : m < 4)
    (h5 : ty < 16) (h6 : fn < 256) :
    bits (wordV op vd va vb m ty fn).toNat 26 6 = op ∧ bits (wordV op vd va vb m ty fn).toNat 22 4 = vd ∧
    bits (wordV op vd va vb m ty fn).toNat 18 4 = va ∧ bits (wordV op vd va vb m ty fn).toNat 14 4 = vb ∧
    bits (wordV op vd va vb m ty fn).toNat 12 2 = m ∧ bits (wordV op vd va vb m ty fn).toNat 8 4 = ty ∧
    bits (wordV op vd va vb m ty fn).toNat 0 8 = fn := by
  simp only [wordV, bits, BitVec.toNat_ofNat]
  omega

theorem wordVR_fields (op sd va m ty fn : Nat) (ho : op < 64) (h1 : sd < 32) (h2 : va < 16) (h4 : m < 4) (h5 : ty < 16)
    (h6 : fn < 2048) :
    bits (wordVR op sd va m ty fn).toNat 26 6 = op ∧ bits (wordVR op sd va m ty fn).toNat 21 5 = sd ∧
    bits (wordVR op sd va m ty fn).toNat 17 4 = va ∧ bits (wordVR op sd va m ty fn).toNat 15 2 = m ∧
    bits (wordVR op sd va m ty fn).toNat 11 4 = ty ∧ bits (wordVR op sd va m ty fn).toNat 0 11 = fn := by
  simp only [wordVR, bits, BitVec.toNat_ofNat]
  omega

theorem wordVM_fields (op vd sa sb ty : Nat) (ho : op < 64) (h1 : vd < 16) (h2 : sa < 32) (h3 : sb < 32) (h5 : ty < 16) :
    bits (wordVM op vd sa sb ty).toNat 26 6 = op ∧ bits (wordVM op vd sa sb ty).toNat 22 4 = vd ∧
    bits (wordVM op vd sa sb ty).toNat 17 5 = sa ∧ bits (wordVM op vd sa sb ty).toNat 12 5 = sb ∧
    bits (wordVM op vd sa sb ty).toNat 8 4 = ty := by
  simp only [wordVM, bits, BitVec.toNat_ofNat]
  omega

theorem wordS_fields (op sa sb ctr imm : Nat) (ho : op < 64) (h1 : sa < 32) (h2 : sb < 32) (h3 : ctr < 64) (h4 : imm < 1024) :
    bits (wordS op sa sb ctr imm).toNat 26 6 = op ∧ bits (wordS op sa sb ctr imm).toNat 21 5 = sa ∧
    bits (wordS op sa sb ctr imm).toNat 16 5 = sb ∧ bits (wordS op sa sb ctr imm).toNat 10 6 = ctr ∧
    (wordS op sa sb ctr imm).toNat % 1024 = imm := by
  simp only [wordS, bits, BitVec.toNat_ofNat]
  omega

/-- The type field of a lane type fits its four bits and decodes to it. -/
theorem LaneType.code_lt (t : LaneType) : t.code < 8 := by cases t <;> decide

@[simp] theorem LaneType.ofCode_code (t : LaneType) : LaneType.ofCode t.code = some t := by cases t <;> rfl

/-- A word's low bits as an immediate. -/
theorem imm_of_mod {n : Nat} (w : BitVec 32) (imm : BitVec n) (h : w.toNat % 2 ^ n = imm.toNat) : BitVec.ofNat n w.toNat = imm := by
  apply BitVec.eq_of_toNat_eq
  rw [BitVec.toNat_ofNat, h]

/-! ## Decoding by opcode -/

/-- op 0x01. -/
theorem decode_alu (f : FellerId) (sd sa sb : Fin 32) (fn : Nat) (hn : fn < 2048) :
    decodeFeller f (wordA 0x01 sd.val sa.val sb.val fn) = decodeAlu f sd sa sb fn := by
  obtain ⟨h0, h1, h2, h3, h4⟩ := wordA_fields 1 sd.val sa.val sb.val fn (by decide) sd.isLt sa.isLt sb.isLt hn
  simp only [decodeFeller, h0, h4, regAt_of_bits 32 _ _ _ sd h1, regAt_of_bits 32 _ _ _ sa h2, regAt_of_bits 32 _ _ _ sb h3]

/-- op 0x3F. -/
theorem decode_misc (f : FellerId) (sd sa sb : Fin 32) (fn : Nat) (hn : fn < 2048) :
    decodeFeller f (wordA 0x3F sd.val sa.val sb.val fn) = decodeMisc f sd sa sb fn := by
  obtain ⟨h0, h1, h2, h3, h4⟩ := wordA_fields 0x3F sd.val sa.val sb.val fn (by decide) sd.isLt sa.isLt sb.isLt hn
  simp only [decodeFeller, h0, h4, regAt_of_bits 32 _ _ _ sd h1, regAt_of_bits 32 _ _ _ sa h2, regAt_of_bits 32 _ _ _ sb h3]

/-- op 0x18. -/
theorem decode_vec (f : FellerId) (vd va vb : Fin 16) (m : Fin 4) (t : LaneType) (fn : Nat) (hn : fn < 256) :
    decodeFeller f (wordV 0x18 vd.val va.val vb.val m.val t.code fn) = decodeVec f vd va vb m t fn := by
  obtain ⟨h0, h1, h2, h3, h4, h5, h6⟩ := wordV_fields 0x18 vd.val va.val vb.val m.val t.code fn (by decide) vd.isLt va.isLt vb.isLt
    m.isLt (Nat.lt_trans t.code_lt (by decide)) hn
  simp only [decodeFeller, h0, h5, h6, regAt_of_bits 16 _ _ _ vd h1, regAt_of_bits 16 _ _ _ va h2, regAt_of_bits 16 _ _ _ vb h3,
    regAt_of_bits 4 _ _ _ m h4, LaneType.ofCode_code, Option.bind_some]

/-- op 0x19. -/
theorem decode_vecInt (f : FellerId) (vd va vb : Fin 16) (m : Fin 4) (t : LaneType) (fn : Nat) (hn : fn < 256) :
    decodeFeller f (wordV 0x19 vd.val va.val vb.val m.val t.code fn) = decodeVecInt f vd va vb m t fn := by
  obtain ⟨h0, h1, h2, h3, h4, h5, h6⟩ := wordV_fields 0x19 vd.val va.val vb.val m.val t.code fn (by decide) vd.isLt va.isLt vb.isLt
    m.isLt (Nat.lt_trans t.code_lt (by decide)) hn
  simp only [decodeFeller, h0, h5, h6, regAt_of_bits 16 _ _ _ vd h1, regAt_of_bits 16 _ _ _ va h2, regAt_of_bits 16 _ _ _ vb h3,
    regAt_of_bits 4 _ _ _ m h4, LaneType.ofCode_code, Option.bind_some]

/-- op 0x1A. -/
theorem decode_reduce (f : FellerId) (sd : Fin 32) (va : Fin 16) (m : Fin 4) (t : LaneType) (fn : Nat) (hn : fn < 2048) :
    decodeFeller f (wordVR 0x1A sd.val va.val m.val t.code fn) = decodeReduce f sd va m t fn := by
  obtain ⟨h0, h1, h2, h4, h5, h6⟩ := wordVR_fields 0x1A sd.val va.val m.val t.code fn (by decide) sd.isLt va.isLt
    m.isLt (Nat.lt_trans t.code_lt (by decide)) hn
  simp only [decodeFeller, h0, h5, h6, regAt_of_bits 32 _ _ _ sd h1, regAt_of_bits 16 _ _ _ va h2, regAt_of_bits 4 _ _ _ m h4,
    LaneType.ofCode_code, Option.bind_some]

/-- op 0x1E. -/
theorem decode_convert (f : FellerId) (vd va : Fin 16) (m : Fin 4) (ty fn : Nat) (ht : ty < 16) (hn : fn < 256) :
    decodeFeller f (wordV 0x1E vd.val va.val 0 m.val ty fn) = decodeConvert f vd va m ty fn := by
  obtain ⟨h0, h1, h2, h3, h4, h5, h6⟩ := wordV_fields 0x1E vd.val va.val 0 m.val ty fn (by decide) vd.isLt va.isLt (by decide)
    m.isLt ht hn
  simp only [decodeFeller, h0, h5, h6, regAt_of_bits 16 _ _ _ vd h1, regAt_of_bits 16 _ _ _ va h2, regAt_of_bits 4 _ _ _ m h4]

end Sys2Proof
end

