-- ==== Sys2Proof/Laws/PerInstr.lean ====
section
/-! SUPPORT. The family Encoding, instruction by instruction: a well-formed feller instruction decodes from its own word (R187). A command that
is no feller instruction has no word, and its lemma says nothing more. -/

namespace Sys2Proof.Laws.Encoding

open Sys2Proof Sys2Proof.Machine

/-- The word of a well-formed feller instruction decodes, on its feller, to the instruction. -/
def Statement (i : Instr) : Prop :=
  ∀ (g : FellerId) (w : BitVec 32), i.wf = true → fellerOf i = some g → encodeFeller i = some w → decodeFeller g w = some i

theorem registerWrite (w : RegWrite) : Statement (.registerWrite w) := by
  intro _ _ _ h; cases h

theorem deckWriteFlit (p : PortId) (x : Flit) : Statement (.deckWriteFlit p x) := by
  intro _ _ _ h; cases h

theorem partialSumFlit (p : PortId) (x : Flit) : Statement (.partialSumFlit p x) := by
  intro _ _ _ h; cases h

theorem relayFlit (p : PortId) (x : Flit) : Statement (.relayFlit p x) := by
  intro _ _ _ h; cases h

theorem hbmReadRequest (l : Fin 8) (p : Fin 3) (x : Flit) (addr : Nat) (line : BitVec 18) (lines : Nat) : Statement (.hbmReadRequest l p x addr line lines) := by
  intro _ _ _ h; cases h

theorem hbmReadData (p : PortId) (x : Flit) (line : BitVec 18) (bytes : List Byte) : Statement (.hbmReadData p x line bytes) := by
  intro _ _ _ h; cases h

theorem hbmWrite (l : Fin 8) (p : Fin 3) (x : Flit) (addr : Nat) (bytes : List Byte) : Statement (.hbmWrite l p x addr bytes) := by
  intro _ _ _ h; cases h

theorem hbmReadError (page : Fin 25165824) : Statement (.hbmReadError page) := by
  intro _ _ _ h; cases h

theorem flitTransmit (p : PortId) (ch : Fin 3) : Statement (.flitTransmit p ch) := by
  intro _ _ _ h; cases h

theorem creditReturn (p : PortId) (ch : Fin 3) : Statement (.creditReturn p ch) := by
  intro _ _ _ h; cases h

theorem nak (p : PortId) (x : Flit) (ch : Fin 3) (failed : BitVec 8) : Statement (.nak p x ch failed) := by
  intro _ _ _ h; cases h

theorem diagnosisRequest (p : PortId) (x : Flit) : Statement (.diagnosisRequest p x) := by
  intro _ _ _ h; cases h

theorem laneDiagnosisDone (p : PortId) (faulty : List (Fin 512)) : Statement (.laneDiagnosisDone p faulty) := by
  intro _ _ _ h; cases h

theorem laneSpareStart (p : PortId) (lane : Fin 512) : Statement (.laneSpareStart p lane) := by
  intro _ _ _ h; cases h

theorem sparingFlit (p : PortId) (lane : Fin 512) (spare : Fin 32) : Statement (.sparingFlit p lane spare) := by
  intro _ _ _ h; cases h

theorem spareCompareDone (p : PortId) (mismatch : List (Fin 512)) : Statement (.spareCompareDone p mismatch) := by
  intro _ _ _ h; cases h

theorem spareConfirm (p : PortId) (lane : Fin 512) (spare : Fin 32) : Statement (.spareConfirm p lane spare) := by
  intro _ _ _ h; cases h

theorem skSpareForce (s : Fin 42) (p : Fin 8) (v : BitVec 32) : Statement (.skSpareForce s p v) := by
  intro _ _ _ h; cases h

theorem skFaultInjWrite (s : Fin 42) (p : Fin 8) (v : BitVec 32) : Statement (.skFaultInjWrite s p v) := by
  intro _ _ _ h; cases h

theorem hrWordSubmit (w : HrWord) : Statement (.hrWordSubmit w) := by
  intro _ _ _ h; cases h

theorem hrSlotEmit : Statement .hrSlotEmit := by
  intro _ _ _ h; cases h

theorem hrWordReceive (s : Fin 42) (primary : Option HrWord) (secondary : Option HrWord) : Statement (.hrWordReceive s primary secondary) := by
  intro _ _ _ h; cases h

theorem tallyBeacon (s : Fin 42) (tree : Fin 2) (rootTally : BitVec 64) : Statement (.tallyBeacon s tree rootTally) := by
  intro _ _ _ h; cases h

theorem treeSwitch (s : Fin 42) : Statement (.treeSwitch s) := by
  intro _ _ _ h; cases h

theorem bothTreesLost (s : Fin 42) : Statement (.bothTreesLost s) := by
  intro _ _ _ h; cases h

theorem hrDelayRefresh (s : Fin 42) (primary : BitVec 16) (secondary : BitVec 16) : Statement (.hrDelayRefresh s primary secondary) := by
  intro _ _ _ h; cases h

theorem barrierArrival (b : Nat) (who : Participant) (xnat : Int) : Statement (.barrierArrival b who xnat) := by
  intro _ _ _ h; cases h

theorem barrierRelease (b : Nat) (who : Participant) : Statement (.barrierRelease b who) := by
  intro _ _ _ h; cases h

theorem barrierTimeout (s : Fin 42) (b : Nat) : Statement (.barrierTimeout s b) := by
  intro _ _ _ h; cases h

theorem stepBeacon (s : Fin 42) (content : BitVec 448) : Statement (.stepBeacon s content) := by
  intro _ _ _ h; cases h

theorem stepTally (s : Fin 42) : Statement (.stepTally s) := by
  intro _ _ _ h; cases h

theorem dueTally (g : GroveId) (act : Nat) (done : Bool) : Statement (.dueTally g act done) := by
  intro _ _ _ h; cases h

theorem forwardMvm (g : GroveId) (env : MvmEnv) (mirror : MvmEnv) : Statement (.forwardMvm g env mirror) := by
  intro _ _ _ h; cases h

theorem reverseRead (g : GroveId) (env : MvmEnv) (mirror : MvmEnv) : Statement (.reverseRead g env mirror) := by
  intro _ _ _ h; cases h

theorem calibrationSlot (t : TileId) (trim : BitVec 16) : Statement (.calibrationSlot t trim) := by
  intro _ _ _ h; cases h

theorem tlRotateCopy (t : TileId) (v : BitVec 64) : Statement (.tlRotateCopy t v) := by
  intro _ _ _ h; cases h

theorem tlRotateLoad (t : TileId) (v : BitVec 64) : Statement (.tlRotateLoad t v) := by
  intro _ _ _ h; cases h

theorem tlRotateUpdate (t : TileId) (v : BitVec 64) : Statement (.tlRotateUpdate t v) := by
  intro _ _ _ h; cases h

theorem writeSlice (t : TileId) (needed : Nat) : Statement (.writeSlice t needed) := by
  intro _ _ _ h; cases h

theorem copyReadSlice (t : TileId) (identityHolds : Bool) : Statement (.copyReadSlice t identityHolds) := by
  intro _ _ _ h; cases h

theorem verifySlice (t : TileId) (pass : Bool) : Statement (.verifySlice t pass) := by
  intro _ _ _ h; cases h

theorem swapLand (t : TileId) : Statement (.swapLand t) := by
  intro _ _ _ h; cases h

theorem forcedSwap (t : TileId) (env : MvmEnv) : Statement (.forcedSwap t env) := by
  intro _ _ _ h; cases h

theorem tlCruise (t : TileId) (v : BitVec 32) : Statement (.tlCruise t v) := by
  intro _ _ _ h; cases h

theorem cruiseSlice (t : TileId) (found : SliceFinding) : Statement (.cruiseSlice t found) := by
  intro _ _ _ h; cases h

theorem forcedSlice (t : TileId) (found : SliceFinding) : Statement (.forcedSlice t found) := by
  intro _ _ _ h; cases h

theorem driftClockTick (s : Fin 42) : Statement (.driftClockTick s) := by
  intro _ _ _ h; cases h

theorem earlyCruise (t : TileId) (phys : Fin 17) (cause : EarlyCause) : Statement (.earlyCruise t phys cause) := by
  intro _ _ _ h; cases h

theorem monStart (g : GroveId) (v : BitVec 32) : Statement (.monStart g v) := by
  intro _ _ _ h; cases h

theorem monWindowEnd (g : GroveId) : Statement (.monWindowEnd g) := by
  intro _ _ _ h; cases h

theorem rotationDispatch (g : GroveId) : Statement (.rotationDispatch g) := by
  intro _ _ _ h; cases h

theorem remapSwitch (g : GroveId) (entry : Fin 32768) : Statement (.remapSwitch g entry) := by
  intro _ _ _ h; cases h

theorem standHandover (s : Fin 42) (fit : Bool) : Statement (.standHandover s fit) := by
  intro _ _ _ h; cases h

theorem driftSnapshot : Statement .driftSnapshot := by
  intro _ _ _ h; cases h

theorem scalerQuantize (g : GroveId) : Statement (.scalerQuantize g) := by
  intro _ _ _ h; cases h

theorem scaleEventAnnounce (g : GroveId) (ev : StepKey) (kind : ScaleKind) (xnat : Int) : Statement (.scaleEventAnnounce g ev kind xnat) := by
  intro _ _ _ h; cases h

theorem scaleEventRelease (g : GroveId) (ev : StepKey) (xmax : Int) : Statement (.scaleEventRelease g ev xmax) := by
  intro _ _ _ h; cases h

theorem accClear (g : GroveId) : Statement (.accClear g) := by
  intro _ _ _ h; cases h

theorem accSend (g : GroveId) : Statement (.accSend g) := by
  intro _ _ _ h; cases h

theorem accReceive (g : GroveId) : Statement (.accReceive g) := by
  intro _ _ _ h; cases h

theorem accStore (g : GroveId) : Statement (.accStore g) := by
  intro _ _ _ h; cases h

theorem finish (g : GroveId) : Statement (.finish g) := by
  intro _ _ _ h; cases h

theorem stepReport (lead : GroveId) (rep : StepReport) : Statement (.stepReport lead rep) := by
  intro _ _ _ h; cases h

theorem commit (g : GroveId) (key : StepKey) (ctr : Fin 64) : Statement (.commit g key ctr) := by
  intro _ _ _ h; cases h

theorem commitTimeout (lead : GroveId) (key : StepKey) : Statement (.commitTimeout lead key) := by
  intro _ _ _ h; cases h

theorem scoreItem (g : GroveId) (engine : Fin 32) : Statement (.scoreItem g engine) := by
  intro _ _ _ h; cases h

theorem softmax (g : GroveId) : Statement (.softmax g) := by
  intro _ _ _ h; cases h

theorem kvAppend (g : GroveId) : Statement (.kvAppend g) := by
  intro _ _ _ h; cases h

theorem kvPathMove (g : GroveId) : Statement (.kvPathMove g) := by
  intro _ _ _ h; cases h

theorem yarderHbmToDeck (g : GroveId) : Statement (.yarderHbmToDeck g) := by
  intro _ _ _ h; cases h

theorem yarderDeckToHbm (g : GroveId) : Statement (.yarderDeckToHbm g) := by
  intro _ _ _ h; cases h

theorem yarderDeckToDeck (g : GroveId) : Statement (.yarderDeckToDeck g) := by
  intro _ _ _ h; cases h

theorem kvGather (g : GroveId) : Statement (.kvGather g) := by
  intro _ _ _ h; cases h

theorem indexGather (g : GroveId) : Statement (.indexGather g) := by
  intro _ _ _ h; cases h

theorem deckFill (g : GroveId) : Statement (.deckFill g) := by
  intro _ _ _ h; cases h

theorem deckCopy (g : GroveId) : Statement (.deckCopy g) := by
  intro _ _ _ h; cases h

theorem taskTake (f : FellerId) : Statement (.taskTake f) := by
  intro _ _ _ h; cases h

theorem taskSteal (f : FellerId) : Statement (.taskSteal f) := by
  intro _ _ _ h; cases h

theorem scoreItemSteal (g : GroveId) (engine : Fin 32) : Statement (.scoreItemSteal g engine) := by
  intro _ _ _ h; cases h

theorem fellerAdd (f : FellerId) (sd : Fin 32) (sa : Fin 32) (sb : Fin 32) : Statement (.fellerAdd f sd sa sb) := by
  intro g w hw hf he
  obtain rfl : f = g := Option.some.inj hf
  obtain rfl : wordA 0x01 sd.val sa.val sb.val 0 = w := Option.some.inj he
  exact decode_alu f sd sa sb 0 (by decide)

theorem fellerSub (f : FellerId) (sd : Fin 32) (sa : Fin 32) (sb : Fin 32) : Statement (.fellerSub f sd sa sb) := by
  intro g w hw hf he
  obtain rfl : f = g := Option.some.inj hf
  obtain rfl : wordA 0x01 sd.val sa.val sb.val 1 = w := Option.some.inj he
  exact decode_alu f sd sa sb 1 (by decide)

theorem fellerAnd (f : FellerId) (sd : Fin 32) (sa : Fin 32) (sb : Fin 32) : Statement (.fellerAnd f sd sa sb) := by
  intro g w hw hf he
  obtain rfl : f = g := Option.some.inj hf
  obtain rfl : wordA 0x01 sd.val sa.val sb.val 2 = w := Option.some.inj he
  exact decode_alu f sd sa sb 2 (by decide)

theorem fellerOr (f : FellerId) (sd : Fin 32) (sa : Fin 32) (sb : Fin 32) : Statement (.fellerOr f sd sa sb) := by
  intro g w hw hf he
  obtain rfl : f = g := Option.some.inj hf
  obtain rfl : wordA 0x01 sd.val sa.val sb.val 3 = w := Option.some.inj he
  exact decode_alu f sd sa sb 3 (by decide)

theorem fellerXor (f : FellerId) (sd : Fin 32) (sa : Fin 32) (sb : Fin 32) : Statement (.fellerXor f sd sa sb) := by
  intro g w hw hf he
  obtain rfl : f = g := Option.some.inj hf
  obtain rfl : wordA 0x01 sd.val sa.val sb.val 4 = w := Option.some.inj he
  exact decode_alu f sd sa sb 4 (by decide)

theorem fellerShl (f : FellerId) (sd : Fin 32) (sa : Fin 32) (sb : Fin 32) : Statement (.fellerShl f sd sa sb) := by
  intro g w hw hf he
  obtain rfl : f = g := Option.some.inj hf
  obtain rfl : wordA 0x01 sd.val sa.val sb.val 5 = w := Option.some.inj he
  exact decode_alu f sd sa sb 5 (by decide)

theorem fellerShr (f : FellerId) (sd : Fin 32) (sa : Fin 32) (sb : Fin 32) : Statement (.fellerShr f sd sa sb) := by
  intro g w hw hf he
  obtain rfl : f = g := Option.some.inj hf
  obtain rfl : wordA 0x01 sd.val sa.val sb.val 6 = w := Option.some.inj he
  exact decode_alu f sd sa sb 6 (by decide)

theorem fellerSra (f : FellerId) (sd : Fin 32) (sa : Fin 32) (sb : Fin 32) : Statement (.fellerSra f sd sa sb) := by
  intro g w hw hf he
  obtain rfl : f = g := Option.some.inj hf
  obtain rfl : wordA 0x01 sd.val sa.val sb.val 7 = w := Option.some.inj he
  exact decode_alu f sd sa sb 7 (by decide)

theorem fellerMul (f : FellerId) (sd : Fin 32) (sa : Fin 32) (sb : Fin 32) : Statement (.fellerMul f sd sa sb) := by
  intro g w hw hf he
  obtain rfl : f = g := Option.some.inj hf
  obtain rfl : wordA 0x01 sd.val sa.val sb.val 8 = w := Option.some.inj he
  exact decode_alu f sd sa sb 8 (by decide)

theorem fellerMulh (f : FellerId) (sd : Fin 32) (sa : Fin 32) (sb : Fin 32) : Statement (.fellerMulh f sd sa sb) := by
  intro g w hw hf he
  obtain rfl : f = g := Option.some.inj hf
  obtain rfl : wordA 0x01 sd.val sa.val sb.val 9 = w := Option.some.inj he
  exact decode_alu f sd sa sb 9 (by decide)

theorem fellerMin (f : FellerId) (sd : Fin 32) (sa : Fin 32) (sb : Fin 32) : Statement (.fellerMin f sd sa sb) := by
  intro g w hw hf he
  obtain rfl : f = g := Option.some.inj hf
  obtain rfl : wordA 0x01 sd.val sa.val sb.val 10 = w := Option.some.inj he
  exact decode_alu f sd sa sb 10 (by decide)

theorem fellerMax (f : FellerId) (sd : Fin 32) (sa : Fin 32) (sb : Fin 32) : Statement (.fellerMax f sd sa sb) := by
  intro g w hw hf he
  obtain rfl : f = g := Option.some.inj hf
  obtain rfl : wordA 0x01 sd.val sa.val sb.val 11 = w := Option.some.inj he
  exact decode_alu f sd sa sb 11 (by decide)

theorem fellerMinu (f : FellerId) (sd : Fin 32) (sa : Fin 32) (sb : Fin 32) : Statement (.fellerMinu f sd sa sb) := by
  intro g w hw hf he
  obtain rfl : f = g := Option.some.inj hf
  obtain rfl : wordA 0x01 sd.val sa.val sb.val 12 = w := Option.some.inj he
  exact decode_alu f sd sa sb 12 (by decide)

theorem fellerMaxu (f : FellerId) (sd : Fin 32) (sa : Fin 32) (sb : Fin 32) : Statement (.fellerMaxu f sd sa sb) := by
  intro g w hw hf he
  obtain rfl : f = g := Option.some.inj hf
  obtain rfl : wordA 0x01 sd.val sa.val sb.val 13 = w := Option.some.inj he
  exact decode_alu f sd sa sb 13 (by decide)

theorem fellerSlt (f : FellerId) (sd : Fin 32) (sa : Fin 32) (sb : Fin 32) : Statement (.fellerSlt f sd sa sb) := by
  intro g w hw hf he
  obtain rfl : f = g := Option.some.inj hf
  obtain rfl : wordA 0x01 sd.val sa.val sb.val 14 = w := Option.some.inj he
  exact decode_alu f sd sa sb 14 (by decide)

theorem fellerSltu (f : FellerId) (sd : Fin 32) (sa : Fin 32) (sb : Fin 32) : Statement (.fellerSltu f sd sa sb) := by
  intro g w hw hf he
  obtain rfl : f = g := Option.some.inj hf
  obtain rfl : wordA 0x01 sd.val sa.val sb.val 15 = w := Option.some.inj he
  exact decode_alu f sd sa sb 15 (by decide)

theorem fellerAddi (f : FellerId) (sd : Fin 32) (sa : Fin 32) (imm : BitVec 16) : Statement (.fellerAddi f sd sa imm) := by
  intro g w hw hf he
  obtain rfl : f = g := Option.some.inj hf
  obtain rfl : wordI 0x02 sd.val sa.val imm.toNat = w := Option.some.inj he
  obtain ⟨h0, h1, h2, h3⟩ := wordI_fields 0x02 sd.val sa.val imm.toNat (by decide) sd.isLt sa.isLt imm.isLt
  simp only [decodeFeller, h0, regAt_of_bits 32 _ _ _ sd h1, regAt_of_bits 32 _ _ _ sa h2, imm_of_mod _ imm h3]

theorem fellerAndi (f : FellerId) (sd : Fin 32) (sa : Fin 32) (imm : BitVec 16) : Statement (.fellerAndi f sd sa imm) := by
  intro g w hw hf he
  obtain rfl : f = g := Option.some.inj hf
  obtain rfl : wordI 0x03 sd.val sa.val imm.toNat = w := Option.some.inj he
  obtain ⟨h0, h1, h2, h3⟩ := wordI_fields 0x03 sd.val sa.val imm.toNat (by decide) sd.isLt sa.isLt imm.isLt
  simp only [decodeFeller, h0, regAt_of_bits 32 _ _ _ sd h1, regAt_of_bits 32 _ _ _ sa h2, imm_of_mod _ imm h3]

theorem fellerOri (f : FellerId) (sd : Fin 32) (sa : Fin 32) (imm : BitVec 16) : Statement (.fellerOri f sd sa imm) := by
  intro g w hw hf he
  obtain rfl : f = g := Option.some.inj hf
  obtain rfl : wordI 0x04 sd.val sa.val imm.toNat = w := Option.some.inj he
  obtain ⟨h0, h1, h2, h3⟩ := wordI_fields 0x04 sd.val sa.val imm.toNat (by decide) sd.isLt sa.isLt imm.isLt
  simp only [decodeFeller, h0, regAt_of_bits 32 _ _ _ sd h1, regAt_of_bits 32 _ _ _ sa h2, imm_of_mod _ imm h3]

theorem fellerXori (f : FellerId) (sd : Fin 32) (sa : Fin 32) (imm : BitVec 16) : Statement (.fellerXori f sd sa imm) := by
  intro g w hw hf he
  obtain rfl : f = g := Option.some.inj hf
  obtain rfl : wordI 0x05 sd.val sa.val imm.toNat = w := Option.some.inj he
  obtain ⟨h0, h1, h2, h3⟩ := wordI_fields 0x05 sd.val sa.val imm.toNat (by decide) sd.isLt sa.isLt imm.isLt
  simp only [decodeFeller, h0, regAt_of_bits 32 _ _ _ sd h1, regAt_of_bits 32 _ _ _ sa h2, imm_of_mod _ imm h3]

theorem fellerLui (f : FellerId) (sd : Fin 32) (imm : BitVec 16) : Statement (.fellerLui f sd imm) := by
  intro g w hw hf he
  obtain rfl : f = g := Option.some.inj hf
  obtain rfl : wordI 0x06 sd.val 0 imm.toNat = w := Option.some.inj he
  obtain ⟨h0, h1, _, h3⟩ := wordI_fields 0x06 sd.val 0 imm.toNat (by decide) sd.isLt (by decide) imm.isLt
  simp only [decodeFeller, h0, regAt_of_bits 32 _ _ _ sd h1, imm_of_mod _ imm h3]

theorem fellerSlti (f : FellerId) (sd : Fin 32) (sa : Fin 32) (imm : BitVec 16) : Statement (.fellerSlti f sd sa imm) := by
  intro g w hw hf he
  obtain rfl : f = g := Option.some.inj hf
  obtain rfl : wordI 0x07 sd.val sa.val imm.toNat = w := Option.some.inj he
  obtain ⟨h0, h1, h2, h3⟩ := wordI_fields 0x07 sd.val sa.val imm.toNat (by decide) sd.isLt sa.isLt imm.isLt
  simp only [decodeFeller, h0, regAt_of_bits 32 _ _ _ sd h1, regAt_of_bits 32 _ _ _ sa h2, imm_of_mod _ imm h3]

theorem fellerLdB (f : FellerId) (sd : Fin 32) (sa : Fin 32) (imm : BitVec 16) : Statement (.fellerLdB f sd sa imm) := by
  intro g w hw hf he
  obtain rfl : f = g := Option.some.inj hf
  obtain rfl : wordI 0x08 sd.val sa.val imm.toNat = w := Option.some.inj he
  obtain ⟨h0, h1, h2, h3⟩ := wordI_fields 0x08 sd.val sa.val imm.toNat (by decide) sd.isLt sa.isLt imm.isLt
  simp only [decodeFeller, h0, regAt_of_bits 32 _ _ _ sd h1, regAt_of_bits 32 _ _ _ sa h2, imm_of_mod _ imm h3]

theorem fellerLdH (f : FellerId) (sd : Fin 32) (sa : Fin 32) (imm : BitVec 16) : Statement (.fellerLdH f sd sa imm) := by
  intro g w hw hf he
  obtain rfl : f = g := Option.some.inj hf
  obtain rfl : wordI 0x09 sd.val sa.val imm.toNat = w := Option.some.inj he
  obtain ⟨h0, h1, h2, h3⟩ := wordI_fields 0x09 sd.val sa.val imm.toNat (by decide) sd.isLt sa.isLt imm.isLt
  simp only [decodeFeller, h0, regAt_of_bits 32 _ _ _ sd h1, regAt_of_bits 32 _ _ _ sa h2, imm_of_mod _ imm h3]

theorem fellerLdW (f : FellerId) (sd : Fin 32) (sa : Fin 32) (imm : BitVec 16) : Statement (.fellerLdW f sd sa imm) := by
  intro g w hw hf he
  obtain rfl : f = g := Option.some.inj hf
  obtain rfl : wordI 0x0A sd.val sa.val imm.toNat = w := Option.some.inj he
  obtain ⟨h0, h1, h2, h3⟩ := wordI_fields 0x0A sd.val sa.val imm.toNat (by decide) sd.isLt sa.isLt imm.isLt
  simp only [decodeFeller, h0, regAt_of_bits 32 _ _ _ sd h1, regAt_of_bits 32 _ _ _ sa h2, imm_of_mod _ imm h3]

theorem fellerLdD (f : FellerId) (sd : Fin 32) (sa : Fin 32) (imm : BitVec 16) : Statement (.fellerLdD f sd sa imm) := by
  intro g w hw hf he
  obtain rfl : f = g := Option.some.inj hf
  obtain rfl : wordI 0x0B sd.val sa.val imm.toNat = w := Option.some.inj he
  obtain ⟨h0, h1, h2, h3⟩ := wordI_fields 0x0B sd.val sa.val imm.toNat (by decide) sd.isLt sa.isLt imm.isLt
  simp only [decodeFeller, h0, regAt_of_bits 32 _ _ _ sd h1, regAt_of_bits 32 _ _ _ sa h2, imm_of_mod _ imm h3]

theorem fellerStB (f : FellerId) (sd : Fin 32) (sa : Fin 32) (imm : BitVec 16) : Statement (.fellerStB f sd sa imm) := by
  intro g w hw hf he
  obtain rfl : f = g := Option.some.inj hf
  obtain rfl : wordI 0x0C sd.val sa.val imm.toNat = w := Option.some.inj he
  obtain ⟨h0, h1, h2, h3⟩ := wordI_fields 0x0C sd.val sa.val imm.toNat (by decide) sd.isLt sa.isLt imm.isLt
  simp only [decodeFeller, h0, regAt_of_bits 32 _ _ _ sd h1, regAt_of_bits 32 _ _ _ sa h2, imm_of_mod _ imm h3]

theorem fellerStH (f : FellerId) (sd : Fin 32) (sa : Fin 32) (imm : BitVec 16) : Statement (.fellerStH f sd sa imm) := by
  intro g w hw hf he
  obtain rfl : f = g := Option.some.inj hf
  obtain rfl : wordI 0x0D sd.val sa.val imm.toNat = w := Option.some.inj he
  obtain ⟨h0, h1, h2, h3⟩ := wordI_fields 0x0D sd.val sa.val imm.toNat (by decide) sd.isLt sa.isLt imm.isLt
  simp only [decodeFeller, h0, regAt_of_bits 32 _ _ _ sd h1, regAt_of_bits 32 _ _ _ sa h2, imm_of_mod _ imm h3]

theorem fellerStW (f : FellerId) (sd : Fin 32) (sa : Fin 32) (imm : BitVec 16) : Statement (.fellerStW f sd sa imm) := by
  intro g w hw hf he
  obtain rfl : f = g := Option.some.inj hf
  obtain rfl : wordI 0x0E sd.val sa.val imm.toNat = w := Option.some.inj he
  obtain ⟨h0, h1, h2, h3⟩ := wordI_fields 0x0E sd.val sa.val imm.toNat (by decide) sd.isLt sa.isLt imm.isLt
  simp only [decodeFeller, h0, regAt_of_bits 32 _ _ _ sd h1, regAt_of_bits 32 _ _ _ sa h2, imm_of_mod _ imm h3]

theorem fellerStD (f : FellerId) (sd : Fin 32) (sa : Fin 32) (imm : BitVec 16) : Statement (.fellerStD f sd sa imm) := by
  intro g w hw hf he
  obtain rfl : f = g := Option.some.inj hf
  obtain rfl : wordI 0x0F sd.val sa.val imm.toNat = w := Option.some.inj he
  obtain ⟨h0, h1, h2, h3⟩ := wordI_fields 0x0F sd.val sa.val imm.toNat (by decide) sd.isLt sa.isLt imm.isLt
  simp only [decodeFeller, h0, regAt_of_bits 32 _ _ _ sd h1, regAt_of_bits 32 _ _ _ sa h2, imm_of_mod _ imm h3]

theorem fellerBeq (f : FellerId) (sa : Fin 32) (sb : Fin 32) (off : BitVec 16) : Statement (.fellerBeq f sa sb off) := by
  intro g w hw hf he
  obtain rfl : f = g := Option.some.inj hf
  obtain rfl : wordI 0x10 sa.val sb.val off.toNat = w := Option.some.inj he
  obtain ⟨h0, h1, h2, h3⟩ := wordI_fields 0x10 sa.val sb.val off.toNat (by decide) sa.isLt sb.isLt off.isLt
  simp only [decodeFeller, h0, regAt_of_bits 32 _ _ _ sa h1, regAt_of_bits 32 _ _ _ sb h2, imm_of_mod _ off h3]

theorem fellerBne (f : FellerId) (sa : Fin 32) (sb : Fin 32) (off : BitVec 16) : Statement (.fellerBne f sa sb off) := by
  intro g w hw hf he
  obtain rfl : f = g := Option.some.inj hf
  obtain rfl : wordI 0x11 sa.val sb.val off.toNat = w := Option.some.inj he
  obtain ⟨h0, h1, h2, h3⟩ := wordI_fields 0x11 sa.val sb.val off.toNat (by decide) sa.isLt sb.isLt off.isLt
  simp only [decodeFeller, h0, regAt_of_bits 32 _ _ _ sa h1, regAt_of_bits 32 _ _ _ sb h2, imm_of_mod _ off h3]

theorem fellerBlt (f : FellerId) (sa : Fin 32) (sb : Fin 32) (off : BitVec 16) : Statement (.fellerBlt f sa sb off) := by
  intro g w hw hf he
  obtain rfl : f = g := Option.some.inj hf
  obtain rfl : wordI 0x12 sa.val sb.val off.toNat = w := Option.some.inj he
  obtain ⟨h0, h1, h2, h3⟩ := wordI_fields 0x12 sa.val sb.val off.toNat (by decide) sa.isLt sb.isLt off.isLt
  simp only [decodeFeller, h0, regAt_of_bits 32 _ _ _ sa h1, regAt_of_bits 32 _ _ _ sb h2, imm_of_mod _ off h3]

theorem fellerBltu (f : FellerId) (sa : Fin 32) (sb : Fin 32) (off : BitVec 16) : Statement (.fellerBltu f sa sb off) := by
  intro g w hw hf he
  obtain rfl : f = g := Option.some.inj hf
  obtain rfl : wordI 0x13 sa.val sb.val off.toNat = w := Option.some.inj he
  obtain ⟨h0, h1, h2, h3⟩ := wordI_fields 0x13 sa.val sb.val off.toNat (by decide) sa.isLt sb.isLt off.isLt
  simp only [decodeFeller, h0, regAt_of_bits 32 _ _ _ sa h1, regAt_of_bits 32 _ _ _ sb h2, imm_of_mod _ off h3]

theorem fellerJal (f : FellerId) (off : BitVec 26) : Statement (.fellerJal f off) := by
  intro g w hw hf he
  obtain rfl : f = g := Option.some.inj hf
  obtain rfl : wordJ 0x14 off.toNat = w := Option.some.inj he
  obtain ⟨h0, h1⟩ := wordJ_fields 0x14 off.toNat (by decide) off.isLt
  simp only [decodeFeller, h0, imm_of_mod _ off h1]

theorem fellerJr (f : FellerId) (sa : Fin 32) : Statement (.fellerJr f sa) := by
  intro g w hw hf he
  obtain rfl : f = g := Option.some.inj hf
  obtain rfl : wordI 0x15 sa.val 0 0 = w := Option.some.inj he
  obtain ⟨h0, h1, _, _⟩ := wordI_fields 0x15 sa.val 0 0 (by decide) sa.isLt (by decide) (by decide)
  simp only [decodeFeller, h0, regAt_of_bits 32 _ _ _ sa h1]

theorem vecAdd (f : FellerId) (vd : Fin 16) (va : Fin 16) (vb : Fin 16) (mask : Fin 4) (ty : LaneType) : Statement (.vecAdd f vd va vb mask ty) := by
  intro g w hw hf he
  obtain rfl : f = g := Option.some.inj hf
  obtain rfl : wordV 0x18 vd.val va.val vb.val mask.val ty.code 0 = w := Option.some.inj he
  exact decode_vec f vd va vb mask ty 0 (by decide)

theorem vecSub (f : FellerId) (vd : Fin 16) (va : Fin 16) (vb : Fin 16) (mask : Fin 4) (ty : LaneType) : Statement (.vecSub f vd va vb mask ty) := by
  intro g w hw hf he
  obtain rfl : f = g := Option.some.inj hf
  obtain rfl : wordV 0x18 vd.val va.val vb.val mask.val ty.code 1 = w := Option.some.inj he
  exact decode_vec f vd va vb mask ty 1 (by decide)

theorem vecMul (f : FellerId) (vd : Fin 16) (va : Fin 16) (vb : Fin 16) (mask : Fin 4) (ty : LaneType) : Statement (.vecMul f vd va vb mask ty) := by
  intro g w hw hf he
  obtain rfl : f = g := Option.some.inj hf
  obtain rfl : wordV 0x18 vd.val va.val vb.val mask.val ty.code 2 = w := Option.some.inj he
  exact decode_vec f vd va vb mask ty 2 (by decide)

theorem vecFma (f : FellerId) (vd : Fin 16) (va : Fin 16) (vb : Fin 16) (mask : Fin 4) (ty : LaneType) : Statement (.vecFma f vd va vb mask ty) := by
  intro g w hw hf he
  obtain rfl : f = g := Option.some.inj hf
  obtain rfl : wordV 0x18 vd.val va.val vb.val mask.val ty.code 3 = w := Option.some.inj he
  exact decode_vec f vd va vb mask ty 3 (by decide)

theorem vecMin (f : FellerId) (vd : Fin 16) (va : Fin 16) (vb : Fin 16) (mask : Fin 4) (ty : LaneType) : Statement (.vecMin f vd va vb mask ty) := by
  intro g w hw hf he
  obtain rfl : f = g := Option.some.inj hf
  obtain rfl : wordV 0x18 vd.val va.val vb.val mask.val ty.code 4 = w := Option.some.inj he
  exact decode_vec f vd va vb mask ty 4 (by decide)

theorem vecMax (f : FellerId) (vd : Fin 16) (va : Fin 16) (vb : Fin 16) (mask : Fin 4) (ty : LaneType) : Statement (.vecMax f vd va vb mask ty) := by
  intro g w hw hf he
  obtain rfl : f = g := Option.some.inj hf
  obtain rfl : wordV 0x18 vd.val va.val vb.val mask.val ty.code 5 = w := Option.some.inj he
  exact decode_vec f vd va vb mask ty 5 (by decide)

theorem vecAbs (f : FellerId) (vd : Fin 16) (va : Fin 16) (mask : Fin 4) (ty : LaneType) : Statement (.vecAbs f vd va mask ty) := by
  intro g w hw hf he
  obtain rfl : f = g := Option.some.inj hf
  obtain rfl : wordV 0x18 vd.val va.val 0 mask.val ty.code 6 = w := Option.some.inj he
  exact decode_vec f vd va 0 mask ty 6 (by decide)

theorem vecNeg (f : FellerId) (vd : Fin 16) (va : Fin 16) (mask : Fin 4) (ty : LaneType) : Statement (.vecNeg f vd va mask ty) := by
  intro g w hw hf he
  obtain rfl : f = g := Option.some.inj hf
  obtain rfl : wordV 0x18 vd.val va.val 0 mask.val ty.code 7 = w := Option.some.inj he
  exact decode_vec f vd va 0 mask ty 7 (by decide)

theorem vecCmpEq (f : FellerId) (md : Fin 4) (va : Fin 16) (vb : Fin 16) (mask : Fin 4) (ty : LaneType) : Statement (.vecCmpEq f md va vb mask ty) := by
  intro g w hw hf he
  obtain rfl : f = g := Option.some.inj hf
  obtain rfl : wordV 0x18 md.val va.val vb.val mask.val ty.code 8 = w := Option.some.inj he
  have h := decode_vec f (Fin.castLE (by decide) md) va vb mask ty 8 (by decide)
  simpa [decodeVec] using h

theorem vecCmpLt (f : FellerId) (md : Fin 4) (va : Fin 16) (vb : Fin 16) (mask : Fin 4) (ty : LaneType) : Statement (.vecCmpLt f md va vb mask ty) := by
  intro g w hw hf he
  obtain rfl : f = g := Option.some.inj hf
  obtain rfl : wordV 0x18 md.val va.val vb.val mask.val ty.code 9 = w := Option.some.inj he
  have h := decode_vec f (Fin.castLE (by decide) md) va vb mask ty 9 (by decide)
  simpa [decodeVec] using h

theorem vecCmpLe (f : FellerId) (md : Fin 4) (va : Fin 16) (vb : Fin 16) (mask : Fin 4) (ty : LaneType) : Statement (.vecCmpLe f md va vb mask ty) := by
  intro g w hw hf he
  obtain rfl : f = g := Option.some.inj hf
  obtain rfl : wordV 0x18 md.val va.val vb.val mask.val ty.code 10 = w := Option.some.inj he
  have h := decode_vec f (Fin.castLE (by decide) md) va vb mask ty 10 (by decide)
  simpa [decodeVec] using h

theorem vecSelect (f : FellerId) (vd : Fin 16) (va : Fin 16) (vb : Fin 16) (mask : Fin 4) (ty : LaneType) : Statement (.vecSelect f vd va vb mask ty) := by
  intro g w hw hf he
  obtain rfl : f = g := Option.some.inj hf
  obtain rfl : wordV 0x18 vd.val va.val vb.val mask.val ty.code 11 = w := Option.some.inj he
  exact decode_vec f vd va vb mask ty 11 (by decide)

theorem vecAnd (f : FellerId) (vd : Fin 16) (va : Fin 16) (vb : Fin 16) (mask : Fin 4) (ty : LaneType) : Statement (.vecAnd f vd va vb mask ty) := by
  intro g w hw hf he
  obtain rfl : f = g := Option.some.inj hf
  obtain rfl : wordV 0x19 vd.val va.val vb.val mask.val ty.code 0 = w := Option.some.inj he
  rw [decode_vecInt f vd va vb mask ty 0 (by decide)]
  have ht : ty.isInt = true := by cases ty <;> simp_all [Instr.wf, LaneType.isInt]
  simp [decodeVecInt, ht]

theorem vecOr (f : FellerId) (vd : Fin 16) (va : Fin 16) (vb : Fin 16) (mask : Fin 4) (ty : LaneType) : Statement (.vecOr f vd va vb mask ty) := by
  intro g w hw hf he
  obtain rfl : f = g := Option.some.inj hf
  obtain rfl : wordV 0x19 vd.val va.val vb.val mask.val ty.code 1 = w := Option.some.inj he
  rw [decode_vecInt f vd va vb mask ty 1 (by decide)]
  have ht : ty.isInt = true := by cases ty <;> simp_all [Instr.wf, LaneType.isInt]
  simp [decodeVecInt, ht]

theorem vecXor (f : FellerId) (vd : Fin 16) (va : Fin 16) (vb : Fin 16) (mask : Fin 4) (ty : LaneType) : Statement (.vecXor f vd va vb mask ty) := by
  intro g w hw hf he
  obtain rfl : f = g := Option.some.inj hf
  obtain rfl : wordV 0x19 vd.val va.val vb.val mask.val ty.code 2 = w := Option.some.inj he
  rw [decode_vecInt f vd va vb mask ty 2 (by decide)]
  have ht : ty.isInt = true := by cases ty <;> simp_all [Instr.wf, LaneType.isInt]
  simp [decodeVecInt, ht]

theorem vecShl (f : FellerId) (vd : Fin 16) (va : Fin 16) (vb : Fin 16) (mask : Fin 4) (ty : LaneType) : Statement (.vecShl f vd va vb mask ty) := by
  intro g w hw hf he
  obtain rfl : f = g := Option.some.inj hf
  obtain rfl : wordV 0x19 vd.val va.val vb.val mask.val ty.code 3 = w := Option.some.inj he
  rw [decode_vecInt f vd va vb mask ty 3 (by decide)]
  have ht : ty.isInt = true := by cases ty <;> simp_all [Instr.wf, LaneType.isInt]
  simp [decodeVecInt, ht]

theorem vecShr (f : FellerId) (vd : Fin 16) (va : Fin 16) (vb : Fin 16) (mask : Fin 4) (ty : LaneType) : Statement (.vecShr f vd va vb mask ty) := by
  intro g w hw hf he
  obtain rfl : f = g := Option.some.inj hf
  obtain rfl : wordV 0x19 vd.val va.val vb.val mask.val ty.code 4 = w := Option.some.inj he
  rw [decode_vecInt f vd va vb mask ty 4 (by decide)]
  have ht : ty.isInt = true := by cases ty <;> simp_all [Instr.wf, LaneType.isInt]
  simp [decodeVecInt, ht]

theorem vecSra (f : FellerId) (vd : Fin 16) (va : Fin 16) (vb : Fin 16) (mask : Fin 4) (ty : LaneType) : Statement (.vecSra f vd va vb mask ty) := by
  intro g w hw hf he
  obtain rfl : f = g := Option.some.inj hf
  obtain rfl : wordV 0x19 vd.val va.val vb.val mask.val ty.code 5 = w := Option.some.inj he
  rw [decode_vecInt f vd va vb mask ty 5 (by decide)]
  have ht : ty.isInt = true := by cases ty <;> simp_all [Instr.wf, LaneType.isInt]
  simp [decodeVecInt, ht]

theorem vecSum (f : FellerId) (sd : Fin 32) (va : Fin 16) (mask : Fin 4) (ty : LaneType) : Statement (.vecSum f sd va mask ty) := by
  intro g w hw hf he
  obtain rfl : f = g := Option.some.inj hf
  obtain rfl : wordVR 0x1A sd.val va.val mask.val ty.code 0 = w := Option.some.inj he
  exact decode_reduce f sd va mask ty 0 (by decide)

theorem vecReduceMax (f : FellerId) (sd : Fin 32) (va : Fin 16) (mask : Fin 4) (ty : LaneType) : Statement (.vecReduceMax f sd va mask ty) := by
  intro g w hw hf he
  obtain rfl : f = g := Option.some.inj hf
  obtain rfl : wordVR 0x1A sd.val va.val mask.val ty.code 1 = w := Option.some.inj he
  exact decode_reduce f sd va mask ty 1 (by decide)

theorem vecReduceMin (f : FellerId) (sd : Fin 32) (va : Fin 16) (mask : Fin 4) (ty : LaneType) : Statement (.vecReduceMin f sd va mask ty) := by
  intro g w hw hf he
  obtain rfl : f = g := Option.some.inj hf
  obtain rfl : wordVR 0x1A sd.val va.val mask.val ty.code 2 = w := Option.some.inj he
  exact decode_reduce f sd va mask ty 2 (by decide)

theorem vbcast (f : FellerId) (sd : Fin 32) (va : Fin 16) (mask : Fin 4) (ty : LaneType) : Statement (.vbcast f sd va mask ty) := by
  intro g w hw hf he
  obtain rfl : f = g := Option.some.inj hf
  obtain rfl : wordVR 0x1B sd.val va.val mask.val ty.code 0 = w := Option.some.inj he
  obtain ⟨h0, h1, h2, h3, h4, _⟩ := wordVR_fields 0x1B sd.val va.val mask.val ty.code 0 (by decide) sd.isLt va.isLt mask.isLt (Nat.lt_trans ty.code_lt (by decide)) (by decide)
  simp only [decodeFeller, h0, regAt_of_bits 32 _ _ _ sd h1, regAt_of_bits 16 _ _ _ va h2, regAt_of_bits 4 _ _ _ mask h3, h4, LaneType.ofCode_code, Option.map_some]

theorem vld (f : FellerId) (vd : Fin 16) (sa : Fin 32) (sb : Fin 32) (ty : LaneType) : Statement (.vld f vd sa sb ty) := by
  intro g w hw hf he
  obtain rfl : f = g := Option.some.inj hf
  obtain rfl : wordVM 0x1C vd.val sa.val sb.val ty.code = w := Option.some.inj he
  obtain ⟨h0, h1, h2, h3, h4⟩ := wordVM_fields 0x1C vd.val sa.val sb.val ty.code (by decide) vd.isLt sa.isLt sb.isLt (Nat.lt_trans ty.code_lt (by decide))
  simp only [decodeFeller, h0, regAt_of_bits 16 _ _ _ vd h1, regAt_of_bits 32 _ _ _ sa h2, regAt_of_bits 32 _ _ _ sb h3, h4, LaneType.ofCode_code, Option.map_some]

theorem vst (f : FellerId) (vd : Fin 16) (sa : Fin 32) (sb : Fin 32) (ty : LaneType) : Statement (.vst f vd sa sb ty) := by
  intro g w hw hf he
  obtain rfl : f = g := Option.some.inj hf
  obtain rfl : wordVM 0x1D vd.val sa.val sb.val ty.code = w := Option.some.inj he
  obtain ⟨h0, h1, h2, h3, h4⟩ := wordVM_fields 0x1D vd.val sa.val sb.val ty.code (by decide) vd.isLt sa.isLt sb.isLt (Nat.lt_trans ty.code_lt (by decide))
  simp only [decodeFeller, h0, regAt_of_bits 16 _ _ _ vd h1, regAt_of_bits 32 _ _ _ sa h2, regAt_of_bits 32 _ _ _ sb h3, h4, LaneType.ofCode_code, Option.map_some]

theorem vecConvert (f : FellerId) (vd : Fin 16) (va : Fin 16) (mask : Fin 4) (ty : LaneType) (dst : LaneType) : Statement (.vecConvert f vd va mask ty dst) := by
  intro g w hw hf he
  obtain rfl : f = g := Option.some.inj hf
  obtain rfl : wordV 0x1E vd.val va.val 0 mask.val ty.code dst.code = w := Option.some.inj he
  rw [decode_convert f vd va mask ty.code dst.code (Nat.lt_trans ty.code_lt (by decide)) (Nat.lt_trans dst.code_lt (by decide))]
  simp [decodeConvert, dst.code_lt]

theorem vecUnpackMx (f : FellerId) (vd : Fin 16) (va : Fin 16) (mask : Fin 4) (fmt : Fin 6) : Statement (.vecUnpackMx f vd va mask fmt) := by
  intro g w hw hf he
  obtain rfl : f = g := Option.some.inj hf
  obtain rfl : wordV 0x1E vd.val va.val 0 mask.val 0 (16 + fmt.val) = w := Option.some.inj he
  have hm := fmt.isLt
  have h1 : ¬ 16 + fmt.val < 8 := by omega
  have h2 : 16 + fmt.val < 22 := by omega
  rw [decode_convert f vd va mask 0 (16 + fmt.val) (by decide) (by omega)]
  simp [decodeConvert, h1, h2]

theorem vecPackMx (f : FellerId) (vd : Fin 16) (va : Fin 16) (mask : Fin 4) (ty : LaneType) (fmt : Fin 6) : Statement (.vecPackMx f vd va mask ty fmt) := by
  intro g w hw hf he
  obtain rfl : f = g := Option.some.inj hf
  obtain rfl : wordV 0x1E vd.val va.val 0 mask.val ty.code (32 + fmt.val) = w := Option.some.inj he
  have hm := fmt.isLt
  have h1 : ¬ 32 + fmt.val < 8 := by omega
  have h2 : ¬ 32 + fmt.val < 22 := by omega
  have h3 : 32 + fmt.val < 38 := by omega
  rw [decode_convert f vd va mask ty.code (32 + fmt.val) (Nat.lt_trans ty.code_lt (by decide)) (by omega)]
  simp [decodeConvert, h1, h2, h3]

theorem issue (f : FellerId) (sa : Fin 32) (sb : Fin 32) : Statement (.issue f sa sb) := by
  intro g w hw hf he
  obtain rfl : f = g := Option.some.inj hf
  obtain rfl : wordS 0x20 sa.val sb.val 0 0 = w := Option.some.inj he
  obtain ⟨h0, h1, h2, _, _⟩ := wordS_fields 0x20 sa.val sb.val 0 0 (by decide) sa.isLt sb.isLt (by decide) (by decide)
  simp only [decodeFeller, h0, regAt_of_bits 32 _ _ _ sa h1, regAt_of_bits 32 _ _ _ sb h2]

theorem issueStallRelease (f : FellerId) : Statement (.issueStallRelease f) := by
  intro _ _ _ h; cases h

theorem ctrWait (f : FellerId) (sa : Fin 32) (ctr : Fin 64) : Statement (.ctrWait f sa ctr) := by
  intro g w hw hf he
  obtain rfl : f = g := Option.some.inj hf
  obtain rfl : wordS 0x21 sa.val 0 ctr.val 0 = w := Option.some.inj he
  obtain ⟨h0, h1, _, h3, _⟩ := wordS_fields 0x21 sa.val 0 ctr.val 0 (by decide) sa.isLt (by decide) ctr.isLt (by decide)
  simp only [decodeFeller, h0, regAt_of_bits 32 _ _ _ sa h1, regAt_of_bits 64 _ _ _ ctr h3]

theorem ctrWaitRelease (w : Waiter) : Statement (.ctrWaitRelease w) := by
  intro _ _ _ h; cases h

theorem ctrAdd (f : FellerId) (ctr : Fin 64) (imm : BitVec 10) : Statement (.ctrAdd f ctr imm) := by
  intro g w hw hf he
  obtain rfl : f = g := Option.some.inj hf
  obtain rfl : wordS 0x22 0 0 ctr.val imm.toNat = w := Option.some.inj he
  obtain ⟨h0, _, _, h3, h4⟩ := wordS_fields 0x22 0 0 ctr.val imm.toNat (by decide) (by decide) (by decide) ctr.isLt imm.isLt
  simp only [decodeFeller, h0, regAt_of_bits 64 _ _ _ ctr h3, imm_of_mod _ imm h4]

theorem ctrRead (f : FellerId) (sa : Fin 32) (ctr : Fin 64) : Statement (.ctrRead f sa ctr) := by
  intro g w hw hf he
  obtain rfl : f = g := Option.some.inj hf
  obtain rfl : wordS 0x23 sa.val 0 ctr.val 0 = w := Option.some.inj he
  obtain ⟨h0, h1, _, h3, _⟩ := wordS_fields 0x23 sa.val 0 ctr.val 0 (by decide) sa.isLt (by decide) ctr.isLt (by decide)
  simp only [decodeFeller, h0, regAt_of_bits 32 _ _ _ sa h1, regAt_of_bits 64 _ _ _ ctr h3]

theorem fence (f : FellerId) : Statement (.fence f) := by
  intro g w hw hf he
  obtain rfl : f = g := Option.some.inj hf
  obtain rfl : wordS 0x24 0 0 0 0 = w := Option.some.inj he
  obtain ⟨h0, _, _, _, _⟩ := wordS_fields 0x24 0 0 0 0 (by decide) (by decide) (by decide) (by decide) (by decide)
  simp only [decodeFeller, h0]

theorem taskPush (f : FellerId) (sa : Fin 32) : Statement (.taskPush f sa) := by
  intro g w hw hf he
  obtain rfl : f = g := Option.some.inj hf
  obtain rfl : wordS 0x25 sa.val 0 0 0 = w := Option.some.inj he
  obtain ⟨h0, h1, _, _, _⟩ := wordS_fields 0x25 sa.val 0 0 0 (by decide) sa.isLt (by decide) (by decide) (by decide)
  simp only [decodeFeller, h0, regAt_of_bits 32 _ _ _ sa h1]

theorem taskEnd (f : FellerId) : Statement (.taskEnd f) := by
  intro g w hw hf he
  obtain rfl : f = g := Option.some.inj hf
  obtain rfl : wordS 0x26 0 0 0 0 = w := Option.some.inj he
  obtain ⟨h0, _, _, _, _⟩ := wordS_fields 0x26 0 0 0 0 (by decide) (by decide) (by decide) (by decide) (by decide)
  simp only [decodeFeller, h0]

theorem fellerHalt (f : FellerId) : Statement (.fellerHalt f) := by
  intro g w hw hf he
  obtain rfl : f = g := Option.some.inj hf
  obtain rfl : wordA 0x3F 0 0 0 0 = w := Option.some.inj he
  exact decode_misc f 0 0 0 0 (by decide)

theorem fellerTrap (f : FellerId) : Statement (.fellerTrap f) := by
  intro g w hw hf he
  obtain rfl : f = g := Option.some.inj hf
  obtain rfl : wordA 0x3F 0 0 0 1 = w := Option.some.inj he
  exact decode_misc f 0 0 0 1 (by decide)

theorem csrRead (f : FellerId) (sd : Fin 32) (csr : Fin 32) : Statement (.csrRead f sd csr) := by
  intro g w hw hf he
  obtain rfl : f = g := Option.some.inj hf
  obtain rfl : wordA 0x3F sd.val 0 csr.val 2 = w := Option.some.inj he
  exact decode_misc f sd 0 csr 2 (by decide)

theorem csrWrite (f : FellerId) (sa : Fin 32) (csr : Fin 32) : Statement (.csrWrite f sa csr) := by
  intro g w hw hf he
  obtain rfl : f = g := Option.some.inj hf
  obtain rfl : wordA 0x3F 0 sa.val csr.val 3 = w := Option.some.inj he
  exact decode_misc f 0 sa csr 3 (by decide)

theorem fellerNop (f : FellerId) : Statement (.fellerNop f) := by
  intro g w hw hf he
  obtain rfl : f = g := Option.some.inj hf
  obtain rfl : wordA 0x3F 0 0 0 4 = w := Option.some.inj he
  exact decode_misc f 0 0 0 4 (by decide)

theorem illegalInstruction (f : FellerId) (word : BitVec 32) : Statement (.illegalInstruction f word) := by
  intro _ _ _ h; cases h

theorem activityStartAfterThin (s : Fin 42) : Statement (.activityStartAfterThin s) := by
  intro _ _ _ h; cases h

theorem bandEvaluation (b : Fin 7) : Statement (.bandEvaluation b) := by
  intro _ _ _ h; cases h

theorem moduleEvaluation : Statement .moduleEvaluation := by
  intro _ _ _ h; cases h

theorem standDark (s : Fin 42) (cause : DarkCause) : Statement (.standDark s cause) := by
  intro _ _ _ h; cases h

theorem replacementRelease (tag : Fin 256) : Statement (.replacementRelease tag) := by
  intro _ _ _ h; cases h

theorem planReturn (s : Fin 42) : Statement (.planReturn s) := by
  intro _ _ _ h; cases h

theorem ptpSync (l : Fin 8) (m : PtpSync) : Statement (.ptpSync l m) := by
  intro _ _ _ h; cases h

theorem ptpFollowUp (l : Fin 8) (seqId : BitVec 16) (origin : BitVec 64) : Statement (.ptpFollowUp l seqId origin) := by
  intro _ _ _ h; cases h

theorem ptpDelayResp (l : Fin 8) (seqId : BitVec 16) (receive : BitVec 64) : Statement (.ptpDelayResp l seqId receive) := by
  intro _ _ _ h; cases h

theorem ptpAnnounce (l : Fin 8) (domain : BitVec 8) : Statement (.ptpAnnounce l domain) := by
  intro _ _ _ h; cases h

theorem ptpBackupSwitch : Statement .ptpBackupSwitch := by
  intro _ _ _ h; cases h

theorem ptpLoss : Statement .ptpLoss := by
  intro _ _ _ h; cases h

theorem layer0Entry (n : Fin 32768) (g : GroveId) (ctr : Fin 64) : Statement (.layer0Entry n g ctr) := by
  intro _ _ _ h; cases h

theorem mapAhead (n : Fin 32768) : Statement (.mapAhead n) := by
  intro _ _ _ h; cases h

theorem pageWaitResume (n : Fin 32768) : Statement (.pageWaitResume n) := by
  intro _ _ _ h; cases h

theorem pageWaitTimeout (n : Fin 32768) : Statement (.pageWaitTimeout n) := by
  intro _ _ _ h; cases h

theorem pageMove (n : Fin 32768) (page : Nat) (toDeck : Bool) : Statement (.pageMove n page toDeck) := by
  intro _ _ _ h; cases h

theorem pageFree (n : Fin 32768) (page : Nat) : Statement (.pageFree n page) := by
  intro _ _ _ h; cases h

theorem tokenCommit (n : Fin 32768) (out : HeadOutput) : Statement (.tokenCommit n out) := by
  intro _ _ _ h; cases h

theorem prefillChunkCommit (n : Fin 32768) : Statement (.prefillChunkCommit n) := by
  intro _ _ _ h; cases h

theorem variantLoad (tag : Fin 256) (variant : Fin 65536) : Statement (.variantLoad tag variant) := by
  intro _ _ _ h; cases h

theorem genHandover (tag : Fin 256) (variant : Fin 65536) : Statement (.genHandover tag variant) := by
  intro _ _ _ h; cases h

theorem masterWeightUpdate (tag : Fin 256) (variant : Fin 65536) (grads : List MasterGrad) : Statement (.masterWeightUpdate tag variant grads) := by
  intro _ _ _ h; cases h

theorem resumeSequence (n : Fin 32768) : Statement (.resumeSequence n) := by
  intro _ _ _ h; cases h

theorem suspendLimit (n : Fin 32768) : Statement (.suspendLimit n) := by
  intro _ _ _ h; cases h

theorem suspensionLand (n : Fin 32768) : Statement (.suspensionLand n) := by
  intro _ _ _ h; cases h

theorem fellingWordReceive (s : Fin 42) (content : BitVec 448) : Statement (.fellingWordReceive s content) := by
  intro _ _ _ h; cases h

theorem fellingAckSend (s : Fin 42) (id : FellId) : Statement (.fellingAckSend s id) := by
  intro _ _ _ h; cases h

theorem fellingAckFlit (at_ : PortId) (x : Flit) (id : FellId) (fromStand : Fin 42) : Statement (.fellingAckFlit at_ x id fromStand) := by
  intro _ _ _ h; cases h

theorem fellTimeout (id : FellId) : Statement (.fellTimeout id) := by
  intro _ _ _ h; cases h

theorem reuseGuardExpiry (n : Fin 32768) : Statement (.reuseGuardExpiry n) := by
  intro _ _ _ h; cases h

theorem mbPost (f : Fin 256) (v : BitVec 32) : Statement (.mbPost f v) := by
  intro _ _ _ h; cases h

theorem mbAbort (f : Fin 256) : Statement (.mbAbort f) := by
  intro _ _ _ h; cases h

theorem mailboxTake (f : Fin 256) : Statement (.mailboxTake f) := by
  intro _ _ _ h; cases h

theorem responseReady (f : Fin 256) : Statement (.responseReady f) := by
  intro _ _ _ h; cases h

theorem msixHoldoffEnd (f : Fin 256) (vec : Fin 16) : Statement (.msixHoldoffEnd f vec) := by
  intro _ _ _ h; cases h

theorem msixUnmask (f : Fin 256) (vec : Fin 16) : Statement (.msixUnmask f vec) := by
  intro _ _ _ h; cases h

theorem functionReset (f : Fin 256) : Statement (.functionReset f) := by
  intro _ _ _ h; cases h

theorem pcieReset (port : Fin 4) : Statement (.pcieReset port) := by
  intro _ _ _ h; cases h

theorem vfEnable (port : Fin 4) (numVfs : Fin 64) : Statement (.vfEnable port numVfs) := by
  intro _ _ _ h; cases h

theorem d3hotEntry (f : Fin 256) : Statement (.d3hotEntry f) := by
  intro _ _ _ h; cases h

theorem bar2RequestWrite (f : Fin 256) (offset : Fin 8192) (bytes : List Byte) : Statement (.bar2RequestWrite f offset bytes) := by
  intro _ _ _ h; cases h

theorem devGetInfo (f : Fin 256) : Statement (.devGetInfo f) := by
  intro _ _ _ h; cases h

theorem devSetOffHistory (f : Fin 256) : Statement (.devSetOffHistory f) := by
  intro _ _ _ h; cases h

theorem devSetDetMode (f : Fin 256) : Statement (.devSetDetMode f) := by
  intro _ _ _ h; cases h

theorem devSetState (f : Fin 256) : Statement (.devSetState f) := by
  intro _ _ _ h; cases h

theorem drainDeadline : Statement .drainDeadline := by
  intro _ _ _ h; cases h

theorem devGetOperation (f : Fin 256) : Statement (.devGetOperation f) := by
  intro _ _ _ h; cases h

theorem devAbortOperation (f : Fin 256) : Statement (.devAbortOperation f) := by
  intro _ _ _ h; cases h

theorem operationRecordExpiry (op : Nat) : Statement (.operationRecordExpiry op) := by
  intro _ _ _ h; cases h

theorem tenGetInfo (f : Fin 256) : Statement (.tenGetInfo f) := by
  intro _ _ _ h; cases h

theorem tenSetQuota (f : Fin 256) : Statement (.tenSetQuota f) := by
  intro _ _ _ h; cases h

theorem tenSetKey (f : Fin 256) : Statement (.tenSetKey f) := by
  intro _ _ _ h; cases h

theorem tenSetAdapt (f : Fin 256) : Statement (.tenSetAdapt f) := by
  intro _ _ _ h; cases h

theorem tenShed (f : Fin 256) : Statement (.tenShed f) := by
  intro _ _ _ h; cases h

theorem imgStageOpen (f : Fin 256) : Statement (.imgStageOpen f) := by
  intro _ _ _ h; cases h

theorem imgStageWrite (f : Fin 256) (host : HostData) : Statement (.imgStageWrite f host) := by
  intro _ _ _ h; cases h

theorem imgLoad (f : Fin 256) (img : ImageFile) : Statement (.imgLoad f img) := by
  intro _ _ _ h; cases h

theorem imageCleared (tag : Fin 256) : Statement (.imageCleared tag) := by
  intro _ _ _ h; cases h

theorem imgUnload (f : Fin 256) : Statement (.imgUnload f) := by
  intro _ _ _ h; cases h

theorem imgGet (f : Fin 256) : Statement (.imgGet f) := by
  intro _ _ _ h; cases h

theorem imgSetGolden (f : Fin 256) : Statement (.imgSetGolden f) := by
  intro _ _ _ h; cases h

theorem varStage (f : Fin 256) (tiers : List VariantTier) : Statement (.varStage f tiers) := by
  intro _ _ _ h; cases h

theorem varEvict (f : Fin 256) : Statement (.varEvict f) := by
  intro _ _ _ h; cases h

theorem seqOpen (f : Fin 256) : Statement (.seqOpen f) := by
  intro _ _ _ h; cases h

theorem seqFell (f : Fin 256) : Statement (.seqFell f) := by
  intro _ _ _ h; cases h

theorem seqSuspend (f : Fin 256) : Statement (.seqSuspend f) := by
  intro _ _ _ h; cases h

theorem seqResume (f : Fin 256) : Statement (.seqResume f) := by
  intro _ _ _ h; cases h

theorem seqClose (f : Fin 256) : Statement (.seqClose f) := by
  intro _ _ _ h; cases h

theorem seqGet (f : Fin 256) : Statement (.seqGet f) := by
  intro _ _ _ h; cases h

theorem seqList (f : Fin 256) : Statement (.seqList f) := by
  intro _ _ _ h; cases h

theorem polSetClass (f : Fin 256) : Statement (.polSetClass f) := by
  intro _ _ _ h; cases h

theorem polGetClass (f : Fin 256) : Statement (.polGetClass f) := by
  intro _ _ _ h; cases h

theorem polSetLanding (f : Fin 256) : Statement (.polSetLanding f) := by
  intro _ _ _ h; cases h

theorem polSetGrove (f : Fin 256) : Statement (.polSetGrove f) := by
  intro _ _ _ h; cases h

theorem telReadReg (f : Fin 256) : Statement (.telReadReg f) := by
  intro _ _ _ h; cases h

theorem telGetHealth (f : Fin 256) : Statement (.telGetHealth f) := by
  intro _ _ _ h; cases h

theorem telReadViolLog (f : Fin 256) : Statement (.telReadViolLog f) := by
  intro _ _ _ h; cases h

theorem telCopyJournal (f : Fin 256) : Statement (.telCopyJournal f) := by
  intro _ _ _ h; cases h

theorem twinPair (f : Fin 256) : Statement (.twinPair f) := by
  intro _ _ _ h; cases h

theorem twinPairTimeout : Statement .twinPairTimeout := by
  intro _ _ _ h; cases h

theorem twinUnpair (f : Fin 256) : Statement (.twinUnpair f) := by
  intro _ _ _ h; cases h

theorem twinGet (f : Fin 256) : Statement (.twinGet f) := by
  intro _ _ _ h; cases h

theorem twinReplace (f : Fin 256) : Statement (.twinReplace f) := by
  intro _ _ _ h; cases h

theorem pwrGet (f : Fin 256) : Statement (.pwrGet f) := by
  intro _ _ _ h; cases h

theorem pwrSetLimit (f : Fin 256) : Statement (.pwrSetLimit f) := by
  intro _ _ _ h; cases h

theorem thmRead (f : Fin 256) : Statement (.thmRead f) := by
  intro _ _ _ h; cases h

theorem pwrStandService (f : Fin 256) : Statement (.pwrStandService f) := by
  intro _ _ _ h; cases h

theorem fwStage (f : Fin 256) (host : HostRecord) : Statement (.fwStage f host) := by
  intro _ _ _ h; cases h

theorem fwSwap (f : Fin 256) : Statement (.fwSwap f) := by
  intro _ _ _ h; cases h

theorem fwGetVersions (f : Fin 256) : Statement (.fwGetVersions f) := by
  intro _ _ _ h; cases h

theorem attGetReport (f : Fin 256) (busOk : Bool) : Statement (.attGetReport f busOk) := by
  intro _ _ _ h; cases h

theorem attGetIdentity (f : Fin 256) (busOk : Bool) : Statement (.attGetIdentity f busOk) := by
  intro _ _ _ h; cases h

theorem tstLinkInject (f : Fin 256) : Statement (.tstLinkInject f) := by
  intro _ _ _ h; cases h

theorem tstTwinInject (f : Fin 256) : Statement (.tstTwinInject f) := by
  intro _ _ _ h; cases h

theorem tstInjectClear (f : Fin 256) : Statement (.tstInjectClear f) := by
  intro _ _ _ h; cases h

theorem tstSpareForce (f : Fin 256) : Statement (.tstSpareForce f) := by
  intro _ _ _ h; cases h

theorem tstCruise (f : Fin 256) (found : List SliceFinding) : Statement (.tstCruise f found) := by
  intro _ _ _ h; cases h

theorem pttOpen (l : Fin 8) (x : PttFrame) : Statement (.pttOpen l x) := by
  intro _ _ _ h; cases h

theorem pttPrompt (l : Fin 8) (x : PttFrame) : Statement (.pttPrompt l x) := by
  intro _ _ _ h; cases h

theorem pttEmbed (l : Fin 8) (x : PttFrame) : Statement (.pttEmbed l x) := by
  intro _ _ _ h; cases h

theorem pttTarget (l : Fin 8) (x : PttFrame) : Statement (.pttTarget l x) := by
  intro _ _ _ h; cases h

theorem pttFell (l : Fin 8) (x : PttFrame) : Statement (.pttFell l x) := by
  intro _ _ _ h; cases h

theorem pttShed (l : Fin 8) (x : PttFrame) : Statement (.pttShed l x) := by
  intro _ _ _ h; cases h

theorem pttResend (l : Fin 8) (x : PttFrame) : Statement (.pttResend l x) := by
  intro _ _ _ h; cases h

theorem promptWaitExpiry (n : Fin 32768) : Statement (.promptWaitExpiry n) := by
  intro _ _ _ h; cases h

theorem takeoverRepeat (n : Fin 32768) : Statement (.takeoverRepeat n) := by
  intro _ _ _ h; cases h

theorem arpRequest (l : Fin 8) (target : BitVec 32) (sender : BitVec 48) : Statement (.arpRequest l target sender) := by
  intro _ _ _ h; cases h

theorem neighborSolicitation (l : Fin 8) (target : BitVec 128) (sender : BitVec 48) : Statement (.neighborSolicitation l target sender) := by
  intro _ _ _ h; cases h

theorem icmpEcho (l : Fin 8) (dst : BitVec 128) (v6 : Bool) (sender : BitVec 48) (data : List Byte) : Statement (.icmpEcho l dst v6 sender data) := by
  intro _ _ _ h; cases h

theorem unclassifiedFrame (l : Fin 8) (fr : RawFrame) : Statement (.unclassifiedFrame l fr) := by
  intro _ _ _ h; cases h

theorem epLinkDown (l : Fin 8) : Statement (.epLinkDown l) := by
  intro _ _ _ h; cases h

theorem epLinkUp (l : Fin 8) : Statement (.epLinkUp l) := by
  intro _ _ _ h; cases h

theorem cmReq (l : Fin 8) (req : CmReq) : Statement (.cmReq l req) := by
  intro _ _ _ h; cases h

theorem cmDreq (l : Fin 8) (qp : Nat) : Statement (.cmDreq l qp) := by
  intro _ _ _ h; cases h

theorem rdmaWrite (l : Fin 8) (qp : Nat) (psn : BitVec 24) (addr : Nat) (key : BitVec 32) (bytes : List Byte) : Statement (.rdmaWrite l qp psn addr key bytes) := by
  intro _ _ _ h; cases h

theorem goldenFetchRead (l : Fin 8) (qp : Nat) (offset : Nat) (len : Nat) : Statement (.goldenFetchRead l qp offset len) := by
  intro _ _ _ h; cases h

theorem rdmaReadResponse (l : Fin 8) (qp : Nat) (psn : BitVec 24) (bytes : List Byte) : Statement (.rdmaReadResponse l qp psn bytes) := by
  intro _ _ _ h; cases h

theorem cnpArrive (l : Fin 8) (qp : Nat) : Statement (.cnpArrive l qp) := by
  intro _ _ _ h; cases h

theorem cnpRateRecovery (l : Fin 8) (qp : Nat) : Statement (.cnpRateRecovery l qp) := by
  intro _ _ _ h; cases h

theorem rdmaAckTimeout (l : Fin 8) (qp : Nat) : Statement (.rdmaAckTimeout l qp) := by
  intro _ _ _ h; cases h

theorem heartbeatSend : Statement .heartbeatSend := by
  intro _ _ _ h; cases h

theorem heartbeatArrive (port : Fin 2) (hb : Heartbeat) : Statement (.heartbeatArrive port hb) := by
  intro _ _ _ h; cases h

theorem partnerLost : Statement .partnerLost := by
  intro _ _ _ h; cases h

theorem hbPortLost (port : Fin 2) : Statement (.hbPortLost port) := by
  intro _ _ _ h; cases h

theorem mirrorOpen (m : MirrorOpen) : Statement (.mirrorOpen m) := by
  intro _ _ _ h; cases h

theorem mirrorPrompt (m : MirrorPrompt) : Statement (.mirrorPrompt m) := by
  intro _ _ _ h; cases h

theorem mirrorStep (m : MirrorStep) : Statement (.mirrorStep m) := by
  intro _ _ _ h; cases h

theorem mirrorState (m : MirrorState) : Statement (.mirrorState m) := by
  intro _ _ _ h; cases h

theorem mirrorGen (m : MirrorGen) : Statement (.mirrorGen m) := by
  intro _ _ _ h; cases h

theorem mirrorFell (m : MirrorFell) : Statement (.mirrorFell m) := by
  intro _ _ _ h; cases h

theorem mirrorAck (handle : BitVec 32) (step : Nat) : Statement (.mirrorAck handle step) := by
  intro _ _ _ h; cases h

theorem twinBarrierArrival (fromPartner : Bool) : Statement (.twinBarrierArrival fromPartner) := by
  intro _ _ _ h; cases h

theorem twinBarrierRelease (releaseTally : BitVec 64) : Statement (.twinBarrierRelease releaseTally) := by
  intro _ _ _ h; cases h

theorem twinBarrierFail : Statement .twinBarrierFail := by
  intro _ _ _ h; cases h

theorem pairControl (m : PairControl) : Statement (.pairControl m) := by
  intro _ _ _ h; cases h

theorem moveSequence (handle : BitVec 32) : Statement (.moveSequence handle) := by
  intro _ _ _ h; cases h

theorem bulkCopy (off : Nat) (bytes : List Byte) (last : Bool) (img : Option ImageFile) : Statement (.bulkCopy off bytes last img) := by
  intro _ _ _ h; cases h

theorem twinPortDown (port : Fin 2) : Statement (.twinPortDown port) := by
  intro _ _ _ h; cases h

theorem twFaultInjWrite (port : Fin 2) (v : BitVec 32) : Statement (.twFaultInjWrite port v) := by
  intro _ _ _ h; cases h

theorem feedLost (feed : Fin 2) (mv : Nat) : Statement (.feedLost feed mv) := by
  intro _ _ _ h; cases h

theorem feedRestored (feed : Fin 2) (mv : Nat) : Statement (.feedRestored feed mv) := by
  intro _ _ _ h; cases h

theorem rideThroughEnd : Statement .rideThroughEnd := by
  intro _ _ _ h; cases h

theorem converterLost (n : Fin 18) : Statement (.converterLost n) := by
  intro _ _ _ h; cases h

theorem segmentOpen (b : Fin 7) : Statement (.segmentOpen b) := by
  intro _ _ _ h; cases h

theorem vlogAdjust (s : Fin 42) (monitorUp : Int) : Statement (.vlogAdjust s monitorUp) := by
  intro _ _ _ h; cases h

theorem elecThin (s : Fin 42) (vlogTenthsA : Nat) (inputPermille : Nat) : Statement (.elecThin s vlogTenthsA inputPermille) := by
  intro _ _ _ h; cases h

theorem wakeEvaluation (s : Fin 42) : Statement (.wakeEvaluation s) := by
  intro _ _ _ h; cases h

theorem wakeDeferRetry (s : Fin 42) : Statement (.wakeDeferRetry s) := by
  intro _ _ _ h; cases h

theorem groveWakeStage (g : GroveId) (railOk : Bool) : Statement (.groveWakeStage g railOk) := by
  intro _ _ _ h; cases h

theorem phaseLost (s : Fin 42) (p : Fin 18) (reported : Bool) : Statement (.phaseLost s p reported) := by
  intro _ _ _ h; cases h

theorem phaseShort (s : Fin 42) (p : Fin 18) (amps : Nat) : Statement (.phaseShort s p amps) := by
  intro _ _ _ h; cases h

theorem isolationCheck (s : Fin 42) (p : Fin 18) (amps : Nat) : Statement (.isolationCheck s p amps) := by
  intro _ _ _ h; cases h

theorem breakerTrip (s : Fin 42) (cause : TripCause) : Statement (.breakerTrip s cause) := by
  intro _ _ _ h; cases h

theorem breakerRetest (s : Fin 42) (percent : Nat) : Statement (.breakerRetest s percent) := by
  intro _ _ _ h; cases h

theorem pwBreakerClose (s : Fin 42) (v : BitVec 32) : Statement (.pwBreakerClose s v) := by
  intro _ _ _ h; cases h

theorem headerStuckClosed (g : GroveId) : Statement (.headerStuckClosed g) := by
  intro _ _ _ h; cases h

theorem powerUp (feed : Fin 2) (env : BootEnv) : Statement (.powerUp feed env) := by
  intro _ _ _ h; cases h

theorem sensorSample (id : Fin 390) (reading : Option Int) : Statement (.sensorSample id reading) := by
  intro _ _ _ h; cases h

theorem coolantSample (inletA : Option Int) (inletB : Option Int) (outlet : Int) (flow : Nat) : Statement (.coolantSample inletA inletB outlet flow) := by
  intro _ _ _ h; cases h

theorem heatFactorStep (s : Fin 42) : Statement (.heatFactorStep s) := by
  intro _ _ _ h; cases h

theorem heatSwitchOff (s : Fin 42) : Statement (.heatSwitchOff s) := by
  intro _ _ _ h; cases h

theorem hardShutdown (cause : HardCause) : Statement (.hardShutdown cause) := by
  intro _ _ _ h; cases h

theorem heatReturn (s : Fin 42) : Statement (.heatReturn s) := by
  intro _ _ _ h; cases h

theorem surveyStart : Statement .surveyStart := by
  intro _ _ _ h; cases h

theorem bootImageComplete (k : Nat) (img : ImageFile) : Statement (.bootImageComplete k img) := by
  intro _ _ _ h; cases h

theorem foresterHandover : Statement .foresterHandover := by
  intro _ _ _ h; cases h

theorem standbyReady : Statement .standbyReady := by
  intro _ _ _ h; cases h

theorem swapRebootDone (ok : Bool) : Statement (.swapRebootDone ok) := by
  intro _ _ _ h; cases h

theorem foresterFailover : Statement .foresterFailover := by
  intro _ _ _ h; cases h

theorem landingLost (l : Fin 8) : Statement (.landingLost l) := by
  intro _ _ _ h; cases h

theorem smbusBtRead (landing : BitVec 8) (offset : BitVec 16) : Statement (.smbusBtRead landing offset) := by
  intro _ _ _ h; cases h

theorem spdmGetVersion (via : MctpVia) : Statement (.spdmGetVersion via) := by
  intro _ _ _ h; cases h

theorem spdmGetCapabilities (via : MctpVia) (flags : BitVec 32) : Statement (.spdmGetCapabilities via flags) := by
  intro _ _ _ h; cases h

theorem spdmNegotiateAlgorithms (via : MctpVia) (asym : BitVec 32) (hash : BitVec 32) : Statement (.spdmNegotiateAlgorithms via asym hash) := by
  intro _ _ _ h; cases h

theorem spdmGetDigests (via : MctpVia) : Statement (.spdmGetDigests via) := by
  intro _ _ _ h; cases h

theorem spdmGetCertificate (via : MctpVia) (slot : BitVec 4) (offset : Nat) (len : Nat) : Statement (.spdmGetCertificate via slot offset len) := by
  intro _ _ _ h; cases h

theorem spdmChallenge (via : MctpVia) (slot : BitVec 4) (nonce : BitVec 256) : Statement (.spdmChallenge via slot nonce) := by
  intro _ _ _ h; cases h

theorem spdmGetMeasurements (via : MctpVia) (index : BitVec 8) (nonce : BitVec 256) (sign : Bool) : Statement (.spdmGetMeasurements via index nonce sign) := by
  intro _ _ _ h; cases h

theorem pldmGetTid (via : MctpVia) : Statement (.pldmGetTid via) := by
  intro _ _ _ h; cases h

theorem pldmGetPldmVersion (via : MctpVia) (type : BitVec 8) : Statement (.pldmGetPldmVersion via type) := by
  intro _ _ _ h; cases h

theorem pldmGetPldmTypes (via : MctpVia) : Statement (.pldmGetPldmTypes via) := by
  intro _ _ _ h; cases h

theorem pldmGetPldmCommands (via : MctpVia) (type : BitVec 8) : Statement (.pldmGetPldmCommands via type) := by
  intro _ _ _ h; cases h

theorem pldmSetEventReceiver (via : MctpVia) (address : BitVec 8) (enable : BitVec 8) : Statement (.pldmSetEventReceiver via address enable) := by
  intro _ _ _ h; cases h

theorem pldmGetPdrRepositoryInfo (via : MctpVia) : Statement (.pldmGetPdrRepositoryInfo via) := by
  intro _ _ _ h; cases h

theorem pldmGetPdr (via : MctpVia) (record : BitVec 32) : Statement (.pldmGetPdr via record) := by
  intro _ _ _ h; cases h

theorem pldmGetSensorReading (via : MctpVia) (sensor : BitVec 16) : Statement (.pldmGetSensorReading via sensor) := by
  intro _ _ _ h; cases h

theorem pldmGetStateSensorReadings (via : MctpVia) (sensor : BitVec 16) : Statement (.pldmGetStateSensorReadings via sensor) := by
  intro _ _ _ h; cases h

theorem pldmSetStateEffecterStates (via : MctpVia) (effecter : BitVec 16) (state : BitVec 8) : Statement (.pldmSetStateEffecterStates via effecter state) := by
  intro _ _ _ h; cases h

theorem pldmGetStateEffecterStates (via : MctpVia) (effecter : BitVec 16) : Statement (.pldmGetStateEffecterStates via effecter) := by
  intro _ _ _ h; cases h

theorem shutdownReq : Statement .shutdownReq := by
  intro _ _ _ h; cases h

theorem shutdownReqRelease (env : BootEnv) : Statement (.shutdownReqRelease env) := by
  intro _ _ _ h; cases h

theorem forceOff : Statement .forceOff := by
  intro _ _ _ h; cases h

theorem forceOffRelease (env : BootEnv) : Statement (.forceOffRelease env) := by
  intro _ _ _ h; cases h

theorem bladeUnseated : Statement .bladeUnseated := by
  intro _ _ _ h; cases h

theorem feedsRemovedRestart (env : BootEnv) : Statement (.feedsRemovedRestart env) := by
  intro _ _ _ h; cases h

theorem ppsEdge : Statement .ppsEdge := by
  intro _ _ _ h; cases h

theorem dataCreditStarved (p : PortId) (tag : Fin 256) : Statement (.dataCreditStarved p tag) := by
  intro _ _ _ h; cases h

theorem tallyBeaconMissed (s : Fin 42) : Statement (.tallyBeaconMissed s) := by
  intro _ _ _ h; cases h

theorem carrierReferenceBackup : Statement .carrierReferenceBackup := by
  intro _ _ _ h; cases h

theorem hostTransferComplete (f : Fin 256) (ok : Bool) : Statement (.hostTransferComplete f ok) := by
  intro _ _ _ h; cases h

theorem journalLowClear : Statement .journalLowClear := by
  intro _ _ _ h; cases h

theorem cmRtu (l : Fin 8) (qp : Nat) : Statement (.cmRtu l qp) := by
  intro _ _ _ h; cases h

theorem osfpModulePresent (l : Fin 8) (powerTenthsW : Nat) : Statement (.osfpModulePresent l powerTenthsW) := by
  intro _ _ _ h; cases h

theorem twinPortTrained (port : Fin 2) : Statement (.twinPortTrained port) := by
  intro _ _ _ h; cases h

theorem d0Entry (f : Fin 256) : Statement (.d0Entry f) := by
  intro _ _ _ h; cases h

end Sys2Proof.Laws.Encoding
end

