-- ==== Sys2Proof/Tests/Slice0.lean ====
section
/-! SUPPORT. Tests of one step each, words written out from the encodings of R186, ill-formed commands that the checks refuse, and, for the
statements of the certificates, states and operands that meet their hypotheses. Expected values come from the rules that a test names. -/

namespace Sys2Proof.Tests

open Sys2Proof.Machine

set_option Elab.async false

/-! ## Small states -/

/-- The state after reset with register fields set: field, unit, value. -/
def having (fs : List (Fld × Nat × Nat)) : State := fs.foldl (fun s x => s.put x.1 x.2.1 x.2.2) .reset

/-- Further fields of a state set. -/
def also (s : State) (fs : List (Fld × Nat × Nat)) : State := fs.foldl (fun s x => s.put x.1 x.2.1 x.2.2) s

/-- An outcome is a next state of which a test holds. -/
def holds (o : Host.Outcome State Fault Refusal) (p : State → Bool) : Bool :=
  match o with
  | .next t => p t
  | _ => false

def g0 : GroveId := ⟨0, 0⟩
def f0 : FellerId := ⟨0, 0, 0⟩
def t0 : TileId := ⟨0, 0, 0⟩

/-- A record that no test reads. -/
def img0 : ImageFile :=
  ⟨0, true, true, 0, 0, none, [], [], [], [], [], [], [], [], [], [], [], [], [], [], [], 0, true, true, [], [], [], 0, 0⟩

def env0 : MvmEnv := ⟨0, none, []⟩
def key0 : StepKey := ⟨1, 2, 3, 4⟩
def ptt0 (type : BitVec 8) (bs : List Byte) : PttFrame :=
  ⟨0, 0, 47111, 0, 48 + bs.length, 1, type, 0, 0, 3, 0, 0, 0, 0, BitVec.ofNat 32 bs.length, 0, true, bs⟩
def boot0 : BootEnv := ⟨4800, (true, true), (true, true), [], [], [], 0⟩
def seq0 : SeqEntry := ({} : Seq).entry

/-! ## Ill-formed commands -/

/-- One ill-formed command for each check of `Instr.wf`; each is refused. -/
theorem wf_refuses_registers_and_flits : ∀ i ∈ [Instr.registerWrite ⟨.forester 0, 3, 0, .firmware, 0⟩,
    .registerWrite ⟨.forester 0, 1, 256, .firmware, 0⟩, .hbmReadRequest 0 0 ⟨0, 0, 0⟩ 65 0 1, .hbmReadRequest 0 0 ⟨0, 0, 0⟩ 64 0 0,
    .hbmReadData (.stand 0 0) ⟨0, 0, 0⟩ 0 (List.replicate 256 0), .hbmReadData (.stand 0 0) ⟨0, 0, 0⟩ 0 [0],
    .hbmWrite 0 0 ⟨0, 0, 0⟩ 0 [], .hbmWrite 0 0 ⟨0, 0, 0⟩ 0 (List.replicate 241 0),
    .laneDiagnosisDone (.stand 0 0) [1, 1], .spareCompareDone (.stand 0 0) [2, 2]], i.wf = false := by decide +kernel

theorem wf_refuses_words_and_barriers : ∀ i ∈ [Instr.hrWordSubmit ⟨0, 0, 0, 0, 512, true, 0⟩, .hrWordSubmit ⟨16, 0, 0, 0, 0, true, 0⟩,
    .hrWordSubmit ⟨0, 256, 0, 0, 0, true, 0⟩, .hrWordReceive 0 (some ⟨0, 0, 0, 0, 512, true, 0⟩) none,
    .hrWordReceive 0 none (some ⟨0, 0, 0, 0, 512, true, 0⟩), .barrierArrival (2 ^ 64) (.stand 0) 0, .barrierArrival 0 (.stand 0) 128,
    .barrierArrival 0 (.stand 0) (-128), .barrierRelease (2 ^ 64) (.stand 0), .barrierTimeout 0 (2 ^ 64)], i.wf = false := by decide +kernel

theorem wf_refuses_readings_and_steps : ∀ i ∈ [Instr.forwardMvm g0 ⟨0, none, [⟨16, 0, 0, 0, 0, 1⟩]⟩ env0, .forwardMvm g0 env0 ⟨0, none, [⟨0, 32, 0, 0, 0, 1⟩]⟩,
    .reverseRead g0 ⟨0, none, [⟨0, 0, 8, 0, 0, 1⟩]⟩ env0, .reverseRead g0 env0 ⟨0, none, [⟨0, 0, 0, 1024, 0, 1⟩]⟩,
    .forcedSwap t0 ⟨0, none, [⟨0, 0, 0, 0, 3, 1⟩]⟩, .scaleEventAnnounce g0 ⟨256, 0, 0, 0⟩ .input 0, .scaleEventAnnounce g0 key0 .input 128,
    .scaleEventRelease g0 ⟨0, 32768, 0, 0⟩ 0, .scaleEventRelease g0 key0 (-128), .stepReport g0 ⟨⟨0, 0, 65536, 0⟩, g0, none, false, false, 0, 1⟩,
    .commit g0 ⟨0, 0, 0, 2 ^ 32⟩ 0, .commitTimeout g0 ⟨256, 0, 0, 0⟩], i.wf = false := by decide +kernel

theorem wf_refuses_lanes_pages_and_images : ∀ i ∈ [Instr.vecAnd f0 0 0 0 0 .bf16, .vecOr f0 0 0 0 0 .fp16, .vecXor f0 0 0 0 0 .e4m3, .vecShl f0 0 0 0 0 .e5m2,
    .vecShr f0 0 0 0 0 .bf16, .vecSra f0 0 0 0 0 .bf16, .pageMove 0 0 true, .pageMove 0 (2 ^ 24) true, .pageFree 0 (2 ^ 24),
    .bar2RequestWrite 0 0 [], .bar2RequestWrite 0 8191 [0, 0], .imgLoad 0 { img0 with layerTable := [⟨128, 0, 0, 1, 0, 1, 1, 1, [], []⟩] },
    .imgLoad 0 { img0 with layerTable := [⟨0, 0, 672, 1, 0, 1, 1, 1, [], []⟩] },
    .bootImageComplete 0 { img0 with tiers := [⟨42, 0, 0, 0, 0, [], 0, 0, 0⟩] },
    .bulkCopy 0 [] true (some { img0 with tiers := [⟨0, 0, 0, 16, 0, [], 0, 0, 0⟩] })], i.wf = false := by decide +kernel

theorem wf_refuses_long_copy (bs : List Byte) (h : 65536 < bs.length) : (Instr.bulkCopy 0 bs false none).wf = false := by
  have : ¬ bs.length ≤ 65536 := by omega
  simp [Instr.wf, this]

theorem wf_refuses_frames_and_mirrors : ∀ i ∈ [Instr.pttOpen 0 (ptt0 3 []), .pttPrompt 0 (ptt0 1 []), .pttEmbed 0 { ptt0 4 [1] with length := 2 },
    .pttTarget 0 { ptt0 5 [] with udpLen := 49 }, .pttFell 0 (ptt0 1 []), .pttShed 0 (ptt0 1 []), .pttResend 0 (ptt0 1 []), .cmDreq 0 1, .cmRtu 0 10,
    .rdmaWrite 0 1 0 0 0 [1], .rdmaWrite 0 2 0 0 0 [], .goldenFetchRead 0 2 0 0, .goldenFetchRead 0 10 0 1, .rdmaReadResponse 0 2 0 [], .cnpArrive 0 1,
    .cnpRateRecovery 0 1, .rdmaAckTimeout 0 10, .mirrorOpen ⟨0, 0, { seq0 with state := 6 }, 0, 0, 0, 0, 0⟩,
    .mirrorStep ⟨0, 0, { seq0 with specMode := 3 }, [], [], [], []⟩, .mirrorStep ⟨0, 0, { seq0 with cls := 8 }, [], [], [], []⟩,
    .mirrorStep ⟨0, 0, seq0, [], [⟨0, false, 0, [1]⟩], [], []⟩, .mirrorState ⟨0, 6, 0⟩], i.wf = false := by decide +kernel

theorem wf_refuses_power_and_sensors : ∀ i ∈ [Instr.elecThin 0 0 2001, .breakerRetest 0 101, .powerUp 0 { boot0 with delays := [(0, 1, 1), (0, 1, 1)] },
    .shutdownReqRelease { boot0 with delays := [(0, 1, 1), (0, 1, 1)] }, .forceOffRelease { boot0 with delays := [(0, 1, 1), (0, 1, 1)] },
    .feedsRemovedRestart { boot0 with delays := [(0, 1, 1), (0, 1, 1)] }, .sensorSample 0 (some 32768), .coolantSample none none 32768 0,
    .coolantSample none none 0 65536, .spdmGetCertificate .smbus 0 65536 0, .spdmGetCertificate .smbus 0 0 65536], i.wf = false := by decide +kernel

/-! ## Feller words (R186, R187): one of each format, written out field by field -/

/-- Format A: op 01, sd 3, sa 4, sb 5, fn 8 is mul; fn 16 is not listed. -/
theorem decode_A : decodeFeller f0 0b000001_00011_00100_00101_00000001000#32 = some (.fellerMul f0 3 4 5)
    ∧ decodeFeller f0 0b000001_00011_00100_00101_00000010000#32 = none := by decide +kernel
/-- Format I: op 02, sd 1, sa 2, imm -1; op 06 is lui; op 0B an 8-byte load. -/
theorem decode_I : decodeFeller f0 0b000010_00001_00010_1111111111111111#32 = some (.fellerAddi f0 1 2 (-1))
    ∧ decodeFeller f0 0b000110_00111_00000_0000000000000001#32 = some (.fellerLui f0 7 1)
    ∧ decodeFeller f0 0b001011_00001_00010_0000000000001000#32 = some (.fellerLdD f0 1 2 8) := by decide +kernel
/-- Formats B and J: bne with sa 1, sb 2, offset -2; jal with offset 3; jr with s31. -/
theorem decode_B_J : decodeFeller f0 0b010001_00001_00010_1111111111111110#32 = some (.fellerBne f0 1 2 (-2))
    ∧ decodeFeller f0 0b010100_00000000000000000000000011#32 = some (.fellerJal f0 3)
    ∧ decodeFeller f0 0b010101_11111_00000_0000000000000000#32 = some (.fellerJr f0 31) := by decide +kernel
/-- Format V: op 18, vd 1, va 2, vb 3, m1, E4M3, fn 3 is fma; op 19 on uint16 is a bit operation, on bfloat16 not listed; type 8 is reserved. -/
theorem decode_V : decodeFeller f0 0b011000_0001_0010_0011_01_0010_00000011#32 = some (.vecFma f0 1 2 3 1 .e4m3)
    ∧ decodeFeller f0 0b011001_0001_0010_0011_01_0111_00000010#32 = some (.vecXor f0 1 2 3 1 .u16)
    ∧ decodeFeller f0 0b011001_0001_0010_0011_01_0000_00000010#32 = none
    ∧ decodeFeller f0 0b011000_0001_0010_0011_01_1000_00000000#32 = none := by decide +kernel
/-- Formats VR and VM: op 1A, sd 9, va 4, m2, int16, fn 1 is the maximum; op 1C, vd 5, sa 6, sb 0, uint8 is a load; op 1E, fn 18 unpacks MX format 2. -/
theorem decode_VR_VM : decodeFeller f0 0b011010_01001_0100_10_0101_00000000001#32 = some (.vecReduceMax f0 9 4 2 .i16)
    ∧ decodeFeller f0 0b011100_0101_00110_00000_0110_00000000#32 = some (.vld f0 5 6 0 .u8)
    ∧ decodeFeller f0 0b011110_0101_0110_0000_00_0000_00010010#32 = some (.vecUnpackMx f0 5 6 0 2) := by decide +kernel
/-- Format S: op 20 is issue; op 22 adds -1 to counter 9; op 3F with fn 2 reads CSR 6; op 3E is not listed. -/
theorem decode_S : decodeFeller f0 0b100000_00001_00010_000000_0000000000#32 = some (.issue f0 1 2)
    ∧ decodeFeller f0 0b100010_00000_00000_001001_1111111111#32 = some (.ctrAdd f0 9 (-1))
    ∧ decodeFeller f0 0b111111_00010_00000_00110_00000000010#32 = some (.csrRead f0 2 6)
    ∧ decodeFeller f0 0b111110_00000_00000_000000_0000000000#32 = none := by decide +kernel

theorem witness_DecodeOfEncode : (Instr.vecXor f0 1 2 3 1 .u16).wf = true ∧ fellerOf (.vecXor f0 1 2 3 1 .u16) = some f0
    ∧ encodeFeller (.vecXor f0 1 2 3 1 .u16) = some 0b011001_0001_0010_0011_01_0111_00000010#32 := by decide +kernel

/-! ## The machine -/

theorem witness_StepRunsFront : State.reset.pending = [] := rfl
theorem witness_StepsKeepMemoriesCanonical : ({ State.reset with hbm := [⟨5, 1⟩] } : State).memWf = true
    ∧ step { State.reset with hbm := [⟨5, 1⟩] } = .next { State.reset with hbm := [⟨5, 1⟩], tally := 1 } := ⟨by decide +kernel, rfl⟩
theorem witness_CommandsStop : exec (.registerWrite ⟨.forester 0xFFFFFFFF, 4, 0, .firmware, 0⟩) { State.reset with service := .serving }
    = .fault (.noRegister 0xFFFFFFFF) := rfl

/-! ## Fellers -/

/-- Feller 0 of grove 0 of stand 0 runs at 8, with s1 = 5 and s2 = 2^64 − 3. -/
def running : State := (((State.reset.setCore f0 1).setPc f0 8).setScalar f0 1 5).setScalar f0 2 (-3)

theorem witness_FellerRuns : FellerRuns running f0 := ⟨by decide +kernel, by decide +kernel⟩
/-- The last word of the instruction store has no successor (R190). -/
theorem witness_lastWord : (running.setPc f0 65532).coreState f0 = 1 ∧ (running.setPc f0 65532).pc f0 = storeBytes - 4
    ∧ ¬ (running.setPc f0 65532).pc f0 + 8 ≤ storeBytes := by decide +kernel
/-- R187: mulh of 5 and −3 is −1; slt sees −3 below 5 and sltu does not; s0 discards a write (R185). -/
theorem test_mulh_slt : (∃ t, exec (.fellerMulh f0 3 1 2) running = .next t ∧ t.scalar f0 3 = -1)
    ∧ (∃ t, exec (.fellerSlt f0 3 2 1) running = .next t ∧ t.scalar f0 3 = 1)
    ∧ (∃ t, exec (.fellerSltu f0 3 2 1) running = .next t ∧ t.scalar f0 3 = 0)
    ∧ (∃ t, exec (.fellerAdd f0 0 1 1) running = .next t ∧ t.scalar f0 0 = 0 ∧ t.pc f0 = 12) :=
  ⟨⟨_, rfl, by decide +kernel⟩, ⟨_, rfl, by decide +kernel⟩, ⟨_, rfl, by decide +kernel⟩, ⟨_, rfl, by decide +kernel⟩⟩
/-- R186: LUI sign-extends and shifts by 16. -/
theorem test_lui : ∃ t, exec (.fellerLui f0 3 0x8000) running = .next t ∧ t.scalar f0 3 = 0xFFFFFFFF80000000 := ⟨_, rfl, by decide +kernel⟩
/-- The shifts below the width and at it: s1 is 5, s2 is above 64. -/
theorem witness_ScalarShifts : (running.scalar f0 1).toNat < 64 ∧ 64 ≤ (running.scalar f0 2).toNat
    ∧ 64 ≤ ((running.setScalar f0 2 64).scalar f0 2).toNat := by decide +kernel
/-- The last 8 bytes of the deck can be read, one byte further cannot, and an odd address is misaligned. -/
theorem witness_ScalarMemory : (0 + BitVec.ofInt 64 (8 : BitVec 16).toInt).toNat = 8
    ∧ ((running.setScalar f0 1 16777208).scalar f0 1 + BitVec.ofInt 64 (0 : BitVec 16).toInt).toNat < 16777216
    ∧ 16777216 < ((running.setScalar f0 1 16777209).scalar f0 1 + BitVec.ofInt 64 (0 : BitVec 16).toInt).toNat + 8
    ∧ (running.scalar f0 1 + BitVec.ofInt 64 (0 : BitVec 16).toInt).toNat % 2 ≠ 0 ∧ running.decks.wf = true := by decide +kernel
/-- R187: a stored word reads back little-endian. -/
theorem test_store_load : ∃ t u, exec (.fellerStW f0 2 0 64) running = .next t ∧ t.decks.read 64 = 0xFD ∧ t.decks.read 67 = 0xFF ∧ t.decks.read 68 = 0
    ∧ exec (.fellerLdH f0 4 0 64) t = .next u ∧ u.scalar f0 4 = 0xFFFD :=
  ⟨_, _, rfl, by decide +kernel, by decide +kernel, by decide +kernel, rfl, by decide +kernel⟩
/-- R190: a load that ends beyond 16 MiB faults with code 3 and stops the feller. -/
theorem test_range_fault : ∃ t, exec (.fellerLdD f0 3 2 0) running = .next t ∧ t.coreState f0 = 4
    ∧ t.getAt gvCoreStatus_fault 0 0 = 3 ∧ t.on gvEvent_coreFault 0 = true := ⟨_, rfl, by decide +kernel⟩
/-- A branch by no instruction lies in the store, however it counts. -/
theorem witness_BranchesAndJumps : ∃ d : Nat, (d : Int) = (running.pc f0 : Int) + (if Config.branchFromSelf then 0 else 4) + 4 * (0 : BitVec 16).toInt
    ∧ d + 4 ≤ storeBytes ∧ decide (running.scalar f0 1 = running.scalar f0 1) = true ∧ decide (running.scalar f0 1 = running.scalar f0 2) = false
    ∧ (running.scalar f0 1).toNat + 4 ≤ storeBytes := by
  have h : running.pc f0 = 8 := by decide +kernel
  refine ⟨8 + (if Config.branchFromSelf then 0 else 4), ?_, ?_, by decide +kernel, by decide +kernel, by decide +kernel⟩
  · rw [h]; cases Config.branchFromSelf <;> decide
  · cases Config.branchFromSelf <;> decide
theorem witness_FellerFaults : running.coreState f0 = 1 ∧ decodeFeller f0 0 = none ∧ storeBytes < (running.scalar f0 2).toNat + 4
    ∧ (6 : Nat) < (7 : Fin 32).val := by decide +kernel

/-! ### Tasks and descriptors -/

/-- A descriptor of a stage and an operation, with the bits above given. -/
def desc (stage op : Nat) (rest : Nat) : Descriptor := BitVec.ofNat 256 (stage + op * 16 + rest)

/-- Grove 0 of stand 0 is on and holds one queue. -/
def queued (stage : Nat) (qs : List QItem) : State := (having [(gvStatus_power, 0, 2)]).setGrove g0 { queues := [(stage, qs)] }

/-- A descriptor of a stage and operation that advances counter 5 when it is done. -/
def item (stage op rest : Nat) : QItem := { desc := desc stage op (2 ^ 10 + 5 * 2 ^ 22 + rest) }

/-- A task that starts at 64 and may be stolen. -/
def task0 : QItem := item 9 0 (64 * 2 ^ 128 + 2 ^ 162)

theorem witness_TasksTakenAndStolen :
    ((queued 9 [task0]).coreState f0 = 0 ∧ Ready (queued 9 [task0]) g0 9 0 250 task0 [])
    ∧ (let s := (also (queued 8 []) [(gvStatus_power, 1, 2), (gvCtrl_taskStealEn, 0, 1), (gvCtrl_stealMin, 0, 1)]).setGrove ⟨0, 1⟩ { queues := [(9, [task0, task0])] }
       s.coreState f0 = 0 ∧ s.lockstep = false ∧ s.on gvCtrl_taskStealEn 0 = true ∧ s.groveOn g0 = true ∧ s.heldOn 0 = false
       ∧ s.on pwStandStatus_elecThin 0 = false ∧ (s.grove g0).queue 9 = []
       ∧ (probeOrder g0).find? (fun v => decide (s.get gvCtrl_stealMin g0.num < ((s.grove v).queue 9).length)
          && ((s.grove v).queue 9).any (fun q => bit q.desc.toNat 162)) = some ⟨0, 1⟩
       ∧ (s.grove ⟨0, 1⟩).queue 9 = [task0] ++ task0 :: [] ∧ bit task0.desc.toNat 162 = true
       ∧ s.mayStart ⟨0, 1⟩ task0 = true ∧ s.meterAllows 0 250 = true ∧ s.isFelled ⟨0, 1⟩ task0.desc = false ∧ descOk task0.desc = true) := by
  unfold Ready; decide +kernel
/-- R184: a task starts at its entry on the feller that takes it. -/
theorem test_task_take : ∃ t, exec (.taskTake f0) (queued 9 [task0]) = .next t ∧ t.coreState f0 = 1 ∧ t.pc f0 = 64 ∧ (t.grove g0).queue 9 = [] :=
  ⟨_, rfl, by decide +kernel⟩

/-- A running feller whose deck holds a deck-fill descriptor at 32 and a task descriptor at 64. -/
def issuing (qs : Nat) : State :=
  ((running.setScalar f0 3 32).deckWrite g0 32 (bytesLE 32 (desc 8 0 0).toNat)).deckWrite g0 64 (bytesLE 32 task0.desc.toNat)
    |>.setGrove g0 { queues := [(8, List.replicate qs (item 8 0 0))] }

theorem witness_DescriptorsIssued : FellerRuns (issuing 0) f0 ∧ ((issuing 0).scalar f0 3).toNat = 32
    ∧ descStage (issued ((issuing 0).descriptorAt f0 32) 0 0) = 8
    ∧ (((issuing 0).grove g0).queue 8).length < queueDepth 8 ∧ queueDepth 8 ≤ (((issuing (queueDepth 8)).grove g0).queue 8).length
    ∧ descStage ((issuing 0).descriptorAt f0 64) = 9 ∧ (((issuing 0).grove g0).queue 9).length < 32 := by
  unfold FellerRuns; decide +kernel
/-- R163, R187: with `sb` not s0 the issued descriptor has seq_valid and the sequence of bits 46 to 32. -/
theorem test_issue : ∃ t, exec (.issue f0 3 4) ((issuing 0).setScalar f0 4 (7 * 2 ^ 32 + 9)) = .next t
    ∧ ((t.grove g0).queue 8).map (fun q => (descSeqValid q.desc, descSeq q.desc, descStep q.desc)) = [(true, 7, 9)] := ⟨_, rfl, by decide +kernel⟩

theorem witness_IssueStallEnds : let s := ((issuing 0).setCore f0 3).setFeller f0 { home := g0, wait := .queue 8 (desc 8 0 0) }
    s.coreState f0 = 3 ∧ (s.feller f0).wait = .queue 8 (desc 8 0 0) ∧ s.pc f0 + 8 ≤ storeBytes
    ∧ ((s.grove (s.feller f0).home).queue 8).length < queueDepth 8 := by decide +kernel
/-- Counter 3 at 5 has reached 5 and has not reached 6; at 0 it has reached 65535 (R165). -/
theorem witness_CounterWaits : let s := running.addCounter g0 3 5
    (s.counter g0 3 + 65536 - 5) % 65536 < 32768 ∧ 32768 ≤ (s.counter g0 3 + 65536 - 6) % 65536 ∧ (s.counter g0 0 + 65536 - 65535) % 65536 < 32768
    ∧ (let w := (s.setCore f0 2).setFeller f0 { home := g0, wait := .counter 3 5 }
       w.coreState f0 = 2 ∧ (w.feller f0).wait = .counter 3 5 ∧ w.pc f0 + 8 ≤ storeBytes ∧ (w.counter (w.feller f0).home 3 + 65536 - 5) % 65536 < 32768) := by
  decide +kernel
/-- R187: the counter takes a negative immediate modulo 2^16. -/
theorem test_ctr_add : ∃ t, exec (.ctrAdd f0 3 (-1)) running = .next t ∧ t.counter g0 3 = 65535 ∧ t.counter g0 4 = 0 := ⟨_, rfl, by decide +kernel⟩
theorem witness_TasksEnd : let s := running.setFeller f0 { home := g0, task := some task0 }
    s.coreState f0 = 1 ∧ (s.feller f0).task = some task0 ∧ s.lockstep = false ∧ s.isFelled (s.feller f0).home task0.desc = false := by decide +kernel
/-- R184: the end of a task advances its done counter once. -/
theorem test_task_end : ∃ t, exec (.taskEnd f0) (running.setFeller f0 { home := g0, task := some task0 }) = .next t ∧ t.counter g0 5 = 1 ∧ t.coreState f0 = 0 :=
  ⟨_, rfl, by decide +kernel⟩

/-! ### Vectors -/

/-- Lane 0 of v1 is the given code; every other lane is 0. -/
def laned (a b : Nat) : State := running.setFeller f0 { home := g0, vregs := [(1, BitVec.ofNat 8192 a), (2, BitVec.ofNat 8192 b)], masks := [(1, 3)] }

/-- The masks and lane types that the statements split on. -/
theorem witness_Vectors : FellerRuns (laned 1 2) f0 ∧ bit (((laned 1 2).feller f0).mask 1).toNat 1 = true ∧ bit (((laned 1 2).feller f0).mask 1).toNat 2 = false
    ∧ LaneType.isInt .u8 = true ∧ LaneType.isInt .bf16 = false ∧ floatOf .i16 = none ∧ (floatOf .bf16).isSome = true := by
  unfold FellerRuns; decide +kernel
/-- 127 fits an int8 sum and 128 does not; 0x3F80 is 1 in bfloat16 (R188). -/
theorem witness_LaneArithmetic : laneInt .i8 (unsigned (laneBits .i8) 127) = 127 ∧ laneInt .i8 (unsigned (laneBits .i8) 128) ≠ 128
    ∧ FFmt.bf16.decode (0x3F80 % 2 ^ FFmt.bf16.width) = .fin false 128 (-7) ∧ floatOf .bf16 = some FFmt.bf16 := by decide +kernel
/-- R188: 1 + 2 is 3 in bfloat16; R187: 0x8000 shifted right as int16 by 15 is 0xFFFF. -/
theorem test_lanes : laneAdd .bf16 0 0x3F80 0x4000 = 0x4040 ∧ laneMul .i8 0 3 0xFF = 0xFD
    ∧ (∃ t, exec (.vecSra f0 3 1 2 1 .i16) (laned 0x8000 15) = .next t ∧ VecReg.lane ((t.feller f0).vector 3) 0 = 0xFFFF) :=
  ⟨by decide +kernel, by decide +kernel, ⟨_, rfl, by decide +kernel⟩⟩
/-- R187: a comparison writes the masked lanes' bits. -/
theorem test_compare : ∃ t, exec (.vecCmpLt f0 2 1 2 1 .i8) (laned 0xFF 1) = .next t ∧ ((t.feller f0).mask 2).toNat = 1 := ⟨_, rfl, by decide +kernel⟩
/-- R189: the sum of int8 lanes is signed and exact. -/
theorem test_reduce : ∃ t, exec (.vecSum f0 4 1 1 .i8) (laned (0xFF + 0xFE * 2 ^ 16) 0) = .next t ∧ t.scalar f0 4 = -3 := ⟨_, rfl, by decide +kernel⟩
/-- Sixteen lines end at 16 MiB, and one line further they do not. -/
theorem witness_VectorLoadsAndStores : (∀ k, k < 16 → ((laned 0 0).setScalar f0 3 16776192 |>.scalar f0 3).toNat + 64 * k + 64 ≤ 16777216)
    ∧ ∃ k, k < 16 ∧ 16777216 < (((laned 0 0).setScalar f0 3 16776193).scalar f0 3 + BitVec.ofNat 64 (64 * k) * 1).toNat + 64 :=
  ⟨by decide +kernel, 15, by decide, by decide +kernel⟩

/-! ## Links -/

/-- Port 0 of stand 0, with its link up. -/
def p0 : PortId := .stand 0 0
def linked : State := having [(skStatus_linkUp, 0, 1)]
/-- A whole flit on a channel. -/
def flitOf (type channel hops : Nat) (bs : List Byte) : Flit := (mkFlit type channel true false 0 1 2 0 0 hops 9 0 0 bs).sealed

/-- A deck write of one line to line 4 that adds to counter 6: first 4, one line, counter valid (R193). -/
def deckFlit : Flit := flitOf 1 0 0 (bytesLE 8 (4 + 2 ^ 18 + 6 * 2 ^ 20 + 2 ^ 26) ++ [0xAB])

theorem witness_FlitsWriteMemories : Accepts linked p0 0 deckFlit ∧ deckFlit.hopsLeft = 0 ∧ linked.decks.wf = true ∧ linked.lockstep = false ∧ deckFlit.type = 1
    ∧ deckFlit.payload.toNat % 2 ^ 18 = 4 ∧ deckFlit.payload.toNat / 2 ^ 18 % 4 = 1
    ∧ (262143 + 1 : Nat) ≤ 262144
    ∧ Accepts linked p0 0 (flitOf 5 0 0 []) ∧ 64 * (262143 : BitVec 18).toNat + 64 ≤ 16777216
    ∧ (let s := having [(skStatus_linkUp, 336, 1)]
       Accepts s (.landing 0 0) 0 (flitOf 6 0 0 []) ∧ s.hbm.wf = true ∧ (24 * 2 ^ 36 - 240) + 240 ≤ 24 * 2 ^ 36
       ∧ Accepts s (.landing 0 0) 0 (flitOf 4 0 0 [])) := by
  unfold Accepts; decide +kernel
/-- R193: the line and the counter of the grove that the header names. -/
theorem test_deck_flit : ∃ t, exec (.deckWriteFlit p0 deckFlit) linked = .next t ∧ t.deckRead ⟨0, 1⟩ 256 2 = [0xAB, 0] ∧ t.counter ⟨0, 1⟩ 6 = 1
    ∧ t.out = [.credit p0 0] := ⟨_, rfl, by decide +kernel⟩
/-- A receive of transfer 9 that waits for two elements. -/
def receive0 (n : Nat) : Receive := { item := { desc := desc 2 2 (9 * 2 ^ 184 + 2 ^ 10) }, left := n }
/-- One partial sum with the value 5 for accumulator 3. -/
def sumFlit : Flit := flitOf 2 0 0 (bytesLE 4 3 ++ [1, 0, 0, 0] ++ bytesLE 6 5)

theorem witness_PartialSumsAdd : Accepts linked p0 0 sumFlit ∧ sumFlit.hopsLeft = 0 ∧ sumFlit.type = 2 ∧ (partialElems sumFlit).length = 1
    ∧ ((linked.setGrove ⟨0, 1⟩ { receives := [receive0 2] }).grove ⟨0, 1⟩).receiveOf 0 9 = some (receive0 2)
    ∧ linked.isFelled ⟨0, 1⟩ (receive0 2).item.desc = false ∧ ((linked.grove ⟨0, 1⟩).receiveOf 0 9) = none ∧ sumFlit.imageTag = 0 ∧ sumFlit.transferId = 9 := by
  unfold Accepts; decide +kernel
theorem test_partial_sum : ∃ t, exec (.partialSumFlit p0 sumFlit) (linked.setGrove ⟨0, 1⟩ { receives := [receive0 1] }) = .next t ∧ t.acc ⟨0, 1⟩ 3 = 5
    ∧ (t.grove ⟨0, 1⟩).receives = [] := ⟨_, rfl, by decide +kernel⟩
/-- A relay entry of stand 0 takes transfer 9 of port 0 to port 1. -/
def relaying : State := (((linked.putAt skRelay_creditShare 0 7 1).putAt skRelay_inPort 0 7 0).putAt skRelay_transferId 0 7 9).putAt skRelay_outPort 0 7 1
theorem witness_RelaysForwardOrDrop : Accepts relaying p0 0 (flitOf 1 0 2 []) ∧ (flitOf 1 0 2 []).hopsLeft ≠ 0 ∧ relaying.relayEntry 0 0 (flitOf 1 0 2 []) = some 7
    ∧ linked.relayEntry 0 0 (flitOf 1 0 2 []) = none ∧ Accepts linked p0 0 (flitOf 1 0 2 []) := by
  unfold Accepts; decide +kernel
/-- A flit that waits for port 0 (R35). -/
def waiting0 : Waiting := { flit := flitOf 1 0 0 [], arg := .plain }
theorem witness_CreditsAndTransmission : let s := linked.setPort p0 { chans := [(0, { waiting := [waiting0] })] }
    s.linkUp p0 = true ∧ 0 < (also s [(skCredit_dataCredits, 0, 1)]).get (creditField 0) p0.num ∧ s.nextWaiting p0 0 = some waiting0 ∧ waiting0.held = none
    ∧ s.get skFaultInj_mode p0.num = 0 ∧ (s.port p0).swapHeld = none := by decide +kernel
theorem witness_RetryAndDiagnosis : Accepts linked p0 2 (flitOf 8 2 0 []) ∧ (flitOf 8 2 0 []).type = 8 := by
  unfold Accepts; decide +kernel
theorem witness_LaneSparing : let s := linked
    s.on skSpareCtrl_autoSpareEn 0 = true ∧ (s.port p0).spareRx = none ∧ (255 : Fin 512).val < lanesOf p0
    ∧ s.freeSpares p0 .skSpareMapRx = (0 : Fin 32).val :: (s.freeSpares p0 .skSpareMapRx).tail
    ∧ (let r := s.setPort p0 { spareRx := some (255, 0) }
       (r.port p0).spareRx = some (255, 0) ∧ r.on skStatus_retryActive p0.num = false ∧ (r.port p0).sparesDue = [])
    ∧ ((s.setPort p0 { spareTx := some (255, 0) }).port p0).spareTx = some (255, 0) := by decide +kernel
theorem witness_ForcedSparing : (∀ k, (((linked.setPort p0 { diagnosis := true }).port p0).chan k).discards = false)
    ∧ ((linked.setPort p0 { diagnosis := true }).port p0).diagnosis = true
    ∧ (0x800002FF : BitVec 32).toNat / 2 ^ 31 = 1 ∧ (0x800002FF : BitVec 32).toNat / 2 ^ 9 % 2 = 1 ∧ (0x800002FF : BitVec 32).toNat % 512 < lanesOf p0
    ∧ ({ linked with service := .test } : State).service = .test ∧ linked.service ≠ .test := by decide +kernel
/-- R38: a spare that has been agreed is recorded with its valid bit. -/
theorem test_spare : ∃ t, exec (.spareConfirm p0 255 0) (linked.setPort p0 { spareTx := some (255, 0) }) = .next t
    ∧ t.reg ⟨.skSpareMapTx, 0, 0, 0⟩ = 0x800000FF := ⟨_, rfl, by decide +kernel⟩

/-! ## Haul road, barriers, lockstep grid -/

/-- A road word of a kind. -/
def word (kind : Nat) (ok : Bool) (content : BitVec 448) : HrWord := ⟨kind, 0, 0, 3, 5, ok, content⟩
/-- Stand 0 is on. -/
def stand0 : State := having [(pwStandStatus_standPower, 0, 2)]

theorem witness_HaulRoad : (word 0 true 0).kind = 0 ∧ (word 3 true 0).kind = 3 ∧ (word 4 true 0).kind = 4 ∧ (word 5 true 0).kind = 5
    ∧ State.reset.road.slot = 0 ∧ (511 : Nat) ∉ [0, 32, 64, 96, 128, 160, 192, 224, 256, 288, 320, 352, 384, 416, 448, 480] := by decide +kernel
theorem witness_WordsTaken : stand0.get pwStandStatus_standPower 0 ≠ 0 ∧ stand0.on hrStatus_tree 0 = false ∧ (word 4 true 7).crcOk = true
    ∧ ((word 4 true 7).frame, (word 4 true 7).slot) ∉ (stand0.road' 0).taken ∧ (word 4 false 7).crcOk = false := by decide +kernel
/-- R46: the delay of the selected tree counts in 0.25 ns. -/
theorem test_tally_beacon : ∃ t, exec (.tallyBeacon 0 0 1000) (also stand0 [(hrDelay_primary, 0, 40)]) = .next t ∧ (t.road' 0).tally = 1010 := ⟨_, rfl, by decide +kernel⟩
theorem witness_TallyFollowsBeacons : stand0.get hrStatus_tree 0 = (0 : Fin 2).val
    ∧ (let s := { stand0 with roads := [(0, { missed := 2 })] }; 2 ≤ (s.road' 0).missed ∧ (s.road' 0).kept = [])
    ∧ (let s := also stand0 [(hrStatus_primaryOk, 0, 0), (hrStatus_secondaryOk, 0, 0)]
       s.on hrStatus_primaryOk 0 = false ∧ s.on hrStatus_secondaryOk 0 = false ∧ s.get pwStandStatus_standPower 0 ≠ 0) := by decide +kernel
/-- A barrier of two stands at which one has arrived. -/
def barrier0 : Barrier := { parts := [.stand 0, .stand 1], arrived := [.stand 0], xmax := some 4 }
theorem witness_Barriers : let s := { stand0 with barriers := [(9, barrier0)] }
    Participant.stand 1 ∈ (s.barrier 9).parts ∧ Participant.stand 1 ∉ (s.barrier 9).arrived ∧ Participant.stand 0 ∈ (s.barrier 9).arrived
    ∧ Participant.stand 0 ∉ (s.barrier 9).released
    ∧ (let r : State := { s with road := { slot := 96, barriers := [releaseWord 9 4] } }
       r.road.slot = 96 ∧ r.road.barriers = releaseWord 9 4 :: [] ∧ (9 : Nat) < 2 ^ 64 ∧ tblFind r.barriers 9 = some barrier0)
    ∧ (let r : State := { s with barriers := [(9, { barrier0 with release := some 240 })] }
       (r.barrier 9).release = some 240 ∧ Participant.stand 0 ∈ (r.barrier 9).parts ∧ Participant.stand 0 ∉ (r.barrier 9).released
       ∧ (∃ p ∈ (r.barrier 9).parts, p ∉ (r.barrier 9).released ∧ p ≠ .stand 0)) := by decide +kernel
/-- R47, R159: the last arrival carries the largest value into the release word. -/
theorem test_barrier : ∃ t, exec (.barrierArrival 9 (.stand 1) 2) { stand0 with barriers := [(9, barrier0)] } = .next t
    ∧ t.road.barriers = [releaseWord 9 4] := ⟨_, rfl, by decide +kernel⟩
theorem witness_LockstepGrid : let s : State := { stand0 with lockstep := true, period := 8, roads := [(0, { tally := 100, announced := 1024 })] }
    s.lockstep = true ∧ 0 < s.period ∧ s.get pwStandStatus_standPower 0 ≠ 0 ∧ (s.road' 0).tally < (s.road' 0).announced ∧ (∀ j, (s.grove ⟨0, j⟩).due = [])
    ∧ (let a : DueAct := { ctr := some 5, due := 2048 }
       let r := s.setGrove g0 { due := [a] }
       (r.grove g0).due[0]? = some a ∧ a.late = false ∧ a.ctr = some (5 : Fin 64).val) := by decide +kernel

/-! ## Weight tiles -/

/-- A dispatch entry of kind 0 for tile 0 of this stand and grove, logical tier 0, and the tier active. -/
def armed (fs : List (Fld × Nat × Nat)) (stage : Nat) (qs : List QItem) : State :=
  (also (queued stage qs) ([(tlTileStatus_activeValid, 0, 1)] ++ fs)).setDispatch g0 0 (BitVec.ofNat 64 (2 ^ 63))
/-- One vector at line 0, floor −127, the accumulators from 0 on. -/
def mvm0 (op : Nat) : QItem := item 1 op (129 * 2 ^ 177)
def mvmState (op : Nat) : State := ((armed [] 1 [mvm0 op]).deckWrite g0 4 [1]).setTile t0 { latch := { mode := 2 }, tiers := [(0, { latch := { mode := 2 } })] }

theorem witness_MvmsAddExactDotProducts : (mvmState 0).lockstep = false ∧ env0.errors = [] ∧ Ready (mvmState 0) g0 1 0 65 (mvm0 0) []
    ∧ Ready (mvmState 1) g0 1 1 50 (mvm0 1) [] ∧ ((mvmState 1).tile t0).latch.reverseOk = true := by
  unfold Ready; decide +kernel
theorem block_exponent (s : State) (g : GroveId) (d : Descriptor) (l : Latch) (e v : Nat) : ∀ b ∈ inputBlocks s g d l e v, (-127 : Int) ≤ b.x := by
  intro b hb
  simp only [inputBlocks, State.readBlocks, List.mem_map] at hb
  obtain ⟨k, _, rfl⟩ := hb
  simp only [parseXi]
  omega
theorem witness_MvmOnActiveTier_0 : MvmOnActiveTier (mvmState 0) g0 (mvm0 0).desc t0 0 (-127) 1024 := by
  have h : ∀ n, n < 16 → (mvmState 0).getAt gvShadow_arm g0.num n ≠ 1 := by decide +kernel
  unfold MvmOnActiveTier
  exact ⟨by decide +kernel, by decide +kernel, by decide +kernel, by decide +kernel, by decide +kernel, fun n hn e => absurd e (h n hn), by decide +kernel,
    by decide +kernel, by decide +kernel, by decide +kernel, by decide +kernel, by decide +kernel, by decide +kernel,
    fun v b _ hb _ => block_exponent (mvmState 0) g0 (mvm0 0).desc ((mvmState 0).tile t0).latch 1024 v b hb, by decide +kernel⟩
theorem witness_MvmOnActiveTier_1 : MvmOnActiveTier (mvmState 1) g0 (mvm0 1).desc t0 0 (-127) 512 := by
  have h : ∀ n, n < 16 → (mvmState 1).getAt gvShadow_arm g0.num n ≠ 1 := by decide +kernel
  unfold MvmOnActiveTier
  exact ⟨by decide +kernel, by decide +kernel, by decide +kernel, by decide +kernel, by decide +kernel, fun n hn e => absurd e (h n hn), by decide +kernel,
    by decide +kernel, by decide +kernel, by decide +kernel, by decide +kernel, by decide +kernel, by decide +kernel,
    fun v b _ hb _ => block_exponent (mvmState 1) g0 (mvm0 1).desc ((mvmState 1).tile t0).latch 512 v b hb, by decide +kernel⟩
/-- R62, R65: an input digit of 1 on a row of cells of code 0, weight −8, adds −8. -/
theorem test_mvm : blockPartial {} {} ⟨some (-127), [⟨1, [0], []⟩]⟩ 0 = -8 := by decide +kernel

/-- Grove 0 is on. -/
def on0 : State := queued 8 []
theorem witness_Calibration : on0.groveOn t0.groveId = true ∧ (armed [] 8 []).on tlTileStatus_activeValid t0.num = true
    ∧ (armed [] 8 []).get tlCtrl_calLimit t0.groveId.num * 1024 < ((0x7FFF : BitVec 16).toInt - signed 16 ((armed [] 8 []).get tlCal_factoryTrim t0.num)).natAbs * 1000 := by
  decide +kernel
/-- R81: a calibration takes the trim and, this far from the factory's, sets cal_drift. -/
theorem test_calibration : ∃ t, exec (.calibrationSlot t0 0x7FFF) (armed [] 8 []) = .next t ∧ t.get tlCal_gainTrim 0 = 0x7FFF ∧ t.on tlEvent_calDrift 0 = true :=
  ⟨_, rfl, by decide +kernel⟩
/-- The highest image address of a LOAD that HBM still holds, and rotations that run or do not. -/
theorem witness_RotationsStart : (0x8000000000000000 : BitVec 64).toNat / 2 ^ 63 = 1 ∧ (0x8000000000000000 : BitVec 64).toNat / 2 ^ 60 % 8 = 0
    ∧ (0x9000000000000000 : BitVec 64).toNat / 2 ^ 60 % 8 = 1 ∧ (0xA000000000000000 : BitVec 64).toNat / 2 ^ 60 % 8 = 2
    ∧ 256 * ((24 * 2 ^ 36 - 262656) / 256) + 262656 ≤ hbmBytes
    ∧ on0.canRotate t0 0 = true ∧ on0.rotationsIn t0.groveId < on0.get tlUpkeepCtrl_maxRotations t0.groveId.num
    ∧ (on0.setTile t0 { rotation := some {} }).canRotate t0 0 = false
    ∧ (let s := also on0 [(tlUpkeepCtrl_maxRotations, 0, 0)]; s.get tlUpkeepCtrl_maxRotations 0 ≤ s.rotationsIn g0) := by decide +kernel
theorem test_rotation : ∃ t, exec (.tlRotateCopy t0 0x8300000000000000) on0 = .next t ∧ (t.tile t0).rotation.map (fun r => r.logical) = some 3
    ∧ t.get tlTileStatus_rotationState 0 = 1 := ⟨_, rfl, by decide +kernel⟩
/-- A rotation that writes, verifies, and is at its last slice. -/
def rotating (r : Rotation) (st : Nat) : State := (also on0 [(tlTileStatus_rotationState, 0, st)]).setTile t0 { rotation := some r }
theorem witness_RotationSlices : let r : Rotation := { kind := .copy, rowRead := true, row := 1022 }
    ((rotating r 1).tile t0).rotation = some r ∧ (rotating r 1).sliceStarts t0 45 = true ∧ (rotating r 1).get tlTileStatus_rotationState 0 = 1
    ∧ (24 : Nat) ≤ min (16 + min 8 ((rotating r 1).get tlCtrl_slicePairs 0)) 24 ∧ r.row + 1 < 1024
    ∧ (rotating { r with row := 1023, rowRead := false } 1).sliceStarts t0 61 = true ∧ (rotating { row := 14 } 2).get tlTileStatus_rotationState 0 = 2
    ∧ (let s : State := { rotating { kind := .load, row := 15 } 2 with
          images := [(1, { file := { img0 with tiers := [⟨0, 0, 0, 0, 0, [], 0, 0, 0⟩] }, state := 2, place := [0] })] }
       s.inService (s.ownerOf t0 0) = true) := by decide +kernel
/-- A copy of logical tier 2 that is ready to land; its physical tier is 2 and the rotation tier 16. -/
def landing0 (fs : List (Fld × Nat × Nat)) : State :=
  (also (armed fs 8 []) [(tlTileStatus_rotationState, 0, 3)]).setTile t0 { rotation := some { kind := .copy, logical := 2 }, tiers := [(16, { programCount := 1 })] }
theorem witness_SwapsLand : let s := landing0 []; let a := landing0 [(tlTileStatus_activeLogical, 0, 2)]
    (s.tile t0).rotation = some { kind := .copy, logical := 2 } ∧ s.get tlTileStatus_rotationState 0 = 3 ∧ s.get tlTileStatus_rotationPhys 0 = 16
    ∧ s.physOf t0 2 = 2 ∧ (s.tier t0 2).programCount < 500000 ∧ s.get tlTileStatus_activeLogical 0 ≠ 2
    ∧ a.on tlTileStatus_activeValid 0 = true ∧ a.get tlTileStatus_activeLogical 0 = 2 ∧ 0 < (a.tier t0 16).programCount ∧ env0.latchFails = 0 ∧ env0.trim = none := by
  decide +kernel
theorem test_swap : ∃ t, exec (.swapLand t0) (landing0 []) = .next t ∧ t.physOf t0 2 = 16 ∧ t.physOf t0 3 = 3 ∧ t.get tlTileStatus_rotationPhys 0 = 2 :=
  ⟨_, rfl, by decide +kernel⟩
/-- A cruise of physical tier 3, at its last slice. -/
def cruising (c : Cruise) : State := on0.setTile t0 { cruise := some c }
theorem witness_CruisesRun : (0x80000010 : BitVec 32).toNat / 2 ^ 31 = 1 ∧ on0.on tlUpkeepCtrl_cruiseEn 0 = true ∧ on0.groveOn t0.groveId = true
    ∧ (on0.tile t0).cruise = none ∧ on0.logicalOf t0 15 = some 15 ∧ ((cruising {}).tile t0).cruise ≠ none ∧ on0.rotationAsked t0 15 = false
    ∧ (armed [(tlTileStatus_activePhys, 0, 3)] 8 []).on tlTileStatus_activeValid 0 = true ∧ (armed [(tlTileStatus_activePhys, 0, 3)] 8 []).get tlTileStatus_activePhys 0 = 3
    ∧ (let c : Cruise := { phys := 3, slice := 15, priority := true, mvms := 4096 }
       let s := cruising c
       (s.tile t0).cruise = some c ∧ s.logicalOf t0 c.phys = some 3 ∧ s.sliceStarts t0 61 = true ∧ c.slice = 15 ∧ max c.maxRes 4 ≤ 4 ∧ max c.maxE 6 ≤ 6 ∧ s.service ≠ .survey
       ∧ s.lockstep = false ∧ s.on tlUpkeepCtrl_forcedSliceEn 0 = true ∧ max 1 (s.get tlUpkeepCtrl_forcedSliceGap 0) ≤ c.mvms) := by decide +kernel
theorem test_cruise : ∃ t, exec (.cruiseSlice t0 ⟨4, 0, 6, [], false⟩) (cruising { phys := 3, slice := 15 }) = .next t ∧ t.on tlUpkeepEvent_cruiseDone 0 = true
    ∧ t.get tlCruiseResult_maxResidual 0 = 4 := ⟨_, rfl, by decide +kernel⟩
theorem witness_DriftClocks : let s := stand0.setTile t0 { tiers := [(0, { programCount := 1 })] }
    s.get pwStandStatus_standPower 0 ≠ 0 ∧ s.tiles.filter (fun e => e.1 = t0) = [(t0, { tiers := [(0, { programCount := 1 })] })] ∧ s.tierState t0 0 = 1
    ∧ 0 < (s.tier t0 0).programCount := by decide +kernel
theorem witness_Monitoring : (1 : BitVec 32).toNat % 2 = 1 ∧ (also on0 [(tlUpkeepCtrl_monEn, 0, 1)]).on tlUpkeepCtrl_monEn 0 = true
    ∧ ((on0.setGrove g0 { monitor := some {} }).grove g0).monitor = some {} ∧ on0.hbm.wf = true
    ∧ 256 * on0.get tlMonDest_addr 0 + 73728 ≤ hbmBytes ∧ hbmBytes < 256 * (also on0 [(tlMonDest_addr, 0, 2 ^ 40)]).get tlMonDest_addr 0 + 73728
    ∧ ({ on0 with service := .serving } : State).service ≠ .off := by decide +kernel
/-- R95, R113: with its tier moved, a tile without a rotation tier has one again, for its other 15 logical tiers. -/
theorem test_remap_frees : let s : State := { (also on0 [(tlTileStatus_rotationState, 1, 4), (tlTileStatus_rotationState, 0, 5), (tlTileStatus_retiredCount, 0, 1)]).setTile ⟨0, 0, 1⟩
        { rotation := some { kind := .load } } with remaps := [{ owner := t0, src := t0, dst := ⟨0, 0, 1⟩ }] }
    s.canRotate t0 1 = false ∧ ∃ t, exec (.remapSwitch g0 0) s = .next t ∧ t.canRotate t0 1 = true ∧ t.canRotate t0 0 = false ∧ t.ownerOf ⟨0, 0, 1⟩ 0 = t0 :=
  ⟨by decide +kernel, _, rfl, by decide +kernel⟩
theorem witness_RotationsRemaps : let r : RotRequest := { tile := t0 }
    (let s : State := { on0 with rotWait := [r] }; s.groveOn g0 = true ∧ s.rotationsIn g0 < s.get tlUpkeepCtrl_maxRotations 0 ∧ s.nextRotation g0 = some r)
    ∧ (let m : Remap := { owner := t0, src := t0, dst := ⟨0, 0, 1⟩ }
       let s : State := { also on0 [(tlTileStatus_rotationState, 1, 4)] with remaps := [m] }
       s.remaps.find? (fun r => decide (r.owner.groveId = g0) && r.entry == (0 : Fin 32768).val && !r.done) = some m ∧ m.digital = false ∧ s.get tlTileStatus_rotationState m.dst.num = 4)
    ∧ (let s : State := { also on0 [(pwGroveFault_stuckOpen, 0, 1)] with reserve := [41] }
       s.handover = none ∧ 983 < s.retiredTiles 0 ∧ (0 : Fin 42).val ∉ s.reserve ∧ s.reserve = 41 :: []) := by decide +kernel

/-! ## Stages of a grove -/

/-- Each stage operation at the head of its queue, with its cost (R163, R208). -/
theorem witness_Ready : (∀ p ∈ [(0, 0, 300), (2, 0, 400), (2, 1, 400), (2, 2, 400), (2, 3, 400), (3, 0, 300), (4, 0, 120), (5, 0, 300), (6, 0, 300), (6, 1, 300),
      (7, 0, 300), (7, 1, 300), (7, 2, 300), (7, 3, 300), (7, 4, 300), (8, 0, 300), (8, 1, 300)],
    Ready (queued p.1 [item p.1 p.2.1 (p.2.1 * 2 ^ 164)]) g0 p.1 p.2.1 p.2.2 (item p.1 p.2.1 (p.2.1 * 2 ^ 164)) []) ∧ (queued 8 []).decks.wf = true ∧ (queued 8 []).hbm.wf = true := by
  unfold Ready; decide +kernel
/-- R192: a fill of two lines from line 9, and a copy of the last two lines of the deck. -/
theorem test_deck : (∃ t, exec (.deckFill g0) ((queued 8 [item 8 0 (4 * 2 ^ 128 + 2 ^ 146 + 9 * 2 ^ 164)]).deckWrite g0 576 [7]) = .next t
      ∧ t.deckRead g0 256 1 = [7] ∧ t.deckRead g0 320 1 = [7] ∧ t.deckRead g0 384 1 = [0])
    ∧ (∃ t, exec (.deckCopy g0) ((queued 8 [item 8 1 (2 ^ 146 + 262142 * 2 ^ 164)]).deckWrite g0 16777152 [7]) = .next t ∧ t.deckRead g0 64 1 = [7]) :=
  ⟨⟨_, rfl, by decide +kernel⟩, ⟨_, rfl, by decide +kernel⟩⟩
theorem witness_LockstepCompletion : let q : QItem := { item 8 0 0 with goAt := some 1024 }
    let s : State := { queued 8 [q] with lockstep := true, period := 8 }
    s.lockstep = true ∧ 0 < s.period ∧ q.goAt = some 1024 ∧ Ready s g0 8 0 300 q [] := by unfold Ready; decide +kernel
/-- R233: a fill of one line, 41.8 ns, is due one period of 1,024 ns after its start. -/
theorem test_lockstep : ∃ t, exec (.deckFill g0) { queued 8 [{ item 8 0 0 with goAt := some 1024 }] with lockstep := true, period := 8 } = .next t
    ∧ (t.grove g0).due.map (fun a => (a.ctr, a.due)) = [(some 5, 2048)] := ⟨_, rfl, by decide +kernel⟩
/-- R174: an accumulator of −2 is stored as 16 bytes; R133: clearing wraps past the last accumulator. -/
theorem test_acc : (∃ t, exec (.accStore g0) ((queued 2 [item 2 3 (7 * 2 ^ 128)]).setGrove g0 { queues := [(2, [item 2 3 (7 * 2 ^ 128)])], acc := [(7, -2)] }) = .next t
      ∧ t.deckRead g0 0 16 = 0xFE :: List.replicate 15 0xFF)
    ∧ (∃ t, exec (.accClear g0) ((queued 2 []).setGrove g0 { queues := [(2, [item 2 0 (16383 * 2 ^ 128 + 2 ^ 142)])], acc := [(0, 5), (1, 6)] }) = .next t
      ∧ t.acc g0 0 = 0 ∧ t.acc g0 1 = 6) := ⟨⟨_, rfl, by decide +kernel⟩, ⟨_, rfl, by decide +kernel⟩⟩
/-- A transfer from stand 0 to its neighbour over a live link (R41). -/
def toNeighbour : Nat := (portInfo 0 0).2.1
theorem witness_Transfers : toNeighbour ≠ 0 ∧ (also (queued 2 []) [(skStatus_linkUp, 0, 1)]).routeTo 0 toNeighbour 0 0 = some (0, 0)
    ∧ fieldOf (item 2 1 (toNeighbour * 2 ^ 174)).desc 174 179 ≠ g0.stand.val ∧ fieldOf (item 7 2 (toNeighbour * 2 ^ 162)).desc 162 167 ≠ g0.stand.val
    ∧ Ready (also (queued 2 [item 2 1 (toNeighbour * 2 ^ 174)]) [(skStatus_linkUp, 0, 1)]) g0 2 1 400 (item 2 1 (toNeighbour * 2 ^ 174)) []
    ∧ Ready (also (queued 7 [item 7 2 (toNeighbour * 2 ^ 162)]) [(skStatus_linkUp, 0, 1)]) g0 7 2 300 (item 7 2 (toNeighbour * 2 ^ 162)) []
    ∧ fieldOf (item 7 2 0).desc 162 167 = g0.stand.val := by unfold Ready; decide +kernel
/-- R195: the last line of HBM is read, and the one behind it is not there. -/
theorem witness_YarderMovesHbm : 64 * fieldOf (item 7 0 ((24 * 2 ^ 30 - 1) * 2 ^ 162)).desc 162 203 + 64 = hbmBytes
    ∧ hbmBytes < 64 * fieldOf (item 7 0 ((24 * 2 ^ 30) * 2 ^ 162)).desc 162 203 + 64
    ∧ Ready (queued 7 [item 7 0 ((24 * 2 ^ 30) * 2 ^ 162)]) g0 7 0 300 (item 7 0 ((24 * 2 ^ 30) * 2 ^ 162)) [] := by unfold Ready; decide +kernel
theorem test_yarder : ∃ t, exec (.yarderHbmToDeck g0) ({ queued 7 [item 7 0 (2 * 2 ^ 128 + 3 * 2 ^ 162)] with hbm := [⟨192, 9⟩] }) = .next t
    ∧ t.deckRead g0 128 2 = [9, 0] := ⟨_, rfl, by decide +kernel⟩
/-- A layer of one KV head with two dim blocks, and a sequence with its K page at deck page 1 of its grove. -/
def layer0 : LayerRec := ⟨0, 0, 0, 1, 0, 1, 2, 1, [], []⟩
def kvState (qs : List QItem) : State :=
  { queued 7 qs with
    images := [(1, { file := { img0 with layerTable := [layer0] }, state := 2, place := [0] })]
    seqs := [(0, { entry := { seq0 with state := 3, imageTag := 1, maxLen := 4, length := 4, pageList := 4096 } })]
    hbm := [⟨4100, 1⟩, ⟨4103, 0x80⟩], decks := [⟨65536, 0xCC⟩] }
def gather0 : QItem := item 7 3 (2 ^ 112)
theorem witness_KvGather : let s := kvState [gather0]
    s.lockstep = false ∧ s.decks.wf = true ∧ Ready s g0 7 3 300 gather0 [] ∧ descTag gather0.desc = (s.seq 0).entry.imageTag
    ∧ linesIn 0 (1 * (rowBytes (s.layerRec gather0.desc) / 64)) = true ∧ (∀ e ∈ (s.grove g0).xlate, e.1 = 0 → e.2.2.toNat = s.pageEntry 0 e.2.1)
    ∧ ((upTo 1).mapM (fun k => s.kvRow 0 (descLayer gather0.desc) (bit gather0.desc.toNat 162) (fieldOf gather0.desc 163 182 + k))).isSome = true := by
  unfold Ready; decide +kernel
theorem test_gather : ∃ t, exec (.kvGather g0) (kvState [gather0]) = .next t ∧ t.deckRead g0 0 2 = [0xCC, 0] := ⟨_, rfl, by decide +kernel⟩
/-- One XI8 block of 64 bfloat16 zeros behind a one. -/
def scale0 : QItem := item 0 0 (16 * 2 ^ 146 + 2 ^ 164 + 0 * 2 ^ 172 + 2 ^ 176 + 129 * 2 ^ 178)
theorem witness_XiBlock : (∀ v ∈ [Ex.ofInt 0], v.num = 0) ∧ (∃ v ∈ [Ex.ofInt 1], v.num ≠ 0)
    ∧ (amax [Ex.ofInt 1]).log2 - (8 - 2 : Nat) = -6 ∧ (-127 : Int) + 37 < -6 ∧ (-6 : Int) ≤ -43 + 37 := by decide +kernel
/-- R130: 1 with floor −6 is the digit 64 with exponent code 121. -/
theorem test_xi : (match quantizeBlock 8 true false (-6) [Ex.ofInt 1, Ex.ofInt (-1)] with
    | .block h ds => h == 121 + 2 ^ 10 && ds == [64, -64]
    | _ => false) = true := by decide +kernel
theorem witness_StartBoundaries : (let s := { (queued 8 []) with regs := [] }; s.groveOn g0 = false)
    ∧ (let q := item 8 0 (2 ^ 8 + 7 * 2 ^ 48)
       let s := (queued 8 []).setGrove g0 { queues := [(8, [q])], felled := [7] }
       s.groveOn g0 = true ∧ s.heldOn 0 = false ∧ s.on pwStandStatus_elecThin 0 = false ∧ s.mayStart g0 q = true ∧ s.stopped g0 q.desc = false ∧ s.isFelled g0 q.desc = true)
    ∧ (let s := also (queued 8 [item 8 0 0]) [(pwMeter_meter, 0, 399701)]
       s.meterAllows 0 300 = false ∧ s.on pwStandStatus_meterThin 0 = false ∧ (also s [(pwMeter_meter, 0, 399700)]).meterAllows 0 300 = true) := by decide +kernel
theorem witness_StageUnits : let q := item 4 0 0
    let s := (also (queued 4 []) [(gvStatus_power, 1, 2), (gvCtrl_attnStealEn, 0, 1), (gvCtrl_stealMin, 0, 0)]).setGrove ⟨0, 1⟩ { queues := [(4, [q])] }
    s.on gvCtrl_attnStealEn 0 = true ∧ s.groveOn g0 = true ∧ (s.grove g0).queue 4 = [] ∧ descTag q.desc = s.get gvStatus_imageTag 0
    ∧ (probeOrder g0).find? (fun v => decide (s.get gvCtrl_stealMin g0.num < (((s.grove v).queue 4).filter (fun q => descTag q.desc = s.get gvStatus_imageTag 0)).length))
        = some ⟨0, 1⟩ ∧ (s.grove ⟨0, 1⟩).queue 4 = [] ++ q :: [] ∧ s.mayStart ⟨0, 1⟩ q = true ∧ s.meterAllows 0 120 = true ∧ s.isFelled g0 q.desc = false ∧ descOk q.desc = true := by
  decide +kernel

/-! ## Layer steps -/

def report0 (e : Int) : StepReport := ⟨key0, g0, some e, false, false, 7, 1⟩
theorem witness_Reports : on0.groveOn g0 = true ∧ (∀ e ∈ (on0.grove g0).events, e.key ≠ key0)
    ∧ on0.reportsOf g0 key0 = [] ∧ ([report0 4].filterMap (fun r => r.e)) = [4]
    ∧ (let s : State := { on0 with
         images := [(1, { file := { img0 with layerTable := List.replicate 4 layer0 }, state := 2, place := [0] })]
         seqs := [(2, { entry := { seq0 with state := 3, imageTag := 1, maxLen := 4, pageList := 4096 } })]
         hbm := [⟨4096, 1⟩, ⟨4099, 0x80⟩] }
       (s.normRecord key0.seq key0.layer).isSome = true) := by decide +kernel
theorem witness_Commits : tblFind ((on0.setGrove g0 { pendingE := [(key0, 2, 5)] }).grove g0).pendingE key0 = some (2, 5)
    ∧ (on0.setGrove g0 { reports := [(key0, [report0 4])] }).reportsOf g0 key0 ≠ [] := by decide +kernel
/-- R178: a commit advances the counter of the report and keeps the exponent. -/
theorem test_commit : ∃ t, exec (.commit g0 key0 7) (on0.setGrove g0 { pendingE := [(key0, 2, 5)] }) = .next t ∧ t.counter g0 7 = 1
    ∧ tblGet (t.grove g0).history (1, 2) [] = [5] := ⟨_, rfl, by decide +kernel⟩
theorem witness_ScaleEvents : key0.seq ∉ (on0.grove g0).felled ∧ (let s := on0.setGrove g0 { events := [{ key := key0, xnat := 3 }] }
       (s.grove g0).events.find? (fun e => decide (e.key = key0)) = some { key := key0, xnat := 3 } ∧ s.lockstep = false)
    ∧ (let d := desc 0 0 (2 ^ 8 + 2 * 2 ^ 48 + 3 * 2 ^ 64 + 4 * 2 ^ 80 + 2 ^ 112); descSeqValid d = true ∧ descKey d = key0) := by decide +kernel
/-- R154: the release raises the floor of an input-side replay to X_max − 37. -/
theorem test_replay : ∃ t, exec (.scaleEventRelease g0 key0 50) (on0.setGrove g0 { events := [{ key := key0, xnat := 3 }] }) = .next t
    ∧ t.raisedFloor g0 (desc 0 0 (2 ^ 8 + 2 * 2 ^ 48 + 3 * 2 ^ 64 + 4 * 2 ^ 80 + 2 ^ 112)) 0 = 13 := ⟨_, rfl, by decide +kernel⟩

/-! ## Power -/

/-- Stand 0 is on and draws nothing; band 0 is its row. -/
def row0 : List Nat := bandStands (standRow 0)
theorem witness_Limits : stand0.get pwMeter_meter 0 + 1 ≤ 1000 * stand0.get pwStandLimit_effective 0
    ∧ (∀ n ∈ row0, (stand0.power n).reserve = 0) ∧ (∀ n, n < 42 → (stand0.power n).reserve = 0 ∧ (stand0.power n).moduleCap = none)
    ∧ (let s := also stand0 ((upTo 42).map (fun n => (pwMeter_meter, n, 350001)))
       1000 * s.get pwModuleLimit_inForce 0 < ((upTo 42).map (fun n => s.get pwMeter_meter n)).sum
       ∧ 1000 * s.getAt pwBand_limit 0 0 < ((bandStands 0).map (fun n => s.get pwMeter_meter n)).sum)
    ∧ ((bandStands 0).map (fun n => stand0.get pwMeter_meter n)).sum < 900 * stand0.getAt pwBand_limit 0 0
    ∧ (also stand0 [(thStandStatus_heatFactor, 0, 75)]).get thStandStatus_heatFactor 0 ≠ 100
    ∧ stand0.get pwVlogCtrl_mode 0 = 0 ∧ stand0.get pwVlogCtrl_floor 0 ≤ stand0.get pwVlogCtrl_set 0 ∧ stand0.get pwVlogCtrl_set 0 ≤ stand0.get pwVlogCtrl_ceiling 0
    ∧ (65535 : Nat) < 65536 := by decide +kernel
/-- R434: at 100 °C the factor falls by 5 %. -/
theorem test_heat_factor : ∃ t, exec (.heatFactorStep 0) { also stand0 [(thStandStatus_heatFactor, 0, 75)] with sensors := [(0, 1600)] } = .next t
    ∧ t.get thStandStatus_heatFactor 0 = 70 := ⟨_, rfl, by decide +kernel⟩
/-- The feed limits of R410, and the states in which the feeds and the sensors end a run. -/
theorem witness_Feeds : ((37999 : Nat) < 38000 ∨ 60000 < 37999) ∧ (40000 : Nat) ≤ 40000 ∧ State.reset.events.enabled = false
    ∧ State.reset.on pwFeed_feedAOk 0 = false ∧ State.reset.on pwFeed_feedBOk 0 = false
    ∧ (let s : State := { State.reset with service := .serving, sensors := [(3, 1760)] }; s.service ≠ .off ∧ ∃ p ∈ s.sensors, 1760 ≤ p.2)
    ∧ (let s : State := { having [(thModStatus_inletTimer, 0, 1)] with sensors := [(368, 721)] }; 720 < s.inlet ∧ s.on thModStatus_inletTimer 0 = true)
    ∧ State.reset.get pwConverters_ok 0 / 2 ^ 17 % 2 = 1 ∧ 10 ≤ State.reset.get pwConverters_working 0 ∧ State.reset.get pwConverters_working 0 ≤ 18 := by decide +kernel
/-- R412: with 15 converters the module limit is 18,375 W, above the default setting of 14,000; with 12 it is 13,500. -/
theorem test_converters : (∃ t, exec (.converterLost 0) (having [(pwConverters_working, 0, 13)]) = .next t ∧ t.get pwModuleLimit_inForce 0 = 13500) :=
  ⟨_, rfl, by decide +kernel⟩
theorem witness_StandsGoDark : stand0.get pwStandStatus_standPower 0 ≠ 0 ∧ stand0.events.enabled = false
    ∧ stand0.getAt pwBand_segmentOpen 0 0 = 0 ∧ ({ stand0 with sensors := [(0, 1680)] } : State).hottest 0 ≥ 1680 := by decide +kernel
theorem witness_Phases : stand0.get (pwPhaseStatus_phase 17) 0 = 0 ∧ 11 ≤ (also stand0 [(pwStandStatus_phasesOk, 0, 11)]).get pwStandStatus_phasesOk 0
    ∧ (also stand0 [(pwStandStatus_phasesOk, 0, 11)]).get pwStandStatus_phasesOk 0 ≤ 18 ∧ (17 : Fin 18).val ∉ (stand0.power 0).shorting
    ∧ (17 : Fin 18).val ∈ ((stand0.setPower 0 { shorting := [17] }).power 0).shorting ∧ stand0.on pwStandStatus_breakerOpen 0 = false
    ∧ (let s := also stand0 [(pwStandStatus_breakerOpen, 0, 1), (pwBreaker_cause, 0, 1)]
       s.on pwStandStatus_breakerOpen 0 = true ∧ s.get pwBreaker_cause 0 ≠ 4 ∧ (s.power 0).retested = false ∧ (s.power 0).checkOk = false
       ∧ ((s.setPower 0 { checkOk := true }).power 0).checkOk = true)
    ∧ stand0.get (pwGroveHdr_cluster 0) 0 = 0 ∧ stand0.get pwGroveFault_stuckClosed 0 / 2 ^ 0 % 2 = 0 := by decide +kernel
/-- R420: with 15 phases the stand limit is 375 tokens. -/
theorem test_phase : ∃ t, exec (.phaseLost 0 3 false) (also stand0 [(pwStandStatus_phasesOk, 0, 16)]) = .next t ∧ t.get pwStandLimit_limit 0 = 375 := ⟨_, rfl, by decide +kernel⟩
/-- A stand that waits to wake. -/
def asleep : State := { State.reset with service := .serving, wakeWant := [0], protLocked := true }
theorem witness_StandsWake : asleep.mayWake 0 = true ∧ asleep.events.enabled = false ∧ asleep.get pwStandStatus_wake 0 ≠ 3
    ∧ (also asleep [(pwStandStatus_wake, 0, 3)]).get pwStandStatus_wake 0 = 3
    ∧ (∀ m ∈ row0, (asleep.power m).stages ≠ 0 ∨ (asleep.power m).reserve = 0)
    ∧ (row0.filter (fun m => (asleep.power m).stages ≠ 0)).length < max 1 (asleep.get pwWakeCtrl_wakeMax 0)
    ∧ row0.any (fun m => (asleep.power m).wakeCap.isSome && (asleep.power m).wakeFor == 0) = false ∧ asleep.nextGrove 0 0 = some 0
    ∧ asleep.meterSum row0 + 100000 ≤ 1000 * asleep.getAt pwBand_limit 0 (standRow 0) ∧ asleep.neighborAtPeak 0 = false
    ∧ (let s := asleep.putAt pwBand_limit 0 (standRow 0) 99
       s.meterSum row0 + 50000 ≤ 1000 * s.getAt pwBand_limit 0 (standRow 0) ∧ 1000 * s.getAt pwBand_limit 0 (standRow 0) < s.meterSum row0 + 100000)
    ∧ (let s := also (asleep.putAt pwBand_limit 0 (standRow 0) 49) [(pwWakeCtrl_thinForWakeEn, 0, 0)]
       1000 * s.getAt pwBand_limit 0 (standRow 0) < s.meterSum row0 + 50000 ∧ s.on pwWakeCtrl_thinForWakeEn 0 = false) := by decide +kernel
/-- R418: a wake with room takes 8 stages and reserves 100 tokens. -/
theorem test_wake : holds (exec (.wakeEvaluation 0) asleep) (fun t => (t.power 0).stages == 8 && (t.power 0).reserve == 100 && t.get pwStandStatus_standPower 0 == 1) = true := by
  decide +kernel
theorem witness_GroveWake : let s := stand0.setPower 0 { stages := 8, stage := 7, grove := 0 }
    (s.power 0).stages ≠ 0 ∧ (s.power 0).grove = 0 ∧ (s.power 0).stages ≤ (s.power 0).stage + 1 ∧ (s.power 0).tries = 0 ∧ s.nextGrove 0 1 = some 1
    ∧ s.get pwGroveFault_stuckOpen 0 / 2 ^ 0 % 2 = 0
    ∧ (let h : State := { also stand0 [(thStandStatus_heatOff, 0, 1)] with sensors := [(0, 1359), (1, 1359), (2, 1359), (3, 1359), (368, 640)] }
       h.on thStandStatus_heatOff 0 = true ∧ h.sensor 0 = some 1359 ∧ h.sensor 3 = some 1359 ∧ h.inlet ≤ 640 ∧ h.on pwStandStatus_segmentOpen 0 = false) := by decide +kernel
/-- An image on stand 0. -/
def image0 : Image := { file := { img0 with layerTable := [layer0] }, state := 2, place := [0] }
theorem witness_ImagesReturn : let x := { image0 with held := true }
    let s : State := { also on0 [(pwStandStatus_standPower, 0, 2)] with images := [(1, x)] }
    s.image 1 = some x ∧ x.held = true ∧ x.uncovered = false ∧ s.lockstep = false ∧ (∀ n ∈ x.place, s.standOn n = true ∧ s.programming n = false)
    ∧ (s.power 0).service = false
    ∧ (let r : State := ({ s with images := [] } : State).setPower 0 { returning := true }
       (r.power 0).returning = true ∧ r.standOn 0 = true ∧ r.returnCleared 0 = true) := by decide +kernel
theorem witness_Sensors : ({ State.reset with service := .serving } : State).service ≠ .off ∧ (-320 : Int) ≤ -320 ∧ (389 : Fin 390).val = 8 * 41 + 61
    ∧ (335 : Fin 390).val = 8 * (41 : Fin 42).val + (7 : Fin 8).val ∧ stand0.get thStandStatus_heatFactor 0 = 100 := by decide +kernel
/-- R430, R434: 100 °C at a junction thins the stand to 75 %. -/
theorem test_sensor : ∃ t, exec (.sensorSample 0 (some 1600)) { stand0 with service := .serving } = .next t ∧ t.get thStandStatus_heatFactor 0 = 75
    ∧ t.get pwStandLimit_effective 0 = 300 := ⟨_, rfl, by decide +kernel⟩

/-! ## Sequences -/

/-- An entry of image 1 with a prompt of 4 and a maximum of 8 positions, its three pages on a deck. -/
def entry0 : SeqEntry := { seq0 with state := 3, imageTag := 1, maxLen := 8, promptLen := 4, length := 4, filled := 4, pageList := 4096, tokensLeft := 4 }
def having' (x : Seq) : State :=
  { on0 with
    service := .serving
    images := [(1, image0)]
    seqs := [(0, x)]
    hbm := [⟨4096, 1⟩, ⟨4099, 0x80⟩, ⟨4100, 2⟩, ⟨4103, 0x80⟩, ⟨4104, 3⟩, ⟨4107, 0x80⟩] }
def decoding : State := having' { entry := entry0 }
def filling : Seq := { entry := { entry0 with state := 2, filled := 0, length := 0 }, tokens := [(0, 1), (1, 2), (2, 3), (3, 4)] }
/-- The same with no page mapped. -/
def unmapped (x : Seq) : State := { having' x with hbm := [] }

theorem witness_StepsEnterLayerZero : Alone decoding 0 ∧ Alone (having' filling) 0 ∧ (decoding.seq 0).entry.state = 3 ∧ entry0.length < entry0.maxLen
    ∧ decoding.covers 0 (4 + 1 + decoding.mapAhead 0) = true ∧ (having' filling).covers 0 (0 + 4 + decoding.mapAhead 0) = true
    ∧ (having' filling).arrived 0 0 4 = true ∧ entry0.partner = false ∧ entry0.variant = 0 ∧ decoding.variant 1 0 = none ∧ decoding.imageRuns 1 = true
    ∧ (decoding.seq 0).moving = false ∧ (decoding.seq 0).inFlight = none ∧ (decoding.seq 0).asked = none ∧ (decoding.seq 0).closing = none
    ∧ (decoding.seq 0).pathLeft = [] ∧ decoding.mirrors = false := by unfold Alone; decide +kernel
/-- R262: a decode step enters at position `length` and its re-entry counter takes 1. -/
theorem test_enter : holds (exec (.layer0Entry 0 g0 9) decoding) (fun t => (t.seq 0).inFlight == some { pos := 4, count := 1, entered := 0 } && t.counter g0 9 == 1) = true := by
  decide +kernel
theorem witness_PageWaits : let f : InFlight := { pos := 4, count := 1 }
    decoding.nextStep 0 = some f ∧ entry0.state ≠ 1
    ∧ (let s := also (unmapped { entry := entry0 }) [(sqCtrl_allocEn, 0, 0)]
       s.covers 0 (f.pos + f.count + s.mapAhead 0) = false ∧ s.runnableCount 0 f = 0 ∧ s.on sqCtrl_allocEn 0 = false ∧ Alone s 0)
    ∧ (let x : Seq := { entry := { entry0 with state := 4, pageWait := true }, cause := some .pageWait }
       ((having' x).seq 0).entry.state = 4 ∧ ((having' x).seq 0).cause = some .pageWait ∧ Alone (having' x) 0 ∧ (having' x).stepFor 0 false = some f
       ∧ (having' x).covers 0 (f.pos + f.count + (having' x).mapAhead 0) = true) := by unfold Alone; decide +kernel
theorem test_page_wait : holds (exec (.mapAhead 0) (also (unmapped { entry := entry0 }) [(sqCtrl_allocEn, 0, 0)]))
    (fun t => (t.seq 0).entry.state == 4 && t.on sqEvent_pageWait 0) = true := by decide +kernel
/-- A suspended sequence, a deck page that is free for its layer, and one HBM page of the pool. -/
def moving0 : State :=
  let x : Seq := { entry := { entry0 with state := 4 } }
  { having' x with images := [(1, { image0 with file := { img0 with layerTable := [{ layer0 with deckPages := [(0, 0, 255)] }] } })]
                   config := { State.reset.config with poolPages := [1, 0, 0, 0, 0, 0, 0, 0] } }
theorem witness_PagesMove : moving0.decks.wf = true ∧ moving0.hbm.wf = true ∧ (2 : Nat) < moving0.regionPages 0 ∧ tblFind (moving0.seq 0).freeing 1 = none
    ∧ moving0.takeDeckPage 1 (layerOfPage (moving0.layers 1) 8 1) = some (0, 0, 255) ∧ bits (moving0.pageEntry 0 1) 30 2 = 2
    ∧ moving0.placeOf (moving0.pageEntry 0 1) = some (.deck g0 131072)
    ∧ (upTo 8).findSome? (fun k => moving0.lowestFree ((0 + 1 + k) % 8)) = some (moving0.poolBase 0) ∧ moving0.poolBase 0 < 25165824
    ∧ moving0.inPool (moving0.poolBase 0) = true ∧ 4096 + 4 * 1 + 4 ≤ moving0.poolBase 0 * 65536
    ∧ (let s : State := { moving0 with hbm := [⟨4100, 0xFF⟩, ⟨4101, 0xFF⟩, ⟨4102, 0x2F⟩, ⟨4103, 0x40⟩] }
       bits (s.pageEntry 0 1) 30 2 = 1 ∧ (s.placeOf (s.pageEntry 0 1)).isSome = true)
    ∧ tblFind ((moving0.setSeq 0 { freeing := [(1, 2 ^ 31)] }).seq 0).freeing 1 = some (2 ^ 31)
    ∧ (let g : Grove := { xlate := [(0, 1, 0x80000000)] }
       ∃ e ∈ [(g0, g)], ∃ x ∈ e.2.xlate, x.1 = 0 ∧ x.2.1 = 1 ∧ x.2.2.toNat = 2 ^ 31) := by decide +kernel
theorem witness_StepsCommit : let x : Seq := { entry := entry0, inFlight := some { pos := 4, count := 1 } }
    let y : Seq := { filling with inFlight := some { pos := 0, count := 4, prefill := true } }
    let s := having' x; let r := having' y
    Alone s 0 ∧ Alone r 0 ∧ (s.seq 0).inFlight = some { pos := 4, count := 1 } ∧ s.felledAtLead 0 = false ∧ 0 < entry0.tokensLeft ∧ entry0.length < entry0.maxLen
    ∧ (r.seq 0).entry.state = 2 ∧ (r.seq 0).entry.adapt = false ∧ (r.seq 0).entry.promptLen ≤ 0 + 4 ∧ r.targetOf 0 = none
    ∧ (0 + 2 < (r.seq 0).entry.promptLen)
    ∧ (s.setGrove g0 { felled := [0] }).felledAtLead 0 = true := by unfold Alone; decide +kernel
theorem witness_SuspendResume : let x : Seq := { entry := entry0, asked := some .host }
    let y : Seq := { entry := { entry0 with state := 4 }, cause := some .preempted }
    ((having' x).seq 0).asked = some .host ∧ ((having' x).seq 0).inFlight = none ∧ Alone (having' y) 0 ∧ ((having' y).resumeOrder 1).head? = some 0
    ∧ (having' y).resumeFits 0 = true ∧ ((having' y).seq 0).cause = some .preempted := by unfold Alone; decide +kernel
theorem test_suspend : holds (exec (.suspensionLand 0) (having' { entry := entry0, asked := some .host })) (fun t => (t.seq 0).entry.state == 4 && (t.seq 0).cause == some .host) = true := by
  decide +kernel
/-- A variant that loads into pool tier 5 of tile 0. -/
def variant0 : Variant := { staged := [⟨0, ⟨0, 0, 0, 5, 0, [(0, 7)], 0, 0, 0⟩⟩], pool := [(0, 0, 0, 5)], loading := true, interval := 3 }
def withVariant (y : Variant) : State := { decoding with images := [(1, { image0 with variants := [(2, y)] })] }
theorem witness_Variants : (withVariant variant0).variant 1 2 = some variant0 ∧ (withVariant variant0).canRotate (poolTile (0, 0, 0, 5)) 5 = true
    ∧ (withVariant variant0).get tlTileStatus_rotationPhys 0 < 17 ∧ (withVariant variant0).physOf t0 5 < 17
    ∧ (withVariant variant0).get tlTileStatus_rotationPhys 0 ≠ (withVariant variant0).physOf t0 5
    ∧ (let y : Variant := { variant0 with loading := false, hot := true, armed := some 1 }
       let s := also (withVariant y) [(tlGen_armedValid, 0, 1), (tlGen_armedGen, 0, 1)]
       s.variant 1 2 = some y ∧ s.genReady 1 2 = true ∧ s.paired = false ∧ (∀ i ∈ s.seqsOf 1, (s.seq i).entry.variant = 2 → (s.seq i).inFlight = none))
    ∧ (let y : Variant := { variant0 with loading := false, hot := true, tokens := 3 }
       y.hot = true ∧ y.armed = none ∧ max 1 y.interval ≤ y.tokens ∧ y.pool.length = y.staged.length) := by decide +kernel
theorem test_variant : holds (exec (.variantLoad 1 2) (withVariant variant0)) (fun t => t.physOf t0 5 == 16 && (t.tier t0 16).rows == [(0, 7)]) = true := by decide +kernel

/-! ## Felling -/

theorem witness_Fellings : entry0.state ≠ 0 ∧ entry0.state ≠ 5 ∧ entry0.specMode = 0 ∧ stand0.get pwStandStatus_standPower 0 ≠ 0 ∧ ([0, 32767] : List Nat).length ≤ 24
    ∧ (let id : FellId := ⟨2, 7⟩
       let s : State := { also stand0 [(skStatus_linkUp, 0, 1)] with standFells := [(0, [(id, [0])])] }
       (tblGet s.standFells 0 []).find? (fun p => decide (p.1 = id)) = some (id, [0]) ∧ s.standBusyWith 0 [0] = false
       ∧ (s.setGrove g0 { queues := [(8, [item 8 0 (2 ^ 8)])] }).standBusyWith 0 [0] = true) := by decide +kernel
/-- R309, R310: a felling word names its entries, and the receiving stand marks them in every grove. -/
theorem test_felling : ∃ t, exec (.fellingWordReceive 0 (fellWordList 2 1 7 [5, 32767])) stand0 = .next t ∧ 32767 ∈ (t.grove ⟨0, 15⟩).felled ∧ 5 ∈ (t.grove g0).felled :=
  ⟨_, rfl, by decide +kernel⟩
/-- An acknowledgement that reaches landing 2. -/
def ackFlit : Flit := flitOf 7 1 0 []
theorem witness_FellingsComplete : let id : FellId := ⟨2, 7⟩
    let s : State := { having [(skStatus_linkUp, 342, 1), (pwStandStatus_standPower, 0, 2), (pwStandStatus_standPower, 1, 2)] with fellings := [(id, { entries := [0], acks := [1] })] }
    Accepts s (.landing 2 0) 1 ackFlit ∧ ackFlit.type = 7 ∧ tblFind s.fellings id = some { entries := [0], acks := [1] } ∧ (0 : Fin 42).val ∉ [1]
    ∧ (∀ m ∈ s.poweredStands, m ∈ [1] ++ [0]) ∧ (∃ m ∈ (also s [(pwStandStatus_standPower, 5, 2)]).poweredStands, m ∉ [1] ++ [0]) := by
  unfold Accepts; decide +kernel
theorem test_fell_ack : holds (exec (.fellingAckFlit (.landing 2 0) ackFlit ⟨2, 7⟩ 0)
    { having [(skStatus_linkUp, 342, 1), (pwStandStatus_standPower, 0, 2)] with fellings := [(⟨2, 7⟩, { entries := [0] })], seqs := [(0, { entry := { entry0 with state := 5 } })] })
    (fun t => (t.seq 0).entry.state == 0 && t.fellings == []) = true := by decide +kernel

/-! ## Daush -/

/-- A state in which function 0, with every right, has posted a request that has been taken. -/
def asked (s : State) (code : Nat) (body : List Byte) : State :=
  let s := also s [(mbStatus_state, 0, 1), (mbStatus_taken, 0, 1)]
  let s := { s with regs := tblSet s.regs ⟨.cpFuncRights, 0, 0, s.protBank⟩ (BitVec.ofNat 128 (2 ^ 24 + 2 ^ 10 + 0x3FF)) }
  s.setFunc 0 { exists_ := true, busMaster := true,
                copied := bytesLE 2 code ++ bytesLE 2 0 ++ bytesLE 2 0xFFFF ++ bytesLE 2 body.length ++ List.replicate 8 0 ++ body }
def req (code : Nat) (body : List Byte) : Request := ⟨0, code, 0xFFFF, body.length, body, 16 + body.length⟩
/-- A body of `n` bytes with some fields set: offset, length, value. -/
def bodyOf (n : Nat) (fs : List (Nat × Nat × Nat)) : List Byte :=
  fs.foldl (fun bs x => bs.take x.1 ++ bytesLE x.2.1 x.2.2 ++ bs.drop (x.1 + x.2.1)) (List.replicate n 0)

/-- Every command of Daush can be asked. -/
theorem witness_Asked : ∀ code ∈ [0x0101, 0x0102, 0x0103, 0x0104, 0x0105, 0x0106, 0x0201, 0x0202, 0x0203, 0x0204, 0x0205, 0x0301, 0x0302, 0x0303, 0x0304, 0x0305, 0x0306,
    0x0307, 0x0308, 0x0401, 0x0402, 0x0403, 0x0404, 0x0405, 0x0406, 0x0407, 0x0501, 0x0502, 0x0503, 0x0504, 0x0601, 0x0602, 0x0603, 0x0604, 0x0701, 0x0702, 0x0703, 0x0704,
    0x0801, 0x0802, 0x0803, 0x0804, 0x0901, 0x0902, 0x0903, 0x0904, 0x0905],
    let b := List.replicate ((commandLen code).getD 0) 0
    Asked (asked State.reset code b) 0 code (req code b) := by unfold Asked; decide +kernel
/-- The TEST commands, in the TEST state. -/
theorem witness_AskedTest : ∀ code ∈ [0x0A01, 0x0A02, 0x0A03, 0x0A04, 0x0A05], let b := List.replicate ((commandLen code).getD 0) 0
    Asked (asked { State.reset with service := .test } code b) 0 code (req code b) := by unfold Asked; decide +kernel
theorem witness_DaushCommand : DaushCommand 0 (.devGetInfo 0) 0x0101 := ⟨img0, ⟨true, []⟩, [], ⟨true, ⟨0, 3, 1, true, true, 0, .firmware 1 1⟩⟩, true, [], by simp⟩

/-- A module that serves one image of which tenant 0 may run sequences: 16 pages of pool, 4 page-list units, three sequences of it. -/
def prot0 : ProtectionRecord :=
  { State.reset.prot with tenants := [⟨0, BitVec.allOnes 256, 100⟩], listBase := 64, listUnits := 16, testPermitted := true }
def imgFile : ImageFile := { img0 with header := BitVec.ofNat 512 (2 ^ 260 + 2 ^ 80 + 3 * 2 ^ 64 + 2 ^ 48 + 2 ^ 32 + 0x4D49574B), layerTable := [layer0], placements := [(0, [0])] }
def served : State :=
  { decoding with
    prot := prot0
    config := { State.reset.config with poolPages := [16] }
    images := [(1, { image0 with file := imgFile, cleared := true })] }
def stock0 : Staging := { tenant := 0, length := 4096, source := 0, base := 65536 }
def opRun : Operation := { command := 0x0604 }

/-- An outcome's response for function 0: status and detail. -/
def replies (o : Host.Outcome State Fault Refusal) (status detail : Nat) : Bool :=
  holds o (fun t => match (t.func 0).ready with
    | some bs => decide (fromLE ((bs.drop 2).take 2) = status ∧ fromLE ((bs.drop 4).take 2) = detail)
    | none => false)

/-- R345, R338: a request against the rights of its function is a violation of kind 1, and a TEST command outside TEST one of kind 5. -/
theorem witness_Checks : let s := asked State.reset 0x0A03 []
    s.runnable 0 0x0A03 = some (req 0x0A03 [], false) ∧ (s.headerChecks (req 0x0A03 [])).isSome = true ∧ s.groupRight 0 10 = true ∧ s.service ≠ .test
    ∧ (let u : State := { s with regs := tblSet s.regs ⟨.cpFuncRights, 0, 0, s.protBank⟩ (BitVec.ofNat 128 (2 ^ 24)) }
       u.groupRight 0 10 = false ∧ u.runnable 0 0x0A03 = some (req 0x0A03 [], false) ∧ (u.headerChecks (req 0x0A03 [])).isSome = true)
    ∧ (let u := s.setFunc 0 { s.func 0 with copied := bytesLE 2 0x0A03 ++ bytesLE 2 0 ++ bytesLE 2 0xFFFF ++ bytesLE 2 4 ++ List.replicate 8 0 }
       u.runnable 0 0x0A03 = some (⟨0, 0x0A03, 0xFFFF, 4, [], 16⟩, false) ∧ (16 : Nat) + 4 ≠ 16 ∧ (u.headerChecks ⟨0, 0x0A03, 0xFFFF, 4, [], 16⟩).isSome = true)
    ∧ State.reset.runnable 0 0x0A03 = none := by decide +kernel
theorem test_checks : replies (exec (.tstInjectClear 0) (asked State.reset 0x0A03 [])) 0x0104 5 = true := by decide +kernel
/-- A function that a tenant has, its mailbox as it is between requests. -/
def idle : State :=
  let s : State := { State.reset with service := .serving, protLocked := true }
  { ({ s with regs := tblSet s.regs ⟨.cpFuncRights, 0, 0, s.protBank⟩ (BitVec.ofNat 128 (2 ^ 24 + 63 * 2 ^ 32)) } : State) with
    funcs := [(0, { exists_ := true, busMaster := true, request := [⟨0, 1⟩, ⟨1, 1⟩] })] }
theorem witness_Mailboxes : (idle.func 0).exists_ = true ∧ idle.service ≠ .off ∧ idle.protLocked = true ∧ (idle.tenantOf 0).isSome = true
    ∧ (16 : Nat) % 4 = 0 ∧ (16 : BitVec 32).toNat % 2 ^ 13 = 16 ∧ idle.get mbStatus_state 0 ≠ 1 ∧ (4097 : BitVec 32).toNat % 2 ^ 13 = 4097
    ∧ (let s := also (asked idle 0x0101 []) [(mbStatus_taken, 0, 0)]
       s.get mbStatus_state 0 = 1 ∧ s.on mbStatus_taken 0 = false ∧ (s.func 0).ready = none ∧ (parseRequest 0 (s.func 0).copied).code = 0x0101
       ∧ (commandLen 0x0101).isSome = true ∧ landingHandled 0x0101 = false)
    ∧ (let s := idle.setFunc 0 { idle.func 0 with ready := some (List.replicate 16 0) }
       (s.func 0).ready = some (List.replicate 16 0) ∧ (List.replicate 16 (0 : Byte)).length ≤ 4096)
    ∧ (idle.func 0).request.wf = true ∧ (4095 : Fin 8192).val + 1 ≤ 4096 ∧ 4096 ≤ (4096 : Fin 8192).val := by decide +kernel
/-- R328: a post of 16 bytes that end in the request slot, tag 5; and one of 18 bytes. -/
theorem test_post : holds (exec (.mbPost 0 (BitVec.ofNat 32 (5 * 65536 + 16))) idle) (fun t => t.get mbStatus_state 0 == 1 && t.get mbStatus_lastPost 0 == 5
    && (t.func 0).copied == [1, 1] ++ List.replicate 14 0) = true
    ∧ holds (exec (.mbPost 0 18) idle) (fun t => t.get mbStatus_state 0 == 0 && t.on cpEventStatus_postRefused 0) = true := by decide +kernel

theorem witness_FunctionsResetAndSignal : (idle.func 0).exists_ = true ∧ (idle.func 0).msixPending = []
    ∧ (15 : Fin 16).val ∈ ((idle.setFunc 0 { idle.func 0 with waitMsg := [15] }).func 0).waitMsg
    ∧ (let s : State := { idle.setFunc 0 { idle.func 0 with transfer := [1] } with ops := [(1, opRun)] }
       (s.func 0).exists_ = true ∧ (s.func 0).transfer = 1 :: [] ∧ tblFind s.ops 1 = some opRun ∧ opRun.state = 0)
    ∧ (0 : Fin 256).val = 64 * (0 : Fin 4).val ∧ bits (idle.reg ⟨.cpFuncRights, 64 * (0 : Fin 4).val, 0, idle.protBank⟩).toNat 32 6 = 63 := by decide +kernel
/-- R340: a function reset lets a request that was taken end without a response. -/
theorem test_flr : holds (exec (.functionReset 0) (asked idle 0x0101 [])) (fun t => (t.func 0).orphans.length == 1 && t.get mbStatus_state 0 == 0) = true := by decide +kernel

/-- An open device command asked in a state of service. -/
theorem witness_DeviceCommands :
    (let b := bodyOf 12 [(0, 8, 5), (8, 2, 0x8000), (10, 1, 1)]
     let s := asked { State.reset with service := .stump } 0x0102 b
     (req 0x0102 b).field 10 1 < 2 ∧ (req 0x0102 b).field 11 1 = 0 ∧ s.service = .stump)
    ∧ (let b := bodyOf 4 [(0, 1, 3)]
       (req 0x0103 b).field 0 1 < 4 ∧ (req 0x0103 b).field 1 3 = 0 ∧ served.service ≠ .stump ∧ served.service ≠ .survey
       ∧ ∀ p ∈ served.images, p.2.forbids (bit 0 0) (bit 0 0 || bit 0 1) = false)
    ∧ (let b := bodyOf 8 [(0, 1, 7), (1, 1, 1), (4, 4, 1)]
       (req 0x0104 b).field 0 1 = 7 ∧ (req 0x0104 b).field 1 1 < 2 ∧ (req 0x0104 b).field 2 2 = 0 ∧ served.service = .serving
       ∧ (served.ops.filter (fun o => o.2.state = 0)).length < 64)
    ∧ (let s : State := { served with service := .draining, seqs := [], drain := some { deadline := some 5 } }
       s.prot.testPermitted = true ∧ s.ownOpen = [] ∧ (∃ d, s.drain = some d ∧ d.deadline = some 5 ∧ d.move = false))
    ∧ (req 0x0104 (bodyOf 8 [(0, 1, 4)])).field 0 1 = 4 ∧ (req 0x0104 (bodyOf 8 [(0, 1, 255)])).field 0 1 ∉ [4, 7, 8]
    ∧ (let s : State := { asked served 0x0105 (bodyOf 4 [(0, 4, 1)]) with ops := [(1, opRun), (2, { opRun with state := 1 })] }
       s.opOf (req 0x0105 (bodyOf 4 [(0, 4, 1)])) = some opRun ∧ opRun.command = 0x0604 ∧ tblFind s.ops 2 = some { opRun with state := 1 }) :=
  ⟨by decide +kernel, by decide +kernel, by decide +kernel, ⟨by decide +kernel, by decide +kernel, ⟨_, rfl, by decide +kernel⟩⟩, by decide +kernel⟩
/-- R349: a set of state 7 drains; one of state 1 is BAD_STATE with the state's code. -/
theorem test_set_state : holds (exec (.devSetState 0) (asked served 0x0104 (bodyOf 8 [(0, 1, 7)]))) (fun t => t.service == .draining) = true
    ∧ replies (exec (.devSetState 0) (asked served 0x0104 (bodyOf 8 [(0, 1, 1)]))) 0x0103 4 = true := by decide +kernel

theorem witness_TenantPolicyTelemetry : served.service ≠ .off ∧ served.service ≠ .stump ∧ served.kvWindow 0 = 100
    ∧ (req 0x0202 (bodyOf 8 [(4, 4, 100)])).field 4 4 ≤ 100 ∧ 100 < (req 0x0202 (bodyOf 8 [(4, 4, 101)])).field 4 4
    ∧ (let r := req 0x0203 (bodyOf 40 [(0, 1, 1), (1, 1, 1)]); r.field 0 1 < 2 ∧ r.field 1 1 < 2 ∧ r.field 2 2 = 0)
    ∧ (let r := req 0x0204 (bodyOf 8 [(0, 1, 1), (4, 4, 1048576)]); r.field 0 1 < 2 ∧ r.field 1 1 = 0 ∧ 1 ≤ r.field 4 4 ∧ r.field 4 4 ≤ 1048576)
    ∧ (let r := req 0x0205 (bodyOf 8 [(0, 1, 1), (1, 1, 7), (4, 4, 1)]); r.field 1 1 ≤ 7 ∧ r.field 2 2 = 0 ∧ served.imageRight 0 (r.field 0 1) = true ∧ r.field 4 4 ≠ 0)
    ∧ (let r := req 0x0501 (bodyOf 32 [(0, 1, 7), (1, 1, 15), (24, 2, 9), (26, 2, 9)])
       r.field 0 1 < 8 ∧ r.field 1 1 < 16 ∧ r.field 2 2 = 0 ∧ r.field 24 2 ≤ r.field 26 2 ∧ r.field 28 4 = 0)
    ∧ (let r := req 0x0503 (bodyOf 8 [(0, 1, 255), (1, 1, 3)]); r.field 1 1 < 4 ∧ r.field 6 2 = 0)
    ∧ (let r := req 0x0504 (bodyOf 8 [(3, 1, 3)]); r.field 3 1 < 4 ∧ r.field 4 4 = 0)
    ∧ (let r := req 0x0601 (bodyOf 12 [(1, 1, 41), (2, 1, 255), (4, 4, 0xFFFF8)])
       r.field 0 1 = 0 ∧ r.field 1 1 < 42 ∧ r.field 2 1 ≠ 0 ∧ r.field 3 1 = 0 ∧ r.field 4 4 % 8 = 0 ∧ r.field 4 4 < 0x100000 ∧ r.field 10 1 = 0 ∧ r.field 11 1 = 0)
    ∧ (let r := req 0x0603 (bodyOf 4 [(0, 1, 57)]); 48 ≤ r.field 0 1 ∧ r.field 0 1 ≤ 57 ∧ r.field 1 3 = 0)
    ∧ (let r := req 0x0604 (bodyOf 40 [(32, 4, 67108864)]); r.field 22 2 = 0 ∧ r.field 32 4 ≤ 64 * 2 ^ 20 ∧ r.field 36 4 = 0)
    ∧ ((asked served 0x0604 []).func 0).busMaster = true ∧ ((asked served 0x0604 []).func 0).d3hot = false
    ∧ ∀ l, l < 8 → served.segmentYoung l = false := by decide +kernel
/-- R355: the thresholds of a policy for landings land in every landing. -/
theorem test_landing_policy : holds (exec (.polSetLanding 0) (asked served 0x0503 (bodyOf 8 [(0, 1, 3), (1, 1, 2), (2, 2, 500)]))) (fun t =>
    t.get sqCtrl_mapAhead 7 == 3 && t.on sqCtrl_deckKvEn 7 && !t.on sqCtrl_allocEn 7 && t.get sqFellCtrl_reuseGuard 7 == 500) = true := by decide +kernel

theorem witness_ImageCommands :
    (let r := req 0x0301 (bodyOf 16 [(0, 8, 4096), (8, 1, 2)]); r.field 8 1 < 3 ∧ r.field 9 7 = 0 ∧ (served.freeHbm (r.field 0 8) []).isSome = true)
    ∧ (let s : State := { served with stagings := [(3, stock0)], hbm := [⟨65536, 1⟩] }
       let r := req 0x0302 (bodyOf 32 [(0, 4, 3), (8, 8, 4000), (24, 4, 96)])
       tblFind s.stagings (r.field 0 4) = some stock0 ∧ stock0.source = 0 ∧ r.field 4 4 = 0 ∧ r.field 8 8 + r.field 24 4 ≤ stock0.length ∧ r.field 24 4 ≤ 64 * 2 ^ 20
       ∧ r.field 28 4 = 0 ∧ s.hbm.wf = true ∧ (⟨true, [1]⟩ : HostData).ok = true ∧ (⟨false, []⟩ : HostData).ok = false)
    ∧ (let s : State := { served with stagings := [(3, stock0)] }
       let r := req 0x0303 (bodyOf 8 [(0, 4, 3), (4, 1, 0xFF)])
       tblFind s.stagings (r.field 0 4) = some stock0 ∧ r.field 5 1 < 2 ∧ r.field 6 2 = 0 ∧ (s.startOp r).isSome = true ∧ { img0 with rsaOk := false }.rsaOk = false)
    ∧ (let x : Image := { image0 with cleared := false }
       ({ served with images := [(255, x)] } : State).image (255 : Fin 256).val = some x ∧ x.cleared = false ∧ x.state ≠ 3 ∧ x.uncleared = [])
    ∧ (let r := req 0x0304 (bodyOf 4 [(0, 1, 1)]); (served.image (r.field 0 1)).isSome = true ∧ r.field 1 1 = 0 ∧ r.field 2 2 = 0
       ∧ served.usersOf 1 ≠ [] ∧ ({ served with seqs := [] } : State).usersOf 1 = [])
    ∧ (let r := req 0x0305 (bodyOf 4 [(0, 1, 1)]); r.field 1 3 = 0 ∧ served.imageRight 0 1 = true)
    ∧ (let s : State := { served with stagings := [(3, { stock0 with source := 2 })] }
       let r := req 0x0306 (bodyOf 24 [(0, 1, 1), (1, 1, 1), (4, 4, 3)])
       r.field 1 1 < 2 ∧ r.field 2 2 = 0 ∧ r.field 20 4 = 0 ∧ (tblFind s.stagings (r.field 4 4)).isSome = true ∧ { stock0 with source := 2 }.source = 2)
    ∧ (let s : State := { served with stagings := [(3, stock0)] }
       let r := req 0x0307 (bodyOf 12 [(0, 1, 1), (2, 2, 65535), (4, 4, 3)])
       r.field 1 1 = 0 ∧ r.field 2 2 ≠ 0 ∧ r.field 8 4 = 0 ∧ tblFind s.stagings (r.field 4 4) = some stock0 ∧ stock0.tenant = 0 ∧ s.variant 1 65535 = none)
    ∧ (let z : Variant := { hot := true }
       let s : State := { served with images := [(1, { image0 with variants := [(9, z)] })] }
       let r := req 0x0308 (bodyOf 4 [(0, 1, 1), (2, 2, 9)])
       s.variant 1 (r.field 2 2) = some z ∧ r.field 1 1 = 0 ∧ z.tenant = 0 ∧ z.loading = false ∧ s.variantUsed 1 9 = false
       ∧ ({ s with seqs := [(0, { entry := { entry0 with variant := 9 } })] } : State).variantUsed 1 9 = true) := by decide +kernel
def loads (r : LoadResult) : Bool := match r with
  | .loaded _ _ _ => true
  | _ => false
/-- An image of one stand loads on a stand that is on. -/
theorem witness_load : loads (({ stand0 with service := .serving } : State).loadImage imgFile ⟨none, none, 0, false, []⟩) = true := by decide +kernel

/-! ## Sequence, power, firmware and test commands -/

/-- A SEQ_OPEN body: image 1, class 0, one candidate, a prompt of 4 of at most 8 positions. -/
def openBody : List Byte := bodyOf 64 [(0, 1, 1), (6, 1, 1), (8, 4, 4), (12, 4, 8)]
def openable : State := asked { served with seqs := [] } 0x0401 openBody
def openReq : OpenReq := openOf 0 (req 0x0401 openBody).field 0
def isGrant (d : Decision) : Bool := match d with
  | .grant [] [0] _ => true
  | _ => false
theorem witness_SeqOpen : openable.openBad openReq [(req 0x0401 openBody).zero 47 1, (req 0x0401 openBody).zero 52 12] = none
    ∧ isGrant (openable.decide_ openReq) = true ∧ openReq.spec = 0 ∧ openable.paired = false
    ∧ ({ openable with service := .draining } : State).decide_ openReq = .refuse rsDraining 1000
    ∧ ({ openable with images := [(1, { image0 with file := imgFile })] } : State).decide_ openReq = .defer rsNotCleared 1000
    ∧ ({ openable with images := [(1, { image0 with file := imgFile })] } : State).openBad openReq [(req 0x0401 openBody).zero 47 1, (req 0x0401 openBody).zero 52 12] = none := by
  decide +kernel
/-- R254, R353: a granted open enters OPENING with a new generation; R304: an image that is not cleared defers with reason 0x15. -/
theorem test_seq_open : holds (exec (.seqOpen 0) openable) (fun t => (t.seq 0).entry.state == 1 && (t.seq 0).entry.gen == 1 && (t.seq 0).entry.tokensLeft == 4) = true
    ∧ replies (exec (.seqOpen 0) { openable with images := [(1, { image0 with file := imgFile })] }) 0x0300 0x15 = true := by decide +kernel

/-- The sequence 0 of tenant 0 in a state, with generation 0, named by handle 0. -/
def seqIn (x : Seq) (code : Nat) : State := asked { served with seqs := [(0, x)] } code (List.replicate 4 0)
def r4 (code : Nat) : Request := req code (List.replicate 4 0)
theorem witness_NamesSequence : ∀ code ∈ [0x0402, 0x0403, 0x0404, 0x0405, 0x0406], ∀ st ∈ [0, 2, 3, 4],
    NamesSequence (seqIn { entry := { entry0 with state := st } } code) (r4 code) 0 := by unfold NamesSequence; decide +kernel
theorem witness_SeqCommands : entry0.specMode = 0 ∧ entry0.state = 3 ∧ ({ entry := entry0 } : Seq).inFlight = none
    ∧ (let s := seqIn { entry := { entry0 with state := 4 }, cause := some .host } 0x0404
       (s.seq 0).entry.state = 4 ∧ (s.seq 0).cause = some .host)
    ∧ (let s := seqIn { entry := entry0, inFlight := some {} } 0x0403; (s.seq 0).inFlight ≠ none ∧ (s.seq 0).entry.state = 3)
    ∧ (req 0x0406 (bodyOf 4 [(0, 4, 0x10000)])).field 0 4 = 0x10000 ∧ served.ofHandle 0x10000 = none
    ∧ (req 0x0407 (bodyOf 4 [(0, 4, 32767)])).field 0 4 < 32768 := by decide +kernel
theorem test_seq_suspend : holds (exec (.seqSuspend 0) (seqIn { entry := entry0 } 0x0403)) (fun t => (t.seq 0).entry.state == 4) = true
    ∧ replies (exec (.seqClose 0) (seqIn { entry := { entry0 with state := 4 } } 0x0405)) 0x0103 4 = true := by decide +kernel

def record0 : SignedRecord := ⟨0, 3, 1, true, true, 7, .firmware 1 1⟩
theorem witness_PowerFirmware :
    (let s := having [(pwModuleLimit_configuredMax, 0, 20000)]
     let r := req 0x0802 (bodyOf 4 [(0, 2, 20000)])
     8000 ≤ r.field 0 2 ∧ r.field 0 2 ≤ s.get pwModuleLimit_configuredMax 0 ∧ r.field 2 2 = 0 ∧ s.tokensNeeded ≤ r.field 0 2
     ∧ (let u : State := { s with images := [(1, { image0 with file := { img0 with tokens := [[8001]] } })] }; 8000 ≤ (8000 : Nat) ∧ 8000 < u.tokensNeeded))
    ∧ (let r := req 0x0804 (bodyOf 4 [(0, 1, 41)]); r.field 0 1 < 42 ∧ r.field 1 1 = 0 ∧ r.field 2 2 = 0)
    ∧ (req 0x0804 (bodyOf 4 [(1, 1, 1)])).field 1 1 = 1 ∧ stand0.get pwStandStatus_standPower 0 ≠ 0 ∧ (∀ p ∈ stand0.images, p.2.held = false)
    ∧ (stand0.ops.filter (fun o => o.2.state = 0)).length < 64 ∧ State.reset.get pwStandStatus_standPower 0 = 0 ∧ (State.reset.power 0).returning = false
    ∧ State.reset.on pwStandStatus_breakerOpen 0 = false ∧ State.reset.on thStandStatus_heatOff 0 = false
    ∧ (let r := req 0x0901 (bodyOf 20 [(0, 1, 0), (12, 4, 67108864)]); r.field 0 1 < 4 ∧ r.field 1 3 = 0 ∧ r.field 12 4 ≤ 64 * 2 ^ 20 ∧ r.field 16 4 = 0)
    ∧ State.reset.swap = none ∧ record0.fault 0 = none ∧ { record0 with rsaOk := false }.fault 0 = some 1 ∧ State.reset.rollback 0 ≤ record0.version ∧ record0.version < 2 ^ 32
    ∧ (let s : State := { State.reset with flash := { counters := [(0, 2)] } }; record0.fault 0 = none ∧ record0.version < s.rollback 0)
    ∧ (let s : State := { State.reset with staged := [(0, record0)], standbyIn := true }
       let r := req 0x0902 (bodyOf 4 [(0, 1, 1)])
       r.field 0 1 < 16 ∧ r.field 1 3 = 0 ∧ s.swap = none ∧ s.unstaged (kindsOf (r.field 0 1)) = none
       ∧ (kindsOf (r.field 0 1)).filterMap (fun k => (tblFind s.staged k).map (fun x => (k, x))) = [(0, record0)] ∧ s.swapFits [(0, record0)] = true
       ∧ ({ s with swap := some { op := 3 } } : State).swap = some { op := 3 })
    ∧ (let r := req 0x0904 (bodyOf 48 [(40, 4, 67108864)]); r.field 40 4 ≤ 64 * 2 ^ 20 ∧ r.field 44 4 = 0)
    ∧ (let r := req 0x0905 (bodyOf 16 [(8, 4, 67108864)]); r.field 8 4 ≤ 64 * 2 ^ 20 ∧ r.field 12 4 = 0) := by decide +kernel
/-- The report buffer holds the report where the two are as long as each other. -/
theorem witness_report (s : State) (nonce : List Byte) :
    (s.report nonce ++ identityBlock 5 (digestOf (s.report nonce))).length ≤ (s.report nonce ++ identityBlock 5 (digestOf (s.report nonce))).length := Nat.le_refl _
theorem witness_TestCommands : ({ State.reset with service := .test } : State).service = .test
    ∧ (let r := req 0x0A01 (bodyOf 8 [(0, 1, 41), (1, 1, 7), (2, 1, 3), (3, 1, 3), (4, 4, 2 ^ 28 - 1)])
       r.field 0 1 < 42 ∧ r.field 1 1 < 8 ∧ r.field 2 1 < 4 ∧ r.field 3 1 < 4 ∧ r.field 4 4 < 2 ^ 28)
    ∧ (let r := req 0x0A02 (bodyOf 8 [(0, 1, 1), (2, 1, 3), (3, 1, 3)]); r.field 0 1 < 2 ∧ r.field 1 1 = 0 ∧ r.field 2 1 < 4 ∧ r.field 3 1 < 4 ∧ r.field 4 4 < 2 ^ 28)
    ∧ (let r := req 0x0A04 (bodyOf 4 [(0, 1, 41), (1, 1, 7), (2, 2, 1023)]); r.field 0 1 < 42 ∧ r.field 1 1 < 8 ∧ r.field 2 2 < 1024)
    ∧ (let r := req 0x0A05 (bodyOf 8 [(0, 1, 0), (4, 1, 16)]); r.field 0 1 < 42 ∧ r.field 1 1 < 16 ∧ r.field 2 2 < 2048 ∧ r.field 4 1 < 17 ∧ r.field 5 3 = 0)
    ∧ (State.reset.tile t0).cruise = none ∧ ((State.reset.setTile t0 { cruise := some {} }).tile t0).cruise ≠ none
    ∧ State.reset.logicalOf t0 (State.reset.physOf t0 3) = some 3 := by decide +kernel

/-! ## Registers -/

def write (a : Nat) (data : Nat) : RegWrite := ⟨.forester (BitVec.ofNat 32 a), 4, BitVec.ofNat 128 data, .firmware, 0⟩
def on1 : State := { State.reset with service := .serving }
/-- GV_CTRL of grove 1 of stand 2, SK_EVENT of port 3 of stand 0, SK_CLOSURE entry 5 of port 0 of stand 0, and a place of no register. -/
theorem witness_RegisterWrites : windowOf 0x40251008 = some (.stand 2 0x51008) ∧ RegWindow.place (.stand 2 0x51008) = some ⟨.gv, 33, 8⟩
    ∧ Block.touched .gv 8 4 = [(.gvCtrl, 0)] ∧ (8 : Nat) = Reg.gvCtrl.offset + 0 * Reg.gvCtrl.step ∧ 8 * 4 = Reg.gvCtrl.width
    ∧ (∀ f ∈ Reg.gvCtrl.rows, f.acc ≠ .wo ∧ f.acc ≠ .rol)
    ∧ windowOf 0x40083008 = some (.stand 0 0x83008) ∧ RegWindow.place (.stand 0 0x83008) = some ⟨.sk, 3, 8⟩ ∧ Block.touched .sk 8 4 = [(.skEvent, 0)]
    ∧ Reg.skEvent.counts = some .skEventCount ∧ windowOf 0x3FFFFFFF = none ∧ windowOf 0x60800000 = none ∧ windowOf 0x607FFFFF ≠ none
    ∧ RegWindow.place (.stand 0 0) = none
    ∧ windowOf 0x40080214 = some (.stand 0 0x80214) ∧ Block.touched .sk 0x214 4 = [(.skClosure, 5)] ∧ 0x214 = Reg.skClosure.offset + 5 * Reg.skClosure.step
    ∧ Reg.skClosure.rows = [⟨0, 32, .rol, 0⟩] ∧ on1.protLocked = false ∧ ({ on1 with protLocked := true } : State).protLocked = true
    ∧ bits (write 0x40080214 9).data.toNat 0 32 ≠ bits (on1.reg ⟨.skClosure, 0, 5, on1.protBank⟩).toNat 0 32
    ∧ (idle.func 0).exists_ = true ∧ (idle.func 0).msixPending = [] ∧ (0xFC : BitVec 14).toNat < 0x100 ∧ (0xFE : BitVec 14).toNat % 4 ≠ 0 := by decide +kernel
/-- R8: an RW field takes the written bits; R9: a W1C bit that is written as 1 clears, and one set in the same window stays and counts. -/
theorem test_writes : holds (exec (.registerWrite (write 0x40251008 0x01020301)) on1) (fun t => t.get gvCtrl_commitTimeout 33 == 1 && t.get gvCtrl_stealMin 33 == 2) = true
    ∧ holds (exec (.registerWrite { write 0x40083008 0x11 with hwSets := 1 }) (also on1 [(skEvent_linkDown, 3, 1)])) (fun t =>
      (t.reg ⟨.skEvent, 3, 0, 0⟩).toNat == 1 && (t.reg ⟨.skEventCount, 3, 0, 0⟩).toNat == 1) = true := by decide +kernel

/-! ## Network -/

/-- Landing 0 carries frames, with an address. -/
def carrying : State :=
  { having [(ldPortStatus_linkUp, 0, 1), (ldPortCtrl_rdmaEn, 0, 1)] with
    service := .serving, config := { State.reset.config with ipv4 := [0x0A000001], ipv6 := [5], ptpBackup := some 7 } }
theorem witness_Ports : carrying.portCarries 0 = true ∧ carrying.ipv4Of 0 = some 0x0A000001 ∧ (5 : BitVec 128) ∈ carrying.ipv6Of 0
    ∧ carrying.get ldClass_dscpCtrl 0 ≠ 0 ∧ carrying.on ldPortStatus_linkUp 0 = true ∧ (0 : Nat) ∉ carrying.landingsLost ∧ carrying.on ldPortCtrl_portEn 0 = true
    ∧ (0 : Nat) ∉ carrying.osfpHeld ∧ (0 : Nat) ∈ ({ carrying with osfpHeld := [0] } : State).osfpHeld := by decide +kernel
theorem test_arp : holds (exec (.arpRequest 0 0x0A000001 1) carrying) (fun t => t.out.length == 1) = true
    ∧ holds (exec (.arpRequest 0 0x0A000002 1) carrying) (fun t => t.out.length == 0) = true := by decide +kernel
/-- Seven offsets of 250 ns, and a Sync that gives the eighth. -/
def syncing : State := { carrying with ptp := { offsets := List.replicate 7 250 } }
theorem witness_Ptp : syncing.ptpTakes 0 = true ∧ syncing.mayStep = false
    ∧ (syncing.ptp.offsets ++ [250]).length = 8 ∧ (∀ o ∈ syncing.ptp.offsets ++ [250], o.natAbs ≤ 250) ∧ 250 < (251 : Int).natAbs
    ∧ ({ syncing with ptp := { locked := true } } : State).ptp.locked = true
    ∧ (let s : State := { syncing with service := .survey }
       s.ptpTakes 0 = true ∧ s.mayStep = true ∧ ∀ o ∈ s.ptp.offsets ++ [500], (8 * o - (s.ptp.offsets ++ [500]).sum).natAbs ≤ 2000)
    ∧ ({ syncing with ptp := { sync := some (9, none, 500) } } : State).ptp.sync = some ((9 : BitVec 16).toNat, none, (500 : BitVec 64).toNat)
    ∧ ({ syncing with ptp := { sync := some (9, some 1, 5), request := some (3, 4) } } : State).ptp.request = some ((3 : BitVec 16).toNat, 4)
    ∧ carrying.config.ptpBackup = some 7 ∧ carrying.ptp.backup = false ∧ (1 : BitVec 8).toNat ≠ carrying.config.ptpDomain := by decide +kernel
theorem test_ptp_lock : holds (exec (.ptpSync 0 ⟨1, false, 100, 350⟩) syncing) (fun t => t.ptp.locked && t.on ldPtpStatus_locked 7 && t.tally == 0) = true := by decide +kernel
/-- A connection of landing 0 to a staging area that RoCEv2 writes fill. -/
def pair0 : Qp := { peer := 1, peerQp := 2, staging := 3, mtu := 1024, state := 1 }
def area0 : Staging := { stock0 with source := 1, key := 77 }
def connected : State := { carrying with stagings := [(3, area0)], qps := [((0, 2), pair0)] }
theorem witness_Rdma : connected.rdmaOpen 0 = true ∧ connected.freeQp 0 = some 3 ∧ connected.reqOk ⟨1, 2, 3, 77, 4096, true⟩ = true
    ∧ connected.reqOk ⟨1, 2, 3, 77, 512, true⟩ = false ∧ ({ connected with qps := (upTo 8).map (fun n => ((0, n + 2), pair0)) } : State).freeQp 0 = none
    ∧ connected.qp 0 2 = some pair0 ∧ pair0.state = 1 ∧ pair0.rxPsn < 2 ^ 24 ∧ ({ pair0 with state := 0 } : Qp).state = 0
    ∧ 2 ^ 23 ≤ ((2 ^ 24 - 1 : BitVec 24).toNat + 2 ^ 24 - pair0.rxPsn) % 2 ^ 24 ∧ 0 < ((1 : BitVec 24).toNat + 2 ^ 24 - pair0.rxPsn) % 2 ^ 24
    ∧ ((1 : BitVec 24).toNat + 2 ^ 24 - pair0.rxPsn) % 2 ^ 24 < 2 ^ 23 ∧ (0 : BitVec 24).toNat = pair0.rxPsn
    ∧ (also connected [(ldRdmaRate_rdmaRate, 0, 1)]).get ldRdmaRate_rdmaRate 0 ≠ 0 ∧ tblFind connected.stagings pair0.staging = some area0
    ∧ area0.source = 1 ∧ area0.base ≤ 65536 + 4095 ∧ 65536 + 4095 + 1 ≤ area0.base + area0.length ∧ area0.base + area0.length < 65536 + 4095 + 2 := by decide +kernel
theorem test_rdma_write : holds (exec (.rdmaWrite 0 2 0 65536 77 [9]) (also connected [(ldRdmaRate_rdmaRate, 0, 1)])) (fun t => t.hbmRead 65536 1 == [9]) = true
    ∧ holds (exec (.rdmaWrite 0 2 0 65536 78 [9]) (also connected [(ldRdmaRate_rdmaRate, 0, 1)])) (fun t => t.hbm == [] && t.on ldEvent_rdmaNak 0) = true := by decide +kernel
theorem witness_RdmaReads : let g : Golden := { source := 1, staging := 3, addr := 4096, key := 5 }
    let s : State := { also connected [(ldRdmaRate_rdmaRate, 0, 1)] with goldens := [(1, g)] }
    s.goldenOf pair0 = some g ∧ pair0.reads.length < 16 ∧ 0 + 4096 ≤ area0.length ∧ s.hbm.wf = true
    ∧ (let x : Qp := { pair0 with reads := [(9, 0, 4)], tries := 6 }
       x.reads = ((9 : BitVec 24).toNat, 0, 4) :: [] ∧ (8 : BitVec 24).toNat ≠ 9 ∧ x.tries < 7 ∧ 7 ≤ ({ x with tries := 7 } : Qp).tries)
    ∧ 16 ≤ ({ pair0 with reads := List.replicate 16 (0, 0, 1) } : Qp).reads.length := by decide +kernel

/-! ## Prowaelm Token Transport -/

/-- Landing 0 takes PTT, tenant 3 has a key in slot 0, and its sequence 0 with handle 0 fills. -/
def pttState : State :=
  { served with
    regs := (also served [(ldPortStatus_linkUp, 0, 1)]).regs
    prot := { prot0 with tenants := [⟨3, BitVec.allOnes 256, 100⟩] }
    tenants := [(3, { slots := [(0, {})] })]
    seqs := [(0, { entry := { entry0 with state := 2, tenant := 3, promptLen := 4, filled := 0, length := 0 }, sent := [{ step := 5 }, { step := 6 }] })] }
def data (type : BitVec 8) (bs : List Byte) : PttFrame :=
  ⟨0, 0, 47110, 0, 48 + bs.length, 0x10, type, 0, 0, 3, 0, 0, 6, 0, BitVec.ofNat 32 bs.length, 1, true, bs⟩
def control (s : State) (type : BitVec 8) (bs : List Byte) : PttFrame :=
  { data type bs with dstPort := 47111, dscp := BitVec.ofNat 6 (s.get ldClass_dscpCtrl 0) }
def prompt : PttFrame := data 3 [0, 0, 0, 2, 0, 0, 0, 9, 0, 0, 0, 8]
/-- The state after a frame is accepted. -/
def taken (s : State) (x : PttFrame) : State := s.takeFrame 0 x

theorem witness_PttChecks : pttState.pttOpenPort 0 = true ∧ PttReaches pttState 0 prompt ∧ PttReaches pttState 0 (control pttState 9 []) ∧ prompt.malformed = false ∧ prompt.wrongPort = false
    ∧ tblFind (pttState.tenant 3).slots prompt.slot = some {} ∧ prompt.tagOk = true ∧ pttState.bindOk (pttState.tenant 3) prompt.source 0 = true
    ∧ (({} : KeySlot).replayed prompt.source prompt.counter.toNat) = false
    ∧ State.reset.pttOpenPort 0 = false ∧ ({ prompt with dstPort := 47109 }.dstPort.toNat ≠ pttData ∧ { prompt with dstPort := 47109 }.dstPort.toNat ≠ pttControl)
    ∧ { control pttState 9 [] with dscp := 63 }.dscp.toNat ≠ pttState.get ldClass_dscpCtrl 0 ∧ { prompt with version := 0x11 }.malformed = true
    ∧ { prompt with dstPort := 47110, type := 6 }.malformed = false ∧ { prompt with type := 7 }.wrongPort = true
    ∧ tblFind (State.reset.tenant 3).slots 0 = none
    ∧ pttState.bindOk { bindings := [(0, (1, 0))] } 0 0 = false ∧ (({ high := [(0, 65)] } : KeySlot).replayed 0 1) = true := by
  unfold PttReaches; decide +kernel
theorem witness_PttCommand : PttCommand 0 prompt (.pttPrompt 0 prompt) := by simp [PttCommand]
/-- An OPEN of 72 bytes that tenant 3 may make. -/
def openFrame : PttFrame := data 1 ([1, 0, 0, 0, 0, 0, 1, 0] ++ [0, 0, 0, 4, 0, 0, 0, 8] ++ List.replicate 56 0)
def openNow : State := { pttState with seqs := [] }
theorem witness_PttOpen : openNow.ingress 0 openFrame = .accepted (taken openNow openFrame) ∧ openFrame.type.toNat = pttOpen
    ∧ (let u := taken openNow openFrame
       let q := openOf 3 openFrame.field (openFrame.field 64 1)
       u.liveTags 3 openFrame.source = [] ∧ u.service ≠ .test ∧ openFrame.payload.length = 72 ∧ openFrame.field 47 1 = 0 ∧ openFrame.field 52 12 = 0
       ∧ openFrame.field 64 1 ≤ 64 ∧ openFrame.field 65 7 = 0 ∧ u.openBad q [] = none ∧ isGrant (u.decide_ q) = true ∧ q.spec = 0 ∧ u.mirrors = false
       ∧ ({ u with service := .draining } : State).decide_ q = .refuse rsDraining 1000
       ∧ ({ u with images := [(1, { image0 with file := imgFile })] } : State).decide_ q = .defer rsNotCleared 1000)
    ∧ (let s : State := { openNow with service := .test }; s.ingress 0 openFrame = .accepted (taken s openFrame) ∧ (taken s openFrame).service = .test)
    ∧ (let s : State := openNow.setTenant 3 { openNow.tenant 3 with tags := [(0, [(6, 0, [])])] }
       s.ingress 0 openFrame = .accepted (taken s openFrame) ∧ (taken s openFrame).liveTags 3 0 = [(6, 0, [])] ∧ openFrame.step = 6)
    ∧ (let x := data 1 [0]; openNow.ingress 0 x = .accepted (taken openNow x) ∧ x.payload.length ≠ 72) := by decide +kernel
theorem test_ptt_open : holds (exec (.pttOpen 0 openFrame) openNow) (fun t => (t.seq 0).entry.state == 1 && (t.seq 0).landing == 0 && (t.seq 0).reqTag == 6) = true := by decide +kernel

theorem witness_Prompts : pttState.ingress 0 prompt = .accepted (taken pttState prompt) ∧ FrameNames (taken pttState prompt) prompt 0 ∧ prompt.type.toNat = pttPrompt
    ∧ (taken pttState prompt |>.seq 0).entry.state ≠ 5 ∧ prompt.field 0 4 + (prompt.payload.length - 4) / 4 - 1 < 4 ∧ wordsOk prompt = true
    ∧ (let x := data 3 [0, 0, 0, 3, 0, 0, 0, 9, 0, 0, 0, 8]; pttState.ingress 0 x = .accepted (taken pttState x) ∧ 4 ≤ x.field 0 4 + (x.payload.length - 4) / 4 - 1)
    ∧ (let x := data 5 [0, 0, 0, 2, 0, 0, 0, 9]; pttState.ingress 0 x = .accepted (taken pttState x) ∧ x.type.toNat = pttTarget ∧ wordsOk x = true)
    ∧ (let s : State := { pttState with seqs := [(0, { entry := { entry0 with state := 5, tenant := 3 } })] }
       s.ingress 0 prompt = .accepted (taken s prompt) ∧ FrameNames (taken s prompt) prompt 0 ∧ ((taken s prompt).seq 0).entry.state = 5)
    ∧ (let s : State := { pttState with seqs := [] }
       let x := { prompt with handle := 0x10000 }
       s.ingress 0 x = .accepted (taken s x) ∧ (taken s x).service ≠ .test ∧ (taken s x).ofHandle x.handle.toNat = none)
    ∧ (let e := (pttState.seq 0).entry
       (e.state = 1 ∨ e.state = 2) ∧ e.partner = false ∧ pttState.isSapling 0 = false ∧ pttState.firstMissing 0 = some 0) := by unfold FrameNames; decide +kernel
theorem test_prompt : holds (exec (.pttPrompt 0 prompt) pttState) (fun t => tblFind (t.seq 0).tokens 2 == some 9 && tblFind (t.seq 0).tokens 3 == some 8) = true := by decide +kernel
/-- An image of 32 components; a bfloat16 half vector, and an E4M3 block-scaled vector whose first scale is the NaN code. -/
def embedState : State := { pttState with images := [(1, { image0 with file := { imgFile with modelDim := 32 } })] }
def embed (fmt : Byte) (bs : List Byte) : PttFrame := data 4 ([0, 0, 0, 1, 0, 0, 0, 0, fmt, 0, 0, 0] ++ bs)
theorem witness_Embeds : (let x := embed 0 [1, 2]
       embedState.ingress 0 x = .accepted (taken embedState x) ∧ FrameNames (taken embedState x) x 0 ∧ x.type.toNat = pttEmbed ∧ 12 < x.payload.length
       ∧ x.field 8 1 < 10 ∧ x.field 9 3 = 0 ∧ x.field 4 4 + 2 ≤ (taken embedState x).embedBytes 1 (x.field 8 1)
       ∧ (∀ b ∈ ([1, 2] : List Byte).zipIdx, edgeRejects (x.field 8 1) 1 (0 + b.2) b.1 = false) ∧ tblFind ((taken embedState x).seq 0).tokens 1 = none)
    ∧ (∃ f : Nat, f < 10 ∧ isMx f = true ∧ edgeRejects f 1 0 0xFF = true) := ⟨by unfold FrameNames; decide +kernel, 1, by decide +kernel⟩

theorem witness_PttControl :
    (let x := control pttState 9 []
     pttState.ingress 0 x = .accepted (taken pttState x) ∧ FrameNames (taken pttState x) x 0 ∧ x.payload = [] ∧ ((taken pttState x).seq 0).entry.state ≠ 0 ∧ x.type.toNat = pttFell)
    ∧ (let x := control pttState 9 [1]; pttState.ingress 0 x = .accepted (taken pttState x) ∧ x.payload ≠ [])
    ∧ (let x := control pttState 11 []
       let u := taken pttState x
       pttState.ingress 0 x = .accepted u ∧ FrameNames u x 0 ∧ x.type.toNat = pttResend ∧ (u.seq 0).sent = { step := 5 } :: [{ step := 6 }]
       ∧ 5 ≤ x.step.toNat ∧ { x with step := 4 }.step.toNat < 5 ∧ (u.seq 0).sent.filter (fun t => decide (x.step.toNat ≤ t.step)) = { step := 6 } :: []
       ∧ ({ step := 6 } : SentToken).prov = 0)
    ∧ (let x := control pttState 10 [1, 7, 0, 0, 0, 0, 0, 1]
       pttState.ingress 0 x = .accepted (taken pttState x) ∧ x.payload.length = 8 ∧ x.field 1 1 < 8 ∧ x.field 2 2 = 0 ∧ (taken pttState x).imageRight 3 (x.field 0 1) = true ∧ x.type.toNat = pttShed)
    ∧ (let s : State := { pttState with seqs := [(0, { entry := entry0, repeats := 2 })] }; (s.seq 0).repeats ≠ 0 ∧ (s.seq 0).entry.state ≠ 0 ∧ (s.seq 0).entry.partner = false) := by
  unfold FrameNames; decide +kernel

/-! ## The twin -/

def partner0 : PairControl := ⟨9, 0xB0, 0, [], 0, 0, 16, 4, 0⟩
/-- Two modules are paired, one port is up, and sequence 0 mirrors the partner's handle 5. -/
def twins : State :=
  { also served [(twPairStatus_state, 0, 2), (twPartnerId_serial, 0, 9), (twPortStatus_linkUp, 1, 1), (twPortStatus_heartbeatOk, 1, 1), (twPortStatus_heartbeatOk, 5, 1)] with
    twin := { partner := some partner0 }
    seqs := [(0, { entry := { entry0 with partner := true }, partnerHandle := 5 })] }
theorem witness_Pairing : (let r := req 0x0701 (bodyOf 12 [(0, 8, 9), (8, 1, 3), (9, 1, 1)]); r.field 8 1 < 4 ∧ r.field 9 1 < 2 ∧ r.field 10 2 = 0)
    ∧ State.reset.pairState = 0 ∧ (having [(twPairStatus_state, 0, 3)]).pairState = 3 ∧ (State.reset.ops.filter (fun o => o.2.state = 0)).length < 64
    ∧ (let s := having [(twPairStatus_state, 0, 1), (twPartnerId_serial, 0, 9)]; s.pairState = 1 ∧ partner0.serial.toNat = s.get twPartnerId_serial 0 ∧ s.twin.inStep = false)
    ∧ twins.pairState = 2 ∧ twins.on twPortStatus_linkUp (twinLanding (0 : Fin 2).val) = true ∧ twins.twin.peerTest = false ∧ twins.service ≠ .test ∧ tblFind twins.twin.injects 0 = none
    ∧ (let s := also twins [(twPairStatus_state, 0, 3)]; s.pairState = 3 ∧ s.on twPortStatus_linkUp (twinLanding (0 : Fin 2).val) = true)
    ∧ twins.on twPortStatus_heartbeatOk (twinLanding (0 : Fin 2).val) = true ∧ twins.on twPortStatus_heartbeatOk (twinLanding (1 - (0 : Fin 2).val)) = true
    ∧ State.reset.twin.op = 0 ∧ State.reset.partnerEntries = [] ∧ State.reset.pairState ≠ 4 ∧ (req 0x0702 (bodyOf 4 [(0, 1, 1)])).field 0 1 < 2
    ∧ (req 0x0702 (bodyOf 4 [(0, 1, 1)])).field 1 3 = 0 ∧ twins.service ≠ .off ∧ twins.pairState ≠ 1 := by decide +kernel
theorem test_heartbeat : holds (exec (.heartbeatArrive 0 ⟨100, 300, 0, 0, 4, 2⟩) twins) (fun t => t.twin.lastBeat == some (100, 300)) = true := by decide +kernel
/-- In TEST a drop of one arriving frame is set at TW0. -/
def injecting (dir : Nat) : State := { also twins [(twFaultInj_mode, 1, 1), (twFaultInj_value, 1, 1), (twFaultInj_dir, 1, dir)] with service := .test, seqs := [] }
theorem witness_TwinInjection : ∀ dir ∈ [0, 1], let s := injecting dir
    s.service = .test ∧ s.on twPortStatus_linkUp 1 = true ∧ 2 ≤ s.pairState ∧ 0 < s.get twFaultInj_mode 1 ∧ s.on twFaultInj_byRate 1 = false ∧ tblFind s.twin.injects 0 = none
    ∧ 0 < s.get twFaultInj_value 1 ∧ s.get twFaultInj_dir 1 = dir := by decide +kernel
/-- R474, R475: the dropped heartbeat counts as a CRC failure, and the injection turns itself off. -/
theorem test_twin_injection : holds (exec (.heartbeatArrive 0 ⟨100, 300, 0, 0, 4, 2⟩) (injecting 1)) (fun t => t.twin.lastBeat == none && t.on twEvent_crcError 1
    && t.on twEvent_injectActive 1 && t.get twFaultInj_mode 1 == 0) = true := by decide +kernel
/-- A port in TEST with nothing to send. -/
def idlePort : State := { having [(skStatus_linkUp, (PortId.stand 0 0).num, 1)] with service := .test }
theorem witness_TestFlit : let p : PortId := .stand 0 0
    idlePort.linkUp p = true ∧ 0 < idlePort.get (creditField 0) p.num ∧ idlePort.nextWaiting p 0 = none ∧ idlePort.service = .test
    ∧ idlePort.get skFaultInj_mode p.num = 0 ∧ (idlePort.port p).swapHeld = none := by decide +kernel
/-- R473: it sends a test flit on channel 0, and none on the control channel. -/
theorem test_test_flit : holds (exec (.flitTransmit (.stand 0 0) 0) idlePort) (fun t => t.out.length == 1 && t.freeUses == 1) = true
    ∧ holds (exec (.flitTransmit (.stand 0 0) 2) idlePort) (fun t => t.out.length == 0) = true := by decide +kernel
def mirror0 : MirrorOpen := ⟨6, 0, { entry0 with imageTag := 2 }, 1, 0, 0, 0, 0⟩
theorem witness_Mirrors : twins.mirrors = true ∧ (twins.image mirror0.tag).isSome = true ∧ mirror0.entry.partner = false ∧ twins.mirrorOf mirror0.handle = none
    ∧ twins.openable 0 1 = 1 :: [] ∧ twins.unitsAt (unitsFor (twins.layers 1) 8) = some 64 ∧ mirror0.entry.specMode = 0 ∧ mirror0.entry.state ≠ 0
    ∧ twins.mirrorOf 5 = some 0 ∧ (⟨5, [(3, 7)], [], []⟩ : MirrorPrompt).tokens = [(3, 7)] ∧ (⟨5, 4, 0⟩ : MirrorState).state ≠ 0 ∧ (⟨5, 0, 0⟩ : MirrorState).state = 0
    ∧ (let s : State := { twins with images := [(1, { image0 with variants := [(9, {})] })] }; s.variant (s.seq 0).entry.imageTag 9 = some {})
    ∧ (let s : State := { twins with seqs := [(0, { entry := entry0, mirrored := true, mirrorOut := [(3, 0)] })] }
       s.ofHandle (0 : BitVec 32).toNat = some 0 ∧ (s.seq 0).mirrored = true ∧ (s.seq 0).moving = false ∧ ∃ p ∈ (s.seq 0).mirrorOut, p.1 ≤ 3) := by decide +kernel
theorem test_mirror_open : holds (exec (.mirrorOpen mirror0) twins) (fun t => (t.seq 1).partnerHandle == 6 && (t.seq 1).entry.imageTag == 1 && (t.seq 1).entry.partner) = true := by decide +kernel
theorem witness_TwinBarriers : (let s := also { twins with twin := { ownHere := true } } [(twPairStatus_leader, 0, 1)]
       s.pairState ≠ 0 ∧ s.pairState ≠ 3 ∧ s.on twPairStatus_leader 0 = true ∧ s.twin.ownHere = true ∧ s.twin.peerHere = false ∧ s.twin.replacing = false)
    ∧ (let s := also twins [(twPairStatus_leader, 0, 1)]; s.on twPairStatus_leader 0 = true ∧ s.twin.ownHere = false ∧ s.twin.peerHere = false)
    ∧ ({ twins with twin := { ownHere := true } } : State).on twPairStatus_leader 0 = false ∧ twins.lockstep = false ∧ twins.twin.replacing = false
    ∧ twins.paired = true ∧ twins.mirrorOf 5 = some 0 ∧ (twins.seq 0).entry.specMode = 0 ∧ twins.isSapling 0 = false ∧ (twins.seq 0).fellSeen = false
    ∧ (twins.classRec 4).mayPreempt = false ∧ (let s : State := { twins with twin := { partner := some partner0, wasSole := true } }
       s.twin.wasSole = true ∧ (s.ops.filter (fun o => o.2.state = 0)).length < 64 ∧ ∃ p ∈ s.images, s.partnerTag p.1 = none)
    ∧ twins.twin.wasSole = false ∧ 2 ^ 31 - 1 + [(1 : Byte)].length ≤ 2 ^ 31 ∧ twins.twin.window.wf = true := by decide +kernel

/-! ## Boot, Foresters, losses -/

/-- Flash with one record of each kind in slot 0. -/
def slots0 : List ((Nat × Nat) × SignedRecord) :=
  [((0, 0), record0), ((1, 0), ⟨1, 3, 1, true, true, 7, .configuration State.reset.config⟩), ((2, 0), ⟨2, 3, 1, true, true, 7, .protection prot0⟩),
   ((3, 0), ⟨3, 3, 1, true, true, 7, .manifest 0 true⟩)]
def cold : State := { State.reset with flash := { slots := slots0 } }
theorem witness_Starts : cold.service = .off ∧ cold.latched = false ∧ cold.pinsLow = [] ∧ 4000 ≤ boot0.tenMv ∧ boot0.tenMv ≤ 5900 ∧ cold.flash.slots ≠ []
    ∧ cold.bootFault true true = 0 ∧ cold.bootFault false true ≠ 0 ∧ cold.bootFault false false ≠ 0 ∧ { boot0 with tenMv := 3999 }.tenMv < 4000
    ∧ (let s := cold.pinLow 9; s.service = .off ∧ s.pinsLow = [9] ∧ s.feedValid = false)
    ∧ (let s := { also cold [(pwFeed_feedAOk, 0, 1), (pwFeed_feedBOk, 0, 1)] with pinsLow := [9] }; s.feedValid = true ∧ ∀ p ∈ s.pinsLow, p = 9) := by decide +kernel
theorem test_power_up : holds (exec (.powerUp 0 boot0) cold) (fun t => t.service == .stump && t.protLocked && t.bankB && t.get btStatus_step 3 == 8) = true := by decide +kernel
theorem witness_ShutsDown : served.service ≠ .off ∧ served.service ≠ .stump := by decide +kernel
def stump0 : State := { State.reset with service := .stump, protLocked := true }
def resident0 : Resident := { digest := 0, length := 4096, tag := 1, placement := 0 }
theorem witness_Survey : stump0.service = .stump ∧ stump0.protLocked = true ∧ State.reset.service ≠ .stump
    ∧ (let x : Staging := { length := 4096, base := 65536, boot := some 1, got := [(0, 4096)] }
       let s : State := { stand0 with service := .survey, stagings := [(0xFFFFFF00, x)], flash := { resident := [resident0] } }
       tblFind s.stagings 0xFFFFFF00 = some x ∧ x.boot = some 1 ∧ s.flash.resident.find? (fun r => decide (r.tag = 1)) = some resident0 ∧ resident0.tag = 1 ∧ x.full = true
       ∧ { img0 with rsaOk := false }.rsaOk = false ∧ img0.digest = resident0.digest
       ∧ loads (({ s with stagings := tblErase s.stagings 0xFFFFFF00 } : State).loadImage imgFile ⟨some 1, some 0, 0xFFFFFF00, true, []⟩) = true) := by decide +kernel
theorem witness_Swaps : (let s : State := { State.reset with swap := some { op := 3, records := [(0, record0)] } }; s.swapFault [(0, record0)] = none)
    ∧ State.reset.swapFault [(0, { record0 with slhOk := false })] = some (0x0500, 2) ∧ ({ op := 3, stage := 1 } : Swap).stage = 1 ∧ ({ op := 3, stage := 2 } : Swap).stage = 2
    ∧ (∀ r ∈ [(0, record0)], r.1 ≠ 1) := by decide +kernel
/-- The sequence's first page lies in the HBM pool. -/
def mapped : State := { served with hbm := [⟨4096, 0xF0⟩, ⟨4097, 0xFF⟩, ⟨4098, 0x2F⟩, ⟨4099, 0x40⟩] }
theorem witness_Failover : State.reset.swap = none ∧ (having [(btStatus_standbyReady, 7, 1)]).standbyReady = true ∧ State.reset.standbyReady = false ∧ State.reset.standbyIn = false
    ∧ (let s : State := { cold with service := .serving, protLocked := true }
       s.service ≠ .off ∧ s.bootFault true true = 0 ∧ s.protLocked = true ∧ foresterLanding s.otherForester ∉ s.landingsLost ∧ foresterLanding s.activeForester ∉ s.landingsLost)
    ∧ ({ op := 3, stage := 0 } : Swap).stage = 0 ∧ (7 : Fin 8).val ∉ served.landingsLost ∧ served.service ≠ .off
    ∧ (7 : Nat) ∈ ({ served with landingsLost := [7] } : State).landingsLost ∧ served.paired = false ∧ 0 ∈ served.ownOpen ∧ mapped.mapsPage 0 3145712 = true ∧ 0 ∈ mapped.ownOpen ∧ served.targetOf 0 = none
    ∧ (served.image 1).map (fun x => x.state) = some 2 ∧ ({ image0 with state := 3 } : Image).state = 3 ∧ 0 ∈ served.seqsOf 1 := by decide +kernel
/-- R465: an uncorrectable error in a page that a sequence maps ends it. -/
theorem test_hbm_error : holds (exec (.hbmReadError 3145712) mapped) (fun t => (t.seq 0).entry.state == 5) = true := by decide +kernel

/-! ## Management -/

def managed : State := { cold with service := .serving, running_ := [((0, 0), record0)] }
theorem witness_Spdm : managed.firmwareRuns = true ∧ State.reset.firmwareRuns = false ∧ 3 ≤ tblGet ({ managed with spdm := [(viaCode .smbus, 3)] } : State).spdm (viaCode .smbus) 0
    ∧ tblGet managed.spdm (viaCode .smbus) 0 < 3 ∧ bit (8 : BitVec 32).toNat 3 = true ∧ bit (2 : BitVec 32).toNat 1 = true ∧ bit (0 : BitVec 32).toNat 3 = false
    ∧ managed.service ≠ .off ∧ Reg.btStatus ∈ Block.bt.regs ∧ (0 : BitVec 16).toNat = Reg.btStatus.offset + 0 * Reg.btStatus.step ∧ 0 < Reg.btStatus.count
    ∧ (∀ r ∈ Block.bt.regs, ∀ i, i < r.count → 0xFFF8 ≠ r.offset + i * r.step) ∧ (4 : BitVec 8) ≠ 3 ∧ (1 : BitVec 4) ≠ 0 ∧ (0 : Nat) ≤ Config.certificateChain.length :=
  ⟨by decide +kernel, by decide +kernel, by decide +kernel, by decide +kernel, by decide +kernel, by decide +kernel, by decide +kernel, by decide +kernel, by decide +kernel,
    by decide +kernel, by decide +kernel, by decide +kernel, by decide, by decide, Nat.zero_le _⟩
theorem test_spdm : holds (exec (.spdmGetVersion .smbus) managed) (fun t => tblGet t.spdm (viaCode .smbus) 0 == 1) = true := by decide +kernel
theorem witness_Pldm : managed.service ≠ .off ∧ managed.firmwareRuns = true ∧ (389 : Nat) < 390 ∧ managed.sensor 0 = none ∧ ({ managed with sensors := [(389, -320)] } : State).sensor 389 = some (-320)
    ∧ (439 : BitVec 32).toNat ≤ 439 ∧ 439 < (440 : BitVec 32).toNat ∧ 1 ≤ (3 : BitVec 8).toNat ∧ (2 : BitVec 16) ≠ 1 ∧ ({ cold with service := .stump } : State).firmwareRuns = false
    ∧ (41 : Nat) < 42 := by decide +kernel
/-- R488: the service state sensor shows 4 in SERVING, and an unknown effecter answers 0x80. -/
theorem test_pldm : holds (exec (.pldmGetStateSensorReadings .smbus 0x300) managed) (fun t => t.out == [.mgmt (viaCode .smbus) [2, 0x21, 0, 1, 0, 4]]) = true
    ∧ holds (exec (.pldmGetStateEffecterStates .smbus 2) managed) (fun t => t.out == [.mgmt (viaCode .smbus) [2, 0x3A, 0x80]]) = true := by decide +kernel

end Sys2Proof.Tests
end

section
/-! PROOFS. What reset leaves (R8, R11, R96, R202, R428, R440): the state's tables are empty, so every register reads as the reset value of its table. -/

namespace Sys2Proof.Machine

/-- No register has been written at reset. -/
theorem reset_reg (k : RegKey) : State.reset.reg k = k.reset := tblGet_nil k k.reset

/-- The reset values of a register's table, each in its field. -/
def Reg.tableReset (r : Reg) : Nat := r.rows.foldl (fun v f => v + f.reset * 2 ^ f.lo) 0

theorem RegKey.reset_of_table {k : RegKey} (h : k.instanceReset = []) : k.reset = BitVec.ofNat 128 k.reg.tableReset := by
  rw [RegKey.reset, h, List.foldl_nil, Reg.tableReset]

/-- At reset a field of a register whose table alone gives its reset value reads the same in every unit. -/
theorem reset_get (f : Fld) (u : Nat) (h : (f.key u 0).instanceReset = []) :
    State.reset.get f u = bits (BitVec.ofNat 128 f.reg.tableReset).toNat f.lo f.len := by
  rw [State.get, State.getAt, reset_reg, RegKey.reset_of_table h, Fld.key]

/-- Settles O2: no table of the reset state lists anything, and each register's table gives what it holds. -/
theorem resetLeaves : Obligations.ResetLeaves := by
  refine ⟨⟨rfl, rfl, rfl, rfl, rfl, rfl, fun _ => ⟨rfl, rfl, rfl⟩, reset_reg, ?tile, ?stand, ?module⟩, rfl⟩
  case tile =>
    intro t
    rw [State.on, reset_get tlCtrl_calLimit _ rfl, reset_get tlTileStatus_activeValid _ rfl]
    decide
  case stand =>
    intro n
    rw [reset_get pwStandLimit_limit _ rfl, reset_get pwStandStatus_standPower _ rfl, reset_get pwStandStatus_phasesOk _ rfl,
      reset_get thStandStatus_heatFactor _ rfl]
    decide
  case module =>
    rw [reset_get pwModuleLimit_inForce _ rfl, reset_get pwConverters_working _ rfl]
    decide

end Sys2Proof.Machine
end

section
/-! PROOFS. The register tables as R8 and R9 need them: fields lie apart and within the register, an event register has a counting register
with a byte for each event bit, and which registers act when written. -/

namespace Sys2Proof.Machine

/-! ## Fields of a table -/

/-- Two fields of a register share no bit. -/
abbrev FieldRow.Apart (f g : FieldRow) : Prop := f.lo + f.len ≤ g.lo ∨ g.lo + g.len ≤ f.lo

theorem FieldRow.Apart.symm {f g : FieldRow} (h : f.Apart g) : g.Apart f := Or.symm h

theorem Reg.rows_pairwise (r : Reg) : r.rows.Pairwise FieldRow.Apart := by cases r <;> decide +kernel

theorem Reg.rows_apart {r : Reg} {f g : FieldRow} (hf : f ∈ r.rows) (hg : g ∈ r.rows) (h : f ≠ g) : f.Apart g := by
  have hall : ∀ f ∈ r.rows, ∀ g ∈ r.rows, f ≠ g → f.Apart g := by cases r <;> decide +kernel
  exact hall f hf g hg h

theorem Reg.row_within {r : Reg} {f : FieldRow} (hf : f ∈ r.rows) : f.lo + f.len ≤ r.width := by
  have hall : ∀ f ∈ r.rows, f.lo + f.len ≤ r.width := by cases r <;> decide +kernel
  exact hall f hf

theorem Reg.row_within_128 {r : Reg} {f : FieldRow} (hf : f ∈ r.rows) : f.lo + f.len ≤ 128 := by
  have hwidth : r.width ≤ 128 := by cases r <;> decide
  exact Nat.le_trans (Reg.row_within hf) hwidth

theorem Reg.row_not_w1s {r : Reg} {f : FieldRow} (hf : f ∈ r.rows) : f.acc ≠ .w1s := by
  have hall : ∀ f ∈ r.rows, f.acc ≠ .w1s := by cases r <;> decide +kernel
  exact hall f hf

/-- An event bit is one of the low 16 bits of a register that has counts. -/
theorem Reg.row_w1c {r : Reg} {f : FieldRow} (hf : f ∈ r.rows) (h : f.acc = .w1c) :
    f.len = 1 ∧ f.lo < 16 ∧ r.counts.isSome = true := by
  have hall : ∀ f ∈ r.rows, f.acc = .w1c → f.len = 1 ∧ f.lo < 16 ∧ r.counts.isSome = true := by cases r <;> decide +kernel
  exact hall f hf h

/-! ## Event registers and registers that act -/

/-- The registers whose write is the meaning of a row of its own (`State.writeActs`). -/
def actingRegs : List Reg :=
  [.skSpareForce, .skFaultInj, .tlRotate, .tlCruise, .tlMonCtrl, .pwBreaker, .mbPost, .mbCtrl, .twFaultInj, .gvDispatchData]

theorem State.writeActs_eq_none (s : State) {k : RegKey} (v : Nat) (h : k.reg ∉ actingRegs) : s.writeActs k v = none := by
  unfold State.writeActs
  split <;> simp_all [actingRegs]

/-- A register that acts has a WO field, but for the two injection registers and the dispatch window. -/
theorem wo_of_mem_actingRegs : ∀ r ∈ actingRegs, r ∈ [Reg.skFaultInj, .twFaultInj, .gvDispatchData] ∨ ∃ f ∈ r.rows, f.acc = .wo := by
  decide

/-- An event register is a single register of its unit, apart from its counts, without RO/L fields, and none that acts or is followed up. -/
theorem Reg.of_counts {r c : Reg} (h : r.counts = some c) :
    r ≠ c ∧ r.count = 1 ∧ r.perTile = false ∧ r.pairWide = false ∧ r ∉ actingRegs ∧ r ≠ .gvShadow ∧ ∀ f ∈ r.rows, f.acc ≠ .rol := by
  cases r <;> cases h <;> decide

theorem Reg.pwModuleLimit_rol : ∃ f ∈ Reg.pwModuleLimit.rows, f.acc = .rol := by decide

/-- SK_CLOSURE is the register whose one field is RO/L. -/
theorem Reg.eq_skClosure {r : Reg} {lo len old : Nat} (h : r.rows = [⟨lo, len, .rol, old⟩]) : r = .skClosure := by
  cases r <;> cases h
  rfl

end Sys2Proof.Machine
end

section
/-! PROOFS. Where a write of the Forester address space arrives (R56, R281): the place in a block, the one register it touches, and the
bits it carries to it. -/

namespace Sys2Proof.Machine

/-! ## The address -/

/-- The registers of the control ports stand in BAR0 alone. -/
theorem RegWindow.place_block {win : RegWindow} {p : RegPlace} (h : win.place = some p) : p.block ≠ .cp := by
  cases win with
  | stand n off =>
    simp only [RegWindow.place, standPlace] at h
    (repeat' split at h) <;> cases h <;> simp
  | landing l off =>
    simp only [RegWindow.place, landingPlace] at h
    (repeat' split at h) <;> cases h <;> simp

theorem mem_touched {b : Block} {off n i : Nat} {r : Reg} (h : (r, i) ∈ b.touched off n) : r ∈ b.regs ∧ i ∈ r.touched off n := by
  simp only [Block.touched, List.mem_flatMap, List.mem_map, Prod.mk.injEq] at h
  obtain ⟨q, hq, j, hj, rfl, rfl⟩ := h
  exact ⟨hq, hj⟩

theorem Reg.lt_count_of_touched {r : Reg} {off n i : Nat} (h : i ∈ r.touched off n) : i < r.count := by
  simp only [Reg.touched] at h
  split at h
  · cases h
  · simp only [upTo, List.mem_filterMap, List.mem_range] at h
    obtain ⟨k, hk, hi⟩ := h
    rw [Option.ite_none_right_eq_some, Option.some.injEq] at hi
    obtain ⟨-, rfl⟩ := hi
    split at hk <;> omega

/-- A register of the Forester address space is none of a control port's event registers. -/
theorem ne_cpEventStatus {b : Block} {r : Reg} (hb : b ≠ .cp) (h : r ∈ b.regs) : r ≠ .cpEventStatus := by
  rintro rfl
  cases b <;> simp_all [Block.regs]

/-- The violation of kind 8 (LOCKED) that a write to a window logs (R338, R339). -/
def lockedLog (win : RegWindow) (addr : Nat) (s : State) : State :=
  match win with
  | .stand m _ => s.foresterViolation m 8 none 0 addr 0
  | .landing l _ => s.violation l (48 + l) 8 none 0 addr 0

variable {s : State} {w : RegWrite} {a : BitVec 32} {win : RegWindow} {p : RegPlace}

theorem exec_foresterWrite (ht : w.target = .forester a) (hb : w.by_ ≠ .host) (hs : s.service ≠ .off) :
    exec (.registerWrite w) s = s.writeForester a.toNat w.nbytes w.data.toNat w.hwSets.toNat (decide (w.by_ = .stump)) := by
  rw [exec_registerWrite, execRegisterWrite, ht]
  exact if_neg (by simp [hb, hs])

theorem writeForester_place (s : State) {addr : Nat} (n v sets : Nat) (stump : Bool) (hw : windowOf addr = some win)
    (hp : win.place = some p) :
    s.writeForester addr n v sets stump = s.writePlace p n v sets (lockedLog win addr) stump := by
  simp only [State.writeForester, hw, hp]
  rfl

/-- The bits of an access at `p` that fall on entry `i` of a register, at their place in it. -/
def carried (p : RegPlace) (r : Reg) (i x : Nat) : Nat :=
  (if p.off ≤ r.offset + i * r.step then x / 256 ^ (r.offset + i * r.step - p.off) else x * 256 ^ (p.off - (r.offset + i * r.step)))
    % 2 ^ r.width

theorem writeAll_singleton (f : State → Host.Outcome State Fault Refusal) (s : State) : writeAll [f] s = f s := by
  simp only [writeAll]
  cases f s <;> rfl

theorem writePlace_single (s : State) {r : Reg} {i n : Nat} (v sets : Nat) (locked : State → State) (stump : Bool)
    (h : p.block.touched p.off n = [(r, i)]) :
    s.writePlace p n v sets locked stump
      = s.writeKey (s.regKey p r i) (carried p r i (v % 256 ^ n)) (carried p r i (256 ^ n - 1)) sets locked stump := by
  rw [State.writePlace, h, List.map_singleton, writeAll_singleton]
  rfl

theorem exec_singleWrite {r : Reg} {i : Nat} (ht : w.target = .forester a) (hb : w.by_ ≠ .host) (hs : s.service ≠ .off)
    (hw : windowOf a.toNat = some win) (hp : win.place = some p) (h : p.block.touched p.off w.nbytes = [(r, i)]) :
    exec (.registerWrite w) s
      = s.writeKey (s.regKey p r i) (carried p r i (w.data.toNat % 256 ^ w.nbytes)) (carried p r i (256 ^ w.nbytes - 1))
          w.hwSets.toNat (lockedLog win a.toNat) (decide (w.by_ = .stump)) := by
  rw [exec_foresterWrite ht hb hs, writeForester_place s _ _ _ _ hw hp, writePlace_single s _ _ _ _ h]

/-! ## The bits -/

theorem testBit_bits (v lo len i : Nat) : (bits v lo len).testBit i = (decide (i < len) && v.testBit (lo + i)) := by
  rw [bits, Nat.testBit_mod_two_pow, Nat.testBit_div_two_pow, Nat.add_comm i lo]

/-- Every field of an all-ones mask is all ones. -/
theorem bits_ones {n lo len : Nat} (h : lo + len ≤ n) : bits (2 ^ n - 1) lo len = 2 ^ len - 1 := by
  apply Nat.eq_of_testBit_eq
  intro i
  rw [testBit_bits, Nat.testBit_two_pow_sub_one, Nat.testBit_two_pow_sub_one]
  by_cases hi : i < len
  · simp [hi, show lo + i < n by omega]
  · simp [hi]

theorem bits_and_ones (v lo len : Nat) : bits v lo len &&& (2 ^ len - 1) = bits v lo len := by
  rw [Nat.and_two_pow_sub_one_eq_mod, Nat.mod_eq_of_lt (bits_lt v lo len)]

section
variable {r : Reg} {i n : Nat} (hoff : p.off = r.offset + i * r.step) (hn : 8 * n = r.width)
include hoff

theorem carried_aligned (x : Nat) : carried p r i x = x % 2 ^ r.width := by
  rw [carried, if_pos (Nat.le_of_eq hoff), hoff, Nat.sub_self, Nat.pow_zero, Nat.div_one]

include hn

/-- A write of the whole register carries the written bits to every field. -/
theorem bits_carried_data (v : Nat) {lo len : Nat} (h : lo + len ≤ r.width) :
    bits (carried p r i (v % 256 ^ n)) lo len = bits v lo len := by
  rw [carried_aligned hoff, bits_mod _ _ _ _ h, show 256 ^ n = 2 ^ r.width by rw [← hn, Nat.pow_mul], bits_mod _ _ _ _ h]

/-- A write of the whole register masks no bit. -/
theorem bits_carried_mask {lo len : Nat} (h : lo + len ≤ r.width) : bits (carried p r i (256 ^ n - 1)) lo len = 2 ^ len - 1 := by
  rw [carried_aligned hoff, bits_mod _ _ _ _ h, show 256 ^ n = 2 ^ r.width by rw [← hn, Nat.pow_mul], bits_ones h]

end

/-! ## The key -/

theorem regKey_reg (s : State) (p : RegPlace) (r : Reg) (i : Nat) : (s.regKey p r i).reg = r := rfl

/-- An event register's key is that of the place's unit. -/
theorem regKey_of_counts (s : State) (p : RegPlace) {r c : Reg} (h : r.counts = some c) : s.regKey p r 0 = ⟨r, p.unit, 0, 0⟩ := by
  obtain ⟨-, -, htile, hpair, -, -, hrol⟩ := Reg.of_counts h
  simp only [State.regKey, htile, hpair]
  cases r <;> cases h <;> rfl

end Sys2Proof.Machine
end

section
/-! PROOFS. Hardware sets of event bits (R9): each sets its bit and advances its count, and everything else stays. -/

namespace Sys2Proof.Machine

/-! ## States that differ in registers only -/

theorem RegsOnly.refl (s : State) : RegsOnly s s := rfl

theorem RegsOnly.trans {s t u : State} (h : RegsOnly s t) (h' : RegsOnly t u) : RegsOnly s u := by
  unfold RegsOnly at h h' ⊢
  rw [h', h]

theorem regsOnly_setReg (s : State) (k : RegKey) (v : RegVal) : RegsOnly s (s.setReg k v) := rfl

theorem regsOnly_raise (s : State) (f : Fld) (c : Reg) (u : Nat) : RegsOnly s (s.raise f c u) := rfl

/-! ## One event bit -/

variable (s : State)

theorem reg_put_ne {f : Fld} {u : Nat} (x : Nat) {j : RegKey} (h : f.key u 0 ≠ j) : (s.put f u x).reg j = s.reg j :=
  State.setReg_reg_ne s _ h

theorem reg_raise_ne {f : Fld} {c : Reg} {u : Nat} {j : RegKey} (hf : f.key u 0 ≠ j) (hc : c ≠ j.reg) :
    (s.raise f c u).reg j = s.reg j := by
  have hcount : ∀ lo, (⟨c, lo, 8⟩ : Fld).key u 0 ≠ j := fun lo e => hc (congrArg RegKey.reg e)
  rw [State.raise, State.wrapUp, reg_put_ne _ _ (hcount _), reg_put_ne _ _ hf]

/-- A field of a register that neither holds the event nor counts it. -/
theorem get_raise_reg {f g : Fld} {c : Reg} (u v : Nat) (hf : f.reg ≠ g.reg) (hc : c ≠ g.reg) :
    (s.raise f c u).get g v = s.get g v := by
  rw [State.raise, State.wrapUp, State.get_put_reg _ _ _ _ hc, State.get_put_reg _ _ _ _ hf]

/-- Another field of the event's own register. -/
theorem get_raise_field {f g : Fld} {c : Reg} (u v : Nat) (hc : c ≠ g.reg) (hg : g.lo + g.len ≤ 128)
    (h : f.lo + f.len ≤ g.lo ∨ g.lo + g.len ≤ f.lo) : (s.raise f c u).get g v = s.get g v := by
  rw [State.raise, State.wrapUp, State.get_put_reg _ _ _ _ hc, State.get_put_field _ _ _ _ hg h]

/-- The count of another event bit. -/
theorem get_raise_count_ne {f : Fld} {c : Reg} {lo : Nat} (u : Nat) (hc : f.reg ≠ c) (hlo : lo < 16) (h : f.lo ≠ lo) :
    (s.raise f c u).get ⟨c, 8 * lo, 8⟩ u = s.get ⟨c, 8 * lo, 8⟩ u := by
  rw [State.raise, State.wrapUp, State.get_put_field _ _ _ _ (by simp only; omega) (by simp only; omega), State.get_put_reg _ _ _ _ hc]

/-- The count of the event bit advances modulo 256. -/
theorem get_raise_count_self {f : Fld} {c : Reg} (u : Nat) (hc : f.reg ≠ c) (hlo : f.lo < 16) :
    (s.raise f c u).get ⟨c, 8 * f.lo, 8⟩ u = (s.get ⟨c, 8 * f.lo, 8⟩ u + 1) % 256 := by
  rw [State.raise, State.wrapUp, State.get_put_self _ _ _ _ (by simp only; omega), State.get_put_reg _ _ _ _ hc]
  rfl

/-! ## Several event bits of one register -/

/-- Event bits of one register set one after another. -/
def State.raiseAll (s : State) (r c : Reg) (u : Nat) (l : List FieldRow) : State := s.each l (fun s f => s.raise ⟨r, f.lo, 1⟩ c u)

@[simp] theorem raiseAll_nil (r c : Reg) (u : Nat) : s.raiseAll r c u [] = s := rfl

@[simp] theorem raiseAll_cons (r c : Reg) (u : Nat) (f : FieldRow) (l : List FieldRow) :
    s.raiseAll r c u (f :: l) = (s.raise ⟨r, f.lo, 1⟩ c u).raiseAll r c u l := rfl

/-- A value that each of the sets keeps, all of them keep. -/
theorem raiseAll_keeps {α : Type} (view : State → α) {r c : Reg} {u : Nat} {l : List FieldRow}
    (h : ∀ f ∈ l, ∀ s : State, view (s.raise ⟨r, f.lo, 1⟩ c u) = view s) : view (s.raiseAll r c u l) = view s := by
  induction l generalizing s with
  | nil => rfl
  | cons f l ih => rw [raiseAll_cons, ih _ (fun g hg => h g (.tail f hg)), h f (.head l)]

theorem regsOnly_raiseAll (r c : Reg) (u : Nat) (l : List FieldRow) : RegsOnly s (s.raiseAll r c u l) := by
  induction l generalizing s with
  | nil => exact RegsOnly.refl s
  | cons f l ih => exact (regsOnly_raise s _ c u).trans (ih _)

theorem reg_raiseAll_ne {r c : Reg} {u : Nat} (l : List FieldRow) {j : RegKey} (hr : ⟨r, u, 0, 0⟩ ≠ j) (hc : c ≠ j.reg) :
    (s.raiseAll r c u l).reg j = s.reg j :=
  raiseAll_keeps s (fun s => s.reg j) (fun _ _ s => reg_raise_ne s hr hc)

/-- A field apart from every bit that is set. -/
theorem get_raiseAll_field {r c : Reg} {g : Fld} (u v : Nat) {l : List FieldRow} (hc : c ≠ g.reg) (hg : g.lo + g.len ≤ 128)
    (h : ∀ f ∈ l, f.lo + 1 ≤ g.lo ∨ g.lo + g.len ≤ f.lo) : (s.raiseAll r c u l).get g v = s.get g v :=
  raiseAll_keeps s (fun s => s.get g v) (fun f hf s => get_raise_field s u v hc hg (h f hf))

/-- Of event bits that lie apart, each ends set and its count has advanced by 1. -/
theorem raiseAll_sets {r c : Reg} (u : Nat) {l : List FieldRow} (hc : r ≠ c) (hl : l.Pairwise FieldRow.Apart)
    (hbit : ∀ f ∈ l, f.len = 1 ∧ f.lo < 16) {f : FieldRow} (hf : f ∈ l) :
    (s.raiseAll r c u l).get ⟨c, 8 * f.lo, 8⟩ u = (s.get ⟨c, 8 * f.lo, 8⟩ u + 1) % 256
    ∧ (s.raiseAll r c u l).on ⟨r, f.lo, 1⟩ u = true := by
  induction l generalizing s with
  | nil => cases hf
  | cons g l ih =>
    obtain ⟨hg, hl⟩ := List.pairwise_cons.mp hl
    obtain ⟨hglen, hglo⟩ := hbit g (.head l)
    have hbit' : ∀ f ∈ l, f.len = 1 ∧ f.lo < 16 := fun f hf => hbit f (.tail g hf)
    have hne : ∀ f ∈ l, f.lo ≠ g.lo := fun f hf => by
      have := (hbit' f hf).1
      have := hg f hf
      omega
    rw [raiseAll_cons]
    cases hf with
    | head =>
      have hcount := raiseAll_keeps (s.raise ⟨r, f.lo, 1⟩ c u) (fun s => s.get ⟨c, 8 * f.lo, 8⟩ u)
        (fun x hx s => get_raise_count_ne (f := ⟨r, x.lo, 1⟩) s u hc hglo (hne x hx))
      have hset := get_raiseAll_field (r := r) (c := c) (g := ⟨r, f.lo, 1⟩) (s.raise ⟨r, f.lo, 1⟩ c u) u u (l := l) hc.symm
        (by simp only; omega) (fun x hx => by have := hne x hx; simp only; omega)
      refine ⟨hcount.trans (get_raise_count_self (f := ⟨r, f.lo, 1⟩) s u hc hglo), ?_⟩
      rw [State.on, hset]
      exact State.on_raise_self s ⟨r, f.lo, 1⟩ c u rfl (by simp only; omega) hc
    | tail _ hf =>
      obtain ⟨hcount, hon⟩ := ih (s.raise ⟨r, g.lo, 1⟩ c u) hl hbit' hf
      rw [get_raise_count_ne (f := ⟨r, g.lo, 1⟩) s u hc (hbit' f hf).2 (Ne.symm (hne f hf))] at hcount
      exact ⟨hcount, hon⟩

/-! ## The hardware sets beside a write -/

/-- The event bits of a register that hardware sets. -/
def Reg.setRows (r : Reg) (sets : Nat) : List FieldRow := r.rows.filter (fun f => f.acc = .w1c ∧ bit sets f.lo)

theorem mem_setRows {r : Reg} {sets : Nat} {f : FieldRow} : f ∈ r.setRows sets ↔ f ∈ r.rows ∧ f.acc = .w1c ∧ bit sets f.lo = true := by
  simp [Reg.setRows]

theorem setRows_pairwise (r : Reg) (sets : Nat) : (r.setRows sets).Pairwise FieldRow.Apart := r.rows_pairwise.filter _

theorem setRows_bit {r : Reg} {sets : Nat} : ∀ f ∈ r.setRows sets, f.len = 1 ∧ f.lo < 16 := fun f hf => by
  obtain ⟨hrow, hacc, -⟩ := mem_setRows.mp hf
  obtain ⟨hlen, hlo, -⟩ := Reg.row_w1c hrow hacc
  exact ⟨hlen, hlo⟩

theorem hwSet_of_no_counts {k : RegKey} (sets : Nat) (h : k.reg.counts = none) : s.hwSet k sets = s := by
  simp only [State.hwSet, h]

theorem hwSet_of_counts {k : RegKey} {c : Reg} (sets : Nat) (h : k.reg.counts = some c) (hcp : k.reg ≠ .cpEventStatus) :
    s.hwSet k sets = s.raiseAll k.reg c k.unit (k.reg.setRows sets) := by
  simp only [State.hwSet, h, hcp, if_false]
  rfl

/-- A register's bits after the hardware sets: the set bits are 1, and every other field stays. -/
theorem bits_hwSet {r c : Reg} {u : Nat} (sets : Nat) (h : r.counts = some c) (hcp : r ≠ .cpEventStatus) {f : FieldRow} (hf : f ∈ r.rows) :
    bits ((s.hwSet ⟨r, u, 0, 0⟩ sets).reg ⟨r, u, 0, 0⟩).toNat f.lo f.len
      = if f ∈ r.setRows sets then 1 else bits (s.reg ⟨r, u, 0, 0⟩).toNat f.lo f.len := by
  obtain ⟨hc, -⟩ := Reg.of_counts h
  rw [hwSet_of_counts s sets h hcp]
  split
  next hset =>
    have hon := (raiseAll_sets s u hc (setRows_pairwise r sets) setRows_bit hset).2
    rw [(setRows_bit f hset).1]
    exact beq_iff_eq.mp hon
  next hset =>
    exact get_raiseAll_field s (g := ⟨r, f.lo, f.len⟩) u u hc.symm (Reg.row_within_128 hf) (fun g hg => by
      have hapart := Reg.rows_apart (mem_setRows.mp hg).1 hf (fun e => hset (e ▸ hg))
      rwa [FieldRow.Apart, (setRows_bit g hg).1] at hapart)

end Sys2Proof.Machine
end

section
/-! PROOFS. The write of one register by access code (R8, R451): what each field holds after it. -/

namespace Sys2Proof.Machine

/-! ## Fields -/

/-- What a field that held `o` holds once `x` is written to all of it (R8). -/
def FieldRow.after (f : FieldRow) (o x : Nat) : Nat :=
  match f.acc with
  | .rw => x
  | .w1c => if x = 1 then 0 else o
  | _ => o

/-- A W1C bit clears where the written bit is 1. -/
theorem clear_bit : ∀ o < 2 ^ 1, ∀ x < 2 ^ 1, (o &&& (2 ^ 1 - 1 - x)) % 2 ^ 1 = if x = 1 then 0 else o := by decide

theorem bits_written_self {f : FieldRow} (old v : Nat) {mask : Nat} (hm : bits mask f.lo f.len = 2 ^ f.len - 1)
    (hw1c : f.acc = .w1c → f.len = 1) (hw1s : f.acc ≠ .w1s) :
    bits (f.written old v mask) f.lo f.len = f.after (bits old f.lo f.len) (bits v f.lo f.len) := by
  obtain ⟨lo, len, acc, reset⟩ := f
  simp only [FieldRow.written, FieldRow.after, bits_putBits_self, hm, bits_and_ones]
  cases acc with
  | w1s => exact absurd rfl hw1s
  | w1c =>
    cases hw1c rfl
    exact clear_bit _ (bits_lt old lo 1) _ (bits_lt v lo 1)
  | rw => simp [Nat.mod_eq_of_lt (bits_lt v lo len)]
  | ro | wo | rol | rsv => exact Nat.mod_eq_of_lt (bits_lt old lo len)

theorem bits_written_apart {f g : FieldRow} (old v mask : Nat) (h : f.Apart g) :
    bits (g.written old v mask) f.lo f.len = bits old f.lo f.len :=
  h.elim (bits_putBits_low _ _ _ _ _ _) (bits_putBits_high _ _ _ _ _ _)

theorem bits_foldl_written_apart {f : FieldRow} {l : List FieldRow} (old v mask : Nat) (h : ∀ g ∈ l, f.Apart g) :
    bits (l.foldl (fun o g => g.written o v mask) old) f.lo f.len = bits old f.lo f.len := by
  induction l generalizing old with
  | nil => rfl
  | cons g l ih => rw [List.foldl_cons, ih _ (fun x hx => h x (.tail g hx)), bits_written_apart _ _ _ (h g (.head l))]

/-- Fields that lie apart are written each by itself. -/
theorem bits_foldl_written {l : List FieldRow} (hl : l.Pairwise FieldRow.Apart) {f : FieldRow} (hf : f ∈ l) (old v : Nat) {mask : Nat}
    (hm : bits mask f.lo f.len = 2 ^ f.len - 1) (hw1c : f.acc = .w1c → f.len = 1) (hw1s : f.acc ≠ .w1s) :
    bits (l.foldl (fun o g => g.written o v mask) old) f.lo f.len = f.after (bits old f.lo f.len) (bits v f.lo f.len) := by
  induction l generalizing old with
  | nil => cases hf
  | cons g l ih =>
    obtain ⟨hg, hl⟩ := List.pairwise_cons.mp hl
    rw [List.foldl_cons]
    cases hf with
    | head => rw [bits_foldl_written_apart _ _ _ hg, bits_written_self old v hm hw1c hw1s]
    | tail _ hf => rw [ih hl hf, bits_written_apart _ _ _ (hg f hf).symm]

theorem bits_reg_written {r : Reg} {f : FieldRow} (hf : f ∈ r.rows) (old v : Nat) {mask : Nat}
    (hm : bits mask f.lo f.len = 2 ^ f.len - 1) :
    bits (r.written old v mask) f.lo f.len = f.after (bits old f.lo f.len) (bits v f.lo f.len) :=
  bits_foldl_written r.rows_pairwise hf old v hm (fun h => (Reg.row_w1c hf h).1) (Reg.row_not_w1s hf)

/-- The RO/L field of a register with one field takes what stump code writes to all of it. -/
theorem bits_writtenRol {r : Reg} {lo len reset : Nat} (hr : r.rows = [⟨lo, len, .rol, reset⟩]) (old v : Nat) {mask : Nat}
    (hm : bits mask lo len = 2 ^ len - 1) : bits (r.writtenRol old v mask) lo len = bits v lo len := by
  simp [Reg.writtenRol, hr, hm, Nat.mod_eq_of_lt (bits_lt v lo len)]

/-! ## The register -/

/-- May software change a field (R8)? -/
def FieldRow.Writable (f : FieldRow) : Prop := f.acc = .rw ∨ f.acc = .w1c ∨ f.acc = .w1s

theorem FieldRow.after_of_not_writable {f : FieldRow} (h : ¬ f.Writable) (o x : Nat) : f.after o x = o := by
  obtain ⟨lo, len, acc, reset⟩ := f
  cases acc <;> simp_all [FieldRow.after, FieldRow.Writable]

/-- A register's own part of a write: its fields by their access codes. -/
def State.storeFields (s : State) (k : RegKey) (v mask : Nat) : State :=
  if k.reg.rows.any (fun f => decide (f.acc = .rw ∨ f.acc = .w1c ∨ f.acc = .w1s)) then
    s.setReg k (BitVec.ofNat 128 (k.reg.written (s.reg k).toNat v mask))
  else s

variable (s : State) {k : RegKey}

theorem regsOnly_storeFields (k : RegKey) (v mask : Nat) : RegsOnly s (s.storeFields k v mask) := by
  unfold State.storeFields
  split
  · exact regsOnly_setReg s k _
  · exact RegsOnly.refl s

theorem reg_storeFields_ne (v mask : Nat) {j : RegKey} (h : k ≠ j) : (s.storeFields k v mask).reg j = s.reg j := by
  unfold State.storeFields
  split
  · exact State.setReg_reg_ne s _ h
  · rfl

theorem bits_storeFields (v : Nat) {mask : Nat} {f : FieldRow} (hf : f ∈ k.reg.rows)
    (hm : bits mask f.lo f.len = 2 ^ f.len - 1) :
    bits ((s.storeFields k v mask).reg k).toNat f.lo f.len = f.after (bits (s.reg k).toNat f.lo f.len) (bits v f.lo f.len) := by
  unfold State.storeFields
  split
  next => rw [State.setReg_reg_self, bits_ofNat _ _ _ (Reg.row_within_128 hf), bits_reg_written hf _ _ hm]
  next hany =>
    refine (FieldRow.after_of_not_writable (fun hw => hany ?_) _ _).symm
    exact List.any_eq_true.mpr ⟨f, hf, decide_eq_true hw⟩

/-- A write of a register without RO/L fields that does not act: its fields, then the hardware sets of the same window. -/
theorem writeKey_plain (v mask sets : Nat) (locked : State → State) (stump : Bool) (hact : k.reg ∉ actingRegs)
    (hshadow : k.reg ≠ .gvShadow) (hrol : ∀ f ∈ k.reg.rows, f.acc ≠ .rol) :
    s.writeKey k v mask sets locked stump = .next ((s.storeFields k v mask).hwSet k sets) := by
  have hany : k.reg.rows.any (fun f => f.acc == .rol) = false := List.any_eq_false.mpr (fun f hf => by simpa using hrol f hf)
  have hlock : k.reg.lockHit (s.viewReg k) v mask = false := List.any_eq_false.mpr (fun f hf => by simp [hrol f hf])
  have hlimit : k.reg ≠ .pwModuleLimit := fun h => by
    obtain ⟨f, hf, hacc⟩ := Reg.pwModuleLimit_rol
    exact hrol f (h ▸ hf) hacc
  have hfollow : (s.storeFields k v mask).writeFollows k v mask = s.storeFields k v mask := by
    unfold State.writeFollows
    split <;> simp_all
  simp only [State.writeKey, State.writeActs_eq_none s _ hact, hany, hlock, Bool.and_false, if_false, Bool.false_eq_true]
  exact congrArg (fun t : State => Host.Outcome.next (t.hwSet k sets)) hfollow

/-! ## A register with one RO/L field -/

theorem writeKey_locked (v mask sets : Nat) (locked : State → State) (stump : Bool) (hk : k.reg = .skClosure)
    (hstump : (stump && !s.protLocked) = false)
    (hne : bits v 0 32 &&& bits mask 0 32 ≠ bits (s.reg k).toNat 0 32 &&& bits mask 0 32) :
    s.writeKey k v mask sets locked stump = .next (locked s) := by
  have hact : k.reg ∉ actingRegs := by rw [hk]; decide
  have hlock : k.reg.lockHit (s.viewReg k) v mask = true := by
    simpa [hk, Reg.lockHit, Reg.rows, State.viewReg] using hne
  simp only [State.writeKey, State.writeActs_eq_none s _ hact, hstump, hlock]
  simp [hk, Reg.rows, State.writeFollows, State.hwSet, Reg.counts]

theorem writeKey_stump (v mask sets : Nat) (locked : State → State) (hk : k.reg = .skClosure) (hs : s.protLocked = false) :
    s.writeKey k v mask sets locked true
      = .next (s.setReg { k with bank := 1 - s.protBank }
          (BitVec.ofNat 128 (k.reg.writtenRol (s.reg { k with bank := 1 - s.protBank }).toNat v mask))) := by
  have hact : k.reg ∉ actingRegs := by rw [hk]; decide
  simp only [State.writeKey, State.writeActs_eq_none s _ hact, hs]
  simp [hk, Reg.rows]

end Sys2Proof.Machine
end

section
/-! PROOFS. Obligation O49, firmware's part (R8, R9): one write of the Forester address space. -/

namespace Sys2Proof.Machine

/-! ## The hardware sets, with or without counts -/

/-- A key whose register, where it counts events, is the single entry of its unit. -/
structure RegKey.EventKey (k : RegKey) : Prop where
  notControlPort : k.reg ≠ .cpEventStatus
  single : ∀ c, k.reg.counts = some c → k = ⟨k.reg, k.unit, 0, 0⟩

theorem eventKey_of_touched (s : State) {win : RegWindow} {p : RegPlace} {r : Reg} {i n : Nat} (hp : win.place = some p)
    (h : p.block.touched p.off n = [(r, i)]) : (s.regKey p r i).EventKey := by
  obtain ⟨hreg, hi⟩ := mem_touched (h ▸ List.mem_singleton_self (r, i))
  refine ⟨ne_cpEventStatus (RegWindow.place_block hp) hreg, fun c (hc : r.counts = some c) => ?_⟩
  obtain ⟨-, hcount, -⟩ := Reg.of_counts hc
  have hi0 : i = 0 := Nat.lt_one_iff.mp (hcount ▸ Reg.lt_count_of_touched hi)
  rw [hi0, regKey_of_counts s p hc]

section
variable (s : State) {k : RegKey} (sets : Nat)

theorem regsOnly_hwSet (hk : k.EventKey) : RegsOnly s (s.hwSet k sets) := by
  cases h : k.reg.counts with
  | none => rw [hwSet_of_no_counts s sets h]; exact RegsOnly.refl s
  | some c => rw [hwSet_of_counts s sets h hk.notControlPort]; exact regsOnly_raiseAll s _ c _ _

theorem reg_hwSet_ne (hk : k.EventKey) {j : RegKey} (hj : j ≠ k) (hc : some j.reg ≠ k.reg.counts) :
    (s.hwSet k sets).reg j = s.reg j := by
  cases h : k.reg.counts with
  | none => rw [hwSet_of_no_counts s sets h]
  | some c =>
    rw [hwSet_of_counts s sets h hk.notControlPort]
    exact reg_raiseAll_ne s _ (hk.single c h ▸ hj.symm) (fun e => hc (h ▸ congrArg some e.symm))

theorem bits_hwSet_key (hk : k.EventKey) {f : FieldRow} (hf : f ∈ k.reg.rows) :
    bits ((s.hwSet k sets).reg k).toNat f.lo f.len
      = if f ∈ k.reg.setRows sets then 1 else bits (s.reg k).toNat f.lo f.len := by
  cases h : k.reg.counts with
  | none =>
    have hnot : f ∉ k.reg.setRows sets := fun hm => by
      obtain ⟨hrow, hacc, -⟩ := mem_setRows.mp hm
      simpa [h] using (Reg.row_w1c hrow hacc).2.2
    rw [hwSet_of_no_counts s sets h, if_neg hnot]
  | some c =>
    rw [hk.single c h]
    exact bits_hwSet s sets h hk.notControlPort hf

end

/-! ## One register written whole -/

section
variable {s : State} {w : RegWrite} {a : BitVec 32} {win : RegWindow} {p : RegPlace} {r : Reg} {i : Nat}

/-- The state after a write of one register without RO/L fields that does not act. -/
def afterWrite (s : State) (w : RegWrite) (p : RegPlace) (r : Reg) (i : Nat) : State :=
  (s.storeFields (s.regKey p r i) (carried p r i (w.data.toNat % 256 ^ w.nbytes)) (carried p r i (256 ^ w.nbytes - 1))).hwSet
    (s.regKey p r i) w.hwSets.toNat

theorem exec_plainWrite (ht : w.target = .forester a) (hb : w.by_ ≠ .host) (hs : s.service ≠ .off) (hw : windowOf a.toNat = some win)
    (hp : win.place = some p) (h : p.block.touched p.off w.nbytes = [(r, i)]) (hact : r ∉ actingRegs) (hshadow : r ≠ .gvShadow)
    (hrol : ∀ f ∈ r.rows, f.acc ≠ .rol) : exec (.registerWrite w) s = .next (afterWrite s w p r i) := by
  rw [exec_singleWrite ht hb hs hw hp h]
  exact writeKey_plain s _ _ _ _ _ hact hshadow hrol

theorem regsOnly_afterWrite (hk : (s.regKey p r i).EventKey) : RegsOnly s (afterWrite s w p r i) :=
  (regsOnly_storeFields s _ _ _).trans (regsOnly_hwSet _ _ hk)

theorem reg_afterWrite_ne (hk : (s.regKey p r i).EventKey) {j : RegKey} (hj : j ≠ s.regKey p r i) (hc : some j.reg ≠ r.counts) :
    (afterWrite s w p r i).reg j = s.reg j := by
  rw [afterWrite, reg_hwSet_ne _ _ hk hj hc, reg_storeFields_ne s _ _ hj.symm]

theorem bits_afterWrite (hk : (s.regKey p r i).EventKey) (hoff : p.off = r.offset + i * r.step) (hn : 8 * w.nbytes = r.width)
    {f : FieldRow} (hf : f ∈ r.rows) :
    bits ((afterWrite s w p r i).reg (s.regKey p r i)).toNat f.lo f.len
      = if f ∈ r.setRows w.hwSets.toNat then 1
        else f.after (bits (s.reg (s.regKey p r i)).toNat f.lo f.len) (bits w.data.toNat f.lo f.len) := by
  have hwithin := Reg.row_within hf
  have hstore := bits_storeFields s (k := s.regKey p r i) (carried p r i (w.data.toNat % 256 ^ w.nbytes)) hf
    (bits_carried_mask hoff hn hwithin)
  rw [bits_carried_data hoff hn _ hwithin] at hstore
  rw [afterWrite, bits_hwSet_key _ _ hk hf, hstore]
  rfl

end

/-- Firmware's writes: by access code, with the hardware sets of the same window, and where no register stands. -/
theorem registerWrites_firmware : RegisterWrites := by
  refine ⟨?fields, ?counts, ?nowhere⟩
  case fields =>
    intro s w a win p r i ht hb hs hw hp h hoff hn hrows hr
    have hk := eventKey_of_touched s hp h
    have hact : r ∉ actingRegs := fun hmem => by
      rcases wo_of_mem_actingRegs r hmem with hin | ⟨f, hf, hwo⟩
      · exact hr (List.mem_append_left [Reg.gvShadow] hin)
      · exact (hrows f hf).1 hwo
    have hshadow : r ≠ .gvShadow := fun e => hr (by simp [e])
    refine ⟨afterWrite s w p r i, exec_plainWrite ht hb hs hw hp h hact hshadow (fun f hf => (hrows f hf).2), regsOnly_afterWrite hk,
      fun j hj hc => reg_afterWrite_ne hk hj hc, fun f hf => ?_⟩
    have hw1c := fun hacc => (Reg.row_w1c hf hacc).1
    rw [bits_afterWrite hk hoff hn hf]
    obtain ⟨lo, len, acc, reset⟩ := f
    cases acc with
    | w1c =>
      cases hw1c rfl
      simp [mem_setRows, hf, FieldRow.after, bit]
    | ro | rw | wo | w1s | rol | rsv => simp [mem_setRows, FieldRow.after]
  case counts =>
    intro s w a win p r c ht hb hs hw hp h hc
    have hcp := (eventKey_of_touched s hp h).notControlPort
    obtain ⟨hne, -, -, -, hact, hshadow, hrol⟩ := Reg.of_counts hc
    refine ⟨afterWrite s w p r 0, exec_plainWrite ht hb hs hw hp h hact hshadow hrol, fun f hf hacc hset => ?_⟩
    have hstored (m : State) : m.get ⟨c, 8 * f.lo, 8⟩ p.unit = bits (m.reg ⟨c, p.unit, 0, 0⟩).toNat (8 * f.lo) 8 := rfl
    have hkey := regKey_of_counts s p hc
    rw [afterWrite, hkey, hwSet_of_counts _ _ hc (hkey ▸ hcp), hstored s,
      ← reg_storeFields_ne s (k := ⟨r, p.unit, 0, 0⟩) (carried p r 0 (w.data.toNat % 256 ^ w.nbytes)) (carried p r 0 (256 ^ w.nbytes - 1))
        (fun e => hne (congrArg RegKey.reg e)), ← hstored]
    exact raiseAll_sets _ p.unit hne (setRows_pairwise r _) setRows_bit (mem_setRows.mpr ⟨hf, hacc, hset⟩)
  case nowhere =>
    intro s w a ht hb hs
    rw [exec_foresterWrite ht hb hs, State.writeForester]
    refine ⟨fun hw => by simp only [hw], fun win hw hnone => ?_⟩
    rcases hnone with hp | ⟨p, hp, h⟩
    · simp only [hw, hp]
    · simp only [hw, hp, State.writePlace, h]
      rfl

end Sys2Proof.Machine
end

section
/-! PROOFS. Violations (R338, R339): what a landing's log and the function's event bits hold after one. -/

namespace Sys2Proof.Machine

/-! ## The newest entry -/

/-- After a push the newest entry is the violation, or an entry that it repeats. -/
theorem violPush_newest (log : List Violation) (v : Violation) :
    ∃ w, (violPush log v).getLast? = some w ∧ w.kind = v.kind ∧ w.source = v.source ∧ w.func = v.func ∧ w.addr = v.addr := by
  unfold violPush
  split
  next h =>
    unfold violRepeats at h
    cases hw : log.getLast? with
    | none => simp [hw] at h
    | some w =>
      simp only [hw, decide_eq_true_eq] at h
      obtain ⟨hsource, hfunc, hkind, haddr, -⟩ := h
      exact ⟨{ w with repeats := min 255 (w.repeats + 1) }, by simp, hkind, hsource, hfunc, haddr⟩
  next =>
    refine ⟨v, ?_, rfl, rfl, rfl, rfl⟩
    rw [List.getLast?_drop, if_neg (by simp only [List.length_append, List.length_singleton]; omega), List.getLast?_concat]

/-! ## What events and records leave as they were -/

variable (s : State)

/-- A message request reaches the functions and what is sent out alone. -/
theorem msixRequest_funcs_out (f : Fin 256) (vec : Nat) :
    s.msixRequest f vec = { s with funcs := (s.msixRequest f vec).funcs, out := (s.msixRequest f vec).out } := by
  simp only [State.msixRequest]
  repeat' split
  all_goals rfl

theorem msixRequest_violLog (f : Fin 256) (vec : Nat) : (s.msixRequest f vec).violLog = s.violLog := by
  rw [msixRequest_funcs_out]

theorem msixRequest_reg (f : Fin 256) (vec : Nat) (k : RegKey) : (s.msixRequest f vec).reg k = s.reg k := by
  rw [msixRequest_funcs_out]
  rfl

theorem msixRequest_get (f : Fin 256) (vec : Nat) (g : Fld) (u : Nat) : (s.msixRequest f vec).get g u = s.get g u :=
  congrArg (fun v : RegVal => bits v.toNat g.lo g.len) (msixRequest_reg s f vec _)

theorem cpEv_violLog (fld : Fld) (f : Fin 256) : (s.cpEv fld f).violLog = s.violLog := by
  simp only [State.cpEv]
  split
  · rw [msixRequest_violLog]; rfl
  · rfl

theorem get_cpEv (fld g : Fld) (f : Fin 256) (u : Nat) : (s.cpEv fld f).get g u = (s.raise fld .cpEventCount f.val).get g u := by
  simp only [State.cpEv]
  split
  · rw [msixRequest_get]
  · rfl

/-- An event record's own bits of CP_EVENT_STATUS: recordWritten, eventPageOff and twin. -/
def recordFields : List Fld := [cpEventStatus_recordWritten, cpEventStatus_eventPageOff, cpEventStatus_twin]

/-- What numbering a record, sending it and setting its event bits keep, an event record keeps. -/
theorem eventRecord_keeps {α : Type} (view : State → α) (f : Fin 256)
    (hput : ∀ (s : State) n, view (s.put mbEventHead_number f.val n) = view s) (hemit : ∀ (s : State) o, view (s.emit o) = view s)
    (hev : ∀ fld ∈ recordFields, ∀ s : State, view (s.cpEv fld f) = view s) (kind tenant handle : Nat) (detail : List Byte) :
    view (s.eventRecord f kind tenant handle detail) = view s := by
  have hwritten := hev cpEventStatus_recordWritten (by simp [recordFields])
  have hoff := hev cpEventStatus_eventPageOff (by simp [recordFields])
  have htwin := hev cpEventStatus_twin (by simp [recordFields])
  simp only [State.eventRecord]
  (repeat' split) <;> simp only [hwritten, hoff, htwin, hput, hemit]

theorem eventRecord_violLog (f : Fin 256) (kind tenant handle : Nat) (detail : List Byte) :
    (s.eventRecord f kind tenant handle detail).violLog = s.violLog :=
  eventRecord_keeps s (fun s => s.violLog) f (fun _ _ => rfl) (fun _ _ => rfl) (fun fld _ s => cpEv_violLog s fld f) ..

theorem eventRecord_violation_bit (f : Fin 256) (kind tenant handle : Nat) (detail : List Byte) :
    (s.eventRecord f kind tenant handle detail).on cpEventStatus_violation f.val = s.on cpEventStatus_violation f.val := by
  refine eventRecord_keeps s (fun s => s.on cpEventStatus_violation f.val) f (fun s n => ?_) (fun _ _ => rfl) (fun fld hfld s => ?_) ..
  · rw [State.on, State.get_put_reg s _ _ _ (by decide), State.on]
  · have hapart : ∀ fld ∈ recordFields, fld.lo + fld.len ≤ 3 ∨ 4 ≤ fld.lo := by decide
    rw [State.on, get_cpEv, get_raise_field s _ _ (by decide) (by decide) (hapart fld hfld), State.on]

/-! ## A violation charged to a function -/

theorem violation_violLog (log source kind : Nat) (f : Fin 256) (tag addr command : Nat) :
    (s.violation log source kind (some f) tag addr command).violLog
      = tblSet s.violLog log (violPush (tblGet s.violLog log [])
          ⟨s.tally, (s.tenantOf f).getD 0xFFFF, source, kind, f.val, tag, 0, addr, command⟩) := by
  simp only [State.violation]
  rw [eventRecord_violLog, State.setReg_violLog, cpEv_violLog]
  rfl

theorem violation_sets_bit (log source kind : Nat) (f : Fin 256) (tag addr command : Nat) :
    (s.violation log source kind (some f) tag addr command).on cpEventStatus_violation f.val = true := by
  have hother (s : State) (v : RegVal) :
      (s.setReg ⟨.cpViolLast, f.val, 0, 0⟩ v).on cpEventStatus_violation f.val = s.on cpEventStatus_violation f.val := by
    rw [State.on, State.get, State.getAt, State.setReg_reg_ne s v (fun e => Reg.noConfusion (congrArg RegKey.reg e))]
    rfl
  have hraise (s : State) : (s.cpEv cpEventStatus_violation f).on cpEventStatus_violation f.val = true := by
    rw [State.on, get_cpEv]
    exact State.on_raise_self s _ _ _ rfl (by decide) (by decide)
  simp only [State.violation]
  rw [eventRecord_violation_bit, hother, hraise]

/-- A violation charged to no function changes no register. -/
theorem lockedLog_reg (win : RegWindow) (addr : Nat) (k : RegKey) : (lockedLog win addr s).reg k = s.reg k := by
  cases win <;> rfl

end Sys2Proof.Machine
end

section
/-! PROOFS. Obligation O49, who may reach and write which (R8, R319, R324, R325, R338, R451). -/

namespace Sys2Proof.Machine

/-- A function without pending vectors has no message to send. -/
theorem sendPending_of_no_pending (s : State) (f : Fin 256) (h : (s.func f).msixPending = []) : s.sendPending f = s := by
  simp only [State.sendPending, h]
  split <;> rfl

theorem writeCommand_of_no_pending (s : State) (f : Fin 256) (v : Nat) (hex : (s.func f).exists_ = true) (hs : s.service ≠ .off)
    (hpend : (s.func f).msixPending = []) : s.writeCommand f v = s.setFunc f { s.func f with busMaster := bit v 2 } := by
  have hrun : (!(s.func f).exists_ || s.service == .off) = false := by simp [hex, hs]
  simp only [State.writeCommand, hrun, Bool.false_eq_true, if_false]
  exact sendPending_of_no_pending _ f (by simp [hpend])

theorem writeBar0_size (s : State) (f : Fin 256) {off n : Nat} (v sets : Nat) (hex : (s.func f).exists_ = true) (hs : s.service ≠ .off)
    (hoff : off < 0x100) (hn : (n ≠ 4 ∧ n ≠ 8) ∨ off % n ≠ 0) :
    s.writeBar0 f off n v sets = .next (s.violation (portLanding f.val) (48 + portLanding f.val) 7 (some f) 0 off 0) := by
  have hrun : (!(s.func f).exists_ || s.service == .off) = false := by simp [hex, hs]
  have hsize : (!decide (n = 4 ∨ n = 8) || decide (off % n ≠ 0)) = true := by simpa [not_or] using hn
  simp only [State.writeBar0, hrun, hoff, Bool.false_eq_true, if_false, if_true]
  exact if_pos hsize

theorem skClosure_bits {lo len old : Nat} (h : Reg.skClosure.rows = [⟨lo, len, .rol, old⟩]) : lo = 0 ∧ len = 32 := by
  cases h
  exact ⟨rfl, rfl⟩

/-- What a host reaches, and what a write of an RO/L register does before and after the lock. -/
theorem registerWrites_rights : RightsOfRegisterWrites := by
  refine ⟨?forester, ?command, ?bar0, ?violation, ?locked⟩
  case forester =>
    intro s w a ht hb
    rw [exec_registerWrite, execRegisterWrite, ht]
    exact if_pos (.inl hb)
  case command =>
    intro s w f ht hb hex hs hpend
    refine ⟨s.setFunc f { s.func f with busMaster := bit w.data.toNat 2 }, ?_, State.setFunc_func_self s f _, rfl,
      fun g hg => State.setFunc_func_ne s _ hg.symm⟩
    rw [exec_registerWrite, execRegisterWrite, ht, ← writeCommand_of_no_pending s f _ hex hs hpend]
    exact if_pos hb
  case bar0 =>
    intro s w f off ht hb hex hs hoff hn
    rw [exec_registerWrite, execRegisterWrite, ht, ← writeBar0_size s f w.data.toNat w.hwSets.toNat hex hs hoff hn]
    exact if_pos hb
  case violation =>
    intro s f kind addr
    obtain ⟨v, hlast, hkind, hsource, hfunc, haddr⟩ := violPush_newest (tblGet s.violLog (portLanding f.val) [])
      ⟨s.tally, (s.tenantOf f).getD 0xFFFF, 48 + portLanding f.val, kind, f.val, 0, 0, addr, 0⟩
    refine ⟨v, ?_, hkind, hsource, hfunc, haddr, violation_sets_bit s ..⟩
    rw [violation_violLog, tblGet_tblSet_self, hlast]
  case locked =>
    intro s w a win p r i lo len old ht hb hs hw hp h hoff hn hr
    obtain rfl := Reg.eq_skClosure hr
    obtain ⟨rfl, rfl⟩ := skClosure_bits hr
    have hdata := bits_carried_data hoff hn w.data.toNat (lo := 0) (len := 32) (by decide)
    have hmask := bits_carried_mask hoff hn (lo := 0) (len := 32) (by decide)
    have hexec := exec_singleWrite ht hb hs hw hp h
    refine ⟨fun hlock hne => ⟨lockedLog win a.toNat s, ?_, lockedLog_reg s win _ _, ?_⟩, fun hstump hopen => ?_⟩
    · have hstump : (decide (w.by_ = .stump) && !s.protLocked) = false := by
        rcases hlock with hfirm | hlock
        · simp [hfirm]
        · simp [hlock]
      rw [hexec]
      refine writeKey_locked s _ _ _ _ _ rfl hstump ?_
      rwa [hdata, hmask, bits_and_ones, bits_and_ones]
    · cases win <;> rfl
    · rw [decide_eq_true hstump, writeKey_stump s _ _ _ _ rfl hopen] at hexec
      refine ⟨_, hexec, regsOnly_setReg s _ _, ?_, fun j hj => State.setReg_reg_ne s _ hj.symm⟩
      rw [State.setReg_reg_self, bits_ofNat _ _ _ (by decide)]
      exact (bits_writtenRol hr _ _ hmask).trans hdata

/-- Settles O49: a write reaches one key, whose fields follow their access codes and whose event bits the hardware sets last. -/
theorem registerWrites : Obligations.RegisterWrites := ⟨registerWrites_firmware, registerWrites_rights⟩

end Sys2Proof.Machine
end

section
/-! PROOFS. Obligation O3, the ground: what keeps the byte memories canonical (R15, R162, R195). The sections after this one go through
the model's functions in the model's order, one lemma each. A function that writes no byte memory answers a state whose
`memWf` is the given state's; one that can write answers a canonical state when it is given one. -/

namespace Sys2Proof.Machine

/-- Where a command answers a next state, that state's memories are canonical. -/
def nextMemWf : Host.Outcome State Fault Refusal → Bool
  | .next t => t.memWf
  | .fault _ => true
  | .refused _ => true

@[simp] theorem nextMemWf_next (t : State) : nextMemWf (.next t) = t.memWf := rfl
@[simp] theorem nextMemWf_fault (e : Fault) : nextMemWf (.fault e) = true := rfl
@[simp] theorem nextMemWf_refused (e : Refusal) : nextMemWf (.refused e) = true := rfl

theorem State.memWf_iff {s : State} : s.memWf = true ↔ s.decks.wf = true ∧ s.hbm.wf = true ∧ s.istore.wf = true := by
  simp only [State.memWf, Bool.and_eq_true, and_assoc]

/-- An update of any of the other fields. Every field beside the three memories is named, so that the lemma rewrites each record update
of the model, whichever fields it changes. -/
theorem State.memWf_with (s : State) (pending tally freeUses out service regs ports road roads barriers tiles groves fellers rotWait
    remaps handover journal srcCount funcs violLog violCount seqs fellings fellCtr standFells sheds classes images usedPages usedUnits
    usedDeckPages tenants foresterB standbyIn reserve landingsLost config prot bankB events lockstep exact period epoch origin
    wakeWant powers sensors flowLow latched protLocked flash refBackup twin drain ops nextOp misses thinWaits testSave offHistory
    journalLow stagings nextStaging goldens qps ptp swap staged running_ spdm osfpHeld pinsLow surveyLeft) :
    ({ s with pending, tally, freeUses, out, service, regs, ports, road, roads, barriers, tiles, groves, fellers, rotWait, remaps,
              handover, journal, srcCount, funcs, violLog, violCount, seqs, fellings, fellCtr, standFells, sheds, classes, images,
              usedPages, usedUnits, usedDeckPages, tenants, foresterB, standbyIn, reserve, landingsLost, config, prot, bankB, events,
              lockstep, exact, period, epoch, origin, wakeWant, powers, sensors, flowLow, latched, protLocked, flash, refBackup,
              twin, drain, ops, nextOp, misses, thinWaits, testSave, offHistory, journalLow, stagings, nextStaging, goldens, qps,
              ptp, swap, staged, running_, spdm, osfpHeld, pinsLow, surveyLeft } : State).memWf = s.memWf := by
  cases s
  rfl

/-! ## The writes of the byte memories -/

@[simp] theorem State.deckWrite_memWf (s : State) (g a bs) (h : s.memWf = true) : (s.deckWrite g a bs).memWf = true := by
  obtain ⟨hdecks, hhbm, histore⟩ := State.memWf_iff.1 h
  exact State.memWf_iff.2 ⟨Memory.writeN_wf _ _ hdecks, hhbm, histore⟩

@[simp] theorem State.hbmWrite_memWf (s : State) (a bs) (h : s.memWf = true) : (s.hbmWrite a bs).memWf = true := by
  obtain ⟨hdecks, hhbm, histore⟩ := State.memWf_iff.1 h
  exact State.memWf_iff.2 ⟨hdecks, Memory.writeN_wf _ _ hhbm, histore⟩

/-! ## Folds, choices and pairs -/

@[simp] theorem State.each_memWf {α} {s : State} {xs : List α} {f : State → α → State} (hf : ∀ s x, (f s x).memWf = s.memWf) :
    (s.each xs f).memWf = s.memWf :=
  List.foldlRecOn (motive := fun t : State => t.memWf = s.memWf) xs f rfl fun t ht x _ => (hf t x).trans ht

@[simp] theorem State.each_memWf_of {α} {s : State} {xs : List α} {f : State → α → State} (h : s.memWf = true)
    (hf : ∀ s x, s.memWf = true → (f s x).memWf = true) : (s.each xs f).memWf = true :=
  List.foldlRecOn (motive := fun t : State => t.memWf = true) xs f h fun t ht x _ => hf t x ht

/-- A fold over a value of which `st` is the state. -/
theorem foldl_memWf_of {α β} (st : β → State) {xs : List α} {f : β → α → β} {b : β} {m : Bool} (hb : (st b).memWf = m)
    (hf : ∀ b x, (st b).memWf = m → (st (f b x)).memWf = m) : (st (xs.foldl f b)).memWf = m :=
  List.foldlRecOn (motive := fun b => (st b).memWf = m) xs f hb fun b h x _ => hf b x h

@[simp] theorem State.ite_memWf (c : Prop) [Decidable c] (a b : State) :
    (if c then a else b).memWf = if c then a.memWf else b.memWf := apply_ite ..

@[simp] theorem ite_snd_memWf {α} (c : Prop) [Decidable c] (a b : α × State) :
    (if c then a else b).2.memWf = if c then a.2.memWf else b.2.memWf := by
  split <;> rfl

@[simp] theorem ite_nextMemWf (c : Prop) [Decidable c] (a b : Host.Outcome State Fault Refusal) :
    nextMemWf (if c then a else b) = if c then nextMemWf a else nextMemWf b := apply_ite ..

theorem State.memWf_ite_of {c : Prop} [Decidable c] {a b : State} {m : Bool} (ha : a.memWf = m) (hb : b.memWf = m) :
    (if c then a else b).memWf = m := by
  simp [ha, hb]

theorem nextMemWf_ite_of {c : Prop} [Decidable c] {a b : Host.Outcome State Fault Refusal} (ha : nextMemWf a = true)
    (hb : nextMemWf b = true) : nextMemWf (if c then a else b) = true := by
  simp [ha, hb]

/-- The state of a pair that a match has taken apart. -/
theorem snd_memWf_of_eq {α} {p : α × State} {t : State} {a : α} (e : p = (a, t)) : t.memWf = p.2.memWf := by
  rw [e]

end Sys2Proof.Machine
end

section
/-! PROOFS. Obligation O3: the shared operations of the state, and the link ends. -/

namespace Sys2Proof.Machine

/-! ## The named operations and the events -/

@[simp] theorem State.setReg_memWf (s : State) (k v) : (s.setReg k v).memWf = s.memWf := by simp only [State.setReg, State.memWf_with]
@[simp] theorem State.putAt_memWf (s : State) (f unit idx x) : (s.putAt f unit idx x).memWf = s.memWf := by simp [State.putAt]
@[simp] theorem State.put_memWf (s : State) (f unit x) : (s.put f unit x).memWf = s.memWf := by simp [State.put]
@[simp] theorem State.satUp_memWf (s : State) (f unit) : (s.satUp f unit).memWf = s.memWf := by simp [State.satUp]
@[simp] theorem State.wrapUp_memWf (s : State) (f unit) : (s.wrapUp f unit).memWf = s.memWf := by simp [State.wrapUp]
@[simp] theorem State.raise_memWf (s : State) (f counts unit) : (s.raise f counts unit).memWf = s.memWf := by simp [State.raise]
@[simp] theorem State.skEv_memWf (s : State) (f unit) : (s.skEv f unit).memWf = s.memWf := by simp [State.skEv]
@[simp] theorem State.hrEv_memWf (s : State) (f unit) : (s.hrEv f unit).memWf = s.memWf := by simp [State.hrEv]
@[simp] theorem State.slipEv_memWf (s : State) (f unit) : (s.slipEv f unit).memWf = s.memWf := by simp [State.slipEv]
@[simp] theorem State.tlEv_memWf (s : State) (f unit) : (s.tlEv f unit).memWf = s.memWf := by simp [State.tlEv]
@[simp] theorem State.upkeepEv_memWf (s : State) (f unit) : (s.upkeepEv f unit).memWf = s.memWf := by simp [State.upkeepEv]
@[simp] theorem State.gvEv_memWf (s : State) (f unit) : (s.gvEv f unit).memWf = s.memWf := by simp [State.gvEv]
@[simp] theorem State.sqEv_memWf (s : State) (f unit) : (s.sqEv f unit).memWf = s.memWf := by simp [State.sqEv]
@[simp] theorem State.fellEv_memWf (s : State) (f unit) : (s.fellEv f unit).memWf = s.memWf := by simp [State.fellEv]
@[simp] theorem State.ldEv_memWf (s : State) (f unit) : (s.ldEv f unit).memWf = s.memWf := by simp [State.ldEv]
@[simp] theorem State.twEv_memWf (s : State) (f unit) : (s.twEv f unit).memWf = s.memWf := by simp [State.twEv]
@[simp] theorem State.pwEv_memWf (s : State) (f unit) : (s.pwEv f unit).memWf = s.memWf := by simp [State.pwEv]
@[simp] theorem State.pwModEv_memWf (s : State) (f) : (s.pwModEv f).memWf = s.memWf := by simp [State.pwModEv]
@[simp] theorem State.thEv_memWf (s : State) (f unit) : (s.thEv f unit).memWf = s.memWf := by simp [State.thEv]
@[simp] theorem State.thModEv_memWf (s : State) (f) : (s.thModEv f).memWf = s.memWf := by simp [State.thModEv]
@[simp] theorem State.btEv_memWf (s : State) (f unit) : (s.btEv f unit).memWf = s.memWf := by simp [State.btEv]
@[simp] theorem State.emit_memWf (s : State) (o) : (s.emit o).memWf = s.memWf := by simp only [State.emit, State.memWf_with]
@[simp] theorem State.journalRec_memWf (s : State) (source kind tag tenant seq detail) :
    (s.journalRec source kind tag tenant seq detail).memWf = s.memWf := by simp only [State.journalRec, State.memWf_with]
@[simp] theorem State.setFunc_memWf (s : State) (f x) : (s.setFunc f x).memWf = s.memWf := by simp only [State.setFunc, State.memWf_with]

@[simp] theorem State.msixRequest_memWf (s : State) (f vec) : (s.msixRequest f vec).memWf = s.memWf := by
  simp only [State.msixRequest]
  (repeat' split) <;> simp

@[simp] theorem State.cpEv_memWf (s : State) (fld f) : (s.cpEv fld f).memWf = s.memWf := by simp [State.cpEv]
@[simp] theorem State.eventRecord_memWf (s : State) (f kind tenant handle detail) : (s.eventRecord f kind tenant handle detail).memWf = s.memWf := by
  simp [State.eventRecord]

@[simp] theorem State.tenantRecord_memWf (s : State) (tenant kind handle detail) : (s.tenantRecord tenant kind handle detail).memWf = s.memWf := by
  simp only [State.tenantRecord]
  split <;> simp

@[simp] theorem State.violation_memWf (s : State) (log source kind func tag addr command) :
    (s.violation log source kind func tag addr command).memWf = s.memWf := by
  simp only [State.violation]
  split <;> simp [State.memWf_with]

@[simp] theorem State.foresterViolation_memWf (s : State) (source kind func tag addr command) :
    (s.foresterViolation source kind func tag addr command).memWf = s.memWf := by simp [State.foresterViolation]
@[simp] theorem State.platformEvent_memWf (s : State) (sensor value) : (s.platformEvent sensor value).memWf = s.memWf := by simp [State.platformEvent]
@[simp] theorem State.setService_memWf (s : State) (n) : (s.setService n).memWf = s.memWf := by simp [State.setService, State.memWf_with]
@[simp] theorem State.answer_memWf (s : State) (f status detail body) : (s.answer f status detail body).memWf = s.memWf := by simp [State.answer]
@[simp] theorem State.answerAwaits_memWf (s : State) (i status detail) : (s.answerAwaits i status detail).memWf = s.memWf := by
  simp [State.answerAwaits]

@[simp] theorem State.endOp_memWf (s : State) (op status detail result) : (s.endOp op status detail result).memWf = s.memWf := by
  simp only [State.endOp]
  split <;> simp [State.memWf_with]

@[simp] theorem State.free_memWf (s : State) (w : Nat) : (s.free w).2.memWf = s.memWf := rfl
@[simp] theorem State.setTile_memWf (s : State) (t x) : (s.setTile t x).memWf = s.memWf := by simp only [State.setTile, State.memWf_with]
@[simp] theorem State.setGrove_memWf (s : State) (g x) : (s.setGrove g x).memWf = s.memWf := by simp only [State.setGrove, State.memWf_with]
@[simp] theorem State.setDispatch_memWf (s : State) (g e v) : (s.setDispatch g e v).memWf = s.memWf := by simp [State.setDispatch]
@[simp] theorem State.setFeller_memWf (s : State) (f x) : (s.setFeller f x).memWf = s.memWf := by simp only [State.setFeller, State.memWf_with]

/-! ## Flits and link ends -/

@[simp] theorem State.setPort_memWf (s : State) (p x) : (s.setPort p x).memWf = s.memWf := by simp only [State.setPort, State.memWf_with]
@[simp] theorem State.setChan_memWf (s : State) (p c x) : (s.setChan p c x).memWf = s.memWf := by simp [State.setChan]

@[simp] theorem State.queueFlit_memWf (s : State) (p relay held x arg) : (s.queueFlit p relay held x arg).memWf = s.memWf := by
  simp only [State.queueFlit]
  split <;> simp

@[simp] theorem State.sendLink_memWf (s : State) (p m) : (s.sendLink p m).memWf = s.memWf := by simp [State.sendLink]
@[simp] theorem State.returnCredit_memWf (s : State) (p c) : (s.returnCredit p c).memWf = s.memWf := by simp [State.returnCredit]
@[simp] theorem State.rejectFlit_memWf (s : State) (p c) : (s.rejectFlit p c).memWf = s.memWf := by simp [State.rejectFlit]
@[simp] theorem State.recordSpare_memWf (s : State) (p map used lane spare) : (s.recordSpare p map used lane spare).memWf = s.memWf := by
  simp [State.recordSpare]

@[simp] theorem State.inject_memWf (s : State) (p dir) : (s.inject p dir).2.memWf = s.memWf := by
  simp only [State.inject]
  split <;> simp

@[simp] theorem State.acceptFlit_memWf (s : State) (p x) : (s.acceptFlit p x).1.memWf = s.memWf := by
  simp only [State.acceptFlit]
  (repeat' split) <;> simp

@[simp] theorem State.receiveFlit_memWf (s : State) (p x arg) : (s.receiveFlit p x arg).1.memWf = s.memWf := by
  simp only [State.receiveFlit]
  split
  · split <;> simp
  · split
    next e => rw [snd_memWf_of_eq e, State.inject_memWf]
    next e => rw [State.acceptFlit_memWf, snd_memWf_of_eq e, State.inject_memWf]
    next e => rw [State.setPort_memWf, snd_memWf_of_eq e, State.inject_memWf]
    next e => rw [State.acceptFlit_memWf, snd_memWf_of_eq e, State.inject_memWf]

@[simp] theorem State.sendOut_memWf (s : State) (p f arg) : (s.sendOut p f arg).memWf = s.memWf := by
  simp only [State.sendOut]
  split
  · split <;> simp
  · split
    next e => rw [snd_memWf_of_eq e, State.inject_memWf]
    next e => rw [State.emit_memWf, snd_memWf_of_eq e, State.inject_memWf]
    next e => rw [State.setPort_memWf, snd_memWf_of_eq e, State.inject_memWf]
    next e => rw [State.emit_memWf, snd_memWf_of_eq e, State.inject_memWf]

@[simp] theorem State.testFlit_memWf (s : State) : s.testFlit.2.memWf = s.memWf := by simp [State.testFlit]

theorem State.toSend_memWf (s : State) (p : PortId) (c : Fin 3) (w : Waiting × State) (ht : s.toSend p c = some w) : w.2.memWf = s.memWf := by
  simp only [State.toSend] at ht
  (repeat' split at ht) <;> cases ht <;> simp

@[simp] theorem State.transmit_memWf (s : State) (p c) : (s.transmit p c).memWf = s.memWf := by
  simp only [State.transmit]
  split
  · rfl
  · split
    · rfl
    next w t ht =>
      have ht : t.memWf = s.memWf := State.toSend_memWf _ _ _ _ ht
      split <;> simp [ht]

@[simp] theorem State.resend_memWf (s : State) (p c seq) : (s.resend p c seq).memWf = s.memWf := by simp [State.resend]

end Sys2Proof.Machine
end

section
/-! PROOFS. Obligation O3: sequences and their pages, the lockstep grid, the tile map and the plans. -/

namespace Sys2Proof.Machine

/-! ## What several families do to sequences -/

@[simp] theorem State.setSeq_memWf (s : State) (i x) : (s.setSeq i x).memWf = s.memWf := by simp only [State.setSeq, State.memWf_with]
@[simp] theorem State.modSeq_memWf (s : State) (i f) : (s.modSeq i f).memWf = s.memWf := by simp [State.modSeq]
@[simp] theorem State.modEntry_memWf (s : State) (i f) : (s.modEntry i f).memWf = s.memWf := by simp [State.modEntry]
@[simp] theorem State.seqState_memWf (s : State) (i new) : (s.seqState i new).memWf = s.memWf := by simp [State.seqState]
@[simp] theorem State.setImage_memWf (s : State) (tag x) : (s.setImage tag x).memWf = s.memWf := by simp only [State.setImage, State.memWf_with]

@[simp] theorem State.modImage_memWf (s : State) (tag f) : (s.modImage tag f).memWf = s.memWf := by
  simp only [State.modImage]
  split <;> simp

@[simp] theorem State.setPageEntry_memWf (s : State) (i page v) (h : s.memWf = true) : (s.setPageEntry i page v).memWf = true := by
  simp [State.setPageEntry, h]

@[simp] theorem State.placeWrite_memWf (s : State) (p off bs) (h : s.memWf = true) : (s.placeWrite p off bs).memWf = true := by
  simp only [State.placeWrite]
  split <;> simp [h]

@[simp] theorem State.setKvRow_memWf (s : State) (i layer isV pos bs) (h : s.memWf = true) : (s.setKvRow i layer isV pos bs).memWf = true :=
  State.each_memWf_of h fun t p ht => by split <;> simp [ht]

/-- Mapping a page writes its entry of the page table, which stands in HBM. -/
theorem State.mapPage_memWf (s t : State) (a l : Nat) (h : s.memWf = true) (ht : s.mapPage a l = some t) : t.memWf = true := by
  simp only [State.mapPage] at ht
  (repeat' split at ht) <;> cases ht <;> simp [State.memWf_with, h]

@[simp] theorem State.mapPages_memWf (s : State) (i : Nat) (ps : List Nat) (h : s.memWf = true) : (s.mapPages i ps).1.memWf = true := by
  induction ps generalizing s with
  | nil => exact h
  | cons p r ih =>
    simp only [State.mapPages]
    split
    · exact ih s h
    · split
      · exact h
      · split
        next t ht => exact ih t (State.mapPage_memWf _ _ _ _ h ht)
        next => exact h

@[simp] theorem State.freeEntry_memWf (s : State) (v) : (s.freeEntry v).memWf = s.memWf := by
  simp only [State.freeEntry]
  split <;> simp [State.memWf_with]

@[simp] theorem State.dropXlate_memWf (s : State) (i) : (s.dropXlate i).memWf = s.memWf := by simp only [State.dropXlate, State.memWf_with]
@[simp] theorem State.freeRegion_memWf (s : State) (i) (h : s.memWf = true) : (s.freeRegion i).memWf = true := by
  simp +contextual [State.freeRegion, State.memWf_with, h]
@[simp] theorem State.setTenant_memWf (s : State) (t x) : (s.setTenant t x).memWf = s.memWf := by simp only [State.setTenant, State.memWf_with]

theorem State.nextCounter_memWf (s t : State) (a l : Nat) (ht : s.nextCounter a l = some t) : t.memWf = s.memWf := by
  simp only [State.nextCounter] at ht
  (repeat' split at ht) <;> cases ht <;> simp

@[simp] theorem State.pttSend_memWf (s : State) (home tenant addr udp kind flags prov handle step payload) :
    (s.pttSend home tenant addr udp kind flags prov handle step payload).memWf = s.memWf := by
  simp only [State.pttSend]
  split
  · rfl
  · split
    · rfl
    next t ht => simp [State.nextCounter_memWf _ _ _ _ ht]

@[simp] theorem State.seqFrame_memWf (s : State) (i kind flags prov step payload) : (s.seqFrame i kind flags prov step payload).memWf = s.memWf := by
  simp [State.seqFrame]
@[simp] theorem State.mirror_memWf (s : State) (i kind step body) : (s.mirror i kind step body).memWf = s.memWf := by simp [State.mirror]
@[simp] theorem State.submitFelling_memWf (s : State) (origin content) : (s.submitFelling origin content).memWf = s.memWf := by
  simp [State.submitFelling, State.memWf_with]
@[simp] theorem State.fell_memWf (s : State) (origin idx reason code detail asMap) :
    (s.fell origin idx reason code detail asMap).memWf = s.memWf := by simp [State.fell, State.memWf_with]
@[simp] theorem State.sendEnd_memWf (s : State) (i code detail) : (s.sendEnd i code detail).memWf = s.memWf := by simp [State.sendEnd]

@[simp] theorem State.drainCheck_memWf (s : State) : s.drainCheck.memWf = s.memWf := by
  simp only [State.drainCheck]
  split <;> simp [State.memWf_with]

@[simp] theorem State.closeEntry_memWf (s : State) (i) (h : s.memWf = true) : (s.closeEntry i).memWf = true := by
  simp [State.closeEntry, State.memWf_with, h]
@[simp] theorem State.endClosed_memWf (s : State) (i code detail) (h : s.memWf = true) : (s.endClosed i code detail).memWf = true := by
  simp [State.endClosed, h]
@[simp] theorem State.moveOut_memWf (s : State) (i) (h : s.memWf = true) : (s.moveOut i).memWf = true := by simp [State.moveOut, h]
@[simp] theorem State.endSeq_memWf (s : State) (i code detail byTimeout) (h : s.memWf = true) : (s.endSeq i code detail byTimeout).memWf = true := by
  simp [State.endSeq, h]
@[simp] theorem State.endSeqs_memWf (s : State) (idx code detail byTimeout) (h : s.memWf = true) :
    (s.endSeqs idx code detail byTimeout).memWf = true := by simp +contextual [State.endSeqs, h]
@[simp] theorem State.imageRecord_memWf (s : State) (tag what) : (s.imageRecord tag what).memWf = s.memWf := by simp [State.imageRecord]

@[simp] theorem State.faultImage_memWf (s : State) (tag byTimeout) (h : s.memWf = true) : (s.faultImage tag byTimeout).memWf = true := by
  simp only [State.faultImage]
  split <;> simp [h]

@[simp] theorem State.suspendNow_memWf (s : State) (i c) : (s.suspendNow i c).memWf = s.memWf := by simp [State.suspendNow]
@[simp] theorem State.resumeNow_memWf (s : State) (i) : (s.resumeNow i).memWf = s.memWf := by simp [State.resumeNow]

@[simp] theorem State.follow_memWf (s : State) : s.follow.memWf = s.memWf := by
  simp only [State.follow]
  split <;> simp

@[simp] theorem State.bootStep_memWf (s : State) (n) : (s.bootStep n).memWf = s.memWf := by simp [State.bootStep]
@[simp] theorem State.streamCheck_memWf (s : State) : s.streamCheck.memWf = s.memWf := by simp [State.streamCheck]
@[simp] theorem State.surveyCheck_memWf (s : State) : s.surveyCheck.memWf = s.memWf := by simp [State.surveyCheck]

/-! ## The lockstep grid, slips, and the journal's plan records -/

@[simp] theorem State.setRoad_memWf (s : State) (n x) : (s.setRoad n x).memWf = s.memWf := by simp only [State.setRoad, State.memWf_with]
@[simp] theorem State.showGrid_memWf (s : State) : s.showGrid.memWf = s.memWf := by simp [State.showGrid]
@[simp] theorem State.newGrid_memWf (s : State) (release) : (s.newGrid release).memWf = s.memWf := by simp [State.newGrid, State.memWf_with]
@[simp] theorem State.periodCheck_memWf (s : State) : s.periodCheck.memWf = s.memWf := by simp [State.periodCheck]

@[simp] theorem State.slip_memWf (s : State) (n cluster kind seq) : (s.slip n cluster kind seq).memWf = s.memWf := by
  simp only [State.slip]
  split <;> simp

/-! ## The map of a tile's logical tiers to its physical tiers, rotation requests, and the retirement and remapping of tiers -/

@[simp] theorem State.setTier_memWf (s : State) (t p x) : (s.setTier t p x).memWf = s.memWf := by simp [State.setTier]
@[simp] theorem State.setTierState_memWf (s : State) (t p v) : (s.setTierState t p v).memWf = s.memWf := by simp [State.setTierState]
@[simp] theorem State.setDrift_memWf (s : State) (t p d) : (s.setDrift t p d).memWf = s.memWf := by simp [State.setDrift]

@[simp] theorem State.abandonRotation_memWf (s : State) (t) : (s.abandonRotation t).memWf = s.memWf := by
  unfold State.abandonRotation
  split
  · rfl
  · extract_lets s1 s2
    simp only [s2, s1, State.setTile_memWf, State.put_memWf, State.setTierState_memWf]

@[simp] theorem State.askRotation_memWf (s : State) (r) : (s.askRotation r).memWf = s.memWf := by simp [State.askRotation, State.memWf_with]

@[simp] theorem State.askGolden_memWf (s : State) (t k) : (s.askGolden t k).memWf = s.memWf := by
  simp only [State.askGolden]
  split <;> simp

@[simp] theorem State.clearTier_memWf (s : State) (t k) : (s.clearTier t k).memWf = s.memWf := by simp only [State.clearTier, State.memWf_with]
@[simp] theorem State.releaseTier_memWf (s : State) (t k) : (s.releaseTier t k).memWf = s.memWf := by simp [State.releaseTier]

@[simp] theorem State.startRemap_memWf (s : State) (t k image) : (s.startRemap t k image).memWf = s.memWf := by
  simp only [State.startRemap]
  (repeat' split) <;> simp [State.memWf_with]

@[simp] theorem State.retireTier_memWf (s : State) (t p) : (s.retireTier t p).memWf = s.memWf := by
  unfold State.retireTier
  extract_lets held again s1 s2 n s3 waiting
  have h1 : s1.memWf = s.memWf := by
    unfold s1
    cases again
    · exact State.abandonRotation_memWf ..
    · exact (State.askRotation_memWf ..).trans (State.abandonRotation_memWf ..)
  have h3 : s3.memWf = s.memWf := by simp only [s3, s2, State.put_memWf, State.setTierState_memWf, h1]
  refine State.memWf_ite_of rfl (State.memWf_ite_of ((State.startRemap_memWf ..).trans h3) ?_)
  simp only [State.each_memWf, State.startRemap_memWf, State.put_memWf, implies_true, h3]

@[simp] theorem State.makeRoom_memWf (s : State) (t) : (s.makeRoom t).memWf = s.memWf := by simp [State.makeRoom]
@[simp] theorem State.queueLoads_memWf (s : State) (rs) : (s.queueLoads rs).memWf = s.memWf := by simp [State.queueLoads, State.memWf_with]
@[simp] theorem State.dropRemaps_memWf (s : State) (n) : (s.dropRemaps n).memWf = s.memWf := by simp only [State.dropRemaps, State.memWf_with]

/-! ## Relocation, patch records, power-token checks and the switch of an image to another plan -/

/-- A patch reaches all three memories; those it does not name stay. -/
@[simp] theorem State.patchWrite_memWf (s : State) (p v) (h : s.memWf = true) : (s.patchWrite p v).memWf = true := by
  obtain ⟨hdecks, hhbm, histore⟩ := State.memWf_iff.1 h
  cases p with
  | istore a => exact State.memWf_iff.2 ⟨hdecks, hhbm, Memory.writeN_wf a _ histore⟩
  | deck a => exact State.memWf_iff.2 ⟨Memory.writeN_wf a _ hdecks, hhbm, histore⟩
  | dispatch | counter | relay => simp [State.patchWrite, h]

@[simp] theorem State.applyRelocs_memWf (s : State) (x tag rs) (h : s.memWf = true) : (s.applyRelocs x tag rs).1.memWf = true := by
  refine foldl_memWf_of Prod.fst h fun a r ha => ?_
  dsimp only
  split <;> simp [ha]

@[simp] theorem State.restartSteps_memWf (s : State) (tag) : (s.restartSteps tag).memWf = s.memWf := by simp [State.restartSteps, State.memWf_with]

@[simp] theorem State.loadGroves_memWf (s : State) (x logical phys) (h : s.memWf = true) : (s.loadGroves x logical phys).memWf = true := by
  obtain ⟨hdecks, hhbm, histore⟩ := State.memWf_iff.1 h
  simp only [State.loadGroves, State.each_memWf, State.putAt_memWf, State.setDispatch_memWf, implies_true]
  refine State.memWf_iff.2 ⟨?decks, hhbm, ?istore⟩
  case istore => exact List.foldlRecOn (motive := fun m : Memory => m.wf = true) _ _ histore fun m hm e _ => Memory.write_wf _ _ hm
  case decks => exact List.foldlRecOn (motive := fun m : Memory => m.wf = true) _ _ hdecks fun m hm e _ => Memory.writeN_wf _ _ hm

@[simp] theorem State.uncoveredSwitch_memWf (s : State) (tag fs) (h : s.memWf = true) : (s.uncoveredSwitch tag fs).memWf = true := by
  simp +contextual [State.uncoveredSwitch, h]

@[simp] theorem State.takePlan_memWf (s : State) (tag x p fs) (h : s.memWf = true) : (s.takePlan tag x p fs).memWf = true := by
  unfold State.takePlan
  extract_lets lost place y keep s1 s2 a s3 s4 s5 s6
  have h1 : s1.memWf = true := State.each_memWf_of h fun s e hs => State.patchWrite_memWf _ _ _ hs
  have h2 : s2.memWf = true := by
    unfold s2
    split
    · exact State.loadGroves_memWf _ _ _ _ h1
    · exact h1
  have h3 : s3.memWf = true := (State.setImage_memWf ..).trans (State.applyRelocs_memWf _ _ _ _ h2)
  have h4 : s4.memWf = true := by
    unfold s4
    split <;> simp [h3]
  have h5 : s5.memWf = true := (State.journalRec_memWf ..).trans h4
  have h6 : s6.memWf = true := (State.restartSteps_memWf ..).trans h5
  exact (State.follow_memWf _).trans (State.memWf_ite_of h5 (State.memWf_ite_of ((State.newGrid_memWf ..).trans h6) h6))

@[simp] theorem State.imageFault_memWf (s : State) (tag f) (h : s.memWf = true) : (s.imageFault tag f).memWf = true := by
  simp only [State.imageFault]
  (repeat' split) <;> simp [h]

@[simp] theorem State.returnPrimary_memWf (s : State) (tag) (h : s.memWf = true) : (s.returnPrimary tag).memWf = true := by
  simp only [State.returnPrimary]
  split <;> simp +contextual [h]

@[simp] theorem State.linkDown_memWf (s : State) (p) (h : s.memWf = true) : (s.linkDown p).memWf = true := by simp +contextual [State.linkDown, h]

end Sys2Proof.Machine
end

section
/-! PROOFS. Obligation O3: the stages of a grove, the felling words, and what an accepted flit does. -/

namespace Sys2Proof.Machine

/-! ## What the stages of a grove share -/

@[simp] theorem State.setLineBytes_memWf (s : State) (g line bs) (h : s.memWf = true) : (s.setLineBytes g line bs).memWf = true := by
  simp [State.setLineBytes, h]
@[simp] theorem State.addCounter_memWf (s : State) (g k n) : (s.addCounter g k n).memWf = s.memWf := by simp [State.addCounter]
@[simp] theorem State.meterWait_memWf (s : State) (n) : (s.meterWait n).memWf = s.memWf := by simp [State.meterWait, State.memWf_with]
@[simp] theorem State.meterAdd_memWf (s : State) (n cost) : (s.meterAdd n cost).memWf = s.memWf := by simp [State.meterAdd]
@[simp] theorem State.meterSub_memWf (s : State) (n cost) : (s.meterSub n cost).memWf = s.memWf := by simp [State.meterSub]

@[simp] theorem State.completeAt_memWf (s : State) (g ctr seq start budget) : (s.completeAt g ctr seq start budget).memWf = s.memWf := by
  simp only [State.completeAt]
  (repeat' split) <;> simp

@[simp] theorem State.complete_memWf (s : State) (g q budget) : (s.complete g q budget).memWf = s.memWf := by simp [State.complete]
@[simp] theorem State.cancelDrop_memWf (s : State) (g q budget) : (s.cancelDrop g q budget).memWf = s.memWf := by simp [State.cancelDrop]
@[simp] theorem State.descError_memWf (s : State) (g q) (h : s.memWf = true) : (s.descError g q).memWf = true := by simp [State.descError, h]
@[simp] theorem State.numericFault_memWf (s : State) (g d) (h : s.memWf = true) : (s.numericFault g d).memWf = true := by simp [State.numericFault, h]

@[simp] theorem State.pageInvalid_memWf (s : State) (g d) (h : s.memWf = true) : (s.pageInvalid g d).memWf = true := by
  simp only [State.pageInvalid]
  refine State.endSeqs_memWf _ _ _ _ _ ?_
  exact State.each_memWf_of (by simp [h]) fun t i ht => by simp [ht]

@[simp] theorem State.setQueue_memWf (s : State) (g stage q) : (s.setQueue g stage q).memWf = s.memWf := by simp [State.setQueue]
@[simp] theorem State.enqueue_memWf (s : State) (g stage d) : (s.enqueue g stage d).memWf = s.memWf := by simp [State.enqueue]

/-- Where a stage's start answers a state, that state's memories are canonical. -/
def Start.memWf : Start → Bool
  | .none => true
  | .dropped t => t.memWf
  | .thinned t => t.memWf
  | .go _ t => t.memWf

@[simp] theorem State.startStage_memWf (s : State) (g : GroveId) (stage op cost : Nat) (h : s.memWf = true) :
    (s.startStage g stage op cost).memWf = true := by
  simp only [State.startStage]
  (repeat' split) <;> simp [Start.memWf, h]

@[simp] theorem State.runStage_memWf (s : State) (g : GroveId) (stage op cost : Nat)
    (run : QItem → State → State) (h : s.memWf = true) (hrun : ∀ q t, t.memWf = true → (run q t).memWf = true) :
    (s.runStage g stage op cost run).memWf = true := by
  have hs := State.startStage_memWf s g stage op cost h
  unfold State.runStage
  split
  next => exact h
  next t e => rwa [e] at hs
  next t e => rwa [e] at hs
  next q t e => rw [e] at hs; exact hrun q t hs

@[simp] theorem State.runStageO_memWf (s : State) (g : GroveId) (stage op cost : Nat)
    (run : QItem → State → Host.Outcome State Fault Refusal) (h : s.memWf = true) (hrun : ∀ q t, t.memWf = true → nextMemWf (run q t) = true) :
    nextMemWf (s.runStageO g stage op cost run) = true := by
  have hs := State.startStage_memWf s g stage op cost h
  unfold State.runStageO
  split
  next => exact h
  next t e => rwa [e] at hs
  next t e => rwa [e] at hs
  next q t e => rw [e] at hs; exact hrun q t hs

@[simp] theorem State.xlate_memWf (s : State) (g i page) : (s.xlate g i page).2.memWf = s.memWf := by
  simp only [State.xlate]
  split <;> simp

@[simp] theorem State.provBits_memWf (s : State) (i b) : (s.provBits i b).memWf = s.memWf := by
  simp only [State.provBits]
  split <;> simp

@[simp] theorem State.numCount_memWf (s : State) (g k n) : (s.numCount g k n).memWf = s.memWf := by simp [State.numCount]

/-! ## The felling words and the acknowledgements of stands and landings -/

@[simp] theorem State.setFelled_memWf (s : State) (n idx) : (s.setFelled n idx).memWf = s.memWf := by simp [State.setFelled]
@[simp] theorem State.clearFelled_memWf (s : State) (i) : (s.clearFelled i).memWf = s.memWf := by simp only [State.clearFelled, State.memWf_with]

@[simp] theorem State.sendAck_memWf (s : State) (n id from_ held) : (s.sendAck n id from_ held).memWf = s.memWf := by
  simp only [State.sendAck]
  split <;> simp

@[simp] theorem State.fellResponse_memWf (s : State) (i) : (s.fellResponse i).memWf = s.memWf := by simp [State.fellResponse]
@[simp] theorem State.fellDone_memWf (s : State) (id x) (h : s.memWf = true) : (s.fellDone id x).memWf = true := by
  simp +contextual [State.fellDone, State.memWf_with, h]

@[simp] theorem State.fellAck_memWf (s : State) (id stand) (h : s.memWf = true) : (s.fellAck id stand).memWf = true := by
  simp only [State.fellAck]
  split <;> simp [State.memWf_with, h]

/-! ## What an accepted flit does where it arrives -/

@[simp] theorem State.setAcc_memWf (s : State) (g k v) : (s.setAcc g k v).memWf = s.memWf := by simp [State.setAcc]
@[simp] theorem State.addAcc_memWf (s : State) (g k v) : (s.addAcc g k v).memWf = s.memWf := by simp [State.addAcc]

@[simp] theorem State.remoteAdd_memWf (s : State) (g ctr seq x) : (s.remoteAdd g ctr seq x).memWf = s.memWf := by
  simp only [State.remoteAdd]
  (repeat' split) <;> simp

theorem State.takePartial_memWf (s t : State) (g : GroveId) (x : Flit) (ht : s.takePartial g x = some t) : t.memWf = s.memWf := by
  simp only [State.takePartial] at ht
  (repeat' split at ht) <;> cases ht <;> simp

@[simp] theorem State.writeLines_memWf (s : State) (g x) (h : s.memWf = true) : (s.writeLines g x).memWf = true := by simp [State.writeLines, h]
@[simp] theorem State.answerRead_memWf (s : State) (p x addr line lines) : (s.answerRead p x addr line lines).memWf = s.memWf := by
  simp [State.answerRead]

@[simp] theorem State.relayFlit_memWf (s : State) (n q c x arg) : (s.relayFlit n q c x arg).memWf = s.memWf := by
  simp only [State.relayFlit]
  split <;> simp [State.memWf_with]

@[simp] theorem State.deliver_memWf (s : State) (p x arg) (h : s.memWf = true) : (s.deliver p x arg).memWf = true := by
  unfold State.deliver
  split
  · exact h
  next c _ =>
  extract_lets free g
  have hf : free.memWf = true := (State.returnCredit_memWf ..).trans h
  split
  · simp [h]
  · exact State.memWf_ite_of (by simp [hf]) hf
  · simp [hf]
  · simp [hf]
  · simp [hf]
  · simp [hf]
  · refine State.memWf_ite_of (by simp [h]) ?_
    split
    · simp [hf]
    · refine State.memWf_ite_of (by simp [hf]) (State.memWf_ite_of ?_ hf)
      split
      next ht => exact (State.takePartial_memWf _ _ _ _ ht).trans hf
      · simp [h]
  · exact hf

@[simp] theorem State.arrive_memWf (s : State) (p x arg) (h : s.memWf = true) : (s.arrive p x arg).memWf = true := by
  simp +contextual [State.arrive, h]

@[simp] theorem State.drainHeld_memWf (s : State) (g) : (s.drainHeld g).memWf = s.memWf := State.each_memWf fun s q => State.each_memWf fun s x => by
    split
    · rfl
    · split
      · rfl
      next t ht => simp [State.takePartial_memWf _ _ _ _ ht]

/-! ## Transfers that a grove sends to another grove -/

/-- Within its stand a transfer folds its flits into the partial sums or the decks; beyond it, they only queue at a port. -/
theorem State.sendTransfer_memWf (s t : State) (g : GroveId) (q : QItem) (a b c d : Nat) (pays : List (List Byte × Bool)) (st : Nat)
    (h : s.memWf = true) (ht : s.sendTransfer g q a b c d pays st = some t) :
    t.memWf = true := by
  simp only [State.sendTransfer] at ht
  split at ht
  · refine List.foldlRecOn (motive := fun o : Option State => ∀ t, o = some t → t.memWf = true) _ _ (fun t e => by cases e; exact h)
      (fun o ho p _ t e => ?_) t ht
    split at e
    · cases e
    next u =>
      have hu := ho u rfl
      split at e
      · exact (State.takePartial_memWf _ _ _ _ e).trans hu
      · cases e; simp [hu]
  · split at ht <;> cases ht <;> simp [h]

end Sys2Proof.Machine
end

section
/-! PROOFS. Obligation O3: power, weight tiles, and the units of a grove. -/

namespace Sys2Proof.Machine

/-! ## What power and thermal events share -/

@[simp] theorem State.setPower_memWf (s : State) (n x) : (s.setPower n x).memWf = s.memWf := by simp only [State.setPower, State.memWf_with]
@[simp] theorem State.standState_memWf (s : State) (n v) : (s.standState n v).memWf = s.memWf := by simp [State.standState]
@[simp] theorem State.newEffective_memWf (s : State) (n) : (s.newEffective n).memWf = s.memWf := by simp [State.newEffective]
@[simp] theorem State.dropReserves_memWf (s : State) (ns) : (s.dropReserves ns).memWf = s.memWf := by simp [State.dropReserves]
@[simp] theorem State.showBand_memWf (s : State) (b) : (s.showBand b).memWf = s.memWf := by simp [State.showBand]
@[simp] theorem State.newModuleLimit_memWf (s : State) : s.newModuleLimit.memWf = s.memWf := by simp [State.newModuleLimit]
@[simp] theorem State.liftWake_memWf (s : State) (n) : (s.liftWake n).memWf = s.memWf := by simp [State.liftWake]
@[simp] theorem State.wantWake_memWf (s : State) (n) : (s.wantWake n).memWf = s.memWf := by simp [State.wantWake, State.memWf_with]

@[simp] theorem State.linksUp_memWf (s : State) (n) : (s.linksUp n).memWf = s.memWf := State.each_memWf fun s q => by
    dsimp only
    split
    · rfl
    · simp

@[simp] theorem State.endService_memWf (s : State) (n status) : (s.endService n status).memWf = s.memWf := by simp [State.endService]
@[simp] theorem State.linksDark_memWf (s : State) (n) : (s.linksDark n).memWf = s.memWf := by simp [State.linksDark]
@[simp] theorem State.groveOff_memWf (s : State) (g power) : (s.groveOff g power).memWf = s.memWf := by simp [State.groveOff, State.memWf_with]
@[simp] theorem State.recheckFellings_memWf (s : State) (h : s.memWf = true) : s.recheckFellings.memWf = true :=
  State.each_memWf_of h fun s p hs => by split <;> simp [hs]
@[simp] theorem State.standDown_memWf (s : State) (n) : (s.standDown n).memWf = s.memWf := by simp [State.standDown, State.memWf_with]

@[simp] theorem State.afterDark_memWf (s : State) (n) (h : s.memWf = true) : (s.afterDark n).memWf = true := by
  simp only [State.afterDark, State.surveyCheck_memWf, State.follow_memWf]
  refine State.recheckFellings_memWf _ (State.each_memWf_of ?_ fun s t hs => State.imageFault_memWf _ _ _ hs)
  have h1 := State.each_memWf_of (xs := s.deckLosers n) (f := fun s i =>
      if (s.seq i).entry.state = seqFelling ∧ (s.seq i).endCode = 0x0401 + n * 65536 then s.sqEv sqEvent_kvLost (seqLanding i) else s)
    (State.endSeqs_memWf s (s.deckLosers n) 0x0401 n false h) fun s i hs => by split <;> simp [hs]
  split
  · exact State.each_memWf_of h1 fun s t hs => State.each_memWf_of hs fun s i hs => by split <;> simp [hs]
  · exact h1

@[simp] theorem State.goDark_memWf (s : State) (n) (h : s.memWf = true) : (s.goDark n).memWf = true := by simp [State.goDark, h]
@[simp] theorem State.toReserve_memWf (s : State) (n) : (s.toReserve n).memWf = s.memWf := by simp [State.toReserve, State.memWf_with]
@[simp] theorem State.startDrain_memWf (s : State) (deadline move op) : (s.startDrain deadline move op).memWf = s.memWf := by
  simp [State.startDrain, State.memWf_with]

/-- The loss of all power leaves the memories of the reset state, and an empty memory is canonical. -/
@[simp] theorem State.powerOff_memWf (s : State) : s.powerOff.memWf = true := rfl

/-! ## Weight tiles -/

@[simp] theorem State.markSuspect_memWf (s : State) (t k) : (s.markSuspect t k).memWf = s.memWf := by simp [State.markSuspect]
@[simp] theorem State.tileError_memWf (s : State) (t kind logical group plane check) :
    (s.tileError t kind logical group plane check).memWf = s.memWf := by simp [State.tileError]

@[simp] theorem State.calibrate_memWf (s : State) (t trim) : (s.calibrate t trim).memWf = s.memWf := by
  simp only [State.calibrate]
  split <;> simp

@[simp] theorem State.landSwap_memWf (s : State) (t) : (s.landSwap t).memWf = s.memWf := by
  unfold State.landSwap
  extract_lets x
  split
  · rfl
  extract_lets old q k s1 s2 s3 s4 s5 s6 s7 s8 y s9 z s10 clean s11 s12 s13 s14
  have h8 : s8.memWf = s.memWf := by
    simp only [s8, s7, s6, s5, s4, s3, s2, s1, State.ite_memWf, State.put_memWf, ite_self, State.setTierState_memWf, State.putAt_memWf]
  have h10 : s10.memWf = s.memWf := by
    unfold s10
    split <;> simp [s9, h8]
  have h14 : s14.memWf = s.memWf := by
    simp only [s14, s13, s12, s11, State.clearTier_memWf, State.journalRec_memWf, State.tlEv_memWf, State.ite_memWf, State.put_memWf, ite_self, h10]
  exact State.memWf_ite_of ((State.retireTier_memWf ..).trans h14) h14

@[simp] theorem State.activate_memWf (s : State) (t k env) : (s.activate t k env).1.memWf = s.memWf := by
  unfold State.activate
  extract_lets s1 p x fails s2 _ s3 s4 s5 _
  have h2 : s2.memWf = s.memWf := by
    simp only [s2, State.each_memWf, State.tlEv_memWf, implies_true]
    unfold s1
    split
    · exact State.memWf_ite_of (State.landSwap_memWf ..) rfl
    · rfl
  have h5 : s5.memWf = s.memWf := by simp only [s5, s4, s3, State.put_memWf, State.setTile_memWf, h2]
  split
  · simp only [State.tileError_memWf, State.markSuspect_memWf, State.put_memWf, h2]
  · split <;> simp only [State.calibrate_memWf, State.setTile_memWf, h5]

@[simp] theorem State.startRotation_memWf (s : State) (r) : (s.startRotation r).memWf = s.memWf := by
  unfold State.startRotation
  extract_lets t p s1 x s2 y
  simp only [s2, s1, State.setTile_memWf, State.setTier_memWf, State.put_memWf, State.setTierState_memWf]

@[simp] theorem State.copyLost_memWf (s : State) (t k) : (s.copyLost t k).memWf = s.memWf := by
  simp only [State.copyLost]
  split <;> simp

@[simp] theorem State.startCruise_memWf (s : State) (t phys priority) : (s.startCruise t phys priority).memWf = s.memWf := by
  simp only [State.startCruise]
  (repeat' split) <;> simp

/-! ## The scaler, the accumulator bank and the deck operations -/

@[simp] theorem State.keepEvent_memWf (s : State) (g k kind xnat) : (s.keepEvent g k kind xnat).memWf = s.memWf := by simp [State.keepEvent]
@[simp] theorem State.raiseScale_memWf (s : State) (g k kind xnat) : (s.raiseScale g k kind xnat).memWf = s.memWf := by
  simp [State.raiseScale, State.memWf_with]

@[simp] theorem State.scale_memWf (s : State) (g q) (h : s.memWf = true) : (s.scale g q).memWf = true := by
  unfold State.scale
  extract_lets d f xi8 wide n size count budget s1
  have h1 : s1.memWf = true := by simp [s1, h]
  split
  · simp [h]
  extract_lets bs s2
  refine State.memWf_ite_of (by simp [h]) ?_
  split
  · exact State.memWf_ite_of (by simp [h1]) h1
  · refine (State.complete_memWf ..).trans (State.each_memWf_of h fun s b hs => ?_)
    split
    · exact State.setLineBytes_memWf _ _ _ _ (State.memWf_ite_of (by simp [hs]) (State.memWf_ite_of (by simp [hs]) hs))
    · exact hs

@[simp] theorem execScalerQuantize_memWf (g) (s : State) (h : s.memWf = true) : nextMemWf (execScalerQuantize g s) = true := by
  simp +contextual [execScalerQuantize, h]
@[simp] theorem execAccClear_memWf (g) (s : State) (h : s.memWf = true) : nextMemWf (execAccClear g s) = true := by simp [execAccClear, h]

@[simp] theorem execAccSend_memWf (g) (s : State) (h : s.memWf = true) : nextMemWf (execAccSend g s) = true := by
  refine State.runStage_memWf _ _ _ _ _ _ h fun q t ht => ?_
  dsimp only
  split
  next u hu => simp [State.sendTransfer_memWf _ _ _ _ _ _ _ _ _ _ ht hu]
  next => exact h

@[simp] theorem execAccReceive_memWf (g) (s : State) (h : s.memWf = true) : nextMemWf (execAccReceive g s) = true := by simp [execAccReceive, h]
@[simp] theorem execAccStore_memWf (g) (s : State) (h : s.memWf = true) : nextMemWf (execAccStore g s) = true := by simp +contextual [execAccStore, h]

@[simp] theorem execDeckFill_memWf (g) (s : State) (h : s.memWf = true) : nextMemWf (execDeckFill g s) = true := by
  refine State.runStage_memWf _ _ _ _ _ _ h fun q s hs => ?_
  simp +contextual [hs]

@[simp] theorem execDeckCopy_memWf (g) (s : State) (h : s.memWf = true) : nextMemWf (execDeckCopy g s) = true := by
  refine State.runStage_memWf _ _ _ _ _ _ h fun q s hs => ?_
  simp +contextual [hs]

/-! ## The finisher, step reports, norm watch, commits, and scale events -/

@[simp] theorem State.finPasses_memWf (s : State) (g d es fmt) : (s.finPasses g d es fmt).1.memWf = s.memWf := by
  simp only [State.finPasses]
  (repeat' split) <;> simp

@[simp] theorem State.sendReport_memWf (s : State) (g d e repaired fault) : (s.sendReport g d e repaired fault).memWf = s.memWf := by
  simp only [State.sendReport]
  (repeat' split) <;> simp

@[simp] theorem State.noteE_memWf (s : State) (g d e) : (s.noteE g d e).memWf = s.memWf := by
  simp only [State.noteE]
  split <;> simp

@[simp] theorem State.finish_memWf (s : State) (g q) (h : s.memWf = true) : (s.finish g q).memWf = true := by
  unfold State.finish
  extract_lets d n fmt fn budget scale aux bad grid us es a s1 e first xs ys out
  have hbad (s : State) (hs : s.memWf = true) : (bad s).memWf = true := by simp [bad, hs]
  have h1 : s1.memWf = true := (State.finPasses_memWf ..).trans h
  refine State.memWf_ite_of (hbad s h) ?_
  clear_value out
  split
  · exact hbad _ h1
  · exact State.memWf_ite_of (by simp [h1]) (hbad _ h1)

@[simp] theorem execFinish_memWf (g) (s : State) (h : s.memWf = true) : nextMemWf (execFinish g s) = true := by simp +contextual [execFinish, h]

@[simp] theorem State.setNorm_memWf (s : State) (i layer m) (h : s.memWf = true) : (s.setNorm i layer m).memWf = true := by
  simp only [State.setNorm]
  split <;> simp [h]

@[simp] theorem State.commitLayer_memWf (s : State) (lead k) : (s.commitLayer lead k).memWf = s.memWf := by
  simp only [State.commitLayer]
  (repeat' split) <;> simp

@[simp] theorem State.allReported_memWf (s : State) (lead k) (h : s.memWf = true) : (s.allReported lead k).memWf = true := by
  simp only [State.allReported]
  (repeat' split) <;> simp [h]

@[simp] theorem execStepReport_memWf (lead rep) (s : State) (h : s.memWf = true) : nextMemWf (execStepReport lead rep s) = true := by
  simp [execStepReport, h]
@[simp] theorem execCommit_memWf (g key ctr) (s : State) (h : s.memWf = true) : nextMemWf (execCommit g key ctr s) = true := by simp [execCommit, h]

@[simp] theorem execCommitTimeout_memWf (lead key) (s : State) (h : s.memWf = true) : nextMemWf (execCommitTimeout lead key s) = true := by
  simp only [execCommitTimeout, nextMemWf_next]
  split
  · exact h
  · refine State.faultImage_memWf _ _ _ ?_
    rw [State.setGrove_memWf, State.emit_memWf, State.gvEv_memWf, h]

@[simp] theorem execScaleEventAnnounce_memWf (g ev kind xnat) (s : State) (h : s.memWf = true) :
    nextMemWf (execScaleEventAnnounce g ev kind xnat s) = true := by simp [execScaleEventAnnounce, h]
@[simp] theorem State.dropStep_memWf (s : State) (g k) : (s.dropStep g k).memWf = s.memWf := by simp [State.dropStep]

@[simp] theorem execScaleEventRelease_memWf (g ev xmax) (s : State) (h : s.memWf = true) : nextMemWf (execScaleEventRelease g ev xmax s) = true := by
  simp only [execScaleEventRelease]
  split <;> simp [h]

/-! ## Score engines, softmax unit and skidder -/

@[simp] theorem State.walkRow_memWf (s : State) (g i layer isV pos) : (s.walkRow g i layer isV pos).2.memWf = s.memWf := by
  simp only [State.walkRow]
  exact foldl_memWf_of Prod.snd rfl fun a p ha => by
    simp [ha]

@[simp] theorem State.itemRows_memWf (s : State) (walker owner : GroveId) (d : Descriptor) (ps : List Nat) :
    (s.itemRows walker owner d ps).2.2.memWf = s.memWf := foldl_memWf_of (fun a : _ × _ × State => a.2.2) rfl fun a p ha => by
    dsimp only
    (repeat' split) <;> simp [ha]

@[simp] theorem State.score_memWf (s : State) (walker owner q) (h : s.memWf = true) : (s.score walker owner q).memWf = true := by
  simp only [State.score]
  (repeat' split) <;> simp [h]

@[simp] theorem execScoreItem_memWf (g _engine) (s : State) (h : s.memWf = true) : nextMemWf (execScoreItem g _engine s) = true := by
  simp +contextual [execScoreItem, h]

@[simp] theorem execScoreItemSteal_memWf (g _engine) (s : State) (h : s.memWf = true) : nextMemWf (execScoreItemSteal g _engine s) = true := by
  simp only [execScoreItemSteal]
  (repeat' split) <;> simp [h]

@[simp] theorem State.softmax_memWf (s : State) (g q) (h : s.memWf = true) : (s.softmax g q).memWf = true := by
  simp only [State.softmax, State.complete_memWf]
  split
  case' isTrue => refine State.setLineBytes_memWf _ _ _ _ ?_
  all_goals exact State.each_memWf_of h fun s p hs => State.setLineBytes_memWf _ _ _ _ hs

@[simp] theorem execSoftmax_memWf (g) (s : State) (h : s.memWf = true) : nextMemWf (execSoftmax g s) = true := by simp +contextual [execSoftmax, h]

theorem State.storeRow_memWf (s t : State) (g : GroveId) (i layer : Nat) (isV : Bool) (pos : Nat) (bs : List Byte)
    (h : s.memWf = true) (ht : s.storeRow g i layer isV pos bs = some t) :
    t.memWf = true := by
  obtain ⟨b, -, rfl⟩ := Option.map_eq_some_iff.1 ht
  simp [h]

@[simp] theorem State.appendKv_memWf (s : State) (g q) (h : s.memWf = true) : (s.appendKv g q).memWf = true := by
  unfold State.appendKv
  extract_lets d f n heads nd elems rowL i budget r s1
  have hr : r.1.memWf = true := by
    refine foldl_memWf_of Prod.fst h fun a k ha => ?_
    split
    · exact ha
    extract_lets t
    split
    · split
      · exact ha
      next ht =>
        have ht := State.storeRow_memWf _ _ _ _ _ _ _ _ ha ht
        split
        · exact ht
        next hu => exact State.storeRow_memWf _ _ _ _ _ _ _ _ ht hu
    · exact ha
  have h1 : s1.memWf = true := (State.complete_memWf ..).trans hr
  refine State.memWf_ite_of (by simp [h]) ?_
  split <;> simp [h1]

@[simp] theorem execKvAppend_memWf (g) (s : State) (h : s.memWf = true) : nextMemWf (execKvAppend g s) = true := by simp +contextual [execKvAppend, h]

@[simp] theorem State.movePath_memWf (s : State) (g q) (h : s.memWf = true) : (s.movePath g q).memWf = true := by
  simp only [State.movePath]
  split
  case' isFalse => refine State.pageInvalid_memWf _ _ _ ?_
  all_goals
    rw [State.complete_memWf]
    refine foldl_memWf_of Prod.fst h fun a c ha => ?_
    split
    · exact ha
    · refine foldl_memWf_of Prod.fst ha fun a isV ha => ?_
      split
      · exact ha
      · split
        · simp [ha]
        · split
          next t ht => exact State.storeRow_memWf _ _ _ _ _ _ _ _ (by simp [ha]) ht
          next => simp [ha]

@[simp] theorem execKvPathMove_memWf (g) (s : State) (h : s.memWf = true) : nextMemWf (execKvPathMove g s) = true := by
  simp +contextual [execKvPathMove, h]

end Sys2Proof.Machine
end

section
/-! PROOFS. Obligation O3: the commands of the links, Daush requests, the control ports, feeds, rotations and sensors. -/

namespace Sys2Proof.Machine

/-! ## Commands of the links -/

@[simp] theorem execDeckWriteFlit_memWf (p x) (s : State) (h : s.memWf = true) : nextMemWf (execDeckWriteFlit p x s) = true := by
  simp [execDeckWriteFlit, h]
@[simp] theorem execPartialSumFlit_memWf (p x) (s : State) (h : s.memWf = true) : nextMemWf (execPartialSumFlit p x s) = true := by
  simp [execPartialSumFlit, h]
@[simp] theorem execRelayFlit_memWf (p x) (s : State) (h : s.memWf = true) : nextMemWf (execRelayFlit p x s) = true := by simp [execRelayFlit, h]

@[simp] theorem execHbmReadRequest_memWf (l p x addr line lines) (s : State) (h : s.memWf = true) :
    nextMemWf (execHbmReadRequest l p x addr line lines s) = true := by
  simp only [execHbmReadRequest]
  split <;> simp [h]

@[simp] theorem execHbmReadData_memWf (p x line bytes) (s : State) (h : s.memWf = true) : nextMemWf (execHbmReadData p x line bytes s) = true := by
  simp [execHbmReadData, h]

@[simp] theorem execHbmWrite_memWf (l p x addr bytes) (s : State) (h : s.memWf = true) : nextMemWf (execHbmWrite l p x addr bytes s) = true := by
  simp only [execHbmWrite]
  split <;> simp [h]

@[simp] theorem execFlitTransmit_memWf (p ch) (s : State) (h : s.memWf = true) : nextMemWf (execFlitTransmit p ch s) = true := by
  simp [execFlitTransmit, h]
@[simp] theorem execCreditReturn_memWf (p ch) (s : State) (h : s.memWf = true) : nextMemWf (execCreditReturn p ch s) = true := by
  simp [execCreditReturn, h]
@[simp] theorem execNak_memWf (p x ch failed) (s : State) (h : s.memWf = true) : nextMemWf (execNak p x ch failed s) = true := by simp [execNak, h]
@[simp] theorem execDiagnosisRequest_memWf (p x) (s : State) (h : s.memWf = true) : nextMemWf (execDiagnosisRequest p x s) = true := by
  simp [execDiagnosisRequest, h]

@[simp] theorem State.startSpare_memWf (s : State) (p lane failed) (h : s.memWf = true) : (s.startSpare p lane failed).memWf = true := by
  simp only [State.startSpare]
  (repeat' split) <;> simp [h]

@[simp] theorem execLaneDiagnosisDone_memWf (p faulty) (s : State) (h : s.memWf = true) : nextMemWf (execLaneDiagnosisDone p faulty s) = true := by
  simp only [execLaneDiagnosisDone]
  (repeat' split) <;> simp [h]

@[simp] theorem execLaneSpareStart_memWf (p lane) (s : State) (h : s.memWf = true) : nextMemWf (execLaneSpareStart p lane s) = true := by
  simp [execLaneSpareStart, h]
@[simp] theorem execSparingFlit_memWf (p lane spare) (s : State) (h : s.memWf = true) : nextMemWf (execSparingFlit p lane spare s) = true := by
  simp [execSparingFlit, h]

/-- The states are named, not unfolded: the kernel would compute the register fields that they write. -/
@[simp] theorem execSpareCompareDone_memWf (p mismatch) (s : State) (h : s.memWf = true) : nextMemWf (execSpareCompareDone p mismatch s) = true := by
  unfold execSpareCompareDone
  rw [nextMemWf_next]
  split
  · exact h
  next lane spare _ =>
  refine State.memWf_ite_of h ?_
  obtain ⟨s1, h1, e1⟩ : ∃ x : State, x.memWf = true
      ∧ x = (s.setPort p { s.port p with spareRx := none }).put skStatus_sparingActive p.num 0 :=
    ⟨_, by simp only [State.put_memWf, State.setPort_memWf, h], rfl⟩
  rw [← e1]
  refine State.memWf_ite_of ?_ ?_
  · rw [State.sendLink_memWf, State.setPort_memWf, h1]
  · obtain ⟨s2, h2, e2⟩ : ∃ x : State, x.memWf = true
        ∧ x = (s1.recordSpare p .skSpareMapRx skStatus_sparesUsedRx lane spare).sendLink p (.confirm lane spare) :=
      ⟨_, by simp only [State.sendLink_memWf, State.recordSpare_memWf, h1], rfl⟩
    rw [← e2]
    extract_lets s3
    split
    · exact h2
    · exact State.startSpare_memWf _ _ _ _ ((State.setPort_memWf ..).trans h2)

@[simp] theorem execSpareConfirm_memWf (p lane spare) (s : State) (h : s.memWf = true) : nextMemWf (execSpareConfirm p lane spare s) = true := by
  simp [execSpareConfirm, h]

@[simp] theorem State.forceSpare_memWf (s : State) (p dir lane) (h : s.memWf = true) : (s.forceSpare p dir lane).memWf = true := by
  simp only [State.forceSpare]
  (repeat' split) <;> simp [h]

@[simp] theorem execSkSpareForce_memWf (n p v) (s : State) (h : s.memWf = true) : nextMemWf (execSkSpareForce n p v s) = true := by
  simp [execSkSpareForce, h]
@[simp] theorem State.writeInject_memWf (s : State) (n p v) : (s.writeInject n p v).memWf = s.memWf := by simp [State.writeInject]
@[simp] theorem execSkFaultInjWrite_memWf (n p v) (s : State) (h : s.memWf = true) : nextMemWf (execSkFaultInjWrite n p v s) = true := by
  simp [execSkFaultInjWrite, h]

/-! ## A Daush request from its post to its response -/

@[simp] theorem State.requestViolation_memWf (s : State) (r kind tag) : (s.requestViolation r kind tag).memWf = s.memWf := by
  simp [State.requestViolation]
@[simp] theorem State.violate_memWf (s : State) (r kind tag) : (s.violate r kind tag).2.memWf = s.memWf := by simp [State.violate]

theorem State.headerChecks_memWf (s : State) (r : Request) (w : Reply × State) (ht : s.headerChecks r = some w) : w.2.memWf = s.memWf := by
  simp only [State.headerChecks] at ht
  (repeat' split at ht) <;> cases ht <;> simp

@[simp] theorem State.daushLate_memWf (s : State) (f : Fin 256) (code : Nat)
    (run : Request → State → Option Reply × State) (h : s.memWf = true) (hrun : ∀ r, (run r s).2.memWf = true) :
    (s.daushLate f code run).memWf = true := by
  unfold State.daushLate
  split
  · exact h
  extract_lets a
  have ha : a.2.memWf = true := by
    unfold a
    split
    next hc => exact (State.headerChecks_memWf _ _ _ hc).trans h
    · exact hrun _
  split
  · simp [ha]
  · split <;> simp [ha]

@[simp] theorem State.daush_memWf (s : State) (f : Fin 256) (code : Nat)
    (run : Request → State → Reply × State) (h : s.memWf = true) (hrun : ∀ r, (run r s).2.memWf = true) :
    (s.daush f code run).memWf = true := State.daushLate_memWf _ _ _ _ h hrun

@[simp] theorem checked_memWf (cs : List (Nat × Bool)) (s : State) (rest : Reply × State) (h : s.memWf = true) (hrest : rest.2.memWf = true) :
    (checked cs s rest).2.memWf = true := by
  simp only [checked]
  split <;> simp [h, hrest]

@[simp] theorem State.staleHandle_memWf (s : State) (x) (h : s.memWf = true) : (s.staleHandle x).memWf = true := by simp [State.staleHandle, h]

@[simp] theorem State.withHandle_memWf (s : State) (r : Request) (i : Nat) (rest : Nat → Reply × State)
    (h : s.memWf = true) (hrest : ∀ n, (rest n).2.memWf = true) :
    (s.withHandle r i rest).2.memWf = true := by
  simp only [State.withHandle]
  split <;> simp [h, hrest]

theorem State.startOp_memWf (s : State) (r : Request) (w : Nat × State) (ht : s.startOp r = some w) : w.2.memWf = s.memWf := by
  simp only [State.startOp] at ht
  split at ht <;> cases ht
  exact State.memWf_with ..

@[simp] theorem State.asOp_memWf (s : State) (r : Request) (rest : Nat → State → Reply × State)
    (h : s.memWf = true) (hrest : ∀ n t, t.memWf = true → (rest n t).2.memWf = true) :
    (s.asOp r rest).2.memWf = true := by
  simp only [State.asOp]
  split
  · exact h
  next op t ht => exact hrest op t ((State.startOp_memWf _ _ _ ht).trans h)

/-! ## The mailboxes, MSI-X vectors and resets of the control ports -/

@[simp] theorem State.refusePost_memWf (s : State) (f) : (s.refusePost f).memWf = s.memWf := by simp [State.refusePost]
@[simp] theorem State.mailRecord_memWf (s : State) (f kind slot) : (s.mailRecord f kind slot).memWf = s.memWf := by simp [State.mailRecord]
@[simp] theorem State.post_memWf (s : State) (f v) : (s.post f v).memWf = s.memWf := by simp [State.post]
@[simp] theorem execMbPost_memWf (f v) (s : State) (h : s.memWf = true) : nextMemWf (execMbPost f v s) = true := by simp [execMbPost, h]
@[simp] theorem State.abortPost_memWf (s : State) (f) : (s.abortPost f).memWf = s.memWf := by simp [State.abortPost]
@[simp] theorem execMbAbort_memWf (f) (s : State) (h : s.memWf = true) : nextMemWf (execMbAbort f s) = true := by simp [execMbAbort, h]
@[simp] theorem execMailboxTake_memWf (f) (s : State) (h : s.memWf = true) : nextMemWf (execMailboxTake f s) = true := by simp [execMailboxTake, h]

@[simp] theorem execResponseReady_memWf (f) (s : State) (h : s.memWf = true) : nextMemWf (execResponseReady f s) = true := by
  simp only [execResponseReady]
  split <;> simp [h]

@[simp] theorem execMsixHoldoffEnd_memWf (f vec) (s : State) (h : s.memWf = true) : nextMemWf (execMsixHoldoffEnd f vec s) = true := by
  simp [execMsixHoldoffEnd, h]
@[simp] theorem State.sendPending_memWf (s : State) (f) : (s.sendPending f).memWf = s.memWf := by simp [State.sendPending]
@[simp] theorem execMsixUnmask_memWf (f vec) (s : State) (h : s.memWf = true) : nextMemWf (execMsixUnmask f vec s) = true := by
  simp [execMsixUnmask, h]
@[simp] theorem State.resetFunc_memWf (s : State) (f) : (s.resetFunc f).memWf = s.memWf := by simp [State.resetFunc, State.memWf_with]
@[simp] theorem State.dropVfs_memWf (s : State) (port n) : (s.dropVfs port n).memWf = s.memWf := by simp [State.dropVfs]
@[simp] theorem execFunctionReset_memWf (f) (s : State) (h : s.memWf = true) : nextMemWf (execFunctionReset f s) = true := by
  simp [execFunctionReset, h]
@[simp] theorem execPcieReset_memWf (port) (s : State) (h : s.memWf = true) : nextMemWf (execPcieReset port s) = true := by simp [execPcieReset, h]
@[simp] theorem execVfEnable_memWf (port numVfs) (s : State) (h : s.memWf = true) : nextMemWf (execVfEnable port numVfs s) = true := by
  simp [execVfEnable, h]
@[simp] theorem execD3hotEntry_memWf (f) (s : State) (h : s.memWf = true) : nextMemWf (execD3hotEntry f s) = true := by simp [execD3hotEntry, h]
@[simp] theorem execD0Entry_memWf (f) (s : State) (h : s.memWf = true) : nextMemWf (execD0Entry f s) = true := by simp [execD0Entry, h]
@[simp] theorem execBar2RequestWrite_memWf (f offset bytes) (s : State) (h : s.memWf = true) :
    nextMemWf (execBar2RequestWrite f offset bytes s) = true := by simp [execBar2RequestWrite, h]

@[simp] theorem execHostTransferComplete_memWf (f ok) (s : State) (h : s.memWf = true) : nextMemWf (execHostTransferComplete f ok s) = true := by
  simp only [execHostTransferComplete]
  split <;> simp [h]

/-! ## Feeds, bus converters, segment switches, VLOG, phases and breakers -/

@[simp] theorem State.showFeed_memWf (s : State) (feed mv) : (s.showFeed feed mv).memWf = s.memWf := by simp [State.showFeed]
@[simp] theorem State.dropFeed_memWf (s : State) (feed) : (s.dropFeed feed).memWf = s.memWf := by simp [State.dropFeed]
@[simp] theorem execFeedLost_memWf (feed mv) (s : State) (h : s.memWf = true) : nextMemWf (execFeedLost feed mv s) = true := by simp [execFeedLost, h]
@[simp] theorem execFeedRestored_memWf (feed mv) (s : State) (h : s.memWf = true) : nextMemWf (execFeedRestored feed mv s) = true := by
  simp [execFeedRestored, h]
@[simp] theorem execBladeUnseated_memWf (s : State) (h : s.memWf = true) : nextMemWf (execBladeUnseated s) = true := by simp [execBladeUnseated, h]
@[simp] theorem execRideThroughEnd_memWf (s : State) (h : s.memWf = true) : nextMemWf (execRideThroughEnd s) = true := by simp [execRideThroughEnd, h]
@[simp] theorem execConverterLost_memWf (n) (s : State) (h : s.memWf = true) : nextMemWf (execConverterLost n s) = true := by
  simp [execConverterLost, h]
@[simp] theorem execSegmentOpen_memWf (b) (s : State) (h : s.memWf = true) : nextMemWf (execSegmentOpen b s) = true := by
  simp +contextual [execSegmentOpen, State.memWf_with, h]
@[simp] theorem execVlogAdjust_memWf (n monitorUp) (s : State) (h : s.memWf = true) : nextMemWf (execVlogAdjust n monitorUp s) = true := by
  simp [execVlogAdjust, h]
@[simp] theorem execElecThin_memWf (n vlogTenthsA inputPermille) (s : State) (h : s.memWf = true) :
    nextMemWf (execElecThin n vlogTenthsA inputPermille s) = true := by simp [execElecThin, h]
@[simp] theorem State.openBreaker_memWf (s : State) (n cause) (h : s.memWf = true) : (s.openBreaker n cause).memWf = true := by
  simp [State.openBreaker, State.memWf_with, h]
@[simp] theorem State.losePhase_memWf (s : State) (n p code) (h : s.memWf = true) : (s.losePhase n p code).memWf = true := by
  simp [State.losePhase, h]
@[simp] theorem execPhaseLost_memWf (n p _reported) (s : State) (h : s.memWf = true) : nextMemWf (execPhaseLost n p _reported s) = true := by
  simp [execPhaseLost, h]
@[simp] theorem execPhaseShort_memWf (n p amps) (s : State) (h : s.memWf = true) : nextMemWf (execPhaseShort n p amps s) = true := by
  simp [execPhaseShort, h]
@[simp] theorem execIsolationCheck_memWf (n p amps) (s : State) (h : s.memWf = true) : nextMemWf (execIsolationCheck n p amps s) = true := by
  simp [execIsolationCheck, h]
@[simp] theorem execBreakerTrip_memWf (n cause) (s : State) (h : s.memWf = true) : nextMemWf (execBreakerTrip n cause s) = true := by
  simp [execBreakerTrip, h]
@[simp] theorem execBreakerRetest_memWf (n percent) (s : State) (h : s.memWf = true) : nextMemWf (execBreakerRetest n percent s) = true := by
  simp [execBreakerRetest, h]

@[simp] theorem State.writeBreaker_memWf (s : State) (n v) : (s.writeBreaker n v).memWf = s.memWf := by
  simp only [State.writeBreaker]
  (repeat' split) <;> simp

@[simp] theorem execPwBreakerClose_memWf (n v) (s : State) (h : s.memWf = true) : nextMemWf (execPwBreakerClose n v s) = true := by
  simp [execPwBreakerClose, h]
@[simp] theorem execHeaderStuckClosed_memWf (g) (s : State) (h : s.memWf = true) : nextMemWf (execHeaderStuckClosed g s) = true := by
  simp [execHeaderStuckClosed, h]

/-! ## Tier rotations -/

@[simp] theorem State.rotateWrite_memWf (s : State) (t v kind) (h : s.memWf = true) : nextMemWf (s.rotateWrite t v kind) = true := by
  simp only [State.rotateWrite]
  split <;> simp [State.memWf_with, h]

@[simp] theorem execTlRotateCopy_memWf (t v) (s : State) (h : s.memWf = true) : nextMemWf (execTlRotateCopy t v s) = true := by
  simp [execTlRotateCopy, h]
@[simp] theorem execTlRotateLoad_memWf (t v) (s : State) (h : s.memWf = true) : nextMemWf (execTlRotateLoad t v s) = true := by
  simp [execTlRotateLoad, h]
@[simp] theorem execTlRotateUpdate_memWf (t v) (s : State) (h : s.memWf = true) : nextMemWf (execTlRotateUpdate t v s) = true := by
  simp [execTlRotateUpdate, h]
@[simp] theorem State.setRotation_memWf (s : State) (t r) : (s.setRotation t r).memWf = s.memWf := by simp [State.setRotation]

@[simp] theorem State.rotLayer_memWf (s : State) (t r) : (s.rotLayer t r).2.memWf = s.memWf := by
  simp only [State.rotLayer]
  split <;> simp

@[simp] theorem State.rowWritten_memWf (s : State) (t r) : (s.rowWritten t r).memWf = s.memWf := by simp [State.rowWritten]
@[simp] theorem State.verifyFailed_memWf (s : State) (t) : (s.verifyFailed t).memWf = s.memWf := by simp [State.verifyFailed]

@[simp] theorem execWriteSlice_memWf (t needed) (s : State) (h : s.memWf = true) : nextMemWf (execWriteSlice t needed s) = true := by
  simp only [execWriteSlice]
  split <;> simp [h]

@[simp] theorem execCopyReadSlice_memWf (t identityHolds) (s : State) (h : s.memWf = true) :
    nextMemWf (execCopyReadSlice t identityHolds s) = true := by
  simp only [execCopyReadSlice]
  split <;> simp [h]

@[simp] theorem execVerifySlice_memWf (t pass) (s : State) (h : s.memWf = true) : nextMemWf (execVerifySlice t pass s) = true := by
  simp only [execVerifySlice]
  split <;> simp [h]

@[simp] theorem execSwapLand_memWf (t) (s : State) (h : s.memWf = true) : nextMemWf (execSwapLand t s) = true := by simp [execSwapLand, h]
@[simp] theorem execForcedSwap_memWf (t env) (s : State) (h : s.memWf = true) : nextMemWf (execForcedSwap t env s) = true := by
  simp [execForcedSwap, h]

/-! ## Sensors, heat thinning, heat switch-off and the hard shutdown -/

@[simp] theorem State.setSensor_memWf (s : State) (id r) : (s.setSensor id r).memWf = s.memWf := by
  simp only [State.setSensor]
  split <;> simp [State.memWf_with]

@[simp] theorem State.thermalRecord_memWf (s : State) (sensor threshold value) : (s.thermalRecord sensor threshold value).memWf = s.memWf := by
  simp [State.thermalRecord]
@[simp] theorem State.takeReading_memWf (s : State) (id r) : (s.takeReading id r).memWf = s.memWf := by simp [State.takeReading]
@[simp] theorem execSensorSample_memWf (id reading) (s : State) (h : s.memWf = true) : nextMemWf (execSensorSample id reading s) = true := by
  simp [execSensorSample, h]
@[simp] theorem execHeatFactorStep_memWf (n) (s : State) (h : s.memWf = true) : nextMemWf (execHeatFactorStep n s) = true := by
  simp [execHeatFactorStep, h]
@[simp] theorem execCoolantSample_memWf (inletA inletB outlet flow) (s : State) (h : s.memWf = true) :
    nextMemWf (execCoolantSample inletA inletB outlet flow s) = true := by simp [execCoolantSample, State.memWf_with, h]
@[simp] theorem execHeatSwitchOff_memWf (n) (s : State) (h : s.memWf = true) : nextMemWf (execHeatSwitchOff n s) = true := by
  simp [execHeatSwitchOff, h]
@[simp] theorem execHardShutdown_memWf (cause) (s : State) (h : s.memWf = true) : nextMemWf (execHardShutdown cause s) = true := by
  simp [execHardShutdown, h]
@[simp] theorem execHeatReturn_memWf (n) (s : State) (h : s.memWf = true) : nextMemWf (execHeatReturn n s) = true := by simp [execHeatReturn, h]

end Sys2Proof.Machine
end

section
/-! PROOFS. Obligation O3: array upkeep, the steps of sequences, the twin, variants, images, starts and commits. -/

namespace Sys2Proof.Machine

/-! ## Array upkeep -/

@[simp] theorem execTlCruise_memWf (t v) (s : State) (h : s.memWf = true) : nextMemWf (execTlCruise t v s) = true := by simp [execTlCruise, h]
@[simp] theorem State.noteStuck_memWf (s : State) (t p cols) : (s.noteStuck t p cols).memWf = s.memWf := by simp [State.noteStuck]
@[simp] theorem State.scheduleCoppice_memWf (s : State) (t k p maxRes) : (s.scheduleCoppice t k p maxRes).memWf = s.memWf := by
  simp [State.scheduleCoppice]

@[simp] theorem State.surveyNext_memWf (s : State) (t p) : (s.surveyNext t p).memWf = s.memWf := by
  simp only [State.surveyNext]
  (repeat' split) <;> simp [State.memWf_with]

@[simp] theorem State.endCruise_memWf (s : State) (t k c) : (s.endCruise t k c).memWf = s.memWf := by simp [State.endCruise]

@[simp] theorem State.cruiseSlice_memWf (s : State) (t found) : (s.cruiseSlice t found).memWf = s.memWf := by
  simp only [State.cruiseSlice]
  (repeat' split) <;> simp

@[simp] theorem execCruiseSlice_memWf (t found) (s : State) (h : s.memWf = true) : nextMemWf (execCruiseSlice t found s) = true := by
  simp [execCruiseSlice, h]

@[simp] theorem execForcedSlice_memWf (t found) (s : State) (h : s.memWf = true) : nextMemWf (execForcedSlice t found s) = true := by
  simp only [execForcedSlice]
  split <;> simp [h]

@[simp] theorem State.dueCruise_memWf (s : State) (t p) : (s.dueCruise t p).memWf = s.memWf := by simp [State.dueCruise]
@[simp] theorem execDriftClockTick_memWf (st) (s : State) (h : s.memWf = true) : nextMemWf (execDriftClockTick st s) = true := by
  simp [execDriftClockTick, h]
@[simp] theorem execEarlyCruise_memWf (t phys cause) (s : State) (h : s.memWf = true) : nextMemWf (execEarlyCruise t phys cause s) = true := by
  simp [execEarlyCruise, h]
@[simp] theorem execMonStart_memWf (g v) (s : State) (h : s.memWf = true) : nextMemWf (execMonStart g v s) = true := by simp [execMonStart, h]

@[simp] theorem execMonWindowEnd_memWf (g) (s : State) (h : s.memWf = true) : nextMemWf (execMonWindowEnd g s) = true := by
  simp only [execMonWindowEnd]
  split
  · exact h
  next m _ =>
    split
    · exact h
    · split
      · rfl
      · have h1 := State.hbmWrite_memWf s (256 * s.get tlMonDest_addr g.num) (monitorBytes m) h
        split <;>
          simp only [nextMemWf_next, State.each_memWf, State.journalRec_memWf, implies_true, State.upkeepEv_memWf, State.setGrove_memWf, h1]

@[simp] theorem State.writeRepairList_memWf (s : State) (t) : (s.writeRepairList t).memWf = s.memWf := by simp [State.writeRepairList]

@[simp] theorem execRotationDispatch_memWf (g) (s : State) (h : s.memWf = true) : nextMemWf (execRotationDispatch g s) = true := by
  simp only [execRotationDispatch]
  (repeat' split) <;> simp [State.memWf_with, h]

@[simp] theorem execRemapSwitch_memWf (g entry) (s : State) (h : s.memWf = true) : nextMemWf (execRemapSwitch g entry s) = true := by
  simp only [execRemapSwitch]
  split <;> simp [State.memWf_with, h]

@[simp] theorem State.handImage_memWf (s : State) (tag n r) (h : s.memWf = true) : (s.handImage tag n r).memWf = true := by
  simp only [State.handImage]
  split
  · exact h
  · split
    · exact h
    · rw [State.restartSteps_memWf, State.journalRec_memWf, State.setImage_memWf]
      refine State.applyRelocs_memWf _ _ _ _ (State.loadGroves_memWf _ _ _ _ ?_)
      exact State.each_memWf_of h fun s e hs => State.patchWrite_memWf _ _ _ hs

@[simp] theorem execStandHandover_memWf (st fit) (s : State) (h : s.memWf = true) : nextMemWf (execStandHandover st fit s) = true := by
  unfold execStandHandover
  rw [nextMemWf_next]
  extract_lets n
  split
  · refine State.memWf_ite_of h ?_
    split <;> simp [State.memWf_with, h]
  · extract_lets loading moving s1 s2 _ s3 s4
    refine State.memWf_ite_of h ?_
    have h1 : s1.memWf = true := State.each_memWf_of h fun s p hs => by split <;> simp [hs]
    have h2 : s2.memWf = true := State.each_memWf_of h1 fun s t hs => by simp [hs]
    have h3 : s3.memWf = true := (State.dropRemaps_memWf s2 n).trans h2
    have h4 : s4.memWf = true := State.memWf_ite_of (by simp [h3]) h3
    rw [State.follow_memWf]
    exact State.memWf_ite_of (by simp [h4]) (by simp [h4])

@[simp] theorem State.snapshot_memWf (s : State) : s.snapshot.memWf = s.memWf := by simp only [State.snapshot, State.memWf_with]
@[simp] theorem execDriftSnapshot_memWf (s : State) (h : s.memWf = true) : nextMemWf (execDriftSnapshot s) = true := by simp [execDriftSnapshot, h]

/-! ## The register map -/

@[simp] theorem State.hwSet_memWf (s : State) (k sets) : (s.hwSet k sets).memWf = s.memWf := by
  simp only [State.hwSet]
  split <;> simp

@[simp] theorem State.writeTwinInject_memWf (s : State) (l v) : (s.writeTwinInject l v).memWf = s.memWf := by
  simp [State.writeTwinInject, State.memWf_with]

/-- A write with an action of its own answers that action's outcome. -/
theorem State.writeActs_memWf (s : State) (k : RegKey) (v : Nat) (o : Host.Outcome State Fault Refusal)
    (h : s.memWf = true) (ho : s.writeActs k v = some o) :
    nextMemWf o = true := by
  simp only [State.writeActs] at ho
  split at ho <;> cases ho
  case h_3 => split <;> simp [h]
  case h_8 => split <;> simp [h]
  all_goals simp [h]

@[simp] theorem State.writeFollows_memWf (s : State) (k v mask) : (s.writeFollows k v mask).memWf = s.memWf := by
  simp only [State.writeFollows]
  split <;> simp

@[simp] theorem State.writeKey_memWf (s : State) (k : RegKey) (v mask sets : Nat) (locked : State → State) (stump : Bool)
    (h : s.memWf = true) (hl : ∀ t, t.memWf = true → (locked t).memWf = true) :
    nextMemWf (s.writeKey k v mask sets locked stump) = true := by
  simp only [State.writeKey]
  split
  next o ho => exact State.writeActs_memWf _ _ _ _ h ho
  next => split <;> simp [h, hl]

/-- Writes in sequence stop at the first that answers no state. -/
@[simp] theorem writeAll_memWf (fs : List (State → Host.Outcome State Fault Refusal)) (s : State)
    (h : s.memWf = true) (hfs : ∀ f ∈ fs, ∀ t : State, t.memWf = true → nextMemWf (f t) = true) :
    nextMemWf (writeAll fs s) = true := by
  induction fs generalizing s with
  | nil => exact h
  | cons f r ih =>
    have hf := hfs f (by simp) s h
    simp only [writeAll]
    split
    next t ht => exact ih t (by simpa [ht] using hf) fun g hg => hfs g (by simp [hg])
    all_goals rfl

@[simp] theorem State.writePlace_memWf (s : State) (p : RegPlace) (n v sets : Nat) (locked : State → State) (stump : Bool)
    (h : s.memWf = true) (hl : ∀ t, t.memWf = true → (locked t).memWf = true) :
    nextMemWf (s.writePlace p n v sets locked stump) = true := by
  refine writeAll_memWf _ _ h fun f hf t ht => ?_
  obtain ⟨q, -, rfl⟩ := List.mem_map.1 hf
  exact State.writeKey_memWf _ _ _ _ _ _ _ ht hl

@[simp] theorem State.writeForester_memWf (s : State) (addr n v sets stump) (h : s.memWf = true) :
    nextMemWf (s.writeForester addr n v sets stump) = true := by
  simp only [State.writeForester]
  (repeat' split) <;> simp [h]

@[simp] theorem State.writeMsix_memWf (s : State) (f off n v) : (s.writeMsix f off n v).memWf = s.memWf := by simp [State.writeMsix]

@[simp] theorem State.writeBar0_memWf (s : State) (f off n v sets) (h : s.memWf = true) : nextMemWf (s.writeBar0 f off n v sets) = true := by
  simp only [State.writeBar0]
  split <;> simp [h]

@[simp] theorem State.writeCommand_memWf (s : State) (f v) : (s.writeCommand f v).memWf = s.memWf := by simp [State.writeCommand]

/-! ## Load, predicted latency and admission -/

@[simp] theorem State.setVariant_memWf (s : State) (tag v y) : (s.setVariant tag v y).memWf = s.memWf := by simp [State.setVariant]
@[simp] theorem State.askSuspend_memWf (s : State) (i c) : (s.askSuspend i c).memWf = s.memWf := by simp [State.askSuspend]

@[simp] theorem State.openEntry_memWf (s : State) (i r tag isSapling saplingSeq key pages) (h : s.memWf = true) :
    (s.openEntry i r tag isSapling saplingSeq key pages).memWf = true := by
  simp only [State.openEntry, State.clearFelled_memWf, State.seqState_memWf]
  refine State.each_memWf_of (State.mapPages_memWf _ _ _ (State.hbmWrite_memWf _ _ _ (by simp [State.memWf_with, h]))) fun s l hs => ?_
  split <;> simp [hs]

@[simp] theorem State.heatVariant_memWf (s : State) (tag v pool marks) : (s.heatVariant tag v pool marks).memWf = s.memWf := by
  simp only [State.heatVariant]
  split
  case' h_1 => rw [State.setVariant_memWf]
  all_goals exact State.each_memWf fun s m => by split <;> simp

@[simp] theorem State.grant_memWf (s : State) (r victims entries v) (h : s.memWf = true) : (s.grant r victims entries v).memWf = true := by
  unfold State.grant
  extract_lets s1 s2 i j s3 s4 s5
  have h1 : s1.memWf = true := by simp [s1, h]
  have h2 : s2.memWf = true := by
    unfold s2
    split
    · exact h1
    · exact (State.heatVariant_memWf ..).trans h1
  have h3 : s3.memWf = true := State.openEntry_memWf _ _ _ _ _ _ _ _ h2
  have h4 : s4.memWf = true := State.memWf_ite_of h3 (State.openEntry_memWf _ _ _ _ _ _ _ _ h3)
  have h5 : s5.memWf = true := by
    refine State.memWf_ite_of ?_ h4
    split
    · exact (State.setVariant_memWf ..).trans h4
    · exact h4
  exact State.memWf_ite_of (by simp [h5]) h5

@[simp] theorem State.mirrorOpen_memWf (s : State) (i) : (s.mirrorOpen i).memWf = s.memWf := by simp [State.mirrorOpen]

/-! ## The steps of sequences -/

@[simp] theorem State.tryPrefill_memWf (s : State) (i) : (s.tryPrefill i).memWf = s.memWf := by simp [State.tryPrefill]

@[simp] theorem State.enterLayer0_memWf (s : State) (i g ctr) (h : s.memWf = true) : (s.enterLayer0 i g ctr).memWf = true := by
  simp only [State.enterLayer0]
  (repeat' split) <;> simp [h]

@[simp] theorem State.mapFor_memWf (s : State) (i f) (h : s.memWf = true) : (s.mapFor i f).1.memWf = true := by simp [State.mapFor, h]
@[simp] theorem State.enterPageWait_memWf (s : State) (i) : (s.enterPageWait i).memWf = s.memWf := by simp [State.enterPageWait]

@[simp] theorem State.resumeTogether_memWf (s : State) (i) : (s.resumeTogether i).memWf = s.memWf := State.each_memWf fun s j => by
    dsimp only
    split <;> simp

@[simp] theorem State.measure_memWf (s : State) (i f) : (s.measure i f).memWf = s.memWf := by simp [State.measure]
@[simp] theorem State.mirrorStepRec_memWf (s : State) (i tokens rows) : (s.mirrorStepRec i tokens rows).memWf = s.memWf := by
  simp [State.mirrorStepRec]
@[simp] theorem State.tokenFrames_memWf (s : State) (i step pos prov tokens logits) :
    (s.tokenFrames i step pos prov tokens logits).memWf = s.memWf := by simp [State.tokenFrames]
@[simp] theorem State.syncSapling_memWf (s : State) (i) : (s.syncSapling i).memWf = s.memWf := by simp [State.syncSapling]

@[simp] theorem State.commitTokensOf_memWf (s : State) (i f toks logits) (h : s.memWf = true) : (s.commitTokensOf i f toks logits).memWf = true := by
  unfold State.commitTokensOf
  extract_lets x e c base newLen first prov d new s1 s2 kept s3 s4 s5 s6 s7 ids rows s8
  have h5 : s5.memWf = true := by
    simp only [s5, s4, s3, s2, s1, State.ite_memWf, State.seqState_memWf, State.journalRec_memWf, State.modSeq_memWf,
      State.modImage_memWf, State.measure_memWf, ite_self, h]
  have h8 : s8.memWf = true := by
    simp only [s8, s7, s6, State.each_memWf, State.mirrorStepRec_memWf, implies_true, State.syncSapling_memWf,
      State.modSeq_memWf, State.tokenFrames_memWf, h5]
  split
  · exact h8
  · split
    · exact State.endClosed_memWf _ _ _ _ h8
    · split
      · exact State.endClosed_memWf _ _ _ _ h8
      · exact h8

/-! ## What twin commands and events share -/

@[simp] theorem State.pairEv_memWf (s : State) (f) : (s.pairEv f).memWf = s.memWf := by simp [State.pairEv]
@[simp] theorem State.twinAll_memWf (s : State) (kind payload) : (s.twinAll kind payload).memWf = s.memWf := by simp [State.twinAll]
@[simp] theorem State.sendControl_memWf (s : State) : s.sendControl.memWf = s.memWf := by simp [State.sendControl]
@[simp] theorem State.copyOut_memWf (s : State) (i) : (s.copyOut i).memWf = s.memWf := by simp [State.copyOut]
@[simp] theorem State.resync_memWf (s : State) : s.resync.memWf = s.memWf := by simp [State.resync]
@[simp] theorem State.unmirror_memWf (s : State) : s.unmirror.memWf = s.memWf := by simp only [State.unmirror, State.memWf_with]
@[simp] theorem State.imagesChanged_memWf (s : State) : s.imagesChanged.memWf = s.memWf := by simp [State.imagesChanged]
@[simp] theorem State.dropMirrors_memWf (s : State) (h : s.memWf = true) : s.dropMirrors.memWf = true := by simp +contextual [State.dropMirrors, h]
@[simp] theorem State.takeoverNotice_memWf (s : State) (i) : (s.takeoverNotice i).memWf = s.memWf := by simp [State.takeoverNotice]

@[simp] theorem State.restoreEntry_memWf (s : State) (i takeover) (h : s.memWf = true) : (s.restoreEntry i takeover).memWf = true := by
  simp only [State.restoreEntry]
  split <;> simp [State.memWf_with, h]

@[simp] theorem State.toSole_memWf (s : State) : s.toSole.memWf = s.memWf := by simp [State.toSole]
@[simp] theorem State.endReplace_memWf (s : State) (status) : (s.endReplace status).memWf = s.memWf := by simp [State.endReplace, State.memWf_with]
@[simp] theorem State.losePartner_memWf (s : State) (h : s.memWf = true) : s.losePartner.memWf = true := by simp +contextual [State.losePartner, h]
@[simp] theorem State.reunite_memWf (s : State) (both) (h : s.memWf = true) : (s.reunite both).memWf = true := by simp +contextual [State.reunite, h]
@[simp] theorem State.pairDone_memWf (s : State) (replaced) : (s.pairDone replaced).memWf = s.memWf := by simp [State.pairDone, State.memWf_with]
@[simp] theorem State.released_memWf (s : State) (t) : (s.released t).memWf = s.memWf := by simp [State.released, State.memWf_with]
@[simp] theorem State.tryRelease_memWf (s : State) : s.tryRelease.memWf = s.memWf := by simp [State.tryRelease]
@[simp] theorem State.arriveTwin_memWf (s : State) : s.arriveTwin.memWf = s.memWf := by simp [State.arriveTwin, State.memWf_with]

/-! ## Variants -/

@[simp] theorem State.programTier_memWf (s : State) (t k gen x) : (s.programTier t k gen x).memWf = s.memWf := by
  simp only [State.programTier]
  split <;> simp

@[simp] theorem execVariantLoad_memWf (tag v) (s : State) (h : s.memWf = true) : nextMemWf (execVariantLoad tag v s) = true := by
  simp only [execVariantLoad]
  split <;> simp [h]

@[simp] theorem execGenHandover_memWf (tag v) (s : State) (h : s.memWf = true) : nextMemWf (execGenHandover tag v s) = true := by
  simp only [execGenHandover]
  split <;> simp [h]

@[simp] theorem State.updateMaster_memWf (s : State) (tag v m) : (s.updateMaster tag v m).memWf = s.memWf := by
  simp only [State.updateMaster]
  split <;> simp

@[simp] theorem execMasterWeightUpdate_memWf (tag v grads) (s : State) (h : s.memWf = true) :
    nextMemWf (execMasterWeightUpdate tag v grads s) = true := by
  simp only [execMasterWeightUpdate]
  (repeat' split) <;> simp [h]

/-! ## Staging areas, and the loading, clearing and unloading of images -/

@[simp] theorem State.stageBytes_memWf (s : State) (id x off bs) (h : s.memWf = true) : (s.stageBytes id x off bs).memWf = true := by
  simp only [State.stageBytes]
  simp [↓State.memWf_with, h]

@[simp] theorem State.writeStaging_memWf (s : State) (x tiers) (h : s.memWf = true) : (s.writeStaging x tiers).memWf = true := by
  unfold State.writeStaging
  extract_lets n base imageAt s1 entry s2 s3
  have hentry (s : State) (g e k) (hs : s.memWf = true) : (entry s g e k).memWf = true := State.hbmWrite_memWf _ _ _ hs
  have h1 : s1.memWf = true := State.each_memWf_of h fun s k hs => by split <;> simp [hs]
  have h2 : s2.memWf = true := State.each_memWf_of h1 fun s g hs => by simp [hs]
  have h3 : s3.memWf = true := State.each_memWf_of h2 fun s e hs => by split <;> simp [hs, hentry]
  split
  · exact h3
  · refine State.each_memWf_of h3 fun s d hs => ?_
    dsimp only
    split <;> simp [hs, hentry]

@[simp] theorem State.compiledKinds_memWf (s : State) (x) : (s.compiledKinds x).memWf = s.memWf := by simp [State.compiledKinds]

@[simp] theorem State.writeSections_memWf (s : State) (x) (h : s.memWf = true) : (s.writeSections x).memWf = true := by
  simp only [State.writeSections]
  exact State.each_memWf_of (State.each_memWf_of h fun s r hs => by simp [hs]) fun s p hs => by simp [hs]

@[simp] theorem State.writeResidents_memWf (s : State) : s.writeResidents.memWf = s.memWf := by simp only [State.writeResidents, State.memWf_with]

/-- The state of a load, whether it failed or not. -/
def LoadResult.state : LoadResult → State
  | .failed _ _ s => s
  | .loaded _ _ s => s

@[simp] theorem LoadResult.state_failed (a b s) : (LoadResult.failed a b s).state = s := rfl
@[simp] theorem LoadResult.state_loaded (a b s) : (LoadResult.loaded a b s).state = s := rfl

@[simp] theorem State.loadOnto_memWf (s : State) (x : Image) (tag : Nat) (tiers : List Nat) (b : Bool) (h : s.memWf = true) :
    (s.loadOnto x tag tiers b).state.memWf = true := by
  simp only [State.loadOnto]
  split
  · simp [h]
  · have h1 : ((s.setImage tag x).writeSections x).memWf = true := by simp [h]
    have h2 := State.writeStaging_memWf _ x tiers (State.applyRelocs_memWf _ x tag x.file.relocs h1)
    simp [State.memWf_with, h2]

@[simp] theorem State.loadImage_memWf (s : State) (x : ImageFile) (q : LoadReq) (h : s.memWf = true) : (s.loadImage x q).state.memWf = true := by
  simp only [State.loadImage]
  (repeat' split) <;> simp [h]

theorem State.loadImage_failed_memWf {s t : State} {x : ImageFile} {q : LoadReq} {a b : Nat} (h : s.memWf = true)
    (e : s.loadImage x q = .failed a b t) : t.memWf = true := by
  simpa [e] using State.loadImage_memWf s x q h

theorem State.loadImage_loaded_memWf {s t : State} {x : ImageFile} {q : LoadReq} {a b : Nat} (h : s.memWf = true)
    (e : s.loadImage x q = .loaded a b t) : t.memWf = true := by
  simpa [e] using State.loadImage_memWf s x q h

@[simp] theorem State.clearImage_memWf (s : State) (tag x) : (s.clearImage tag x).memWf = s.memWf := by simp [State.clearImage]
@[simp] theorem State.unloadImage_memWf (s : State) (tag x) : (s.unloadImage tag x).memWf = s.memWf := by simp [State.unloadImage, State.memWf_with]
@[simp] theorem State.finishFells_memWf (s : State) (idx) (h : s.memWf = true) : (s.finishFells idx).memWf = true := by
  simp +contextual [State.finishFells, h]

/-! ## What starts, swaps and firmware commands share -/

@[simp] theorem State.runRecord_memWf (s : State) (f kind slot r) : (s.runRecord f kind slot r).memWf = s.memWf := by
  simp only [State.runRecord]
  (repeat' split) <;> simp [State.memWf_with]

@[simp] theorem State.showIdentity_memWf (s : State) (f) : (s.showIdentity f).memWf = s.memWf := by simp [State.showIdentity]

@[simp] theorem State.runBest_memWf (s : State) (f) : (s.runBest f).memWf = s.memWf := by
  simp only [State.runBest, State.showIdentity_memWf]
  exact State.each_memWf fun s k => by split <;> simp

@[simp] theorem State.writeBank_memWf (s : State) (bank p) : (s.writeBank bank p).memWf = s.memWf := by simp [State.writeBank, State.memWf_with]
@[simp] theorem State.flipBank_memWf (s : State) (p) : (s.flipBank p).memWf = s.memWf := by simp [State.flipBank, State.memWf_with]

@[simp] theorem State.applyConfig_memWf (s : State) (c) (h : s.memWf = true) : (s.applyConfig c).memWf = true := by
  simp only [State.applyConfig]
  refine State.each_memWf_of ?_ fun s w hs => ?_
  · split <;> simp [State.memWf_with, h]
  · have hw := State.writeForester_memWf s w.1.toNat w.2.1 w.2.2.toNat 0 false hs
    split
    next t e => simpa [e] using hw
    · exact hs

@[simp] theorem State.showForesters_memWf (s : State) (ready) : (s.showForesters ready).memWf = s.memWf := by simp [State.showForesters]
@[simp] theorem State.handOver_memWf (s : State) : s.handOver.memWf = s.memWf := by simp [State.handOver, State.memWf_with]

@[simp] theorem State.endSwap_memWf (s : State) (status detail) : (s.endSwap status detail).memWf = s.memWf := by
  simp only [State.endSwap]
  split <;> simp [State.memWf_with]

@[simp] theorem State.restoreTile_memWf (s : State) (t) : (s.restoreTile t).memWf = s.memWf := by
  simp only [State.restoreTile]
  (repeat' split) <;> simp

@[simp] theorem State.restoreDrift_memWf (s : State) (t stale add) : (s.restoreDrift t stale add).memWf = s.memWf := by simp [State.restoreDrift]

/-! ## Power-up, SURVEY, and the resident images -/

@[simp] theorem State.spareLanes_memWf (s : State) (p q bad) : (s.spareLanes p q bad).memWf = s.memWf := State.each_memWf fun s k => by split <;> simp
@[simp] theorem State.laneTest_memWf (s : State) (bad) : (s.laneTest bad).memWf = s.memWf := State.each_memWf fun s p => by split <;> simp

@[simp] theorem State.bootForesters_memWf (s : State) (env) : (s.bootForesters env).1.memWf = s.memWf := by
  simp only [State.bootForesters]
  split <;> simp [State.memWf_with]

@[simp] theorem State.startUp_memWf (s : State) (env) (h : s.memWf = true) : (s.startUp env).memWf = true := by
  simp only [State.startUp]
  generalize e : State.bootForesters _ env = b
  have hb : b.1.memWf = true := by simp [← e, State.memWf_with, h]
  split
  · exact hb
  · rw [State.bootStep_memWf]
    refine State.applyConfig_memWf _ _ ?_
    simp only [State.memWf_with, State.flipBank_memWf, State.writeBank_memWf, State.each_memWf, State.put_memWf,
      State.laneTest_memWf, State.standState_memWf, implies_true, hb]

@[simp] theorem State.feedUp_memWf (s : State) (feed tenMv) : (s.feedUp feed tenMv).memWf = s.memWf := by simp [State.feedUp]
@[simp] theorem execPowerUp_memWf (feed env) (s : State) (h : s.memWf = true) : nextMemWf (execPowerUp feed env s) = true := by simp [execPowerUp, h]
@[simp] theorem State.surveyCruises_memWf (s : State) : s.surveyCruises.memWf = s.memWf := State.each_memWf fun s t => by split <;> simp
@[simp] theorem State.openBootAreas_memWf (s : State) : s.openBootAreas.memWf = s.memWf :=
  State.each_memWf fun s e => by split <;> simp [State.memWf_with]
@[simp] theorem execSurveyStart_memWf (s : State) (h : s.memWf = true) : nextMemWf (execSurveyStart s) = true := by
  simp [execSurveyStart, State.memWf_with, h]
@[simp] theorem State.dropResident_memWf (s : State) (id tag) : (s.dropResident id tag).memWf = s.memWf := by
  simp [State.dropResident, State.memWf_with]

@[simp] theorem execBootImageComplete_memWf (k img) (s : State) (h : s.memWf = true) : nextMemWf (execBootImageComplete k img s) = true := by
  unfold execBootImageComplete
  rw [nextMemWf_next]
  extract_lets id t1 _
  split
  · exact h
  split
  · exact h
  refine State.memWf_ite_of h ?_
  extract_lets bytes same t2
  have h2 : t2.memWf = true := State.memWf_ite_of h h
  split
  next e => simp [State.loadImage_failed_memWf h2 e]
  next e => simp [State.loadImage_loaded_memWf h2 e]

/-! ## Commits of token steps and of prefill chunks -/

@[simp] theorem State.abandonStep_memWf (s : State) (i) : (s.abandonStep i).memWf = s.memWf := by simp [State.abandonStep]

@[simp] theorem execTokenCommit_memWf (i out) (s : State) (h : s.memWf = true) : nextMemWf (execTokenCommit i out s) = true := by
  simp only [execTokenCommit]
  split <;> simp [h]

@[simp] theorem execPrefillChunkCommit_memWf (i) (s : State) (h : s.memWf = true) : nextMemWf (execPrefillChunkCommit i s) = true := by
  simp only [execPrefillChunkCommit]
  (repeat' split) <;> simp [h]

end Sys2Proof.Machine
end

section
/-! PROOFS. Obligation O3: the commands of Daush. -/

namespace Sys2Proof.Machine

/-! ## The device and tenant commands of Daush, groups 0x01 and 0x02 -/

@[simp] theorem execDevGetInfo_memWf (f) (s : State) (h : s.memWf = true) : nextMemWf (execDevGetInfo f s) = true := by simp [execDevGetInfo, h]
@[simp] theorem execDevSetOffHistory_memWf (f) (s : State) (h : s.memWf = true) : nextMemWf (execDevSetOffHistory f s) = true := by
  simp [execDevSetOffHistory, State.memWf_with, h]

@[simp] theorem execDevSetDetMode_memWf (f) (s : State) (h : s.memWf = true) : nextMemWf (execDevSetDetMode f s) = true := by
  refine State.daush_memWf _ _ _ _ h fun r => checked_memWf _ _ _ h ?_
  dsimp only
  (repeat' split) <;> simp [State.memWf_with, h]

@[simp] theorem State.clearInjections_memWf (s : State) : s.clearInjections.memWf = s.memWf := by simp only [State.clearInjections, State.memWf_with]
@[simp] theorem State.enterTest_memWf (s : State) (h : s.memWf = true) : s.enterTest.memWf = true := by simp [State.enterTest, State.memWf_with, h]
@[simp] theorem State.retrain_memWf (s : State) (p) : (s.retrain p).memWf = s.memWf := by simp [State.retrain]

@[simp] theorem State.leaveTest_memWf (s : State) (h : s.memWf = true) : s.leaveTest.memWf = true := by
  unfold State.leaveTest
  extract_lets saved s1 kept s2 s3 s4 d s5
  have h2 : s2.memWf = true := (State.clearInjections_memWf s).trans h
  have h4 : s4.memWf = true := by simp [s4, s3, h2]
  exact (State.setService_memWf ..).trans (State.each_memWf_of h4 fun s t hs => State.returnPrimary_memWf _ _ hs)

@[simp] theorem execDevSetState_memWf (f) (s : State) (h : s.memWf = true) : nextMemWf (execDevSetState f s) = true := by
  refine State.daush_memWf _ _ _ _ h fun r => checked_memWf _ _ _ h ?_
  split <;> simp [State.memWf_with, h]

@[simp] theorem execDrainDeadline_memWf (s : State) (h : s.memWf = true) : nextMemWf (execDrainDeadline s) = true := by
  simp only [execDrainDeadline]
  split <;> simp +contextual [State.memWf_with, h]

@[simp] theorem execDevGetOperation_memWf (f) (s : State) (h : s.memWf = true) : nextMemWf (execDevGetOperation f s) = true := by
  refine State.daush_memWf _ _ _ _ h fun r => ?_
  split <;> simp [h]

@[simp] theorem execDevAbortOperation_memWf (f) (s : State) (h : s.memWf = true) : nextMemWf (execDevAbortOperation f s) = true := by
  refine State.daush_memWf _ _ _ _ h fun r => ?_
  split <;> simp [h]

@[simp] theorem execOperationRecordExpiry_memWf (op) (s : State) (h : s.memWf = true) : nextMemWf (execOperationRecordExpiry op s) = true := by
  simp only [execOperationRecordExpiry]
  split <;> simp [State.memWf_with, h]

@[simp] theorem execTenGetInfo_memWf (f) (s : State) (h : s.memWf = true) : nextMemWf (execTenGetInfo f s) = true := by simp [execTenGetInfo, h]
@[simp] theorem execTenSetQuota_memWf (f) (s : State) (h : s.memWf = true) : nextMemWf (execTenSetQuota f s) = true := by simp [execTenSetQuota, h]
@[simp] theorem execTenSetKey_memWf (f) (s : State) (h : s.memWf = true) : nextMemWf (execTenSetKey f s) = true := by simp [execTenSetKey, h]
@[simp] theorem execTenSetAdapt_memWf (f) (s : State) (h : s.memWf = true) : nextMemWf (execTenSetAdapt f s) = true := by simp [execTenSetAdapt, h]

/-! ## The serving-policy and telemetry commands of Daush, groups 0x05 and 0x06 -/

@[simp] theorem execPolSetClass_memWf (f) (s : State) (h : s.memWf = true) : nextMemWf (execPolSetClass f s) = true := by
  simp [execPolSetClass, State.memWf_with, h]
@[simp] theorem execPolGetClass_memWf (f) (s : State) (h : s.memWf = true) : nextMemWf (execPolGetClass f s) = true := by simp [execPolGetClass, h]

@[simp] theorem execPolSetLanding_memWf (f) (s : State) (h : s.memWf = true) : nextMemWf (execPolSetLanding f s) = true := by
  refine State.daush_memWf _ _ _ _ h fun r => checked_memWf _ _ _ h ?_
  simp [h]

@[simp] theorem execPolSetGrove_memWf (f) (s : State) (h : s.memWf = true) : nextMemWf (execPolSetGrove f s) = true := by
  refine State.daush_memWf _ _ _ _ h fun r => checked_memWf _ _ _ h ?_
  simp [h]

@[simp] theorem execTelReadReg_memWf (f) (s : State) (h : s.memWf = true) : nextMemWf (execTelReadReg f s) = true := by simp [execTelReadReg, h]
@[simp] theorem execTelGetHealth_memWf (f) (s : State) (h : s.memWf = true) : nextMemWf (execTelGetHealth f s) = true := by simp [execTelGetHealth, h]
@[simp] theorem execTelReadViolLog_memWf (f) (s : State) (h : s.memWf = true) : nextMemWf (execTelReadViolLog f s) = true := by
  simp [execTelReadViolLog, h]

@[simp] theorem execTelCopyJournal_memWf (f) (s : State) (h : s.memWf = true) : nextMemWf (execTelCopyJournal f s) = true := by
  refine State.daush_memWf _ _ _ _ h fun r => checked_memWf _ _ _ h ?_
  simp [State.memWf_with, h]

@[simp] theorem execJournalLowClear_memWf (s : State) (h : s.memWf = true) : nextMemWf (execJournalLowClear s) = true := by
  simp [execJournalLowClear, State.memWf_with, h]

/-! ## What the Forester swap, the failover and the attestation commands share -/

@[simp] theorem State.reboot_memWf (s : State) (f) : (s.reboot f).memWf = s.memWf := by simp [State.reboot, State.memWf_with]
@[simp] theorem State.writeSlots_memWf (s : State) (records) : (s.writeSlots records).memWf = s.memWf := by simp [State.writeSlots, State.memWf_with]

@[simp] theorem State.runSwap_memWf (s : State) (f records) : (s.runSwap f records).memWf = s.memWf := by
  simp only [State.runSwap]
  rw [State.each_memWf fun s r => by split <;> simp, State.runBest_memWf]

@[simp] theorem State.swapReady_memWf (s : State) (w) : (s.swapReady w).memWf = s.memWf := by
  simp only [State.swapReady, State.showForesters_memWf]
  simp [↓State.memWf_with]

@[simp] theorem State.swapOver_memWf (s : State) (w) (h : s.memWf = true) : (s.swapOver w).memWf = true := by
  simp [State.swapOver, State.memWf_with, h]
@[simp] theorem State.advanceCounters_memWf (s : State) (records) : (s.advanceCounters records).memWf = s.memWf := by
  simp [State.advanceCounters, State.memWf_with]

@[simp] theorem State.failover_memWf (s : State) (h : s.memWf = true) : s.failover.memWf = true := by
  simp only [State.failover]
  split <;> simp [State.memWf_with, h]

/-! ## The firmware and attestation commands of Daush, group 0x09 -/

@[simp] theorem execFwStage_memWf (f host) (s : State) (h : s.memWf = true) : nextMemWf (execFwStage f host s) = true := by
  refine State.daush_memWf _ _ _ _ h fun r => checked_memWf _ _ _ h ?_
  (repeat' split) <;> simp [State.memWf_with, h]

@[simp] theorem execFwSwap_memWf (f) (s : State) (h : s.memWf = true) : nextMemWf (execFwSwap f s) = true := by
  refine State.daush_memWf _ _ _ _ h fun r => checked_memWf _ _ _ h ?_
  dsimp only
  (repeat' split) <;> simp [State.memWf_with, h]

@[simp] theorem execFwGetVersions_memWf (f) (s : State) (h : s.memWf = true) : nextMemWf (execFwGetVersions f s) = true := by
  simp [execFwGetVersions, h]

@[simp] theorem State.toHost_memWf (s : State) (r off busOk bs) : (s.toHost r off busOk bs).2.memWf = s.memWf := by
  simp only [State.toHost]
  split <;> simp

@[simp] theorem execAttGetReport_memWf (f busOk) (s : State) (h : s.memWf = true) : nextMemWf (execAttGetReport f busOk s) = true := by
  simp [execAttGetReport, h]
@[simp] theorem execAttGetIdentity_memWf (f busOk) (s : State) (h : s.memWf = true) : nextMemWf (execAttGetIdentity f busOk s) = true := by
  simp [execAttGetIdentity, h]

/-! ## The image and variant commands of Daush, group 0x03 -/

@[simp] theorem execImgStageOpen_memWf (f) (s : State) (h : s.memWf = true) : nextMemWf (execImgStageOpen f s) = true := by
  refine State.daush_memWf _ _ _ _ h fun r => checked_memWf _ _ _ h ?_
  dsimp only
  split <;> simp [State.memWf_with, h]

@[simp] theorem execImgStageWrite_memWf (f host) (s : State) (h : s.memWf = true) : nextMemWf (execImgStageWrite f host s) = true := by
  refine State.daush_memWf _ _ _ _ h fun r => checked_memWf _ _ _ h ?_
  split <;> simp [h]

@[simp] theorem execImgLoad_memWf (f img) (s : State) (h : s.memWf = true) : nextMemWf (execImgLoad f img s) = true := by
  refine State.daush_memWf _ _ _ _ h fun r => checked_memWf _ _ _ h ?_
  dsimp only
  split
  · exact h
  · refine State.asOp_memWf _ _ _ h fun op s hs => ?_
    split
    next e => simp [State.loadImage_failed_memWf hs e]
    next e =>
      have ht := State.loadImage_loaded_memWf hs e
      split <;> simp [State.memWf_with, ht]

@[simp] theorem execImageCleared_memWf (tag) (s : State) (h : s.memWf = true) : nextMemWf (execImageCleared tag s) = true := by
  simp only [execImageCleared]
  split <;> simp [h]

@[simp] theorem execImgUnload_memWf (f) (s : State) (h : s.memWf = true) : nextMemWf (execImgUnload f s) = true := by
  refine State.daush_memWf _ _ _ _ h fun r => checked_memWf _ _ _ h ?_
  dsimp only
  (repeat' split) <;> simp [h]

@[simp] theorem execImgGet_memWf (f) (s : State) (h : s.memWf = true) : nextMemWf (execImgGet f s) = true := by
  refine State.daush_memWf _ _ _ _ h fun r => checked_memWf _ _ _ h ?_
  split <;> simp [h]

@[simp] theorem execImgSetGolden_memWf (f) (s : State) (h : s.memWf = true) : nextMemWf (execImgSetGolden f s) = true := by
  simp [execImgSetGolden, State.memWf_with, h]
@[simp] theorem execVarStage_memWf (f tiers) (s : State) (h : s.memWf = true) : nextMemWf (execVarStage f tiers s) = true := by simp [execVarStage, h]

@[simp] theorem execVarEvict_memWf (f) (s : State) (h : s.memWf = true) : nextMemWf (execVarEvict f s) = true := by
  refine State.daush_memWf _ _ _ _ h fun r => checked_memWf _ _ _ h ?_
  split <;> simp [h]

/-! ## The power and thermal commands of Daush, group 0x08 -/

@[simp] theorem execPwrGet_memWf (f) (s : State) (h : s.memWf = true) : nextMemWf (execPwrGet f s) = true := by simp [execPwrGet, h]
@[simp] theorem execPwrSetLimit_memWf (f) (s : State) (h : s.memWf = true) : nextMemWf (execPwrSetLimit f s) = true := by simp [execPwrSetLimit, h]
@[simp] theorem execThmRead_memWf (f) (s : State) (h : s.memWf = true) : nextMemWf (execThmRead f s) = true := by simp [execThmRead, h]

@[simp] theorem execPwrStandService_memWf (f) (s : State) (h : s.memWf = true) : nextMemWf (execPwrStandService f s) = true := by
  refine State.daush_memWf _ _ _ _ h fun r => checked_memWf _ _ _ h ?_
  simp +contextual [h]

/-! ## The sequence commands of Daush, group 0x04, beside SEQ_FELL -/

@[simp] theorem State.openAt_memWf (s : State) (l r) (h : s.memWf = true) : (s.openAt l r).2.memWf = true := by
  simp only [State.openAt]
  split <;> simp [h]

@[simp] theorem State.openedBy_memWf (s : State) (i f) : (s.openedBy i f).memWf = s.memWf := by simp [State.openedBy]

@[simp] theorem execSeqOpen_memWf (f) (s : State) (h : s.memWf = true) : nextMemWf (execSeqOpen f s) = true := by
  refine State.daush_memWf _ _ _ _ h fun r => ?_
  dsimp only
  split
  · split <;> simp [h]
  · split
    next e => rw [snd_memWf_of_eq e]; exact State.openAt_memWf _ _ _ h
    next e =>
      rw [State.openedBy_memWf, snd_memWf_of_eq e]
      exact State.openAt_memWf _ _ _ h

@[simp] theorem execSeqSuspend_memWf (f) (s : State) (h : s.memWf = true) : nextMemWf (execSeqSuspend f s) = true := by
  refine State.daushLate_memWf _ _ _ _ h fun r => ?_
  dsimp only
  (repeat' split)
  all_goals
    try rw [State.setFunc_memWf]
    refine State.withHandle_memWf _ _ _ _ h fun i => ?_
    split <;> simp [h]

@[simp] theorem execSeqResume_memWf (f) (s : State) (h : s.memWf = true) : nextMemWf (execSeqResume f s) = true := by
  refine State.daush_memWf _ _ _ _ h fun r => State.withHandle_memWf _ _ _ _ h fun i => ?_
  simp [h]

@[simp] theorem execSeqClose_memWf (f) (s : State) (h : s.memWf = true) : nextMemWf (execSeqClose f s) = true := by
  refine State.daush_memWf _ _ _ _ h fun r => State.withHandle_memWf _ _ _ _ h fun i => ?_
  simp [h]

@[simp] theorem execSeqGet_memWf (f) (s : State) (h : s.memWf = true) : nextMemWf (execSeqGet f s) = true := by simp [execSeqGet, h]
@[simp] theorem execSeqList_memWf (f) (s : State) (h : s.memWf = true) : nextMemWf (execSeqList f s) = true := by simp [execSeqList, h]

/-! ## The test commands of Daush, group 0x0A -/

@[simp] theorem execTstLinkInject_memWf (f) (s : State) (h : s.memWf = true) : nextMemWf (execTstLinkInject f s) = true := by
  simp [execTstLinkInject, h]
@[simp] theorem execTstTwinInject_memWf (f) (s : State) (h : s.memWf = true) : nextMemWf (execTstTwinInject f s) = true := by
  simp [execTstTwinInject, h]
@[simp] theorem execTstInjectClear_memWf (f) (s : State) (h : s.memWf = true) : nextMemWf (execTstInjectClear f s) = true := by
  simp [execTstInjectClear, h]

@[simp] theorem execTstSpareForce_memWf (f) (s : State) (h : s.memWf = true) : nextMemWf (execTstSpareForce f s) = true := by
  refine State.daush_memWf _ _ _ _ h fun r => checked_memWf _ _ _ h ?_
  simp [h]

@[simp] theorem execTstCruise_memWf (f found) (s : State) (h : s.memWf = true) : nextMemWf (execTstCruise f found s) = true := by
  refine State.daush_memWf _ _ _ _ h fun r => checked_memWf _ _ _ h ?_
  simp [h]

/-! ## The twin commands of Daush, group 0x07 -/

@[simp] theorem execTwinPair_memWf (f) (s : State) (h : s.memWf = true) : nextMemWf (execTwinPair f s) = true := by
  refine State.daush_memWf _ _ _ _ h fun r => checked_memWf _ _ _ h ?_
  simp [State.memWf_with, h]

@[simp] theorem execTwinPairTimeout_memWf (s : State) (h : s.memWf = true) : nextMemWf (execTwinPairTimeout s) = true := by
  simp only [execTwinPairTimeout]
  (repeat' split) <;> simp [h]

@[simp] theorem execTwinUnpair_memWf (f) (s : State) (h : s.memWf = true) : nextMemWf (execTwinUnpair f s) = true := by
  refine State.daush_memWf _ _ _ _ h fun r => checked_memWf _ _ _ h ?_
  dsimp only
  split
  · exact h
  · simp only [State.follow_memWf, State.put_memWf, State.memWf_with, State.unmirror_memWf, State.endReplace_memWf]
    exact State.each_memWf_of h fun t l ht => by split <;> simp [ht]

@[simp] theorem execTwinGet_memWf (f) (s : State) (h : s.memWf = true) : nextMemWf (execTwinGet f s) = true := by simp [execTwinGet, h]

@[simp] theorem execTwinReplace_memWf (f) (s : State) (h : s.memWf = true) : nextMemWf (execTwinReplace f s) = true := by
  refine State.daush_memWf _ _ _ _ h fun r => ?_
  dsimp only
  split
  · exact h
  · refine State.asOp_memWf _ _ _ h fun op s hs => ?_
    dsimp only
    split <;> simp [State.memWf_with, hs]

/-! ## Ethernet housekeeping, frames of no class, and the state of the network ports -/

@[simp] theorem execArpRequest_memWf (l target sender) (s : State) (h : s.memWf = true) : nextMemWf (execArpRequest l target sender s) = true := by
  simp [execArpRequest, h]
@[simp] theorem execNeighborSolicitation_memWf (l target sender) (s : State) (h : s.memWf = true) :
    nextMemWf (execNeighborSolicitation l target sender s) = true := by simp [execNeighborSolicitation, h]
@[simp] theorem execIcmpEcho_memWf (l dst v6 sender data) (s : State) (h : s.memWf = true) :
    nextMemWf (execIcmpEcho l dst v6 sender data s) = true := by simp [execIcmpEcho, h]
@[simp] theorem execUnclassifiedFrame_memWf (l fr) (s : State) (h : s.memWf = true) : nextMemWf (execUnclassifiedFrame l fr s) = true := by
  simp [execUnclassifiedFrame, h]
@[simp] theorem execEpLinkDown_memWf (l) (s : State) (h : s.memWf = true) : nextMemWf (execEpLinkDown l s) = true := by simp [execEpLinkDown, h]
@[simp] theorem execEpLinkUp_memWf (l) (s : State) (h : s.memWf = true) : nextMemWf (execEpLinkUp l s) = true := by simp [execEpLinkUp, h]
@[simp] theorem execOsfpModulePresent_memWf (l powerTenthsW) (s : State) (h : s.memWf = true) :
    nextMemWf (execOsfpModulePresent l powerTenthsW s) = true := by simp [execOsfpModulePresent, State.memWf_with, h]

end Sys2Proof.Machine
end

section
/-! PROOFS. Obligation O3: the scalar instructions and the tasks of the fellers. -/

namespace Sys2Proof.Machine

/-! ## Operand forms of the feller instructions -/

@[simp] theorem State.setScalar_memWf (s : State) (f r v) : (s.setScalar f r v).memWf = s.memWf := by simp [State.setScalar]
@[simp] theorem State.setCore_memWf (s : State) (f v) : (s.setCore f v).memWf = s.memWf := by simp [State.setCore]
@[simp] theorem State.setPc_memWf (s : State) (f a) : (s.setPc f a).memWf = s.memWf := by simp [State.setPc]
@[simp] theorem State.setRunning_memWf (s : State) (f b) : (s.setRunning f b).memWf = s.memWf := by simp [State.setRunning]
@[simp] theorem State.startTask_memWf (s : State) (f home q) : (s.startTask f home q).memWf = s.memWf := by simp [State.startTask]
@[simp] theorem State.leaveTask_memWf (s : State) (f core) : (s.leaveTask f core).memWf = s.memWf := by simp [State.leaveTask]

@[simp] theorem State.fellerFault_memWf (s : State) (f code) (h : s.memWf = true) : (s.fellerFault f code).memWf = true := by
  simp only [State.fellerFault]
  split <;> simp [h]

@[simp] theorem State.jump_memWf (s : State) (f a) (h : s.memWf = true) : (s.jump f a).memWf = true := by simp [State.jump, h]
@[simp] theorem State.advance_memWf (s : State) (f) (h : s.memWf = true) : (s.advance f).memWf = true := by simp [State.advance, h]

@[simp] theorem State.plainOp_memWf (s : State) (f : FellerId) (op : State → State) (h : s.memWf = true) (hop : (op s).memWf = true) :
    (s.plainOp f op).memWf = true := by
  simp only [State.plainOp]
  split <;> simp [h, hop]

@[simp] theorem State.scalarOp_memWf (s : State) (f rd v) (h : s.memWf = true) : (s.scalarOp f rd v).memWf = true := by simp [State.scalarOp, h]
@[simp] theorem State.branchOp_memWf (s : State) (f off taken) (h : s.memWf = true) : (s.branchOp f off taken).memWf = true := by
  simp [State.branchOp, h]
@[simp] theorem State.fellerStore_memWf (s : State) (f a bs) (h : s.memWf = true) : (s.fellerStore f a bs).memWf = true := by
  simp [State.fellerStore, h]

@[simp] theorem State.loadOp_memWf (s : State) (f sd sa imm size) (h : s.memWf = true) : (s.loadOp f sd sa imm size).memWf = true := by
  simp only [State.loadOp]
  (repeat' split) <;> simp [h]

@[simp] theorem State.storeOp_memWf (s : State) (f sd sa imm size) (h : s.memWf = true) : (s.storeOp f sd sa imm size).memWf = true := by
  simp only [State.storeOp]
  (repeat' split) <;> simp [h]

@[simp] theorem State.issueOp_memWf (s : State) (f d) (h : s.memWf = true) : (s.issueOp f d).memWf = true := by simp [State.issueOp, h]

/-! ## The meters of bands and module, and starts after thinning -/

@[simp] theorem execActivityStartAfterThin_memWf (n) (s : State) (h : s.memWf = true) : nextMemWf (execActivityStartAfterThin n s) = true := by
  simp [execActivityStartAfterThin, h]
@[simp] theorem execBandEvaluation_memWf (b) (s : State) (h : s.memWf = true) : nextMemWf (execBandEvaluation b s) = true := by
  simp [execBandEvaluation, h]
@[simp] theorem execModuleEvaluation_memWf (s : State) (h : s.memWf = true) : nextMemWf (execModuleEvaluation s) = true := by
  simp [execModuleEvaluation, h]

/-! ## Tasks of the fellers, and the instructions that reach beyond a feller -/

@[simp] theorem execTaskTake_memWf (f) (s : State) (h : s.memWf = true) : nextMemWf (execTaskTake f s) = true := by simp [execTaskTake, h]

@[simp] theorem execTaskSteal_memWf (f) (s : State) (h : s.memWf = true) : nextMemWf (execTaskSteal f s) = true := by
  simp only [execTaskSteal]
  (repeat' split) <;> simp [h]

@[simp] theorem execIssue_memWf (f sa sb) (s : State) (h : s.memWf = true) : nextMemWf (execIssue f sa sb s) = true := by
  simp only [execIssue]
  (repeat' split) <;> simp [h]

@[simp] theorem execIssueStallRelease_memWf (f) (s : State) (h : s.memWf = true) : nextMemWf (execIssueStallRelease f s) = true := by
  simp only [execIssueStallRelease]
  (repeat' split) <;> simp [h]

@[simp] theorem execCtrWait_memWf (f sa ctr) (s : State) (h : s.memWf = true) : nextMemWf (execCtrWait f sa ctr s) = true := by simp [execCtrWait, h]

@[simp] theorem execCtrWaitRelease_memWf (w) (s : State) (h : s.memWf = true) : nextMemWf (execCtrWaitRelease w s) = true := by
  simp only [execCtrWaitRelease]
  (repeat' split) <;> simp [h]

@[simp] theorem execCtrAdd_memWf (f ctr imm) (s : State) (h : s.memWf = true) : nextMemWf (execCtrAdd f ctr imm s) = true := by simp [execCtrAdd, h]
@[simp] theorem execCtrRead_memWf (f sa ctr) (s : State) (h : s.memWf = true) : nextMemWf (execCtrRead f sa ctr s) = true := by simp [execCtrRead, h]
@[simp] theorem execFence_memWf (f) (s : State) (h : s.memWf = true) : nextMemWf (execFence f s) = true := by simp [execFence, h]

@[simp] theorem execTaskPush_memWf (f sa) (s : State) (h : s.memWf = true) : nextMemWf (execTaskPush f sa s) = true := by
  simp only [execTaskPush]
  (repeat' split) <;> simp [h]

@[simp] theorem execTaskEnd_memWf (f) (s : State) (h : s.memWf = true) : nextMemWf (execTaskEnd f s) = true := by
  simp only [execTaskEnd]
  (repeat' split) <;> simp [h]

@[simp] theorem execFellerHalt_memWf (f) (s : State) (h : s.memWf = true) : nextMemWf (execFellerHalt f s) = true := by simp [execFellerHalt, h]
@[simp] theorem execFellerTrap_memWf (f) (s : State) (h : s.memWf = true) : nextMemWf (execFellerTrap f s) = true := by simp [execFellerTrap, h]
@[simp] theorem execCsrRead_memWf (f sd csr) (s : State) (h : s.memWf = true) : nextMemWf (execCsrRead f sd csr s) = true := by simp [execCsrRead, h]
@[simp] theorem execCsrWrite_memWf (f _sa csr) (s : State) (h : s.memWf = true) : nextMemWf (execCsrWrite f _sa csr s) = true := by
  simp [execCsrWrite, h]
@[simp] theorem execFellerNop_memWf (f) (s : State) (h : s.memWf = true) : nextMemWf (execFellerNop f s) = true := by simp [execFellerNop, h]

/-! ## The scalar instructions of the fellers -/

@[simp] theorem State.shiftOp_memWf (s : State) (f sd sa sb op) (h : s.memWf = true) : (s.shiftOp f sd sa sb op).memWf = true := by
  simp [State.shiftOp, h]
@[simp] theorem execFellerAdd_memWf (f sd sa sb) (s : State) (h : s.memWf = true) : nextMemWf (execFellerAdd f sd sa sb s) = true := by
  simp [execFellerAdd, h]
@[simp] theorem execFellerSub_memWf (f sd sa sb) (s : State) (h : s.memWf = true) : nextMemWf (execFellerSub f sd sa sb s) = true := by
  simp [execFellerSub, h]
@[simp] theorem execFellerAnd_memWf (f sd sa sb) (s : State) (h : s.memWf = true) : nextMemWf (execFellerAnd f sd sa sb s) = true := by
  simp [execFellerAnd, h]
@[simp] theorem execFellerOr_memWf (f sd sa sb) (s : State) (h : s.memWf = true) : nextMemWf (execFellerOr f sd sa sb s) = true := by
  simp [execFellerOr, h]
@[simp] theorem execFellerXor_memWf (f sd sa sb) (s : State) (h : s.memWf = true) : nextMemWf (execFellerXor f sd sa sb s) = true := by
  simp [execFellerXor, h]
@[simp] theorem execFellerShl_memWf (f sd sa sb) (s : State) (h : s.memWf = true) : nextMemWf (execFellerShl f sd sa sb s) = true := by
  simp [execFellerShl, h]
@[simp] theorem execFellerShr_memWf (f sd sa sb) (s : State) (h : s.memWf = true) : nextMemWf (execFellerShr f sd sa sb s) = true := by
  simp [execFellerShr, h]
@[simp] theorem execFellerSra_memWf (f sd sa sb) (s : State) (h : s.memWf = true) : nextMemWf (execFellerSra f sd sa sb s) = true := by
  simp [execFellerSra, h]
@[simp] theorem execFellerMul_memWf (f sd sa sb) (s : State) (h : s.memWf = true) : nextMemWf (execFellerMul f sd sa sb s) = true := by
  simp [execFellerMul, h]
@[simp] theorem execFellerMulh_memWf (f sd sa sb) (s : State) (h : s.memWf = true) : nextMemWf (execFellerMulh f sd sa sb s) = true := by
  simp [execFellerMulh, h]
@[simp] theorem execFellerMin_memWf (f sd sa sb) (s : State) (h : s.memWf = true) : nextMemWf (execFellerMin f sd sa sb s) = true := by
  simp [execFellerMin, h]
@[simp] theorem execFellerMax_memWf (f sd sa sb) (s : State) (h : s.memWf = true) : nextMemWf (execFellerMax f sd sa sb s) = true := by
  simp [execFellerMax, h]
@[simp] theorem execFellerMinu_memWf (f sd sa sb) (s : State) (h : s.memWf = true) : nextMemWf (execFellerMinu f sd sa sb s) = true := by
  simp [execFellerMinu, h]
@[simp] theorem execFellerMaxu_memWf (f sd sa sb) (s : State) (h : s.memWf = true) : nextMemWf (execFellerMaxu f sd sa sb s) = true := by
  simp [execFellerMaxu, h]
@[simp] theorem execFellerSlt_memWf (f sd sa sb) (s : State) (h : s.memWf = true) : nextMemWf (execFellerSlt f sd sa sb s) = true := by
  simp [execFellerSlt, h]
@[simp] theorem execFellerSltu_memWf (f sd sa sb) (s : State) (h : s.memWf = true) : nextMemWf (execFellerSltu f sd sa sb s) = true := by
  simp [execFellerSltu, h]
@[simp] theorem execFellerAddi_memWf (f sd sa imm) (s : State) (h : s.memWf = true) : nextMemWf (execFellerAddi f sd sa imm s) = true := by
  simp [execFellerAddi, h]
@[simp] theorem execFellerAndi_memWf (f sd sa imm) (s : State) (h : s.memWf = true) : nextMemWf (execFellerAndi f sd sa imm s) = true := by
  simp [execFellerAndi, h]
@[simp] theorem execFellerOri_memWf (f sd sa imm) (s : State) (h : s.memWf = true) : nextMemWf (execFellerOri f sd sa imm s) = true := by
  simp [execFellerOri, h]
@[simp] theorem execFellerXori_memWf (f sd sa imm) (s : State) (h : s.memWf = true) : nextMemWf (execFellerXori f sd sa imm s) = true := by
  simp [execFellerXori, h]
@[simp] theorem execFellerLui_memWf (f sd imm) (s : State) (h : s.memWf = true) : nextMemWf (execFellerLui f sd imm s) = true := by
  simp [execFellerLui, h]
@[simp] theorem execFellerSlti_memWf (f sd sa imm) (s : State) (h : s.memWf = true) : nextMemWf (execFellerSlti f sd sa imm s) = true := by
  simp [execFellerSlti, h]
@[simp] theorem execFellerLdB_memWf (f sd sa imm) (s : State) (h : s.memWf = true) : nextMemWf (execFellerLdB f sd sa imm s) = true := by
  simp [execFellerLdB, h]
@[simp] theorem execFellerLdH_memWf (f sd sa imm) (s : State) (h : s.memWf = true) : nextMemWf (execFellerLdH f sd sa imm s) = true := by
  simp [execFellerLdH, h]
@[simp] theorem execFellerLdW_memWf (f sd sa imm) (s : State) (h : s.memWf = true) : nextMemWf (execFellerLdW f sd sa imm s) = true := by
  simp [execFellerLdW, h]
@[simp] theorem execFellerLdD_memWf (f sd sa imm) (s : State) (h : s.memWf = true) : nextMemWf (execFellerLdD f sd sa imm s) = true := by
  simp [execFellerLdD, h]
@[simp] theorem execFellerStB_memWf (f sd sa imm) (s : State) (h : s.memWf = true) : nextMemWf (execFellerStB f sd sa imm s) = true := by
  simp [execFellerStB, h]
@[simp] theorem execFellerStH_memWf (f sd sa imm) (s : State) (h : s.memWf = true) : nextMemWf (execFellerStH f sd sa imm s) = true := by
  simp [execFellerStH, h]
@[simp] theorem execFellerStW_memWf (f sd sa imm) (s : State) (h : s.memWf = true) : nextMemWf (execFellerStW f sd sa imm s) = true := by
  simp [execFellerStW, h]
@[simp] theorem execFellerStD_memWf (f sd sa imm) (s : State) (h : s.memWf = true) : nextMemWf (execFellerStD f sd sa imm s) = true := by
  simp [execFellerStD, h]
@[simp] theorem execFellerBeq_memWf (f sa sb off) (s : State) (h : s.memWf = true) : nextMemWf (execFellerBeq f sa sb off s) = true := by
  simp [execFellerBeq, h]
@[simp] theorem execFellerBne_memWf (f sa sb off) (s : State) (h : s.memWf = true) : nextMemWf (execFellerBne f sa sb off s) = true := by
  simp [execFellerBne, h]
@[simp] theorem execFellerBlt_memWf (f sa sb off) (s : State) (h : s.memWf = true) : nextMemWf (execFellerBlt f sa sb off s) = true := by
  simp [execFellerBlt, h]
@[simp] theorem execFellerBltu_memWf (f sa sb off) (s : State) (h : s.memWf = true) : nextMemWf (execFellerBltu f sa sb off s) = true := by
  simp [execFellerBltu, h]
@[simp] theorem execFellerJal_memWf (f off) (s : State) (h : s.memWf = true) : nextMemWf (execFellerJal f off s) = true := by simp [execFellerJal, h]
@[simp] theorem execFellerJr_memWf (f sa) (s : State) (h : s.memWf = true) : nextMemWf (execFellerJr f sa s) = true := by simp [execFellerJr, h]
@[simp] theorem execIllegalInstruction_memWf (f word) (s : State) (h : s.memWf = true) : nextMemWf (execIllegalInstruction f word s) = true := by
  simp [execIllegalInstruction, h]

end Sys2Proof.Machine
end

section
/-! PROOFS. Obligation O3: the haul road, felling, the Forester swap, management, stands and PTP. -/

namespace Sys2Proof.Machine

/-! ## The haul road -/

@[simp] theorem execHrWordSubmit_memWf (w) (s : State) (h : s.memWf = true) : nextMemWf (execHrWordSubmit w s) = true := by
  simp only [execHrWordSubmit]
  split <;> simp [State.memWf_with, h]

@[simp] theorem State.stampBarrier_memWf (s : State) (w) : (s.stampBarrier w).2.memWf = s.memWf := by
  simp only [State.stampBarrier]
  (repeat' split) <;> simp [State.memWf_with]

@[simp] theorem State.slotWord_memWf (s : State) : s.slotWord.2.memWf = s.memWf := by
  simp only [State.slotWord]
  (repeat' split) <;> simp [State.memWf_with]

@[simp] theorem execHrSlotEmit_memWf (s : State) (h : s.memWf = true) : nextMemWf (execHrSlotEmit s) = true := by
  simp only [execHrSlotEmit]
  split <;> simp [State.memWf_with, h]

@[simp] theorem State.receiveFelling_memWf (s : State) (n content) : (s.receiveFelling n content).memWf = s.memWf := by
  simp only [State.receiveFelling]
  (repeat' split) <;> simp [State.memWf_with]

@[simp] theorem State.receiveStep_memWf (s : State) (n content) : (s.receiveStep n content).memWf = s.memWf := by simp [State.receiveStep]

@[simp] theorem State.takeWord_memWf (s : State) (n w) : (s.takeWord n w).memWf = s.memWf := by
  simp only [State.takeWord]
  (repeat' split) <;> simp

@[simp] theorem execHrWordReceive_memWf (n primary secondary) (s : State) (h : s.memWf = true) :
    nextMemWf (execHrWordReceive n primary secondary s) = true := by
  simp only [execHrWordReceive]
  (repeat' split) <;> simp [h]

@[simp] theorem State.setLocal_memWf (s : State) (n t) : (s.setLocal n t).memWf = s.memWf := by simp [State.setLocal]
@[simp] theorem execTallyBeacon_memWf (n tree rootTally) (s : State) (h : s.memWf = true) :
    nextMemWf (execTallyBeacon n tree rootTally s) = true := by simp [execTallyBeacon, h]
@[simp] theorem execTallyBeaconMissed_memWf (n) (s : State) (h : s.memWf = true) : nextMemWf (execTallyBeaconMissed n s) = true := by
  simp [execTallyBeaconMissed, h]
@[simp] theorem execTreeSwitch_memWf (n) (s : State) (h : s.memWf = true) : nextMemWf (execTreeSwitch n s) = true := by simp [execTreeSwitch, h]
@[simp] theorem execBothTreesLost_memWf (n) (s : State) (h : s.memWf = true) : nextMemWf (execBothTreesLost n s) = true := by
  simp [execBothTreesLost, h]
@[simp] theorem execHrDelayRefresh_memWf (n primary secondary) (s : State) (h : s.memWf = true) :
    nextMemWf (execHrDelayRefresh n primary secondary s) = true := by simp [execHrDelayRefresh, h]
@[simp] theorem execCarrierReferenceBackup_memWf (s : State) (h : s.memWf = true) : nextMemWf (execCarrierReferenceBackup s) = true := by
  simp [execCarrierReferenceBackup, State.memWf_with, h]
@[simp] theorem execBarrierArrival_memWf (b who xnat) (s : State) (h : s.memWf = true) : nextMemWf (execBarrierArrival b who xnat s) = true := by
  simp [execBarrierArrival, State.memWf_with, h]
@[simp] theorem execBarrierRelease_memWf (b who) (s : State) (h : s.memWf = true) : nextMemWf (execBarrierRelease b who s) = true := by
  simp [execBarrierRelease, State.memWf_with, h]
@[simp] theorem execBarrierTimeout_memWf (n b) (s : State) (h : s.memWf = true) : nextMemWf (execBarrierTimeout n b s) = true := by
  simp [execBarrierTimeout, h]
@[simp] theorem execStepBeacon_memWf (n content) (s : State) (h : s.memWf = true) : nextMemWf (execStepBeacon n content s) = true := by
  simp [execStepBeacon, h]

@[simp] theorem execStepTally_memWf (n) (s : State) (h : s.memWf = true) : nextMemWf (execStepTally n s) = true := by
  simp only [execStepTally, nextMemWf_next]
  split
  · exact h
  · refine State.each_memWf_of (by simp [State.memWf_with, h]) fun s k hs => ?_
    rw [State.setGrove_memWf]
    exact State.each_memWf_of (by simp [hs]) fun s a hs => by split <;> simp [hs]

@[simp] theorem execDueTally_memWf (g act done) (s : State) (h : s.memWf = true) : nextMemWf (execDueTally g act done s) = true := by
  simp only [execDueTally]
  (repeat' split) <;> simp [h]

/-! ## Felling at the stands and at the origin landing -/

@[simp] theorem execFellingWordReceive_memWf (n content) (s : State) (h : s.memWf = true) :
    nextMemWf (execFellingWordReceive n content s) = true := by simp [execFellingWordReceive, h]

@[simp] theorem execFellingAckSend_memWf (n id) (s : State) (h : s.memWf = true) : nextMemWf (execFellingAckSend n id s) = true := by
  simp only [execFellingAckSend]
  split <;> simp [State.memWf_with, h]

@[simp] theorem execFellingAckFlit_memWf (at_ x id fromStand) (s : State) (h : s.memWf = true) :
    nextMemWf (execFellingAckFlit at_ x id fromStand s) = true := by simp [execFellingAckFlit, h]

@[simp] theorem execFellTimeout_memWf (id) (s : State) (h : s.memWf = true) : nextMemWf (execFellTimeout id s) = true := by
  simp only [execFellTimeout]
  split <;> simp [State.memWf_with, h]

@[simp] theorem execReuseGuardExpiry_memWf (i) (s : State) (h : s.memWf = true) : nextMemWf (execReuseGuardExpiry i s) = true := by
  simp [execReuseGuardExpiry, h]
@[simp] theorem State.refuseFell_memWf (s : State) (l) : (s.refuseFell l).memWf = s.memWf := by simp [State.refuseFell]
@[simp] theorem State.shed_memWf (s : State) (l tenant image c hold) : (s.shed l tenant image c hold).memWf = s.memWf := by
  simp [State.shed, State.memWf_with]
@[simp] theorem execTenShed_memWf (f) (s : State) (h : s.memWf = true) : nextMemWf (execTenShed f s) = true := by simp [execTenShed, h]
@[simp] theorem execSeqFell_memWf (f) (s : State) (h : s.memWf = true) : nextMemWf (execSeqFell f s) = true := by simp [execSeqFell, h]

/-! ## The Forester swap and failover, and the loss of landings and HBM stacks -/

@[simp] theorem execStandbyReady_memWf (s : State) (h : s.memWf = true) : nextMemWf (execStandbyReady s) = true := by
  simp only [execStandbyReady]
  (repeat' split) <;> simp [State.memWf_with, h]

@[simp] theorem execForesterHandover_memWf (s : State) (h : s.memWf = true) : nextMemWf (execForesterHandover s) = true := by
  simp only [execForesterHandover]
  split <;> simp [h]

@[simp] theorem execSwapRebootDone_memWf (ok) (s : State) (h : s.memWf = true) : nextMemWf (execSwapRebootDone ok s) = true := by
  simp only [execSwapRebootDone]
  split <;> simp [State.memWf_with, h]

@[simp] theorem execForesterFailover_memWf (s : State) (h : s.memWf = true) : nextMemWf (execForesterFailover s) = true := by
  simp [execForesterFailover, h]
@[simp] theorem State.landingSeqs_memWf (s : State) (l) (h : s.memWf = true) : (s.landingSeqs l).memWf = true := by
  simp +contextual [State.landingSeqs, h]
@[simp] theorem execLandingLost_memWf (l) (s : State) (h : s.memWf = true) : nextMemWf (execLandingLost l s) = true := by
  simp [execLandingLost, State.memWf_with, h]
@[simp] theorem execHbmReadError_memWf (page) (s : State) (h : s.memWf = true) : nextMemWf (execHbmReadError page s) = true := by
  simp [execHbmReadError, h]
@[simp] theorem execDataCreditStarved_memWf (_p tag) (s : State) (h : s.memWf = true) : nextMemWf (execDataCreditStarved _p tag s) = true := by
  simp [execDataCreditStarved, h]

/-! ## What the management commands share -/

@[simp] theorem State.spdmSend_memWf (s : State) (via code body) : (s.spdmSend via code body).memWf = s.memWf := by simp [State.spdmSend]

@[simp] theorem State.spdmAt_memWf (s : State) (via : MctpVia) (n : Nat) (act : State → State) (h : s.memWf = true) (hact : (act s).memWf = true) :
    (s.spdmAt via n act).memWf = true := by
  simp only [State.spdmAt]
  simp [h, hact]

@[simp] theorem State.setSpdm_memWf (s : State) (via phase) : (s.setSpdm via phase).memWf = s.memWf := by simp only [State.setSpdm, State.memWf_with]
@[simp] theorem State.nonce_memWf (s : State) : s.nonce.2.memWf = s.memWf := by simp [State.nonce]
@[simp] theorem State.pldmSend_memWf (s : State) (via type cmd cc body) : (s.pldmSend via type cmd cc body).memWf = s.memWf := by
  simp [State.pldmSend]

@[simp] theorem State.pldmAt_memWf (s : State) (b : Bool) (act : State → State) (h : s.memWf = true) (hact : (act s).memWf = true) :
    (s.pldmAt b act).memWf = true := by
  simp only [State.pldmAt]
  split <;> simp [h, hact]

@[simp] theorem State.pinLow_memWf (s : State) (pin) : (s.pinLow pin).memWf = s.memWf := by simp only [State.pinLow, State.memWf_with]
@[simp] theorem State.pinHigh_memWf (s : State) (pin) : (s.pinHigh pin).memWf = s.memWf := by simp only [State.pinHigh, State.memWf_with]

/-! ## The management connector -/

@[simp] theorem execSmbusBtRead_memWf (landing offset) (s : State) (h : s.memWf = true) : nextMemWf (execSmbusBtRead landing offset s) = true := by
  simp [execSmbusBtRead, h]
@[simp] theorem execSpdmGetVersion_memWf (via) (s : State) (h : s.memWf = true) : nextMemWf (execSpdmGetVersion via s) = true := by
  simp [execSpdmGetVersion, h]
@[simp] theorem execSpdmGetCapabilities_memWf (via _flags) (s : State) (h : s.memWf = true) :
    nextMemWf (execSpdmGetCapabilities via _flags s) = true := by simp [execSpdmGetCapabilities, h]
@[simp] theorem execSpdmNegotiateAlgorithms_memWf (via asym hash) (s : State) (h : s.memWf = true) :
    nextMemWf (execSpdmNegotiateAlgorithms via asym hash s) = true := by simp [execSpdmNegotiateAlgorithms, h]
@[simp] theorem execSpdmGetDigests_memWf (via) (s : State) (h : s.memWf = true) : nextMemWf (execSpdmGetDigests via s) = true := by
  simp [execSpdmGetDigests, h]
@[simp] theorem execSpdmGetCertificate_memWf (via slot offset len) (s : State) (h : s.memWf = true) :
    nextMemWf (execSpdmGetCertificate via slot offset len s) = true := by simp [execSpdmGetCertificate, h]
@[simp] theorem execSpdmChallenge_memWf (via slot nonce) (s : State) (h : s.memWf = true) :
    nextMemWf (execSpdmChallenge via slot nonce s) = true := by simp [execSpdmChallenge, h]
@[simp] theorem execSpdmGetMeasurements_memWf (via index nonce sign) (s : State) (h : s.memWf = true) :
    nextMemWf (execSpdmGetMeasurements via index nonce sign s) = true := by simp [execSpdmGetMeasurements, h]
@[simp] theorem execPldmGetTid_memWf (via) (s : State) (h : s.memWf = true) : nextMemWf (execPldmGetTid via s) = true := by simp [execPldmGetTid, h]
@[simp] theorem execPldmGetPldmVersion_memWf (via type) (s : State) (h : s.memWf = true) : nextMemWf (execPldmGetPldmVersion via type s) = true := by
  simp [execPldmGetPldmVersion, h]
@[simp] theorem execPldmGetPldmTypes_memWf (via) (s : State) (h : s.memWf = true) : nextMemWf (execPldmGetPldmTypes via s) = true := by
  simp [execPldmGetPldmTypes, h]
@[simp] theorem execPldmGetPldmCommands_memWf (via type) (s : State) (h : s.memWf = true) :
    nextMemWf (execPldmGetPldmCommands via type s) = true := by simp [execPldmGetPldmCommands, h]
@[simp] theorem execPldmSetEventReceiver_memWf (via address enable) (s : State) (h : s.memWf = true) :
    nextMemWf (execPldmSetEventReceiver via address enable s) = true := by simp [execPldmSetEventReceiver, State.memWf_with, h]
@[simp] theorem execPldmGetPdrRepositoryInfo_memWf (via) (s : State) (h : s.memWf = true) :
    nextMemWf (execPldmGetPdrRepositoryInfo via s) = true := by simp [execPldmGetPdrRepositoryInfo, h]
@[simp] theorem execPldmGetPdr_memWf (via record) (s : State) (h : s.memWf = true) : nextMemWf (execPldmGetPdr via record s) = true := by
  simp [execPldmGetPdr, h]

@[simp] theorem execPldmGetSensorReading_memWf (via sensor) (s : State) (h : s.memWf = true) :
    nextMemWf (execPldmGetSensorReading via sensor s) = true := by
  simp only [execPldmGetSensorReading, nextMemWf_next]
  refine State.pldmAt_memWf _ _ _ h ?_
  split <;> simp [h]

@[simp] theorem execPldmGetStateSensorReadings_memWf (via sensor) (s : State) (h : s.memWf = true) :
    nextMemWf (execPldmGetStateSensorReadings via sensor s) = true := by
  simp only [execPldmGetStateSensorReadings, nextMemWf_next]
  refine State.pldmAt_memWf _ _ _ h ?_
  split <;> simp [h]

@[simp] theorem execPldmSetStateEffecterStates_memWf (via effecter state) (s : State) (h : s.memWf = true) :
    nextMemWf (execPldmSetStateEffecterStates via effecter state s) = true := by simp [execPldmSetStateEffecterStates, State.memWf_with, h]
@[simp] theorem execPldmGetStateEffecterStates_memWf (via effecter) (s : State) (h : s.memWf = true) :
    nextMemWf (execPldmGetStateEffecterStates via effecter s) = true := by simp [execPldmGetStateEffecterStates, h]
@[simp] theorem execShutdownReq_memWf (s : State) (h : s.memWf = true) : nextMemWf (execShutdownReq s) = true := by simp [execShutdownReq, h]
@[simp] theorem execShutdownReqRelease_memWf (env) (s : State) (h : s.memWf = true) : nextMemWf (execShutdownReqRelease env s) = true := by
  simp [execShutdownReqRelease, h]
@[simp] theorem execForceOff_memWf (s : State) (h : s.memWf = true) : nextMemWf (execForceOff s) = true := by simp [execForceOff, State.memWf_with, h]
@[simp] theorem execForceOffRelease_memWf (env) (s : State) (h : s.memWf = true) : nextMemWf (execForceOffRelease env s) = true := by
  simp [execForceOffRelease, h]
@[simp] theorem execFeedsRemovedRestart_memWf (env) (s : State) (h : s.memWf = true) : nextMemWf (execFeedsRemovedRestart env s) = true := by
  simp [execFeedsRemovedRestart, State.memWf_with, h]
@[simp] theorem execPpsEdge_memWf (s : State) (h : s.memWf = true) : nextMemWf (execPpsEdge s) = true := by simp [execPpsEdge, h]

/-! ## Stand loss, the release of a replacement, and the return of a stand -/

@[simp] theorem execStandDark_memWf (n cause) (s : State) (h : s.memWf = true) : nextMemWf (execStandDark n cause s) = true := by
  simp only [execStandDark]
  split <;> simp [h]

@[simp] theorem execReplacementRelease_memWf (tag) (s : State) (h : s.memWf = true) : nextMemWf (execReplacementRelease tag s) = true := by
  simp only [execReplacementRelease]
  split <;> simp [h]

@[simp] theorem execPlanReturn_memWf (n) (s : State) (h : s.memWf = true) : nextMemWf (execPlanReturn n s) = true := by
  simp +contextual [execPlanReturn, h]

/-! ## Stand wakes -/

@[simp] theorem State.wakeDone_memWf (s : State) (n) : (s.wakeDone n).memWf = s.memWf := by simp [State.wakeDone, State.memWf_with]

@[simp] theorem State.startWake_memWf (s : State) (n stretched) : (s.startWake n stretched).memWf = s.memWf := by
  simp only [State.startWake]
  split <;> simp [State.memWf_with]

@[simp] theorem State.deferWake_memWf (s : State) (n) : (s.deferWake n).memWf = s.memWf := by simp [State.deferWake]
@[simp] theorem State.evaluateWake_memWf (s : State) (n) : (s.evaluateWake n).memWf = s.memWf := by simp [State.evaluateWake]
@[simp] theorem execWakeEvaluation_memWf (st) (s : State) (h : s.memWf = true) : nextMemWf (execWakeEvaluation st s) = true := by
  simp [execWakeEvaluation, h]
@[simp] theorem execWakeDeferRetry_memWf (st) (s : State) (h : s.memWf = true) : nextMemWf (execWakeDeferRetry st s) = true := by
  simp [execWakeDeferRetry, h]
@[simp] theorem State.stuckOpen_memWf (s : State) (n k) : (s.stuckOpen n k).memWf = s.memWf := by simp [State.stuckOpen]

@[simp] theorem State.nextWake_memWf (s : State) (n k) : (s.nextWake n k).memWf = s.memWf := by
  simp only [State.nextWake]
  split <;> simp

@[simp] theorem execGroveWakeStage_memWf (g railOk) (s : State) (h : s.memWf = true) : nextMemWf (execGroveWakeStage g railOk s) = true := by
  simp [execGroveWakeStage, h]

/-! ## The PTP slave that disciplines the tally -/

@[simp] theorem State.setPtp_memWf (s : State) (x) : (s.setPtp x).memWf = s.memWf := by simp only [State.setPtp, State.memWf_with]
@[simp] theorem State.setLock_memWf (s : State) (locked) : (s.setLock locked).memWf = s.memWf := by simp [State.setLock]
@[simp] theorem State.ptpOffset_memWf (s : State) (l offset) : (s.ptpOffset l offset).memWf = s.memWf := by simp [State.ptpOffset, State.memWf_with]
@[simp] theorem State.syncDone_memWf (s : State) (l seqId origin receipt) : (s.syncDone l seqId origin receipt).memWf = s.memWf := by
  simp [State.syncDone]
@[simp] theorem execPtpSync_memWf (l m) (s : State) (h : s.memWf = true) : nextMemWf (execPtpSync l m s) = true := by simp [execPtpSync, h]

@[simp] theorem execPtpFollowUp_memWf (l seqId origin) (s : State) (h : s.memWf = true) : nextMemWf (execPtpFollowUp l seqId origin s) = true := by
  simp only [execPtpFollowUp]
  split <;> simp [h]

@[simp] theorem execPtpDelayResp_memWf (l seqId receive) (s : State) (h : s.memWf = true) :
    nextMemWf (execPtpDelayResp l seqId receive s) = true := by
  simp only [execPtpDelayResp]
  split <;> simp [h]

@[simp] theorem execPtpAnnounce_memWf (l domain) (s : State) (h : s.memWf = true) : nextMemWf (execPtpAnnounce l domain s) = true := by
  simp [execPtpAnnounce, h]

@[simp] theorem execPtpBackupSwitch_memWf (s : State) (h : s.memWf = true) : nextMemWf (execPtpBackupSwitch s) = true := by
  simp only [execPtpBackupSwitch]
  split <;> simp [h]

@[simp] theorem execPtpLoss_memWf (s : State) (h : s.memWf = true) : nextMemWf (execPtpLoss s) = true := by simp [execPtpLoss, h]

end Sys2Proof.Machine
end

section
/-! PROOFS. Obligation O3: token transport, RoCEv2, register writes, and sequences between their steps. -/

namespace Sys2Proof.Machine

/-! ## Prowaelm Token Transport -/

@[simp] theorem State.frameRecord_memWf (s : State) (l x) : (s.frameRecord l x).memWf = s.memWf := by simp [State.frameRecord]
@[simp] theorem State.takeFrame_memWf (s : State) (l x) : (s.takeFrame l x).memWf = s.memWf := by simp [State.takeFrame]

/-- The state after the checks of a received frame, whether it was dropped or not. -/
def Ingress.state : Ingress → State
  | .dropped s => s
  | .accepted s => s

@[simp] theorem Ingress.state_dropped (s) : (Ingress.dropped s).state = s := rfl
@[simp] theorem Ingress.state_accepted (s) : (Ingress.accepted s).state = s := rfl

@[simp] theorem State.ingress_memWf (s : State) (l : Nat) (x : PttFrame) : (s.ingress l x).state.memWf = s.memWf := by
  simp only [State.ingress]
  (repeat' split) <;> simp

@[simp] theorem State.pttTake_memWf (s : State) (l type : Nat) (x : PttFrame) (act : State → State)
    (h : s.memWf = true) (hact : ∀ t, t.memWf = true → (act t).memWf = true) :
    (s.pttTake l type x act).memWf = true := by
  have hs := State.ingress_memWf s l x
  unfold State.pttTake
  split
  next t e => rw [e] at hs; exact hs.trans h
  next t e =>
    rw [e] at hs
    split
    · exact hact t (hs.trans h)
    · exact h

@[simp] theorem State.pttErr_memWf (s : State) (l x status detail value) : (s.pttErr l x status detail value).memWf = s.memWf := by
  simp [State.pttErr]
@[simp] theorem State.pttViolation_memWf (s : State) (l x kind tag) : (s.pttViolation l x kind tag).memWf = s.memWf := by
  simp only [State.pttViolation, State.memWf_with]
@[simp] theorem State.meetClient_memWf (s : State) (i x) : (s.meetClient i x).memWf = s.memWf := by simp [State.meetClient]

@[simp] theorem State.withFrameHandle_memWf (s : State) (l : Nat) (x : PttFrame) (refused : State → State) (act : Nat → State → State)
    (h : s.memWf = true) (href : (refused s).memWf = true) (hact : ∀ i t, t.memWf = true → (act i t).memWf = true) :
    (s.withFrameHandle l x refused act).memWf = true := by
  simp only [State.withFrameHandle]
  (repeat' split) <;> simp [h, href, hact]

@[simp] theorem State.keepTag_memWf (s : State) (t src tag answer) : (s.keepTag t src tag answer).memWf = s.memWf := by simp [State.keepTag]
@[simp] theorem State.openResult_memWf (s : State) (l x answer) : (s.openResult l x answer).memWf = s.memWf := by simp [State.openResult]

@[simp] theorem State.pttAdmit_memWf (s : State) (l x) (h : s.memWf = true) : (s.pttAdmit l x).2.memWf = true := by
  simp only [State.pttAdmit]
  split
  · exact h
  · split
    · exact h
    · split
      · split <;> simp [h]
      · split
        next e => rw [snd_memWf_of_eq e]; exact State.openAt_memWf _ _ _ h
        next e =>
          rw [State.openedBy_memWf, snd_memWf_of_eq e]
          exact State.openAt_memWf _ _ _ h

@[simp] theorem execPttOpen_memWf (l x) (s : State) (h : s.memWf = true) : nextMemWf (execPttOpen l x s) = true := by
  refine State.pttTake_memWf _ _ _ _ _ h fun s hs => ?_
  split <;> simp [hs]

@[simp] theorem State.fillPrompt_memWf (s : State) (l : Nat) (x : PttFrame) (n : Nat) (act : Nat → State → State)
    (h : s.memWf = true) (hact : ∀ i t, t.memWf = true → (act i t).memWf = true) :
    (s.fillPrompt l x n act).memWf = true := State.withFrameHandle_memWf _ _ _ _ _ h h fun i s hs => by
    simp [hs, hact]

@[simp] theorem State.mirrorPrompt_memWf (s : State) (i what body) : (s.mirrorPrompt i what body).memWf = s.memWf := by simp [State.mirrorPrompt]
@[simp] theorem execPttPrompt_memWf (l x) (s : State) (h : s.memWf = true) : nextMemWf (execPttPrompt l x s) = true := by
  simp +contextual [execPttPrompt, h]

@[simp] theorem execPttEmbed_memWf (l x) (s : State) (h : s.memWf = true) : nextMemWf (execPttEmbed l x s) = true := by
  refine State.pttTake_memWf _ _ _ _ _ h fun s hs => State.fillPrompt_memWf _ _ _ _ _ hs fun i s hs => ?_
  simp [hs]

@[simp] theorem execPttTarget_memWf (l x) (s : State) (h : s.memWf = true) : nextMemWf (execPttTarget l x s) = true := by
  simp +contextual [execPttTarget, h]

@[simp] theorem execPromptWaitExpiry_memWf (i) (s : State) (h : s.memWf = true) : nextMemWf (execPromptWaitExpiry i s) = true := by
  simp only [execPromptWaitExpiry]
  (repeat' split) <;> simp [h]

@[simp] theorem execPttFell_memWf (l x) (s : State) (h : s.memWf = true) : nextMemWf (execPttFell l x s) = true := by
  simp +contextual [execPttFell, h]
@[simp] theorem execPttShed_memWf (l x) (s : State) (h : s.memWf = true) : nextMemWf (execPttShed l x s) = true := by simp [execPttShed, h]

@[simp] theorem execPttResend_memWf (l x) (s : State) (h : s.memWf = true) : nextMemWf (execPttResend l x s) = true := by
  refine State.pttTake_memWf _ _ _ _ _ h fun s hs => State.withFrameHandle_memWf _ _ _ _ _ hs hs fun i s hs => ?_
  dsimp only
  split
  · simp [hs]
  · split
    · exact hs
    · split
      · simp [hs]
      · refine State.each_memWf_of hs fun s run hs => ?_
        split <;> simp [hs]

@[simp] theorem execTakeoverRepeat_memWf (i) (s : State) (h : s.memWf = true) : nextMemWf (execTakeoverRepeat i s) = true := by
  simp [execTakeoverRepeat, h]

/-! ## RoCEv2 -/

@[simp] theorem State.setQp_memWf (s : State) (l qp x) : (s.setQp l qp x).memWf = s.memWf := by simp only [State.setQp, State.memWf_with]
@[simp] theorem State.toPeer_memWf (s : State) (l x kind body) : (s.toPeer l x kind body).memWf = s.memWf := by simp [State.toPeer]

@[simp] theorem execCmReq_memWf (l req) (s : State) (h : s.memWf = true) : nextMemWf (execCmReq l req s) = true := by
  simp only [execCmReq]
  (repeat' split) <;> simp [h]

@[simp] theorem execCmRtu_memWf (l qp) (s : State) (h : s.memWf = true) : nextMemWf (execCmRtu l qp s) = true := by
  simp only [execCmRtu]
  split <;> simp [h]

@[simp] theorem execCmDreq_memWf (l qp) (s : State) (h : s.memWf = true) : nextMemWf (execCmDreq l qp s) = true := by
  simp only [execCmDreq]
  split <;> simp [State.memWf_with, h]

@[simp] theorem execRdmaWrite_memWf (l qp psn addr key bytes) (s : State) (h : s.memWf = true) :
    nextMemWf (execRdmaWrite l qp psn addr key bytes s) = true := by
  simp only [execRdmaWrite]
  (repeat' split) <;> simp [h]

@[simp] theorem State.sendRead_memWf (s : State) (l x g r) : (s.sendRead l x g r).memWf = s.memWf := by simp [State.sendRead]

@[simp] theorem execGoldenFetchRead_memWf (l qp offset len) (s : State) (h : s.memWf = true) :
    nextMemWf (execGoldenFetchRead l qp offset len s) = true := by
  simp only [execGoldenFetchRead]
  (repeat' split) <;> simp [h]

@[simp] theorem execRdmaReadResponse_memWf (l qp psn bytes) (s : State) (h : s.memWf = true) :
    nextMemWf (execRdmaReadResponse l qp psn bytes s) = true := by
  simp only [execRdmaReadResponse]
  (repeat' split) <;> simp [h]

@[simp] theorem execCnpArrive_memWf (l qp) (s : State) (h : s.memWf = true) : nextMemWf (execCnpArrive l qp s) = true := by
  simp only [execCnpArrive]
  split <;> simp [h]

@[simp] theorem execCnpRateRecovery_memWf (l qp) (s : State) (h : s.memWf = true) : nextMemWf (execCnpRateRecovery l qp s) = true := by
  simp only [execCnpRateRecovery]
  split <;> simp [h]

@[simp] theorem execRdmaAckTimeout_memWf (l qp) (s : State) (h : s.memWf = true) : nextMemWf (execRdmaAckTimeout l qp s) = true := by
  simp only [execRdmaAckTimeout]
  (repeat' split) <;> simp [h]

/-! ## The write of a register that has no row of its own -/

@[simp] theorem execRegisterWrite_memWf (w) (s : State) (h : s.memWf = true) : nextMemWf (execRegisterWrite w s) = true := by
  simp only [execRegisterWrite]
  split <;> simp [h]

/-! ## Sequences between their steps -/

@[simp] theorem execLayer0Entry_memWf (i g ctr) (s : State) (h : s.memWf = true) : nextMemWf (execLayer0Entry i g ctr s) = true := by
  simp [execLayer0Entry, h]

@[simp] theorem execMapAhead_memWf (i) (s : State) (h : s.memWf = true) : nextMemWf (execMapAhead i s) = true := by
  simp only [execMapAhead]
  (repeat' split) <;> simp [h]

@[simp] theorem execPageWaitResume_memWf (i) (s : State) (h : s.memWf = true) : nextMemWf (execPageWaitResume i s) = true := by
  unfold execPageWaitResume
  rw [nextMemWf_next]
  extract_lets x a
  have ha : a.1.memWf = true := by
    refine foldl_memWf_of Prod.fst h fun a j ha => ?_
    split <;> simp [ha]
  exact State.memWf_ite_of h (State.memWf_ite_of (by simp [ha]) ha)

@[simp] theorem execPageWaitTimeout_memWf (i) (s : State) (h : s.memWf = true) : nextMemWf (execPageWaitTimeout i s) = true := by
  simp [execPageWaitTimeout, h]

@[simp] theorem execPageMove_memWf (i page toDeck) (s : State) (h : s.memWf = true) : nextMemWf (execPageMove i page toDeck s) = true := by
  simp only [execPageMove, nextMemWf_next]
  refine State.memWf_ite_of h ?_
  split
  · exact h
  next new t e =>
  have ht : t.memWf = true := by
    split at e <;> obtain ⟨d, -, hd⟩ := Option.map_eq_some_iff.1 e <;> cases hd <;> exact h
  split <;> simp [State.memWf_with, ht]

@[simp] theorem execPageFree_memWf (i page) (s : State) (h : s.memWf = true) : nextMemWf (execPageFree i page s) = true := by
  simp only [execPageFree]
  split <;> simp [h]

@[simp] theorem execResumeSequence_memWf (i) (s : State) (h : s.memWf = true) : nextMemWf (execResumeSequence i s) = true := by
  simp [execResumeSequence, h]
@[simp] theorem execSuspendLimit_memWf (i) (s : State) (h : s.memWf = true) : nextMemWf (execSuspendLimit i s) = true := by simp [execSuspendLimit, h]

@[simp] theorem execSuspensionLand_memWf (i) (s : State) (h : s.memWf = true) : nextMemWf (execSuspensionLand i s) = true := by
  simp only [execSuspensionLand]
  split <;> simp [h]

end Sys2Proof.Machine
end

section
/-! PROOFS. Obligation O3: tile dispatch, the twin link, the vector instructions and the yarder. -/

namespace Sys2Proof.Machine

/-! ## Tile dispatch -/

@[simp] theorem State.landShadows_memWf (s : State) (g entry) : (s.landShadows g entry).memWf = s.memWf := by simp [State.landShadows]

@[simp] theorem State.monitorMvm_memWf (s : State) (t k x l bs) : (s.monitorMvm t k x l bs).memWf = s.memWf := by
  simp only [State.monitorMvm]
  split <;> simp

@[simp] theorem State.countMvms_memWf (s : State) (t k n) : (s.countMvms t k n).memWf = s.memWf := by simp [State.countMvms]
@[simp] theorem State.ladderEvents_memWf (s : State) (t k z owner) : (s.ladderEvents t k z owner).memWf = s.memWf := by simp [State.ladderEvents]
@[simp] theorem State.mvmError_memWf (s : State) (t kind k group plane check) : (s.mvmError t kind k group plane check).memWf = s.memWf := by
  simp [State.mvmError]

theorem State.meetGen_memWf (s u : State) (t : TileId) (gen : Nat) (ht : s.meetGen t gen = .run u) : u.memWf = s.memWf := by
  simp only [State.meetGen] at ht
  (repeat' split at ht) <;> cases ht <;> simp

@[simp] theorem State.forwardVectors_memWf (s : State) (g q t k vs env switched) : (s.forwardVectors g q t k vs env switched).1.memWf = s.memWf :=
  foldl_memWf_of Prod.fst rfl fun a v ha => by
    dsimp only
    split <;> simp [ha]

@[simp] theorem State.reverseVectors_memWf (s : State) (g q t k vs env) : (s.reverseVectors g q t k vs env).1.memWf = s.memWf := by
  simp only [State.reverseVectors]
  split
  · simp
  · exact foldl_memWf_of Prod.fst (by simp) fun a v ha => by
      split <;> simp [ha]

theorem State.onTile_memWf (s : State) (g : GroveId) (q : QItem) (t : TileId) (k : Nat) (vs : List Nat) (env : MvmEnv) (w : State × TileRun)
    (ht : s.onTile g q t k vs env = some w) :
    w.1.memWf = s.memWf := by
  simp only [State.onTile] at ht
  split at ht
  · cases ht
  · cases ht; simp
  next t e =>
    rw [← State.meetGen_memWf _ _ _ _ e]
    (repeat' split at ht) <;> cases ht <;> simp

@[simp] theorem State.accumulate_memWf (s : State) (g d rs) : (s.accumulate g d rs).memWf = s.memWf :=
  State.each_memWf fun s r => State.each_memWf fun s e => by dsimp only; split <;> simp

@[simp] theorem State.mvmDone_memWf (s : State) (g q rs budget) : (s.mvmDone g q rs budget).memWf = s.memWf := by
  simp only [State.mvmDone]
  (repeat' split) <;> simp

@[simp] theorem State.requeue_memWf (s : State) (g q) : (s.requeue g q).memWf = s.memWf := by simp [State.requeue]

@[simp] theorem State.mvmDigital_memWf (s : State) (g q have_ vs budget) (h : s.memWf = true) :
    nextMemWf (s.mvmDigital g q have_ vs budget) = true := by
  simp only [State.mvmDigital]
  split <;> simp [h]

@[simp] theorem State.mvmRedirect_memWf (s : State) (g q e t k r mirror budget) (h : s.memWf = true) :
    nextMemWf (s.mvmRedirect g q e t k r mirror budget) = true := by
  simp only [State.mvmRedirect]
  split
  · simp [h]
  · split
    · split
      next s a ha =>
        have hs := (State.onTile_memWf _ _ _ _ _ _ _ _ ha).trans h
        split <;> simp [hs]
      next => simp [h]
    · simp [h]

@[simp] theorem State.runMvm_memWf (s : State) (g q env mirror) (h : s.memWf = true) : nextMemWf (s.runMvm g q env mirror) = true := by
  unfold State.runMvm
  extract_lets d s1 e all t k l xi8
  have h1 : s1.memWf = true := (State.landShadows_memWf ..).trans h
  refine nextMemWf_ite_of (by simp [h1]) (nextMemWf_ite_of (by simp [h1]) ?_)
  refine nextMemWf_ite_of (by simp [h1]) (nextMemWf_ite_of (by simp [h1]) ?_)
  split
  · simp [h1]
  next t r e => exact State.mvmRedirect_memWf _ _ _ _ _ _ _ _ _ ((State.onTile_memWf _ _ _ _ _ _ _ _ e).trans h1)

@[simp] theorem execForwardMvm_memWf (g env mirror) (s : State) (h : s.memWf = true) : nextMemWf (execForwardMvm g env mirror s) = true := by
  simp +contextual [execForwardMvm, h]
@[simp] theorem execReverseRead_memWf (g env mirror) (s : State) (h : s.memWf = true) : nextMemWf (execReverseRead g env mirror s) = true := by
  simp +contextual [execReverseRead, h]
@[simp] theorem execCalibrationSlot_memWf (t trim) (s : State) (h : s.memWf = true) : nextMemWf (execCalibrationSlot t trim s) = true := by
  simp [execCalibrationSlot, h]

/-! ## The twin link -/

@[simp] theorem State.twinInject_memWf (s : State) (port dir) : (s.twinInject port dir).2.memWf = s.memWf := by
  simp only [State.twinInject]
  split <;> simp [State.memWf_with]

@[simp] theorem State.twinDown_memWf (s : State) (port) : (s.twinDown port).memWf = s.memWf := by simp [State.twinDown]
@[simp] theorem State.setTwinFails_memWf (s : State) (port n) : (s.setTwinFails port n).memWf = s.memWf := by
  simp only [State.setTwinFails, State.memWf_with]

@[simp] theorem State.twinReceive_memWf (s : State) (port) : (s.twinReceive port).2.memWf = s.memWf := by
  simp only [State.twinReceive]
  split <;> simp

@[simp] theorem execHeartbeatSend_memWf (s : State) (h : s.memWf = true) : nextMemWf (execHeartbeatSend s) = true := by simp [execHeartbeatSend, h]
@[simp] theorem execHeartbeatArrive_memWf (port hb) (s : State) (h : s.memWf = true) : nextMemWf (execHeartbeatArrive port hb s) = true := by
  simp [execHeartbeatArrive, State.memWf_with, h]
@[simp] theorem execPartnerLost_memWf (s : State) (h : s.memWf = true) : nextMemWf (execPartnerLost s) = true := by simp [execPartnerLost, h]
@[simp] theorem execHbPortLost_memWf (port) (s : State) (h : s.memWf = true) : nextMemWf (execHbPortLost port s) = true := by simp [execHbPortLost, h]

@[simp] theorem execMirrorOpen_memWf (m) (s : State) (h : s.memWf = true) : nextMemWf (execMirrorOpen m s) = true := by
  unfold execMirrorOpen
  rw [nextMemWf_next]
  extract_lets s1 ls units raw _
  have h1 : s1.memWf = true := by
    unfold s1
    split <;> simp [h]
  refine State.memWf_ite_of h ?_
  split
  · exact h1
  extract_lets old sapling
  split
  · exact h1
  extract_lets e s2 s3 s4 s5 s6 s7
  have h5 : s5.memWf = true := State.mapPages_memWf _ _ _ (State.hbmWrite_memWf _ _ _ ((State.setSeq_memWf ..).trans h1))
  have h6 : s6.memWf = true := State.each_memWf_of h5 fun s l hs => by split <;> simp [hs]
  simp only [s7, State.each_memWf, State.modEntry_memWf, implies_true, State.clearFelled_memWf, State.seqState_memWf, h6]

@[simp] theorem execMirrorPrompt_memWf (m) (s : State) (h : s.memWf = true) : nextMemWf (execMirrorPrompt m s) = true := by
  simp only [execMirrorPrompt]
  split <;> simp [h]

@[simp] theorem State.partnerRecord_memWf (s : State) (i step r) : (s.partnerRecord i step r).memWf = s.memWf := by
  simp only [State.partnerRecord, State.memWf_with]

@[simp] theorem execMirrorStep_memWf (m) (s : State) (h : s.memWf = true) : nextMemWf (execMirrorStep m s) = true := by
  simp only [execMirrorStep, nextMemWf_next]
  split
  · exact h
  next i _ =>
    simp only [State.ite_memWf, State.emit_memWf, ite_self, State.modSeq_memWf, ite_snd_memWf, State.free_memWf,
      State.each_memWf, State.partnerRecord_memWf, implies_true]
    refine State.each_memWf_of (State.each_memWf_of (State.mapPages_memWf s i _ h)
      fun s r hs => State.setKvRow_memWf s i r.layer r.isV r.pos r.bytes hs) fun s n hs => ?_
    split <;> simp [hs]

@[simp] theorem execMirrorState_memWf (m) (s : State) (h : s.memWf = true) : nextMemWf (execMirrorState m s) = true := by
  simp only [execMirrorState]
  split <;> simp [h]

@[simp] theorem execMirrorGen_memWf (m) (s : State) (h : s.memWf = true) : nextMemWf (execMirrorGen m s) = true := by
  simp only [execMirrorGen]
  (repeat' split) <;> simp [h]

@[simp] theorem execMirrorFell_memWf (m) (s : State) (h : s.memWf = true) : nextMemWf (execMirrorFell m s) = true := by
  simp only [execMirrorFell]
  split <;> simp [h]

@[simp] theorem execMirrorAck_memWf (handle step) (s : State) (h : s.memWf = true) : nextMemWf (execMirrorAck handle step s) = true := by
  simp only [execMirrorAck]
  split <;> simp [h]

@[simp] theorem execTwinBarrierArrival_memWf (fromPartner) (s : State) (h : s.memWf = true) :
    nextMemWf (execTwinBarrierArrival fromPartner s) = true := by simp [execTwinBarrierArrival, State.memWf_with, h]
@[simp] theorem execTwinBarrierRelease_memWf (releaseTally) (s : State) (h : s.memWf = true) :
    nextMemWf (execTwinBarrierRelease releaseTally s) = true := by simp [execTwinBarrierRelease, h]
@[simp] theorem execTwinBarrierFail_memWf (s : State) (h : s.memWf = true) : nextMemWf (execTwinBarrierFail s) = true := by
  simp [execTwinBarrierFail, h]

@[simp] theorem execPairControl_memWf (m) (s : State) (h : s.memWf = true) : nextMemWf (execPairControl m s) = true := by
  simp only [execPairControl]
  (repeat' split) <;> simp [State.memWf_with, h]

@[simp] theorem execMoveSequence_memWf (handle) (s : State) (h : s.memWf = true) : nextMemWf (execMoveSequence handle s) = true := by
  simp only [execMoveSequence]
  (repeat' split) <;> simp [h]

@[simp] theorem execTwinPortDown_memWf (port) (s : State) (h : s.memWf = true) : nextMemWf (execTwinPortDown port s) = true := by
  simp [execTwinPortDown, h]

@[simp] theorem State.trainTwin_memWf (s : State) (port) : (s.trainTwin port).memWf = s.memWf := by
  simp only [State.trainTwin]
  split <;> simp

@[simp] theorem execTwinPortTrained_memWf (port) (s : State) (h : s.memWf = true) : nextMemWf (execTwinPortTrained port s) = true := by
  simp [execTwinPortTrained, h]
@[simp] theorem execTwFaultInjWrite_memWf (port v) (s : State) (h : s.memWf = true) : nextMemWf (execTwFaultInjWrite port v s) = true := by
  simp [execTwFaultInjWrite, h]

/-! ## The bulk copy of an image into a module that replaces a lost partner -/

@[simp] theorem execBulkCopy_memWf (off bytes last img) (s : State) (h : s.memWf = true) : nextMemWf (execBulkCopy off bytes last img s) = true := by
  unfold execBulkCopy
  rw [nextMemWf_next]
  extract_lets w _ s1 _ s2
  refine State.memWf_ite_of h ?_
  split
  · split
    next e => simpa [State.memWf_with] using State.loadImage_failed_memWf (s := s2) h e
    next e => exact State.loadImage_loaded_memWf (s := s2) h e
  · exact h

/-! ## Lane arithmetic of the feller vector unit -/

@[simp] theorem State.vecOp_memWf (s : State) (f vd va vb mask ty op) (h : s.memWf = true) : (s.vecOp f vd va vb mask ty op).memWf = true := by
  simp [State.vecOp, h]
@[simp] theorem State.vecIntOp_memWf (s : State) (f vd va vb mask ty op) (h : s.memWf = true) : (s.vecIntOp f vd va vb mask ty op).memWf = true := by
  simp [State.vecIntOp, h]
@[simp] theorem State.vecCmp_memWf (s : State) (f md va vb mask op) (h : s.memWf = true) : (s.vecCmp f md va vb mask op).memWf = true := by
  simp [State.vecCmp, h]

@[simp] theorem State.reduceOp_memWf (s : State) (f sd va mask ty fl it) (h : s.memWf = true) : (s.reduceOp f sd va mask ty fl it).memWf = true := by
  simp only [State.reduceOp]
  split <;> simp [h]

/-! ## The vector instructions of the fellers -/

@[simp] theorem execVecAdd_memWf (f vd va vb mask ty) (s : State) (h : s.memWf = true) : nextMemWf (execVecAdd f vd va vb mask ty s) = true := by
  simp [execVecAdd, h]
@[simp] theorem execVecSub_memWf (f vd va vb mask ty) (s : State) (h : s.memWf = true) : nextMemWf (execVecSub f vd va vb mask ty s) = true := by
  simp [execVecSub, h]
@[simp] theorem execVecMul_memWf (f vd va vb mask ty) (s : State) (h : s.memWf = true) : nextMemWf (execVecMul f vd va vb mask ty s) = true := by
  simp [execVecMul, h]
@[simp] theorem execVecFma_memWf (f vd va vb mask ty) (s : State) (h : s.memWf = true) : nextMemWf (execVecFma f vd va vb mask ty s) = true := by
  simp [execVecFma, h]
@[simp] theorem execVecMin_memWf (f vd va vb mask ty) (s : State) (h : s.memWf = true) : nextMemWf (execVecMin f vd va vb mask ty s) = true := by
  simp [execVecMin, h]
@[simp] theorem execVecMax_memWf (f vd va vb mask ty) (s : State) (h : s.memWf = true) : nextMemWf (execVecMax f vd va vb mask ty s) = true := by
  simp [execVecMax, h]
@[simp] theorem execVecAbs_memWf (f vd va mask ty) (s : State) (h : s.memWf = true) : nextMemWf (execVecAbs f vd va mask ty s) = true := by
  simp [execVecAbs, h]
@[simp] theorem execVecNeg_memWf (f vd va mask ty) (s : State) (h : s.memWf = true) : nextMemWf (execVecNeg f vd va mask ty s) = true := by
  simp [execVecNeg, h]
@[simp] theorem execVecCmpEq_memWf (f md va vb mask ty) (s : State) (h : s.memWf = true) : nextMemWf (execVecCmpEq f md va vb mask ty s) = true := by
  simp [execVecCmpEq, h]
@[simp] theorem execVecCmpLt_memWf (f md va vb mask ty) (s : State) (h : s.memWf = true) : nextMemWf (execVecCmpLt f md va vb mask ty s) = true := by
  simp [execVecCmpLt, h]
@[simp] theorem execVecCmpLe_memWf (f md va vb mask ty) (s : State) (h : s.memWf = true) : nextMemWf (execVecCmpLe f md va vb mask ty s) = true := by
  simp [execVecCmpLe, h]
@[simp] theorem execVecSelect_memWf (f vd va vb mask ty) (s : State) (h : s.memWf = true) :
    nextMemWf (execVecSelect f vd va vb mask ty s) = true := by simp [execVecSelect, h]
@[simp] theorem execVecAnd_memWf (f vd va vb mask ty) (s : State) (h : s.memWf = true) : nextMemWf (execVecAnd f vd va vb mask ty s) = true := by
  simp [execVecAnd, h]
@[simp] theorem execVecOr_memWf (f vd va vb mask ty) (s : State) (h : s.memWf = true) : nextMemWf (execVecOr f vd va vb mask ty s) = true := by
  simp [execVecOr, h]
@[simp] theorem execVecXor_memWf (f vd va vb mask ty) (s : State) (h : s.memWf = true) : nextMemWf (execVecXor f vd va vb mask ty s) = true := by
  simp [execVecXor, h]
@[simp] theorem execVecShl_memWf (f vd va vb mask ty) (s : State) (h : s.memWf = true) : nextMemWf (execVecShl f vd va vb mask ty s) = true := by
  simp [execVecShl, h]
@[simp] theorem execVecShr_memWf (f vd va vb mask ty) (s : State) (h : s.memWf = true) : nextMemWf (execVecShr f vd va vb mask ty s) = true := by
  simp [execVecShr, h]
@[simp] theorem execVecSra_memWf (f vd va vb mask ty) (s : State) (h : s.memWf = true) : nextMemWf (execVecSra f vd va vb mask ty s) = true := by
  simp [execVecSra, h]
@[simp] theorem execVecSum_memWf (f sd va mask ty) (s : State) (h : s.memWf = true) : nextMemWf (execVecSum f sd va mask ty s) = true := by
  simp [execVecSum, h]
@[simp] theorem execVecReduceMax_memWf (f sd va mask ty) (s : State) (h : s.memWf = true) :
    nextMemWf (execVecReduceMax f sd va mask ty s) = true := by simp [execVecReduceMax, h]
@[simp] theorem execVecReduceMin_memWf (f sd va mask ty) (s : State) (h : s.memWf = true) :
    nextMemWf (execVecReduceMin f sd va mask ty s) = true := by simp [execVecReduceMin, h]
@[simp] theorem execVbcast_memWf (f sd va mask ty) (s : State) (h : s.memWf = true) : nextMemWf (execVbcast f sd va mask ty s) = true := by
  simp [execVbcast, h]
@[simp] theorem execVld_memWf (f vd sa sb ty) (s : State) (h : s.memWf = true) : nextMemWf (execVld f vd sa sb ty s) = true := by simp [execVld, h]

@[simp] theorem execVst_memWf (f vd sa sb ty) (s : State) (h : s.memWf = true) : nextMemWf (execVst f vd sa sb ty s) = true := by
  simp only [execVst, nextMemWf_next]
  split
  · exact h
  · split
    · simp [h]
    · exact State.advance_memWf _ _ (State.each_memWf_of h fun s p hs => by simp [hs])

@[simp] theorem execVecConvert_memWf (f vd va mask ty dst) (s : State) (h : s.memWf = true) :
    nextMemWf (execVecConvert f vd va mask ty dst s) = true := by simp [execVecConvert, h]
@[simp] theorem execVecUnpackMx_memWf (f vd va mask fmt) (s : State) (h : s.memWf = true) :
    nextMemWf (execVecUnpackMx f vd va mask fmt s) = true := by simp [execVecUnpackMx, h]
@[simp] theorem execVecPackMx_memWf (f vd va mask ty fmt) (s : State) (h : s.memWf = true) :
    nextMemWf (execVecPackMx f vd va mask ty fmt s) = true := by simp [execVecPackMx, h]

/-! ## The yarder -/

@[simp] theorem execYarderHbmToDeck_memWf (g) (s : State) (h : s.memWf = true) : nextMemWf (execYarderHbmToDeck g s) = true := by
  simp +contextual [execYarderHbmToDeck, h]
@[simp] theorem execYarderDeckToHbm_memWf (g) (s : State) (h : s.memWf = true) : nextMemWf (execYarderDeckToHbm g s) = true := by
  simp +contextual [execYarderDeckToHbm, h]

@[simp] theorem execYarderDeckToDeck_memWf (g) (s : State) (h : s.memWf = true) : nextMemWf (execYarderDeckToDeck g s) = true := by
  refine State.runStage_memWf _ _ _ _ _ _ h fun q s hs => ?_
  dsimp only
  split
  next t ht => simp [State.sendTransfer_memWf _ _ _ _ _ _ _ _ _ _ hs ht]
  next => exact hs

@[simp] theorem State.gatherRows_memWf (s : State) (g i layer isV positions) : (s.gatherRows g i layer isV positions).2.2.memWf = s.memWf :=
  foldl_memWf_of (fun a : _ × _ × State => a.2.2) rfl fun a p ha => by
    dsimp only
    (repeat' split) <;> simp [ha]

@[simp] theorem execKvGather_memWf (g) (s : State) (h : s.memWf = true) : nextMemWf (execKvGather g s) = true := by
  refine State.runStage_memWf _ _ _ _ _ _ h fun q s hs => ?_
  simp [hs]

@[simp] theorem execIndexGather_memWf (g) (s : State) (h : s.memWf = true) : nextMemWf (execIndexGather g s) = true := by
  refine State.runStageO_memWf _ _ _ _ _ _ h fun q s hs => ?_
  dsimp only
  split <;> simp [hs]

end Sys2Proof.Machine
end

section
/-! PROOFS. Obligation O3: every step keeps the byte memories canonical. -/

namespace Sys2Proof.Machine

/-- Every command keeps the byte memories canonical: the lemma of its own meaning, taken from the sections above. -/
theorem exec_memWf (i : Instr) (s : State) (h : s.memWf = true) : nextMemWf (exec i s) = true := by
  cases i <;> dsimp only [exec] <;> simp [h]

theorem step_memWf {s : State} (h : s.memWf = true) : nextMemWf (step s) = true := by
  unfold step
  split
  · exact (State.memWf_with ..).trans h
  · exact exec_memWf _ _ ((State.memWf_with ..).trans h)

/-- Settles O3: a command changes the byte memories only by the model's byte writes, which keep the form, or empties them. -/
theorem stepsKeepMemoriesCanonical : Obligations.StepsKeepMemoriesCanonical := by
  intro s t h e
  simpa [e] using step_memWf h

end Sys2Proof.Machine
end

section
/-! PROOFS. Obligation O27, the ground: what a retired tier and a changed service state leave of the cruises (R99, R112, R113). The last slice
of a cruise may retire its tier for columns found stuck before, which remaps a logical tier and may change the service state; none of that
touches a tile's cruise and drift records or the result and event registers of upkeep. -/

namespace Sys2Proof.Machine

/-- What cruises record: the cruise and the drift records of each tile, the registers TL_CRUISE_RESULT and TL_UPKEEP_EVENT, and whether the
module is in SURVEY. -/
structure CruiseView where
  cruise : TileId → Option Cruise
  drift  : TileId → Tbl Nat Drift
  result : Nat → RegVal
  events : Nat → RegVal
  survey : Prop

def State.cruiseView (s : State) : CruiseView where
  cruise t := (s.tile t).cruise
  drift t := (s.tile t).drift
  result n := s.reg ⟨.tlCruiseResult, n, 0, 0⟩
  events n := s.reg ⟨.tlUpkeepEvent, n, 0, 0⟩
  survey := s.service = .survey

/-! ## What equal views agree in -/

section
variable {s u : State} (h : u.cruiseView = s.cruiseView)
include h

theorem cruise_of_cruiseView (t : TileId) : (u.tile t).cruise = (s.tile t).cruise := congrFun (congrArg CruiseView.cruise h) t

theorem drift_of_cruiseView (t : TileId) (p : Nat) : u.drift t p = s.drift t p :=
  congrArg (fun d : Tbl Nat Drift => tblGet d p {}) (congrFun (congrArg CruiseView.drift h) t)

theorem get_of_cruiseView {f : Fld} (hf : f.reg = .tlCruiseResult ∨ f.reg = .tlUpkeepEvent) (n : Nat) : u.get f n = s.get f n := by
  have hreg : u.reg (f.key n 0) = s.reg (f.key n 0) := by
    obtain hf | hf := hf <;> rw [Fld.key, hf]
    · exact congrFun (congrArg CruiseView.result h) n
    · exact congrFun (congrArg CruiseView.events h) n
  rw [State.get, State.getAt, hreg, State.get, State.getAt]

theorem survey_of_cruiseView : u.service = .survey ↔ s.service = .survey :=
  (congrArg CruiseView.survey h).to_iff

end

/-! ## Updates that keep the view -/

variable (s : State)

theorem cruiseView_of_eq {u : State} (ht : u.tiles = s.tiles) (hr : u.regs = s.regs) (hs : u.service = .survey ↔ s.service = .survey) :
    u.cruiseView = s.cruiseView := by
  simp only [State.cruiseView, State.tile, State.reg, ht, hr, hs]

/-- A register that upkeep's records do not stand in. -/
@[simp] theorem State.setReg_cruiseView {k : RegKey} (v : RegVal) (hk : k.reg ≠ .tlCruiseResult ∧ k.reg ≠ .tlUpkeepEvent) :
    (s.setReg k v).cruiseView = s.cruiseView := by
  have hres (n : Nat) : (s.setReg k v).reg ⟨.tlCruiseResult, n, 0, 0⟩ = s.reg ⟨.tlCruiseResult, n, 0, 0⟩ :=
    State.setReg_reg_ne s v fun e => hk.1 (congrArg RegKey.reg e)
  have hev (n : Nat) : (s.setReg k v).reg ⟨.tlUpkeepEvent, n, 0, 0⟩ = s.reg ⟨.tlUpkeepEvent, n, 0, 0⟩ :=
    State.setReg_reg_ne s v fun e => hk.2 (congrArg RegKey.reg e)
  simp only [State.cruiseView, State.setReg_tile, State.setReg_service, hres, hev]

@[simp] theorem State.put_cruiseView {f : Fld} (n x : Nat) (hf : f.reg ≠ .tlCruiseResult ∧ f.reg ≠ .tlUpkeepEvent) :
    (s.put f n x).cruiseView = s.cruiseView := State.setReg_cruiseView s _ hf

theorem State.raise_cruiseView {f : Fld} {c : Reg} (n : Nat) (hf : f.reg ≠ .tlCruiseResult ∧ f.reg ≠ .tlUpkeepEvent)
    (hc : c ≠ .tlCruiseResult ∧ c ≠ .tlUpkeepEvent) : (s.raise f c n).cruiseView = s.cruiseView :=
  (State.put_cruiseView _ _ _ hc).trans (State.put_cruiseView _ _ _ hf)

/-- A tile whose cruise and drift records stay. -/
theorem State.setTile_cruiseView {t : TileId} {x : Tile} (hc : x.cruise = (s.tile t).cruise) (hd : x.drift = (s.tile t).drift) :
    (s.setTile t x).cruiseView = s.cruiseView := by
  have htile (e : TileId) : ((s.setTile t x).tile e).cruise = (s.tile e).cruise ∧ ((s.setTile t x).tile e).drift = (s.tile e).drift := by
    by_cases he : t = e
    · rw [← he, State.setTile_tile_self]
      exact ⟨hc, hd⟩
    · rw [State.setTile_tile_ne s x he]
      exact ⟨rfl, rfl⟩
  simp only [State.cruiseView, State.setTile_reg, State.setTile_service, htile]

@[simp] theorem State.emit_cruiseView (o) : (s.emit o).cruiseView = s.cruiseView := rfl
@[simp] theorem State.setFunc_cruiseView (f x) : (s.setFunc f x).cruiseView = s.cruiseView := rfl
@[simp] theorem State.setDispatch_cruiseView (g e v) : (s.setDispatch g e v).cruiseView = s.cruiseView := rfl
@[simp] theorem State.clearTier_cruiseView (t k) : (s.clearTier t k).cruiseView = s.cruiseView := rfl
@[simp] theorem State.journalRec_cruiseView (source kind tag tenant seq detail) :
    (s.journalRec source kind tag tenant seq detail).cruiseView = s.cruiseView := rfl

@[simp] theorem State.each_cruiseView {α} {xs : List α} {f : State → α → State} (hf : ∀ s x, (f s x).cruiseView = s.cruiseView) :
    (s.each xs f).cruiseView = s.cruiseView :=
  List.foldlRecOn (motive := fun t : State => t.cruiseView = s.cruiseView) xs f rfl fun t ht x _ => (hf t x).trans ht

@[simp] theorem State.ite_cruiseView (c : Prop) [Decidable c] (a b : State) :
    (if c then a else b).cruiseView = if c then a.cruiseView else b.cruiseView := apply_ite ..

/-! ## Event records and the service state (R332 to R336, R469, R471) -/

@[simp] theorem State.msixRequest_cruiseView (f vec) : (s.msixRequest f vec).cruiseView = s.cruiseView := by
  simp only [State.msixRequest]
  (repeat' split) <;> rfl

theorem State.cpEv_cruiseView {fld : Fld} (f) (hf : fld.reg = .cpEventStatus) : (s.cpEv fld f).cruiseView = s.cruiseView := by
  have hraise := State.raise_cruiseView s (f := fld) (c := .cpEventCount) f.val (by rw [hf]; decide) (by decide)
  simp only [State.cpEv, State.ite_cruiseView, State.msixRequest_cruiseView, hraise, ite_self]

@[simp] theorem State.eventRecord_cruiseView (f kind tenant handle detail) : (s.eventRecord f kind tenant handle detail).cruiseView = s.cruiseView := by
  have hcp (s : State) {fld : Fld} (h : fld.reg = .cpEventStatus) : (s.cpEv fld f).cruiseView = s.cruiseView := State.cpEv_cruiseView s f h
  have hnum : (s.put mbEventHead_number f.val ((s.get mbEventHead_number f.val + 1) % 2 ^ 64)).cruiseView = s.cruiseView :=
    State.put_cruiseView s _ _ (by decide)
  simp only [State.eventRecord, State.ite_cruiseView, State.emit_cruiseView, hcp _ (show cpEventStatus_twin.reg = _ from rfl),
    hcp _ (show cpEventStatus_eventPageOff.reg = _ from rfl), hcp _ (show cpEventStatus_recordWritten.reg = _ from rfl), hnum, ite_self]

/-- A change between service states other than SURVEY. -/
theorem State.setService_cruiseView {n : Service} (hs : s.service ≠ .survey) (hn : n ≠ .survey) : (s.setService n).cruiseView = s.cruiseView := by
  have hset : ({ s with service := n } : State).cruiseView = s.cruiseView := cruiseView_of_eq s rfl rfl (iff_of_false hn hs)
  have hrec (s : State) (f kind tenant handle detail) :
      ((s.cpEv cpEventStatus_serviceState f).eventRecord f kind tenant handle detail).cruiseView = s.cruiseView :=
    (State.eventRecord_cruiseView ..).trans (State.cpEv_cruiseView s f rfl)
  simp only [State.setService, State.platformEvent, State.ite_cruiseView, State.emit_cruiseView, State.journalRec_cruiseView,
    State.each_cruiseView, hrec, implies_true, hset, ite_self]

theorem State.steady_ne_survey : s.steady ≠ .survey := by
  unfold State.steady
  split
  · nofun
  · split <;> nofun

@[simp] theorem State.follow_cruiseView : s.follow.cruiseView = s.cruiseView := by
  unfold State.follow
  split
  next h => exact State.setService_cruiseView s (by simp [h]) s.steady_ne_survey
  next h => exact State.setService_cruiseView s (by simp [h]) s.steady_ne_survey
  next h => exact State.setService_cruiseView s (by simp [h]) s.steady_ne_survey
  next => rfl

/-! ## Retired and remapped tiers (R95, R112, R113) -/

@[simp] theorem State.setTierState_cruiseView (t p v) : (s.setTierState t p v).cruiseView = s.cruiseView :=
  State.put_cruiseView s _ _ ⟨by unfold tlCellLayerState_state; nofun, by unfold tlCellLayerState_state; nofun⟩

@[simp] theorem State.setTier_cruiseView (t p x) : (s.setTier t p x).cruiseView = s.cruiseView := State.setTile_cruiseView s rfl rfl

@[simp] theorem State.abandonRotation_cruiseView (t) : (s.abandonRotation t).cruiseView = s.cruiseView := by
  unfold State.abandonRotation
  split
  · rfl
  · extract_lets s1 s2
    have h2 : s2.cruiseView = s.cruiseView := by
      simp (disch := decide) only [s2, s1, State.put_cruiseView, State.setTierState_cruiseView]
    exact Eq.trans (State.setTile_cruiseView s2 (by rfl) (by rfl)) h2

@[simp] theorem State.askRotation_cruiseView (r) : (s.askRotation r).cruiseView = s.cruiseView := by
  unfold State.askRotation
  split <;> rfl

@[simp] theorem State.releaseTier_cruiseView (t k) : (s.releaseTier t k).cruiseView = s.cruiseView := by
  have hgone (s : State) : (s.setTile t { s.tile t with gone := (s.tile t).gone ++ [k] }).cruiseView = s.cruiseView :=
    State.setTile_cruiseView s rfl rfl
  simp (disch := decide) only [State.releaseTier, State.ite_cruiseView, State.put_cruiseView, State.setTierState_cruiseView, hgone, ite_self]

@[simp] theorem State.startRemap_cruiseView (t k image) : (s.startRemap t k image).cruiseView = s.cruiseView := by
  unfold State.startRemap
  extract_lets o given src entry golden s1
  have h1 : s1.cruiseView = s.cruiseView := rfl
  split
  · rfl
  split
  next => exact (State.askRotation_cruiseView ..).trans h1
  next =>
    simp only [State.follow_cruiseView, State.releaseTier_cruiseView, State.clearTier_cruiseView, State.setDispatch_cruiseView]
    exact h1
  next => simp only [State.ite_cruiseView, State.releaseTier_cruiseView, h1, ite_self]

@[simp] theorem State.retireTier_cruiseView (t p) : (s.retireTier t p).cruiseView = s.cruiseView := by
  unfold State.retireTier
  extract_lets held again s1 s2 n s3 waiting
  have h1 : s1.cruiseView = s.cruiseView := by
    unfold s1
    cases again
    · exact State.abandonRotation_cruiseView ..
    · exact (State.askRotation_cruiseView ..).trans (State.abandonRotation_cruiseView ..)
  have h3 : s3.cruiseView = s.cruiseView := by
    simp (disch := decide) only [s3, s2, State.put_cruiseView, State.setTierState_cruiseView, h1]
  have hput : (s3.put tlTileStatus_tileState t.num 2).cruiseView = s3.cruiseView := State.put_cruiseView s3 _ _ (by decide)
  simp only [State.ite_cruiseView, State.startRemap_cruiseView, State.each_cruiseView, implies_true, hput, h3, ite_self]

@[simp] theorem State.noteStuck_cruiseView (t p cols) : (s.noteStuck t p cols).cruiseView = s.cruiseView := by
  simp only [State.noteStuck, State.ite_cruiseView, State.retireTier_cruiseView, State.setTier_cruiseView, ite_self]

end Sys2Proof.Machine
end

section
/-! PROOFS. Obligation O27, cruises (R99, R104, R105): how they start, what a slice adds, and what the last one leaves. -/

namespace Sys2Proof.Machine

variable (s : State)

/-! ## The events of upkeep -/

theorem regsOnly_upkeepEv (f : Fld) (n : Nat) : RegsOnly s (s.upkeepEv f n) := rfl

/-- An upkeep event reads as set after it. -/
theorem on_upkeepEv_self {f : Fld} (n : Nat) (hf : f.reg = .tlUpkeepEvent) (hlo : f.lo < 32) (hl : f.len = 1) : (s.upkeepEv f n).on f n = true :=
  State.on_raise_self s f _ n hl (by omega) (by rw [hf]; decide)

/-- A field of another register than those of the upkeep events. -/
theorem get_upkeepEv {f g : Fld} (n m : Nat) (hf : f.reg ≠ g.reg) (hg : g.reg ≠ .tlUpkeepEventCount) : (s.upkeepEv f n).get g m = s.get g m :=
  get_raise_reg s n m hf hg.symm

theorem logicalOf_upkeepEv {f : Fld} (hf : f.reg = .tlUpkeepEvent) (n : Nat) (t : TileId) (p : Nat) :
    (s.upkeepEv f n).logicalOf t p = s.logicalOf t p := by
  have hget (g : Fld) (m j : Nat) (hg : g.reg = .tlCellLayerMap ∨ g.reg = .tlCellLayerState) : (s.upkeepEv f n).getAt g m j = s.getAt g m j := by
    have hne : f.reg ≠ g.reg ∧ Reg.tlUpkeepEventCount ≠ g.reg := by obtain hg | hg := hg <;> rw [hf, hg] <;> decide
    exact (State.getAt_putAt_reg _ _ _ _ _ _ hne.2).trans (State.getAt_putAt_reg _ _ _ _ _ _ hne.1)
  simp only [State.logicalOf, State.tierState, State.get, State.physOf, hget _ _ _ (.inl (show (tlCellLayerMap_phys _).reg = _ from rfl)),
    hget _ _ _ (.inr (show (tlCellLayerState_state p).reg = _ from rfl))]
  rfl

/-! ## Starts (R99, R104, R111) -/

/-- TL_CRUISE with go where cruises are on. -/
theorem execTlCruise_go {t : TileId} {v : BitVec 32} (hgo : v.toNat / 2 ^ 31 = 1) (hen : s.on tlUpkeepCtrl_cruiseEn t.groveId.num = true)
    (hon : s.groveOn t.groveId = true) : execTlCruise t v s = .next (
      if (s.tile t).cruise.isSome then s.upkeepEv tlUpkeepEvent_cruiseBusy t.groveId.num
      else if 17 ≤ v.toNat % 32 ∨ (s.logicalOf t (v.toNat % 32)).isNone then s
      else s.setTile t { s.tile t with cruise := some { phys := v.toNat % 32, priority := bit v.toNat 30 } }) := by
  have hbit : bit v.toNat 31 = true := by rw [bit, bits, hgo]; rfl
  simp [execTlCruise, hbit, hen, hon, bits]

theorem startCruise_idle {t : TileId} {p k : Nat} (priority : Bool) (hidle : (s.tile t).cruise = none) (hk : s.logicalOf t p = some k)
    (hask : s.rotationAsked t k = false) :
    s.startCruise t p priority = s.setTile t { s.tile t with cruise := some { phys := p, priority := priority } } := by
  simp [State.startCruise, hidle, hk, hask]

/-- A start of a cruise changes nothing but a tile's cruise. -/
theorem startCruise_cases (t : TileId) (p : Nat) (priority : Bool) :
    s.startCruise t p priority = s ∨ ∃ c, s.startCruise t p priority = s.setTile t { s.tile t with cruise := some c } := by
  unfold State.startCruise
  split
  · exact .inl rfl
  split
  · exact .inl rfl
  split
  · exact .inl rfl
  · exact .inr ⟨_, rfl⟩

theorem execEarlyCruise_runs {t : TileId} {p : Fin 17} {cause : EarlyCause} (hon : s.groveOn t.groveId = true)
    (hen : s.on tlUpkeepCtrl_cruiseEn t.groveId.num = true)
    (hact : cause = .calDrift → s.on tlTileStatus_activeValid t.num = true ∧ s.get tlTileStatus_activePhys t.num = p.val) :
    execEarlyCruise t p cause s = .next (s.startCruise t p.val true) := by
  have hcause : (cause == .calDrift && !(s.on tlTileStatus_activeValid t.num && s.get tlTileStatus_activePhys t.num == p.val)) = false := by
    by_cases h : cause = .calDrift
    · simp [hact h]
    · simp [h]
  simp only [execEarlyCruise, hon, hen, hcause, Bool.not_true, Bool.or_false, Bool.false_eq_true, if_false]

/-! ## Slices (R99) -/

/-- A cruise after one more slice and its finding. -/
def Cruise.add (c : Cruise) (found : SliceFinding) : Cruise :=
  { c with
    slice := c.slice + 1, mvms := 0, maxRes := max c.maxRes found.maxResidual, overs := c.overs + found.cellsOver
    maxE := max c.maxE found.maxExcursion, stuck := c.stuck ++ found.stuck.map (fun x => x.val), badRow := c.badRow || found.identityFail }

theorem cruiseSlice_eq {t : TileId} {c : Cruise} {k : Nat} (found : SliceFinding) (hc : (s.tile t).cruise = some c)
    (hk : s.logicalOf t c.phys = some k) : s.cruiseSlice t found =
      if c.slice + 1 < 16 then s.setTile t { s.tile t with cruise := some (c.add found) } else s.endCruise t k (c.add found) := by
  simp only [State.cruiseSlice, hc, hk]
  rfl

theorem execForcedSlice_runs {t : TileId} {c : Cruise} (found : SliceFinding) (hc : (s.tile t).cruise = some c) (hprio : c.priority = true)
    (hen : s.on tlUpkeepCtrl_forcedSliceEn t.groveId.num = true)
    (hgap : max 1 (s.get tlUpkeepCtrl_forcedSliceGap t.groveId.num) ≤ c.mvms) (hlock : s.lockstep = false) (hstart : s.sliceStarts t 61 = true) :
    execForcedSlice t found s = .next ((s.upkeepEv tlUpkeepEvent_forcedSlice t.groveId.num).cruiseSlice t found) := by
  have hcond : c.priority ∧ s.on tlUpkeepCtrl_forcedSliceEn t.groveId.num ∧ max 1 (s.get tlUpkeepCtrl_forcedSliceGap t.groveId.num) ≤ c.mvms
      ∧ !s.lockstep ∧ s.sliceStarts t costCruise := ⟨hprio, hen, hgap, by rw [hlock]; rfl, hstart⟩
  simp only [execForcedSlice, hc, hcond, and_self, if_true]

/-! ## The drift record of a tier -/

@[simp] theorem setDrift_drift_self (t : TileId) (p : Nat) (d : Drift) : (s.setDrift t p d).drift t p = d := by
  simp [State.setDrift, State.drift]

theorem setDrift_drift_ne {t e : TileId} {p q : Nat} (d : Drift) (h : ¬ (e = t ∧ q = p)) : (s.setDrift e q d).drift t p = s.drift t p := by
  by_cases he : e = t
  · subst he
    simp [State.setDrift, State.drift, tblGet_tblSet_ne _ _ _ fun hq => h ⟨rfl, hq⟩]
  · simp only [State.setDrift, State.drift, State.setTile_tile_ne s _ he]

@[simp] theorem setDrift_tier (t e : TileId) (p q : Nat) (d : Drift) : (s.setDrift e q d).tier t p = s.tier t p := by
  by_cases he : e = t
  · simp [State.setDrift, State.tier, he]
  · simp only [State.setDrift, State.tier, State.setTile_tile_ne s _ he]

@[simp] theorem setDrift_cruise (t : TileId) (p : Nat) (d : Drift) : ((s.setDrift t p d).tile t).cruise = (s.tile t).cruise := by
  simp [State.setDrift]

/-! ## The last slice (R99, R102, R108) -/

/-- The result register after a cruise. -/
def State.putResult (t : TileId) (k : Nat) (c : Cruise) : State :=
  let due := decide (4 < c.maxRes ∨ 6 < c.maxE)
  let s := s.setReg ⟨.tlCruiseResult, t.num, 0, 0⟩ 0
  let s := (s.put tlCruiseResult_tallyLow t.num s.tally).put tlCruiseResult_phys t.num c.phys
  let s := (s.put tlCruiseResult_logical t.num k).put tlCruiseResult_rowIdentityFail t.num (b2n c.badRow)
  let s := (s.put tlCruiseResult_coppiceDue t.num (b2n due)).put tlCruiseResult_maxResidual t.num (min 255 c.maxRes)
  let s := (s.put tlCruiseResult_cellsOver t.num (min 1023 c.overs)).put tlCruiseResult_maxExcursion t.num (min 255 c.maxE)
  s.put tlCruiseResult_stuck t.num (min 7 c.stuck.eraseDups.length)

theorem putResult_maxResidual (t : TileId) (k : Nat) (c : Cruise) :
    (s.putResult t k c).get tlCruiseResult_maxResidual t.num = min 255 c.maxRes := by
  simp (disch := decide) only [State.putResult, State.get_put_field, State.get_put_self]
  exact Nat.mod_eq_of_lt (Nat.lt_succ_of_le (Nat.min_le_left ..))

theorem putResult_maxExcursion (t : TileId) (k : Nat) (c : Cruise) :
    (s.putResult t k c).get tlCruiseResult_maxExcursion t.num = min 255 c.maxE := by
  simp (disch := decide) only [State.putResult, State.get_put_field, State.get_put_self]
  exact Nat.mod_eq_of_lt (Nat.lt_succ_of_le (Nat.min_le_left ..))

theorem putResult_coppiceDue (t : TileId) (k : Nat) (c : Cruise) :
    (s.putResult t k c).get tlCruiseResult_coppiceDue t.num = b2n (decide (4 < c.maxRes ∨ 6 < c.maxE)) := by
  simp (disch := decide) only [State.putResult, State.get_put_field, State.get_put_self]
  exact Nat.mod_eq_of_lt (by unfold b2n; split <;> decide)

/-- A tier's clock after a cruise that found nothing: the cruise is over, the clock starts at 0, and cruise_done sets. -/
def State.restartClock (t : TileId) (c : Cruise) : State :=
  let s := s.setTile t { s.tile t with cruise := none }
  let d := s.drift t c.phys
  let s := s.setDrift t c.phys { d with clock := 0, lastCruise := s.tally, finding := c.maxRes, firstLong := false, due := false }
  s.upkeepEv tlUpkeepEvent_cruiseDone t.groveId.num

theorem restartClock_cruise (t : TileId) (c : Cruise) : ((s.restartClock t c).tile t).cruise = none := by
  refine (setDrift_cruise _ t c.phys _).trans ?_
  rw [State.setTile_tile_self]

theorem restartClock_drift (t : TileId) (c : Cruise) :
    ((s.restartClock t c).drift t c.phys).clock = 0 ∧ ((s.restartClock t c).drift t c.phys).lastCruise = s.tally := by
  have h : (s.restartClock t c).drift t c.phys = _ := setDrift_drift_self _ t c.phys _
  rw [h]
  exact ⟨rfl, rfl⟩

theorem restartClock_done (t : TileId) (c : Cruise) : (s.restartClock t c).on tlUpkeepEvent_cruiseDone t.groveId.num = true :=
  on_upkeepEv_self _ _ rfl (by decide) rfl

/-- The result register is not among those of the events. -/
theorem restartClock_get {f : Fld} (hf : f.reg = .tlCruiseResult) (t : TileId) (c : Cruise) (n : Nat) : (s.restartClock t c).get f n = s.get f n :=
  get_upkeepEv _ _ _ (by rw [hf]; decide) (by rw [hf]; decide)

theorem restartClock_service (t : TileId) (c : Cruise) : (s.restartClock t c).service = s.service := rfl

/-- The state once a cruise that found nothing is recorded and before what Forester firmware does about its tier. -/
def State.recordCruise (t : TileId) (k : Nat) (c : Cruise) : State := (s.putResult t k c).restartClock t c

theorem putResult_tally (t : TileId) (k : Nat) (c : Cruise) : (s.putResult t k c).tally = s.tally := by
  simp only [State.putResult, State.put_tally, State.setReg_tally]

theorem putResult_service (t : TileId) (k : Nat) (c : Cruise) : (s.putResult t k c).service = s.service := by
  simp only [State.putResult, State.put_service, State.setReg_service]

/-- A cruise that found nothing: its record, then a tier with too many stuck columns from before retires, and the tier counts as cleared. -/
theorem endCruise_of_clean {t : TileId} (k : Nat) {c : Cruise} (hres : c.maxRes ≤ 4) (hex : c.maxE ≤ 6) (hstuck : c.stuck = [])
    (hrow : c.badRow = false) :
    s.endCruise t k c = (((s.recordCruise t k c).noteStuck t c.phys []).clearTier t k).surveyNext t c.phys := by
  have hdue : decide (4 < c.maxRes ∨ 6 < c.maxE) = false := decide_eq_false (by omega)
  simp only [State.endCruise, State.recordCruise, State.putResult, State.restartClock, hdue, hstuck, hrow, Bool.or_false, Bool.and_false,
    List.isEmpty_nil, Bool.false_eq_true, if_false, if_true]

/-- Outside SURVEY the end of a clean cruise leaves its record as it was made. -/
theorem endCruise_cruiseView {t : TileId} (k : Nat) {c : Cruise} (hres : c.maxRes ≤ 4) (hex : c.maxE ≤ 6) (hstuck : c.stuck = [])
    (hrow : c.badRow = false) (hsv : s.service ≠ .survey) : (s.endCruise t k c).cruiseView = (s.recordCruise t k c).cruiseView := by
  have hview : (((s.recordCruise t k c).noteStuck t c.phys []).clearTier t k).cruiseView = (s.recordCruise t k c).cruiseView :=
    (State.clearTier_cruiseView ..).trans (State.noteStuck_cruiseView ..)
  have hserv : (((s.recordCruise t k c).noteStuck t c.phys []).clearTier t k).service ≠ .survey := fun e =>
    hsv (by rw [← putResult_service s t k c, ← restartClock_service _ t c]; exact (survey_of_cruiseView hview).mp e)
  rw [endCruise_of_clean s k hres hex hstuck hrow, State.surveyNext, if_pos hserv, hview]

/-! ## The cruises of O27 -/

theorem cruisesRun : CruisesRun := by
  refine ⟨fun s t v k hgo hen hon => ?_, fun s t p k cause hon hen hact hidle hk hask => ?_, fun s t c k found hc hk hstart => ?_⟩
  · refine ⟨fun hidle hp hk => ?_, fun hbusy => ⟨_, ?_, on_upkeepEv_self s t.groveId.num rfl (by decide) rfl, regsOnly_upkeepEv s _ _⟩⟩
    · rw [exec_tlCruise, execTlCruise_go s hgo hen hon, hk, hidle]
      simp [Nat.not_le.mpr hp]
    · rw [exec_tlCruise, execTlCruise_go s hgo hen hon, if_pos (Option.isSome_iff_ne_none.mpr hbusy)]
  · rw [exec_earlyCruise, execEarlyCruise_runs s hon hen hact, startCruise_idle s true hidle hk hask]
  · have hexec : exec (.cruiseSlice t found) s = .next (s.cruiseSlice t found) := congrArg Host.Outcome.next (if_pos hstart)
    refine ⟨fun hmore => ?_, fun hlast hres hex hstuck hrow hsv => ⟨_, hexec, ?_⟩, fun hprio hmore hlock hen hgap => ?_⟩
    · rw [hexec, cruiseSlice_eq s found hc hk, if_pos hmore]
      rfl
    · have hend : s.cruiseSlice t found = s.endCruise t k (c.add found) := by
        rw [cruiseSlice_eq s found hc hk, if_neg (by omega)]
      have hview := endCruise_cruiseView (t := t) s k (c := c.add found) hres hex hstuck hrow hsv
      have hget {f : Fld} (hf : f.reg = .tlCruiseResult) := (get_of_cruiseView hview (.inl hf) t.num).trans (restartClock_get _ hf t _ _)
      have hdrift := drift_of_cruiseView hview t c.phys
      have hclock := restartClock_drift (s.putResult t k (c.add found)) t (c.add found)
      rw [hend]
      refine ⟨(cruise_of_cruiseView hview t).trans (restartClock_cruise _ t _), ?_, ?_, ?_, ?_, ?_, ?_⟩
      · exact (congrArg Drift.clock hdrift).trans hclock.1
      · exact (congrArg Drift.lastCruise hdrift).trans (hclock.2.trans (putResult_tally ..))
      · rw [State.on, get_of_cruiseView hview (.inr rfl)]
        exact restartClock_done _ t _
      · rw [hget rfl, putResult_maxResidual]
        exact Nat.min_eq_right (Nat.le_trans hres (by decide))
      · rw [hget rfl, putResult_maxExcursion]
        exact Nat.min_eq_right (Nat.le_trans hex (by decide))
      · have hdue : ¬ (4 < (c.add found).maxRes ∨ 6 < (c.add found).maxE) := not_or.mpr ⟨Nat.not_lt.mpr hres, Nat.not_lt.mpr hex⟩
        rw [hget rfl, putResult_coppiceDue, decide_eq_false hdue]
        rfl
    · have hk' := (logicalOf_upkeepEv s (f := tlUpkeepEvent_forcedSlice) rfl t.groveId.num t c.phys).trans hk
      refine ⟨_, (exec_forcedSlice ..).trans (execForcedSlice_runs s found hc hprio hen hgap hlock hstart), ?_⟩
      rw [cruiseSlice_eq (s.upkeepEv _ _) found hc hk', if_pos hmore]
      exact ⟨congrArg Tile.cruise (State.setTile_tile_self _ t _), on_upkeepEv_self s _ rfl (by decide) rfl⟩

end Sys2Proof.Machine
end

section
/-! PROOFS. Obligation O27, drift clocks (R102): a tick goes once through every tier of the stand's tiles. -/

namespace Sys2Proof.Machine

/-- What a fold relates, where each step relates it and relations chain. -/
theorem State.each_rel {α : Type} {R : State → State → Prop} (hrefl : ∀ s, R s s) (htrans : ∀ {a b c}, R a b → R b c → R a c)
    {xs : List α} {f : State → α → State} (h : ∀ a ∈ xs, ∀ s, R s (f s a)) (s : State) : R s (s.each xs f) :=
  List.foldlRecOn (motive := R s) xs f (hrefl s) fun b hb a ha => htrans hb (h a ha b)

/-- A number stands once among those below a bound above it. -/
theorem countP_upTo (n p : Nat) : (upTo n).countP (fun q => decide (q = p)) = if p < n then 1 else 0 := by
  rw [upTo]
  induction n with
  | zero => rfl
  | succ n ih =>
    rw [List.range_succ, List.countP_append, ih, List.countP_singleton]
    simp only [decide_eq_true_eq]
    split <;> split <;> split <;> omega

/-! ## The tick of one tier -/

/-- The tick of one tier, as DRIFT_CLOCK_TICK makes it. -/
def State.tickTier (s : State) (t : TileId) (step p : Nat) : State :=
  if s.tierState t p ≠ 1 ∨ !(s.tier t p).programmed then s else
  let d := s.drift t p
  let s := s.setDrift t p { d with clock := d.clock + step, sinceProg := d.sinceProg + step }
  if s.groveOn t.groveId then s.dueCruise t p else s

/-- The tick of every tier of a stand's tiles. -/
def State.tickStand (s : State) (st : Fin 42) (step : Nat) : State :=
  s.each (s.tiles.filter (fun e => e.1.stand = st)) (fun s e => s.each (upTo 17) (fun s p => s.tickTier e.1 step p))

theorem execDriftClockTick_powered (s : State) {st : Fin 42} (h : s.get pwStandStatus_standPower st.val ≠ 0) :
    execDriftClockTick st s = .next (s.tickStand st (driftStep (s.hottest st.val))) := by
  rw [execDriftClockTick, if_neg h]
  rfl

theorem dueCruise_cases (s : State) (t : TileId) (p : Nat) :
    s.dueCruise t p = s ∨ ∃ c, s.dueCruise t p = s.setTile t { s.tile t with cruise := some c } := by
  unfold State.dueCruise
  extract_lets d b
  split
  · exact .inl rfl
  split
  · exact .inl rfl
  · exact startCruise_cases s t p _

/-! ## What a tick leaves: other stands, and everything but the tiles -/

/-- Nothing but tiles of one stand changed. -/
def StandTilesOnly (st : Fin 42) (s u : State) : Prop := u = { s with tiles := u.tiles } ∧ ∀ t, t.stand ≠ st → u.tile t = s.tile t

theorem StandTilesOnly.refl (st : Fin 42) (s : State) : StandTilesOnly st s s := ⟨rfl, fun _ _ => rfl⟩

theorem StandTilesOnly.trans {st : Fin 42} {a b c : State} (h : StandTilesOnly st a b) (h' : StandTilesOnly st b c) : StandTilesOnly st a c := by
  obtain ⟨hab, htab⟩ := h
  obtain ⟨hbc, htbc⟩ := h'
  exact ⟨by rw [hbc, hab], fun t ht => (htbc t ht).trans (htab t ht)⟩

theorem standTilesOnly_setTile (s : State) (t : TileId) (x : Tile) : StandTilesOnly t.stand s (s.setTile t x) :=
  ⟨rfl, fun _ he => State.setTile_tile_ne s x fun h => he (congrArg TileId.stand h).symm⟩

theorem standTilesOnly_tickTier (s : State) (t : TileId) (step p : Nat) : StandTilesOnly t.stand s (s.tickTier t step p) := by
  unfold State.tickTier
  extract_lets d s1
  have h1 : StandTilesOnly t.stand s s1 := standTilesOnly_setTile s t _
  split
  · exact .refl _ s
  split
  · obtain h | ⟨c, h⟩ := dueCruise_cases s1 t p <;> rw [h]
    · exact h1
    · exact h1.trans (standTilesOnly_setTile s1 t _)
  · exact h1

theorem standTilesOnly_tickStand (s : State) (st : Fin 42) (step : Nat) : StandTilesOnly st s (s.tickStand st step) :=
  State.each_rel (.refl st) .trans (fun e he s => State.each_rel (.refl st) .trans (fun p _ s => by
    have hst : e.1.stand = st := by simpa using (List.mem_filter.mp he).2
    exact hst ▸ standTilesOnly_tickTier s e.1 step p) s) s

/-! ## What a tick advances -/

/-- A tier whose drift clock runs: in service and programmed. -/
def State.clockRuns (s : State) (t : TileId) (p : Nat) : Prop := s.tierState t p = 1 ∧ 0 < (s.tier t p).programCount

/-- A tier's clock and the time since its programming advanced by `n` steps; its contents and every register stayed. -/
structure Ticked (t : TileId) (p step n : Nat) (s u : State) : Prop where
  regs      : u.regs = s.regs
  tier      : u.tier t p = s.tier t p
  clock     : (u.drift t p).clock = (s.drift t p).clock + n * step
  sinceProg : (u.drift t p).sinceProg = (s.drift t p).sinceProg + n * step

namespace Ticked

variable {t : TileId} {p step : Nat}

theorem refl (s : State) : Ticked t p step 0 s s := ⟨rfl, rfl, by simp, by simp⟩

theorem trans {n m : Nat} {a b c : State} (h : Ticked t p step n a b) (h' : Ticked t p step m b c) : Ticked t p step (n + m) a c where
  regs := h'.regs.trans h.regs
  tier := h'.tier.trans h.tier
  clock := by rw [h'.clock, h.clock, Nat.add_mul, Nat.add_assoc]
  sinceProg := by rw [h'.sinceProg, h.sinceProg, Nat.add_mul, Nat.add_assoc]

theorem clockRuns {n : Nat} {s u : State} (h : Ticked t p step n s u) (hs : s.clockRuns t p) : u.clockRuns t p := by
  obtain ⟨hserv, hprog⟩ := hs
  refine ⟨?_, by rw [h.tier]; exact hprog⟩
  rwa [State.tierState, State.get, State.getAt, State.reg, h.regs]

/-- A fold that ticks the tier at the elements of one kind. -/
theorem each {α : Type} {xs : List α} {f : State → α → State} {q : α → Bool} {s : State} (hs : s.clockRuns t p)
    (h : ∀ a ∈ xs, ∀ s, s.clockRuns t p → Ticked t p step (if q a then 1 else 0) s (f s a)) :
    Ticked t p step (xs.countP q) s (s.each xs f) := by
  induction xs generalizing s with
  | nil => exact .refl s
  | cons a xs ih =>
    have h1 := h a (.head _) s hs
    have h2 := ih (h1.clockRuns hs) fun b hb => h b (.tail a hb)
    rw [List.countP_cons, Nat.add_comm]
    exact h1.trans h2

theorem setCruise (s : State) (e : TileId) (c : Option Cruise) : Ticked t p step 0 s (s.setTile e { s.tile e with cruise := c }) := by
  by_cases he : e = t
  · subst he
    exact ⟨rfl, by simp [State.tier], by simp [State.drift], by simp [State.drift]⟩
  · have htile := State.setTile_tile_ne s { s.tile e with cruise := c } he
    exact ⟨rfl, by rw [State.tier, htile, State.tier], by simp [State.drift, htile], by simp [State.drift, htile]⟩

theorem dueCruise (s : State) (e : TileId) (q : Nat) : Ticked t p step 0 s (s.dueCruise e q) := by
  obtain h | ⟨c, h⟩ := dueCruise_cases s e q <;> rw [h]
  · exact .refl s
  · exact setCruise s e _

theorem setDrift_ne {s : State} {e : TileId} {q : Nat} (d : Drift) (h : ¬ (e = t ∧ q = p)) : Ticked t p step 0 s (s.setDrift e q d) := by
  have hd := setDrift_drift_ne s d h
  exact ⟨rfl, setDrift_tier .., by simp [hd], by simp [hd]⟩

theorem setDrift_self (s : State) :
    Ticked t p step 1 s (s.setDrift t p { s.drift t p with clock := (s.drift t p).clock + step, sinceProg := (s.drift t p).sinceProg + step }) :=
  ⟨rfl, setDrift_tier .., by simp, by simp⟩

/-- The tick of one tier advances it and no other. -/
theorem tickTier {s : State} (hs : s.clockRuns t p) (e : TileId) (q : Nat) :
    Ticked t p step (if e = t ∧ q = p then 1 else 0) s (s.tickTier e step q) := by
  obtain ⟨hserv, hprog⟩ := hs
  unfold State.tickTier
  extract_lets d s1
  have h1 : Ticked t p step (if e = t ∧ q = p then 1 else 0) s s1 := by
    split
    next h => obtain ⟨rfl, rfl⟩ := h; exact setDrift_self s
    next h => exact setDrift_ne _ h
  by_cases hidle : s.tierState e q ≠ 1 ∨ !(s.tier e q).programmed
  · rw [if_pos hidle, if_neg]
    · exact .refl s
    · rintro ⟨rfl, rfl⟩
      simp [hserv, Tier.programmed, hprog] at hidle
  rw [if_neg hidle]
  by_cases hon : s1.groveOn e.groveId = true
  · rw [if_pos hon]
    exact h1.trans (dueCruise s1 e q)
  · rw [if_neg hon]
    exact h1

/-- The ticks of a tile's 17 tiers. -/
theorem tickTile {s : State} (hs : s.clockRuns t p) (hp : p < 17) (e : TileId) :
    Ticked t p step (if e = t then 1 else 0) s (s.each (upTo 17) fun s q => s.tickTier e step q) := by
  have hcount : (upTo 17).countP (fun q => decide (e = t ∧ q = p)) = if e = t then 1 else 0 := by
    split
    next he => simp only [he, true_and, countP_upTo, if_pos hp]
    next he => exact List.countP_eq_zero.mpr fun _ _ h => he (of_decide_eq_true h).1
  rw [← hcount]
  exact each hs fun q _ s hs => by simpa using tickTier hs e q

/-- A tile that the table lists once is ticked once. -/
theorem tickStand {s : State} (hs : s.clockRuns t p) (hp : p < 17) {x : Tile} (honce : s.tiles.filter (fun e => e.1 = t) = [(t, x)]) :
    Ticked t p step 1 s (s.tickStand t.stand step) := by
  have hsame : ∀ e : TileId × Tile, decide (e.1 = t) && decide (e.1.stand = t.stand) ↔ decide (e.1 = t) = true := fun e => by
    simp only [Bool.and_eq_true, decide_eq_true_eq, and_iff_left_iff_imp]
    exact congrArg TileId.stand
  have hcount : (s.tiles.filter (fun e => e.1.stand = t.stand)).countP (fun e => e.1 = t) = 1 := by
    rw [List.countP_filter, List.countP_congr fun e _ => hsame e, List.countP_eq_length_filter, honce]
    rfl
  rw [← hcount]
  exact each hs fun e _ s hs => by simpa using tickTile hs hp e.1

end Ticked

theorem driftClocksTick : DriftClocksTick := by
  intro s st hpower
  obtain ⟨honly, hother⟩ := standTilesOnly_tickStand s st (driftStep (s.hottest st.val))
  refine ⟨_, (exec_driftClockTick st s).trans (execDriftClockTick_powered s hpower), hother, honly, fun t x p honce hst hp hserv hprog => ?_⟩
  subst hst
  have h := Ticked.tickStand (step := driftStep (s.hottest t.stand.val)) ⟨hserv, hprog⟩ hp honce
  exact ⟨by rw [h.clock, Nat.one_mul], by rw [h.sinceProg, Nat.one_mul]⟩

end Sys2Proof.Machine
end

section
/-! PROOFS. Obligation O27, monitor windows and drift snapshots (R106, R107, R116), and its settlement. -/

namespace Sys2Proof.Machine

theorem bytesLE_length (n v : Nat) : (bytesLE n v).length = n := by
  induction n generalizing v with
  | zero => rfl
  | succ n ih => rw [bytesLE, List.length_cons, ih]

/-- R106: 144 bytes for each of 512 data columns. -/
theorem monitorBytes_length (m : Monitor) : (monitorBytes m).length = 73728 := by
  simp only [monitorBytes, upTo, List.length_flatMap, List.length_append, bytesLE_length, List.map_const', List.length_range,
    List.sum_replicate_nat]

/-! ## Windows (R106) -/

/-- MON_START writes the fields of TL_MON_CTRL. -/
def State.putMonCtrl (s : State) (g : GroveId) (n : Nat) : State :=
  ((s.put tlMonCtrl_logical g.num (bits n 24 4)).put tlMonCtrl_tile g.num (bits n 13 11)).put tlMonCtrl_window g.num (bits n 8 5)

theorem putMonCtrl_on_monEn (s : State) (g : GroveId) (n : Nat) :
    (s.putMonCtrl g n).on tlUpkeepCtrl_monEn g.num = s.on tlUpkeepCtrl_monEn g.num := by
  simp (disch := decide) only [State.on, State.putMonCtrl, State.get_put_reg]

theorem putMonCtrl_window (s : State) (g : GroveId) (n : Nat) : (s.putMonCtrl g n).get tlMonCtrl_window g.num = bits n 8 5 := by
  rw [State.putMonCtrl, State.get_put_self _ _ _ _ (by decide)]
  exact Nat.mod_eq_of_lt (bits_lt n 8 5)

/-- The MVMs of a window: 2^12 where the exponent is not 8 to 16. -/
theorem window_length (w : Nat) : 2 ^ (if w < 8 ∨ 16 < w then 12 else w) = if 8 ≤ w ∧ w ≤ 16 then 2 ^ w else 4096 := by
  by_cases h : w < 8 ∨ 16 < w
  · have hout : ¬ (8 ≤ w ∧ w ≤ 16) := by omega
    simp only [h, hout, if_true, if_false, Nat.reducePow]
  · have hin : 8 ≤ w ∧ w ≤ 16 := by omega
    simp only [h, hin, and_self, if_true, if_false]

theorem execMonStart_go (s : State) {g : GroveId} {v : BitVec 32} (hgo : v.toNat % 2 = 1) (hen : s.on tlUpkeepCtrl_monEn g.num = true) :
    execMonStart g v s = .next ((s.putMonCtrl g v.toNat).setGrove g { s.grove g with
      monitor := some { tile := bits v.toNat 13 11, logical := bits v.toNat 24 4
                        left := 2 ^ (if bits v.toNat 8 5 < 8 ∨ 16 < bits v.toNat 8 5 then 12 else bits v.toNat 8 5) } }) := by
  have hgo' : (!bit v.toNat 0 || !(s.putMonCtrl g v.toNat).on tlUpkeepCtrl_monEn g.num) = false := by
    rw [putMonCtrl_on_monEn, hen]
    simp [bit, bits, hgo]
  exact congrArg Host.Outcome.next (if_neg (Bool.not_eq_true _ ▸ hgo'))

/-- Nothing but the journal changed. -/
def JournalOnly (s u : State) : Prop := u = { s with journal := u.journal, srcCount := u.srcCount, journalLow := u.journalLow }

theorem JournalOnly.refl (s : State) : JournalOnly s s := rfl

theorem JournalOnly.trans {a b c : State} (h : JournalOnly a b) (h' : JournalOnly b c) : JournalOnly a c := by
  unfold JournalOnly at h h' ⊢
  rw [h', h]

section
variable {s u : State} (h : JournalOnly s u)
include h

theorem JournalOnly.hbm : u.hbm = s.hbm := by rw [h]
theorem JournalOnly.grove (g : GroveId) : u.grove g = s.grove g := by
  rw [h]
  rfl
theorem JournalOnly.on (f : Fld) (n : Nat) : u.on f n = s.on f n := by
  rw [h]
  rfl

end

theorem journalOnly_journalRec (s : State) (source kind tag tenant seq detail : Nat) :
    JournalOnly s (s.journalRec source kind tag tenant seq detail) := rfl

theorem hbmWrite_hbm (s : State) (a : Nat) (bs : List Byte) : (s.hbmWrite a bs).hbm = s.hbm.writeN a bs := rfl

/-- The end of a grove's window, its record written: no window runs and mon_done sets. -/
def State.closeWindow (s : State) (g : GroveId) : State :=
  (s.setGrove g { s.grove g with monitor := none }).upkeepEv tlUpkeepEvent_monDone g.num

theorem closeWindow_monitor (s : State) (g : GroveId) : ((s.closeWindow g).grove g).monitor = none :=
  congrArg Grove.monitor (State.setGrove_grove_self s g _)

theorem closeWindow_done (s : State) (g : GroveId) : (s.closeWindow g).on tlUpkeepEvent_monDone g.num = true :=
  on_upkeepEv_self _ _ rfl (by decide) rfl

theorem closeWindow_hbm (s : State) (g : GroveId) : (s.closeWindow g).hbm = s.hbm := rfl

/-- The end of a window whose record lies within the stacks: the record in HBM, the window closed, and journal records about the tests. -/
theorem execMonWindowEnd_within (s : State) {g : GroveId} {m : Monitor} (hm : (s.grove g).monitor = some m) (hleft : m.left = 0)
    (hfit : 256 * s.get tlMonDest_addr g.num + 73728 ≤ hbmBytes) :
    ∃ u, execMonWindowEnd g s = .next u ∧ JournalOnly ((s.hbmWrite (256 * s.get tlMonDest_addr g.num) (monitorBytes m)).closeWindow g) u := by
  unfold execMonWindowEnd
  rw [hm]
  dsimp only
  rw [if_neg (fun h => h hleft), if_neg (Nat.not_lt.mpr hfit)]
  split
  · exact ⟨_, rfl, JournalOnly.refl _⟩
  · exact ⟨_, rfl, State.each_rel (R := JournalOnly) JournalOnly.refl JournalOnly.trans (fun _ _ u => journalOnly_journalRec u ..) _⟩

theorem execMonWindowEnd_beyond (s : State) {g : GroveId} {m : Monitor} (hm : (s.grove g).monitor = some m) (hleft : m.left = 0)
    (hfar : hbmBytes < 256 * s.get tlMonDest_addr g.num + 73728) :
    execMonWindowEnd g s = .fault (.hbmAddress (256 * s.get tlMonDest_addr g.num)) := by
  unfold execMonWindowEnd
  rw [hm]
  dsimp only
  rw [if_neg (fun h => h hleft), if_pos hfar]

/-! ## Snapshots (R116) -/

theorem execDriftSnapshot_runs (s : State) (hoff : s.service ≠ .off) (hstump : s.service ≠ .stump) : execDriftSnapshot s = .next s.snapshot := by
  simp only [execDriftSnapshot, hoff, hstump, or_self, if_false]

/-- Every tier of every tile that the table lists. -/
theorem mem_snapshot (s : State) {e : TileId × Tile} (he : e ∈ s.tiles) {p : Nat} (hp : p < 17) :
    ((e.1, p), ({ clock := min ((s.drift e.1 p).clock / 65536) 65520, hold := (s.drift e.1 p).lastCruise
                  retired := decide (s.tierState e.1 p = 2) } : SnapTier)) ∈ s.snapshot.flash.snap :=
  List.mem_flatMap.mpr ⟨e, he, List.mem_map.mpr ⟨p, List.mem_range.mpr hp, rfl⟩⟩

theorem monitoringAndSnapshots : MonitoringAndSnapshots := by
  refine ⟨fun s g v hgo hen => ?_, fun s g m hm hleft hwf => ⟨fun hfit => ?_, fun hfar => ?_⟩, fun s hoff hstump => ?_⟩
  · refine ⟨_, (exec_monStart g v s).trans (execMonStart_go s hgo hen), ?_, ?_, rfl⟩
    · rw [State.setGrove_grove_self, window_length]
      rfl
    · rw [State.setGrove_get, putMonCtrl_window]
      rfl
  · obtain ⟨u, hexec, hu⟩ := execMonWindowEnd_within s hm hleft hfit
    have hhbm : u.hbm = s.hbm.writeN (256 * s.get tlMonDest_addr g.num) (monitorBytes m) := by
      rw [hu.hbm, closeWindow_hbm, hbmWrite_hbm]
    refine ⟨u, (exec_monWindowEnd g s).trans hexec, ?_, ?_, ?_, fun b hb => ?_⟩
    · rw [hu.grove, closeWindow_monitor]
    · rw [hu.on, closeWindow_done]
    · have hread := Memory.readN_writeN (256 * s.get tlMonDest_addr g.num) (monitorBytes m) hwf
      rwa [monitorBytes_length, ← hhbm] at hread
    · rw [hhbm, Memory.read_writeN_out _ b _ hwf (by rwa [monitorBytes_length])]
  · exact (exec_monWindowEnd g s).trans (execMonWindowEnd_beyond s hm hleft hfar)
  · refine ⟨_, (exec_driftSnapshot s).trans (execDriftSnapshot_runs s hoff hstump), rfl, rfl, rfl, fun e he p hp => ?_⟩
    exact ⟨_, mem_snapshot s he hp, rfl, rfl, rfl⟩

/-- Settles O27: cruises by what their last slice records, which no retirement after it touches; drift clocks by counting how often a tick comes
to a tier; monitor windows by the laws of memory. -/
theorem cruisesDriftAndMonitoring : Obligations.CruisesDriftAndMonitoring :=
  ⟨cruisesRun, driftClocksTick, monitoringAndSnapshots⟩

end Sys2Proof.Machine
end
